-- ==== Sys2Proof/Word.lean ====
section
/-! DEFINITION. The word types of the block and their plainest arithmetic: registers are 32 bits wide (R15), bytes are little-endian (R16). -/
namespace Sys2Proof

/-- A register: 32 bits (R15). -/
abbrev Word := BitVec 32

/-- A byte of a descriptor, a record or host memory (R16). -/
abbrev Byte := BitVec 8

/-- The two control units of one package (00, Hierarchy). -/
inductive Cu where
  | a
  | b
  deriving DecidableEq, Repr

/-- The unit number the registers and records carry: 0 CU-A, 1 CU-B (R353, R390). -/
def Cu.num : Cu → Nat
  | .a => 0
  | .b => 1

/-- The other unit of the package. -/
def Cu.peer : Cu → Cu
  | .a => .b
  | .b => .a

/-- The unit a unit number names (R446 UNIT). -/
def Cu.ofBit (b : Bool) : Cu := if b then .b else .a

/-- The two parts of R2 and R3. -/
inductive Part where
  | wl5128
  | wl2564
  deriving DecidableEq, Repr

namespace Part
/-- Fabric tiles enabled (R3). -/
def tiles : Part → Nat
  | .wl5128 => 64
  | .wl2564 => 32
/-- Cells served (R3). -/
def cells : Part → Nat
  | .wl5128 => 4864
  | .wl2564 => 2432
/-- Ports on each side (R3). -/
def ports : Part → Nat
  | .wl5128 => 512
  | .wl2564 => 256
/-- Largest Beneš order (R3). -/
def maxOrder : Part → Nat
  | .wl5128 => 9
  | .wl2564 => 8
/-- DRAM stacks present (R3). -/
def dramStacks : Part → Nat
  | .wl5128 => 2
  | .wl2564 => 1
end Part

end Sys2Proof
end

