-- ==== Sys2Proof/Syntax.lean ====
section
/-! DEFINITION. The commands the block takes from outside: one constructor per row of the table of operations and events.
A register write that has a row of its own carries the writing unit and the value written. A descriptor row carries the
accepted descriptor whole. What only the world outside decides (a measured value, the bytes a read of host memory returned,
whether a burn succeeded) is an operand. -/
namespace Sys2Proof

/-- What a read the device makes of host memory or DRAM gave: the bytes, or a failure at a byte offset (R346, R482). -/
inductive HostData where
  | bytes (l : List Byte)
  | failed (off : Nat)
  deriving DecidableEq, Repr

/-- A descriptor as it was accepted: the unit, the function and the submission queue it came through, and its 64 bytes (R385). -/
structure Cmd where
  unit : Cu
  func : Nat
  sq : Nat
  desc : List Byte
  deriving DecidableEq, Repr

/-- How an operation was asked for: by a register write of a unit, or by a descriptor. -/
inductive Via where
  | reg (u : Cu) (v : Word)
  | desc (c : Cmd)
  deriving DecidableEq, Repr

/-- A host access to a BAR (R340, R341): unit, function whose BAR it is, BAR number, byte offset and length in bytes. -/
structure Access where
  unit : Cu
  func : Nat
  bar : Nat
  off : Nat
  len : Nat
  deriving DecidableEq, Repr

/-- What the site check measured at one pad (R80, R81); the fields a pad's kind does not use are zero. -/
structure PadMeas where
  /-- voltage at the test current, 100 µV units (drive), or at 10 µA (sense) -/
  volt : Nat
  /-- voltage at 100 µA, 100 µV units (sense) -/
  volt2 : Nat
  /-- the output stage reached compliance, or the sense pad reached 1.20 V -/
  atLimit : Bool
  /-- current at 1.000 V, nA (BIAS, AUX) -/
  leakNa : Nat
  /-- a neighbour rose above 20 % of the tested pad's voltage: its pad number -/
  bridge : Option Nat
  /-- capacitance, fF (monitor) -/
  capFf : Nat
  /-- dark current at 1.2 V reverse, 0.1 nA units (monitor) -/
  dark : Nat
  /-- current at 0 V bias, 0.1 nA units (monitor) -/
  light : Nat
  /-- step current above 10 µA (monitor) -/
  stepOver : Bool
  deriving DecidableEq, Repr

/-- What a converter gives for one channel at an instant, before the correction (R124, R133): the code its input calls for, whether the input lies
beyond 1.05 FS, and whether a test current of a calibration, a readiness check or a diagnosis flowed during the result's window (R135). -/
structure MonRaw where
  raw : Int
  beyond : Bool
  inject : Bool
  deriving DecidableEq, Repr

/-- What a monitor diagnosis measured at one gain of a channel (R140, R141): the sums of 8 results each before, during and after the injection,
whether every result was clamped, and the noise of the first 8: 0 within R125, 1 above it, 2 above four times it. -/
structure DiagRes where
  gain : Nat
  s0 : Int
  s1 : Int
  s2 : Int
  stuck : Bool
  noise : Nat
  deriving DecidableEq, Repr

/-- What a calibration run measured of one quantity (R306–R318): step, tile, index, gain, the values of both passes, and whether a precondition failed. -/
structure CalRes where
  step : Nat
  tile : Nat
  idx : Nat
  gain : Nat
  passA : List Int
  passB : List Int
  precond : Bool
  deriving DecidableEq, Repr

/-- One measured response of a coupling run (R264): source actuator and list entry; sums of the five fine results at the end of the +64 and of the −64 LSB
step; nanoseconds from the source's step to the first fine-lane instant after it; and of each repetition the 10 fine results before the step and the
100 after it. -/
structure CoupRes where
  source : Nat
  entry : Nat
  plus : Int
  minus : Int
  first : Nat
  passA : List Int
  passB : List Int
  deriving DecidableEq, Repr

/-- What a sweep measured of one cell (R325): the tap at each step of each pass (trim A's 256 steps, then trim B's; or the throw's 64), and whether a
precondition failed. -/
structure SweepRes where
  cell : Nat
  passA : List Int
  passB : List Int
  precond : Bool
  deriving DecidableEq, Repr

/-- Which read of host memory failed (R346, R377). -/
inductive ReadFor where
  | poll (f : Nat)
  | descriptor (f s : Nat)
  | load (off : Nat)
  deriving DecidableEq, Repr

/-- What a poll of one function read (R362): the summary line, and the VALUE of each slot the engine then reads. -/
structure PollData where
  summary : Nat
  slots : List (Nat × Nat)
  deriving DecidableEq, Repr

/-- What the patrol scrub found in a line (R481–R484): nothing, one or two symbols in error by position, or an error the code cannot correct. -/
inductive ScrubRes where
  | clean
  | corrected (symbols : List Nat)
  | uncorrectable
  deriving DecidableEq, Repr

/-- One report at the fault collector on a drive clock: source, whether it is a level's appearance or its end, and the detail (R522, R540). -/
structure FaultRep where
  src : Nat
  detail : Nat
  deriving DecidableEq, Repr


/-- The commands of the block: one constructor per row of the table of operations and events. -/
inductive Instr where
  /-- FAB_LOAD (R44). FAB_CTRL.LOAD with EN 0 and BUSY 0 starts reading, checking and hashing an FDR from host memory or from the stored copy. -/
  | fabLoad (u : Cu) (v : Word)
  /-- FAB_LOAD_DEFERRED_READ (R45). A load requested in the same write that clears EN reads the record once the drive has powered down. -/
  | fabLoadDeferredRead
  /-- FAB_LOAD_END (R47). A load ends: the record is accepted, with its digest, copies, VALID, geometry and park image set together, or it is refused with a code and offset. -/
  | fabLoadEnd (d : HostData)
  /-- FAB_ENABLE (R46). FAB_CTRL.EN written from 0 to 1 powers the drive up and drives the park image, or is refused. -/
  | fabEnable (u : Cu) (v : Word)
  /-- FAB_DISABLE (R46). FAB_CTRL.EN cleared makes Thimble PARK the fabric and then power the drive down. -/
  | fabDisable (u : Cu) (v : Word)
  /-- HEALTH_MARK_WRITE (R53). A host write to FAB_HEALTHi sets marks, bumps FAB_EPOCH if a nibble changes, or is discarded for a reserved MARK. -/
  | healthMarkWrite (u : Cu) (i : Nat) (v : Word)
  /-- SITE_BIAS_ENABLE (R67). SITE_CTRL.BIAS_EN drives the GUARD and PD_BIAS nets of every tile, or releases them. -/
  | siteBiasEnable (u : Cu) (v : Word)
  /-- SITE_SENSE_ENABLE (R70). SITE_CTRL.SENSE_EN starts or stops forcing current into the named SENSE pads. -/
  | siteSenseEnable (u : Cu) (v : Word)
  /-- SITE_BIAS_FAULT (R68). A tile bias net drawing more than 2 mA releases both nets of that tile and reports to the fault collector. -/
  | siteBiasFault (tiles : List Nat)
  /-- SITE_CHECK_START (R79). SITE_CHECK_CTRL.START starts a site check of the pads, or is refused. -/
  | siteCheckStart (u : Cu) (v : Word)
  /-- SITE_CHECK_STOP (R84). SITE_CHECK_CTRL.STOP aborts a running check within 100 µs. -/
  | siteCheckStop (u : Cu) (v : Word)
  /-- SITE_CHECK_DONE (R80). A site check completes with its result table written, its counts set and DONE set. -/
  | siteCheckDone (meas : List (Nat × PadMeas))
  /-- UPDATE_TICK (R93). Every 128th drive clock each channel evaluates its datapath and each monitor delivers its fast-lane result. -/
  | updateTick (fast : List (Nat × MonRaw)) (low : List Nat) (parity : List Nat)
  /-- DRV_QUEUE_WRITE (R97). A code written to DRV_QUEUE is enqueued, or discarded for a full queue or a writer that is not allowed. -/
  | drvQueueWrite (u : Cu) (ch : Nat) (v : Word)
  /-- DRV_QUEUE_FLUSH (R98). DRV_QUEUE with FLUSH set empties the channel queue without enqueuing. -/
  | drvQueueFlush (u : Cu) (ch : Nat) (v : Word)
  /-- DRV_SLEW_WRITE (R94). A DRV_SLEW write clears the slew counter and takes effect whole at the next update tick. -/
  | drvSlewWrite (u : Cu) (ch : Nat) (v : Word)
  /-- DRV_COUNT_CLEAR (R114). DRV_TCTRL.CNT_CLR clears DRV_TCNT. -/
  | drvCountClear (u : Cu) (tile : Nat) (v : Word)
  /-- PRE_EMPHASIS_END (R102). After WIDTH analogue periods a pre-emphasis pulse or sweep ends and the stage moves to the code current. -/
  | preEmphasisEnd (ch : Nat)
  /-- DRV_SPARE_REQUEST (R108). A DRV_SPAREj write with EN 1 requests that a spare stand in for a primary and starts tracking. -/
  | drvSpareRequest (u : Cu) (tile j : Nat) (v : Word)
  /-- DRV_SPARE_RELEASE (R108). A DRV_SPAREj write with EN 0 requests the release of a substitution or cancels a pending one. -/
  | drvSpareRelease (u : Cu) (tile j : Nat) (v : Word)
  /-- DRV_SPARE_TRACKING_DONE (R108). After 64 update ticks of tracking the loop-back comparison sets READY or fails the request. -/
  | drvSpareTrackingDone (tile j : Nat) (agree : Bool)
  /-- FINE_LANE_INSTANT (R130). Every 20 µs the fine-lane results are produced and corrected, and port sides are judged. -/
  | fineLaneInstant (raw : List (Nat × MonRaw))
  /-- RESULT_QUEUE_AGE_EXPIRY (R144). The oldest result of a queue has waited AGE µs and the queue requests a move. -/
  | resultQueueAgeExpiry (q : Nat)
  /-- MON_CFG_WRITE (R137). A MON_CFG write sets gain, filter and autorange, discarding fields as AUTO and ROLE require. -/
  | monCfgWrite (u : Cu) (ch : Nat) (v : Word)
  /-- MON_GRID_ALIGN_REQUEST (R132). MON_GCTRL.ALIGN with EN 0 asks for one re-phasing of the sample grid. -/
  | monGridAlignRequest (u : Cu) (v : Word)
  /-- GRID_ALIGN (R132). At the next PPS-aligned second one grid interval is stretched or shrunk and ALIGNED is set. -/
  | gridAlign
  /-- MON_INJECT_START (R139). MON_INJ with EN 1 starts a manual test-current injection, or is refused while the DAC is busy. -/
  | monInjectStart (u : Cu) (tile : Nat) (v : Word)
  /-- MON_INJECT_STOP (R139). MON_INJ.EN cleared ends a manual injection. -/
  | monInjectStop (u : Cu) (tile : Nat) (v : Word)
  /-- MON_DIAG_START (R140). MON_DIAG_CTRL.START runs a monitor diagnosis on every tile, or is refused. -/
  | monDiagStart (u : Cu) (v : Word)
  /-- MON_DIAG_STOP (R157). MON_DIAG_CTRL.STOP stops a running diagnosis and restores gains and filters. -/
  | monDiagStop (u : Cu) (v : Word)
  /-- MON_DIAG_DONE (R141). A diagnosis completes, writing MON_CSTAT and BAD bits of spares. -/
  | monDiagDone (res : List (Nat × List DiagRes))
  /-- MON_COUNT_CLEAR (R152). MON_TCTRL.CNT_CLR clears MON_TCNT. -/
  | monCountClear (u : Cu) (tile : Nat) (v : Word)
  /-- RESULT_QUEUE_ENABLE (R143). MON_RQ_CTRL.EN set enables a result queue, or is refused for rate. -/
  | resultQueueEnable (u : Cu) (q : Nat) (v : Word)
  /-- RESULT_QUEUE_DISABLE (R145). MON_RQ_CTRL.EN cleared disables a queue and discards its stored results. -/
  | resultQueueDisable (u : Cu) (q : Nat) (v : Word)
  /-- MON_SPARE_REQUEST (R146). A MON_SPAREj write with EN 1 requests a monitor substitution and starts its readiness check. -/
  | monSpareRequest (u : Cu) (tile j : Nat) (v : Word)
  /-- MON_SPARE_RELEASE (R146). A MON_SPAREj write with EN 0 requests release of a monitor substitution. -/
  | monSpareRelease (u : Cu) (tile j : Nat) (v : Word)
  /-- MON_SPARE_READINESS_DONE (R146). The injection check of a spare monitor sets READY or fails the request. -/
  | monSpareReadinessDone (tile j : Nat) (agree : Bool)
  /-- MON_PORT_CFG_WRITE (R156). Writing a port side's CFG or DWELL zeroes its loss-of-light counts. -/
  | monPortCfgWrite (u : Cu) (port : Nat) (out : Bool) (dwell : Bool) (v : Word)
  /-- ROUTE_LOOKUP (R172). ROUTE_CACHE LOOKUP looks up a map under the present epoch without solving. -/
  | routeLookup (c : Cmd) (d : HostData) (badWays : List Nat)
  /-- ROUTE_PRELOAD (R178). ROUTE_CACHE PRELOAD looks up, solves and inserts a map. -/
  | routePreload (c : Cmd) (d : HostData) (badWays : List Nat)
  /-- ROUTE_SOLVE (R178). ROUTE_CACHE SOLVE solves a map without lookup or insert. -/
  | routeSolve (c : Cmd) (d : HostData)
  /-- ROUTE_INVALIDATE (R178). ROUTE_CACHE INVALIDATE clears the entry of one map. -/
  | routeInvalidate (c : Cmd) (d : HostData)
  /-- ROUTE_FLUSH (R175). ROUTE_CACHE FLUSH advances FLUSH_GEN so that every entry becomes invalid. -/
  | routeFlush (c : Cmd)
  /-- ROUTE_REHASH (R176). ROUTE_CACHE REHASH replaces the seed and starts the rehash walk. -/
  | routeRehash (c : Cmd)
  /-- CACHE_INSERT (R173). After a result is delivered, the result is inserted into the lowest free way of its bucket, or not. -/
  | cacheInsert (u : Cu)
  /-- CACHE_AGE_SWEEP (R174). Every RTE_AGE_PERIOD seconds the sweeper ages every valid entry and ages some out. -/
  | cacheAgeSweep (bad : List (Nat × Bool))
  /-- REHASH_DONE (R176). The rehash walk ends, REHASH_BUSY clears and REHASH_DONE is raised. -/
  | rehashDone (bad : List (Nat × Bool))
  /-- CACHE_CLEAR_DONE (R175). The clear of every header ends and READY is set. -/
  | cacheClearDone
  /-- ROUTE_COUNT_CLEAR (R179). RTE_CACHE_CTRL.CNT_CLR clears the cache counters. -/
  | routeCountClear (u : Cu) (v : Word)
  /-- MAP_BASTE (R187). MAP_BASTE stages a map or vector into a shadow-store slot: solve, image, trajectory. -/
  | mapBaste (c : Cmd) (d : HostData) (badWays : List Nat)
  /-- BASTE_COMPLETE (R187). A Baste finishes, the slot becomes BASTED with a new BGEN and the command completes. -/
  | basteComplete (u : Cu)
  /-- GUST (R195). A GUST descriptor is accepted and reserves its slot for its action time. -/
  | gust (c : Cmd)
  /-- GUST_PRELOAD_START (R193). The preload of a slot into the next registers starts, or a late Gust is discarded. -/
  | gustPreloadStart
  /-- GUST_ARMED (R193). A preload ends and the slot is ARMED. -/
  | gustArmed
  /-- GUST_TRIGGER (R199). On the trigger clock, next is copied to active in affected channels and the Lull starts. -/
  | gustTrigger
  /-- TRIG_IN_EDGE (R197). An edge on TRIG_IN triggers a pin Gust of its configured slot. -/
  | trigInEdge (pin frac : Nat)
  /-- GUST_VERIFY (R201). At the verifying instant each named changed port is judged from the Selvedge results. -/
  | gustVerify
  /-- GUST_REVERIFY (R203). A failing port is judged again at a following fast-lane instant. -/
  | gustReverify
  /-- LULL_END (R206). A Lull ends on its own at an update tick and acts as the boundary for substitutions, calibration and hand-over. -/
  | lullEnd
  /-- DRAUGHT_POINT (R205). Every 2,048 drive clocks each trajectory arm takes its next Draught point. -/
  | draughtPoint (poison : Bool)
  /-- DRAUGHT_END (R260). drt returns to zero at the end of the trajectory or the Lull. -/
  | draughtEnd
  /-- GUST_COUNT_CLEAR (R208). GST_CMD.CNT_CLR clears GST_CNT0 and GST_CNT1. -/
  | gustCountClear (u : Cu) (v : Word)
  /-- LOOP_INSTANT (R225). At each loop instant every loop computes its control law and health figures. -/
  | loopInstant (overrun : Bool)
  /-- LOOP_OUTPUT_APPLY (R218). Forty ticks after a loop instant its outputs enter the active arms' queues. -/
  | loopOutputApply
  /-- LOOP_MODE_MANUAL (R227). LOOP_MODE with MODE 1 sets a range of cells MANUAL at the next loop instant. -/
  | loopModeManual (c : Cmd)
  /-- LOOP_MODE_AUTO (R228). LOOP_MODE with MODE 2 sets a range of cells AUTO, presetting each integrator. -/
  | loopModeAuto (c : Cmd)
  /-- LOOP_CELL_MODE_WRITE (R227). A write of LOOP_CELL_CFG sets a cell's mode and light override. -/
  | loopCellModeWrite (u : Cu) (cell : Nat) (v : Word)
  /-- CLR_STRIKE (R245). LOOP_CELL_CFG.CLR_STRIKE clears a cell's STRIKES. -/
  | clrStrike (u : Cu) (cell : Nat) (v : Word)
  /-- LOOP_CLS_HOLD_WRITE (R231). A LOOP_CLS_HOLD write holds or releases classes at the next loop instant. -/
  | loopClsHoldWrite (u : Cu) (v : Word)
  /-- LOOP_CLASS_WRITE (R230). A class coefficient register takes effect whole at the next loop instant. -/
  | loopClassWrite (u : Cu) (cls off : Nat) (v : Word)
  /-- LOOP_SET (R232). LOOP_SET writes every coefficient register of one class, with or without HOLD_WRAP. -/
  | loopSet (c : Cmd)
  /-- SQUALL_START (R235). LOOP_SQ_CTRL.START or LOOP_MODE SQUALL starts a relay auto-tune run, or is refused. -/
  | squallStart (via : Via)
  /-- SQUALL_STOP (R237). LOOP_SQ_CTRL.STOP aborts a Squall run. -/
  | squallStop (u : Cu) (v : Word)
  /-- SQUALL_END (R236). A Squall run ends, computes its proposal and returns the cells to their modes. -/
  | squallEnd
  /-- LOOP_COUNT_CLEAR (R241). LOOP_CMD.CNT_CLR clears LOOP_CNT. -/
  | loopCountClear (u : Cu) (v : Word)
  /-- DRT_TAU_WRITE (R250). Writing DRT_TAUk refills the response table W_k. -/
  | drtTauWrite (u : Cu) (k : Nat) (v : Word)
  /-- DRT_COMMIT (R266). DRT_CMD.COMMIT advances DRT_TGEN and sets TABLE_VALID. -/
  | drtCommit (u : Cu) (v : Word)
  /-- DRT_INVALIDATE (R266). DRT_CMD.INVALIDATE clears TABLE_VALID. -/
  | drtInvalidate (u : Cu) (v : Word)
  /-- DRT_COUNT_CLEAR (R268). DRT_CMD.CNT_CLR clears the Draught counters. -/
  | drtCountClear (u : Cu) (v : Word)
  /-- PPS_EDGE (R273). An accepted PPS edge applies armed seconds, steps, or slews device time. -/
  | ppsEdge (frac : Nat)
  /-- PPS_LOST (R272). No edge accepted for 1,100 ms sets PPS_LOST and zeroes the phase term. -/
  | ppsLost
  /-- PPS_PHASE_END (R275). After 204,800,000 drive clocks the phase term ph returns to zero. -/
  | ppsPhaseEnd
  /-- SECONDS_ARM (R277). TIM_SEC_SET_HI with ARM arms seconds, applied at once when PPS_EN is 0. -/
  | secondsArm (u : Cu) (v : Word)
  /-- TIMED_ACTION_DUE (R285). A held timed command reaches its action time and takes effect, or is late. -/
  | timedActionDue
  /-- SCHED_LOAD (R398). SCHED_LOAD writes the pending schedule list and optionally commits it. -/
  | schedLoad (c : Cmd) (d : HostData)
  /-- SCHED_COMMIT (R290). COMMIT by SCHED_CTRL or SCH_CTRL arms the pending list and computes its start S. -/
  | schedCommit (via : Via)
  /-- SCHED_STOP (R294). STOP stops the active list on the next drive clock. -/
  | schedStop (via : Via)
  /-- SCHED_STOP_AT_END (R294). STOP_AT_END stops the active list at the next cycle boundary. -/
  | schedStopAtEnd (via : Via)
  /-- SCHED_CANCEL (R301). CANCEL disarms the pending list. -/
  | schedCancel (via : Via)
  /-- SCHED_START (R291). At S the pending list becomes active and reserves its slots. -/
  | schedStart
  /-- SCHEDULE_EDGE (R292). A schedule entry's edge triggers its Gust, or the entry is skipped. -/
  | scheduleEdge
  /-- TIME_PULSE (R410). TIME_PULSE programs and enables a TOUT in mode 0. -/
  | timePulse (c : Cmd)
  /-- TOUT_ENABLE (R298). TIM_TOUT_CFGi.EN set starts a time output. -/
  | toutEnable (u : Cu) (i : Nat) (v : Word)
  /-- TOUT_PULSE (R297). A TOUT pulse is emitted at its programmed instant. -/
  | toutPulse (i : Nat)
  /-- CAL_RUN (R306). CAL_RUN starts a calibration run of the named steps. -/
  | calRun (c : Cmd)
  /-- CAL_RUN_END (R310). A calibration run ends and its kept values form a pending set. -/
  | calRunEnd (res : List CalRes)
  /-- CAL_SET_LOAD (R329). CAL_SET_LOAD loads live-store records and makes them a pending set. -/
  | calSetLoad (c : Cmd) (d : HostData)
  /-- CHAR_TABLE (R324). CHAR_RUN TABLE runs a host table on a sequencer. -/
  | charTable (c : Cmd)
  /-- CHAR_COUPLING (R264). CHAR_RUN COUPLING runs a coupling run over the named sources. -/
  | charCoupling (c : Cmd) (d : HostData)
  /-- CHAR_TRIM_SWEEP (R325). CHAR_RUN TRIM_SWEEP sweeps the trims of named cells for working points. -/
  | charTrimSweep (c : Cmd) (d : HostData)
  /-- CHAR_THROW_SWEEP (R325). CHAR_RUN THROW_SWEEP sweeps the throws of named cells for ON. -/
  | charThrowSweep (c : Cmd) (d : HostData)
  /-- COUPLING_RUN_END (R265). A coupling run ends, fitting and writing coefficients. -/
  | couplingRunEnd (res : List CoupRes)
  /-- CHAR_RUN_END (R409). A characterisation table or sweep ends and restores cell modes. -/
  | charRunEnd (res : List SweepRes)
  /-- CAL_IDLE (R320). CAL_CMD.IDLE declares an idle period as a boundary. -/
  | calIdle (u : Cu) (v : Word)
  /-- CAL_IDLE_LAPSE (R320). An idle request finds no boundary within 10 ms and lapses. -/
  | calIdleLapse
  /-- CAL_ABORT (R333). CAL_CMD.ABORT ends a calibration run keeping nothing. -/
  | calAbort (u : Cu) (v : Word)
  /-- CAL_SEQ_STOP (R409). CAL_CMD.SEQ_STOP ends a characterisation run. -/
  | calSeqStop (u : Cu) (v : Word)
  /-- CAL_HASH_DRT (R328). CAL_CMD.HASH_DRT starts hashing the coupling table. -/
  | calHashDrt (u : Cu) (v : Word)
  /-- DRT_HASH_DONE (R328). The coupling-table hash ends and CAL_DHASH is written. -/
  | drtHashDone
  /-- PERST_ASSERT (R348). PERST_x_N asserted resets that unit's endpoint and queue state. -/
  | perstAssert (u : Cu)
  /-- PERST_RELEASE (R350). PERST_x_N released starts link training. -/
  | perstRelease (u : Cu)
  /-- HOT_RESET (R348). A hot reset resets the unit's endpoint and queue state. -/
  | hotReset (u : Cu)
  /-- LINK_DOWN (R348). A link down resets the unit's endpoint and queue state. -/
  | linkDown (u : Cu)
  /-- FLR_PF (R350). An FLR of the PF resets every function of the unit with the link kept. -/
  | flrPf (u : Cu)
  /-- FLR_VF (R350). An FLR of a VF resets that VF's queues and held commands. -/
  | flrVf (u : Cu) (f : Nat)
  /-- LINK_RETRAIN (R336). The link retrains to a lower rate or width and DEGRADED is set. -/
  | linkRetrain (u : Cu) (rate width : Nat) (reversed l0p flit : Bool)
  /-- D3HOT_ENTRY (R347). A function enters D3hot: polling stops and records wait. -/
  | d3hotEntry (u : Cu) (f : Nat)
  /-- D3HOT_EXIT (R347). A function returns to D0 and waiting records are written in order. -/
  | d3hotExit (u : Cu) (f : Nat)
  /-- LINK_ERROR (R345). A correctable or uncorrectable link error is logged, counted and optionally reported. -/
  | linkError (u : Cu) (uncorrectable : Bool)
  /-- HL_COUNT_CLEAR (R353). HL_CTRL.CNT_CLR clears the host-link counters. -/
  | hlCountClear (u : Cu) (v : Word)
  /-- REGISTER_WRITE (R12). A write to a register without a row of its own is applied, ignored for RWL, or dropped for a non-holder. -/
  | registerWrite (a : Access) (v : Nat)
  /-- BAD_ACCESS_READ (R341). A read longer than 8 bytes or crossing an 8-byte boundary completes with Completer Abort. -/
  | badAccessRead (a : Access)
  /-- LATCHING_READ (R616). A read of a low half latches the high half for the next read. -/
  | latchingRead (a : Access)
  /-- CLEAR_ON_READ (R378). A read of Q_RTT or MX_OUTm clears its largest value. -/
  | clearOnRead (a : Access)
  /-- HOST_READ_FAIL (R346). A device read of host memory fails by poison, timeout or Unsupported Request. -/
  | hostReadFail (u : Cu) (w : ReadFor)
  /-- QUEUE_POLL (R362). Every Q_POLL interval the engine reads each function's summary line and takes changed slots. -/
  | queuePoll (u : Cu) (p : List (Nat × PollData)) (rtt : Nat)
  /-- DESCRIPTOR_FETCH (R363). A descriptor read returns and the descriptors become available for arbitration. -/
  | descriptorFetch (u : Cu) (f s : Nat) (ds : List (List Byte)) (rtt : Nat)
  /-- ARBITRATION_GRANT (R374). The engine grants one descriptor by weighted fair queueing and accepts it. -/
  | arbitrationGrant (u : Cu)
  /-- BUCKET_REFILL (R375). Every 1,024 drive clocks each token bucket rises by 5 × RATE. -/
  | bucketRefill
  /-- COMPLETION_POST (R365). A completion waiting on a full CQ is written when space appears. -/
  | completionPost (u : Cu) (f c head : Nat)
  /-- RING_INTERRUPT_TIMER (R376). TIME µs after a ring's first pending entry its MSI-X vector is sent. -/
  | ringInterruptTimer (u : Cu) (f q : Nat)
  /-- FUNCTION_ENABLE (R362). Q_CTRL.EN set starts polling a function. -/
  | functionEnable (u : Cu) (f : Nat) (v : Word)
  /-- FUNCTION_DISABLE (R377). Q_CTRL.EN cleared stops polling a function. -/
  | functionDisable (u : Cu) (f : Nat) (v : Word)
  /-- SQ_ENABLE (R380). Q_SQ_CFGs.EN set enables an SQ with head and tail from its slot. -/
  | sqEnable (u : Cu) (f s : Nat) (v : Word) (slot : Nat)
  /-- SQ_DISABLE (R380). Q_SQ_CFGs.EN cleared stops fetching from an SQ. -/
  | sqDisable (u : Cu) (f s : Nat) (v : Word)
  /-- CQ_ENABLE (R382). Q_CQ_CFGc.EN set enables a CQ with tail 0 and phase 1. -/
  | cqEnable (u : Cu) (f q : Nat) (v : Word)
  /-- CQ_DISABLE (R382). Q_CQ_CFGc.EN cleared disables a CQ, or is ignored while it is in use. -/
  | cqDisable (u : Cu) (f q : Nat) (v : Word)
  /-- EQ_ENABLE (R379). Q_EQ_CFG.EN enables or disables the event queue. -/
  | eqEnable (u : Cu) (f : Nat) (v : Word)
  /-- TR_ENABLE (R379). Q_TR_CFGr.EN enables or disables a telemetry ring. -/
  | trEnable (u : Cu) (f q : Nat) (v : Word)
  /-- Q_COUNT_CLEAR (R379). Q_CTRL.CNT_CLR clears the function's counters. -/
  | qCountClear (u : Cu) (f : Nat) (v : Word)
  /-- NOP (R394). NOP returns the unit, holder and island state. -/
  | nop (c : Cmd)
  /-- MAP_QUERY (R397). MAP_QUERY writes parts of an image to a host buffer. -/
  | mapQuery (c : Cmd)
  /-- MOVE (R406). MOVE starts a data-mover transfer. -/
  | move (c : Cmd)
  /-- TELEM_CTRL (R405). TELEM_CTRL sets up and enables or disables a result queue. -/
  | telemCtrl (c : Cmd) (d : HostData)
  /-- ELEMENT_DIRECT_CODES (R403). ELEMENT_DIRECT OP 0 queues up to 16 codes on one drive clock. -/
  | elementDirectCodes (c : Cmd)
  /-- ELEMENT_DIRECT_READ (R403). ELEMENT_DIRECT OP 1 reads an element's registers. -/
  | elementDirectRead (c : Cmd)
  /-- SPARE_MAP_SUBSTITUTE (R404). SPARE_MAP SUBSTITUTE requests a spare and completes when in force. -/
  | spareMapSubstitute (c : Cmd)
  /-- SPARE_MAP_RELEASE (R404). SPARE_MAP RELEASE releases or cancels a substitution. -/
  | spareMapRelease (c : Cmd)
  /-- FAULT_CTRL_READ (R412). FAULT_CTRL READ returns a source record or the first record. -/
  | faultCtrlRead (c : Cmd)
  /-- FAULT_CTRL_CLEAR (R536). FAULT_CTRL CLEAR clears a source, the first record, or every clearable record. -/
  | faultCtrlClear (c : Cmd)
  /-- FAULT_CTRL_CONFIG (R536). FAULT_CTRL CONFIG sets a source's N, W, base class and reaction. -/
  | faultCtrlConfig (c : Cmd)
  /-- STATE_SAVE (R413). STATE_SAVE writes a saved-state generation to each copy. -/
  | stateSave (c : Cmd)
  /-- ATTEST (R603). ATTEST snapshots base values and writes a signed report. -/
  | attest (c : Cmd)
  /-- FW_STAGE_STAGE (R596). FW_STAGE STAGE reads and verifies an image into the staging area. -/
  | fwStageStage (c : Cmd) (d : HostData)
  /-- FW_STAGE_ACTIVATE (R597). FW_STAGE ACTIVATE writes the staged image to a bank and a new boot record. -/
  | fwStageActivate (c : Cmd)
  /-- FW_STAGE_DISCARD (R598). FW_STAGE DISCARD marks the staging area invalid. -/
  | fwStageDiscard (c : Cmd)
  /-- FLASH_WRITE_DONE (R597). The flash write and read-back of an ACTIVATE end. -/
  | flashWriteDone (u : Cu) (code : Nat)
  /-- REC_CTRL_STATUS (R411). REC_CTRL STATUS returns the recorder state. -/
  | recCtrlStatus (c : Cmd)
  /-- REC_FREEZE (R576). REC_CTRL FREEZE, by command or register, freezes the ring at once. -/
  | recFreeze (via : Via)
  /-- REC_RELEASE (R577). REC_CTRL RELEASE clears FROZEN and resumes recording. -/
  | recRelease (via : Via)
  /-- REC_SIZE_SET (R411). REC_CTRL SIZE changes the ring size while frozen. -/
  | recSizeSet (c : Cmd)
  /-- REC_MODE_SET (R572). REC_CTRL MODE selects full or loop-rate recording from the next block. -/
  | recModeSet (c : Cmd)
  /-- REC_TRIGGERS_SET (R411). REC_CTRL TRIGGERS sets the fault classes that freeze the ring. -/
  | recTriggersSet (c : Cmd)
  /-- REC_POST_EXPIRY (R576). REC_POST ms after a trigger the ring freezes. -/
  | recPostExpiry
  /-- REC_PULL_START (R579). REC_PULL_CTRL.START moves recorded blocks to the host, or is refused. -/
  | recPullStart (u : Cu) (v : Word)
  /-- REC_PULL_END (R579). A pull ends with DONE, or ends without it when the token moves. -/
  | recPullEnd
  /-- REPLAY_START (R582). REC_RP_CTRL.START checks the checkpoint and enters REPLAY. -/
  | replayStart (u : Cu) (v : Word)
  /-- REPLAY_STOP (R585). REC_RP_CTRL.STOP ends a replay. -/
  | replayStop (u : Cu) (v : Word)
  /-- REPLAY_END (R585). A replay ends at the FREEZE record, a gap or a difference, leaving the bench unloaded. -/
  | replayEnd
  /-- TKN_CLAIM (R421). A TKN_CLAIM write is accepted, setting holder, GEN and lease, or refused with a cause. -/
  | tknClaim (u : Cu) (v : Word)
  /-- TKN_RENEW (R424). A TKN_RENEW write extends the lease or is refused. -/
  | tknRenew (u : Cu) (v : Word)
  /-- TKN_RELEASE (R442). A TKN_RELEASE with HANDOVER arms a hand-over at the next Lull end, or is refused. -/
  | tknRelease (u : Cu) (v : Word)
  /-- TKN_RESUME (R428). TKN_RESUME releases the take-over hold on the next update tick. -/
  | tknResume (u : Cu) (v : Word)
  /-- TKN_REH_START (R435). TKN_REH_CTRL.START starts a rehearsal of the standby, or is refused. -/
  | tknRehStart (u : Cu) (v : Word)
  /-- TKN_REH_CALL (R440). TKN_REH_CTRL.CALL calls the other unit as successor. -/
  | tknRehCall (u : Cu) (v : Word)
  /-- TKN_REH_DISMISS (R440). TKN_REH_CTRL.DISMISS powers the successor down and clears SUCC_READY. -/
  | tknRehDismiss (u : Cu) (v : Word)
  /-- TKN_REH_REPORT (R439). A rehearsing or successor unit reports its result or READY. -/
  | tknRehReport (u : Cu) (v : Word)
  /-- LEASE_EXPIRY (R427). The lease runs out or the holder stops: hold, OWN pins low, other unit called. -/
  | leaseExpiry (cause : Nat)
  /-- FIRMWARE_VERIFIED (R595). The ROM finishes checking a bank and starts the image, or finds none. -/
  | firmwareVerified (u : Cu) (bank : Option Nat) (fail : Nat) (hdr : List Byte)
  /-- GRACE_END (R421). Grace of 2 × lease ends and STATE becomes FREE. -/
  | graceEnd
  /-- CLAIM_DEADLINE (R428). No claim of the called unit 1 s after grace sets PEER_FAIL and powers it down. -/
  | claimDeadline
  /-- UNIT_BOOT_FAIL (R428). A called unit stops or runs no firmware within 150 ms; PEER_FAIL is set. -/
  | unitBootFail (u : Cu) (cause : Nat)
  /-- RESERVATION_EXPIRY (R443). A successor not claiming within 100 ms lets the releasing unit reclaim. -/
  | reservationExpiry
  /-- IMAGE_SAVE_PERIODIC (R431). Every TKN_IMG_CFG.PERIOD ms the holder saves an image generation. -/
  | imageSavePeriodic
  /-- IMAGE_SAVE_EVENT (R431). An event save is made after a Gust, mark change or substitution. -/
  | imageSaveEvent
  /-- REHEARSAL_AUTO_DUE (R435). Every PERIOD hours with REH_AUTO a rehearsal starts. -/
  | rehearsalAutoDue
  /-- REHEARSAL_TIMEOUT (R437). A rehearsal not done within 1 s ends TIMEOUT. -/
  | rehearsalTimeout
  /-- REVERT_REHEARSAL_DUE (R438). With REVERT, a rehearsal of the preferred unit falls due after 60 s or RETRY. -/
  | revertRehearsalDue
  /-- WTR_EXPIRY (R439). Wait-to-restore runs out and the preferred unit is called as successor. -/
  | wtrExpiry
  /-- SUCCESSOR_READY_TIMEOUT (R440). A called successor that does not write READY within 1 s is powered down. -/
  | successorReadyTimeout
  /-- POR_RISE (R455). POR_N rises: PREF_B and TESTMODE are sampled and base bring-up starts. -/
  | porRise (prefB testmode : Bool)
  /-- COLD_RESET (R450). POR_N low or loss of VKEEP, VBASE or VDDQ resets everything without PARK. -/
  | coldReset
  /-- PLL_LOCK (R455). The 819.2 MHz PLL locks and the drive clock, time and grid start. -/
  | pllLock
  /-- DRAM_TRAINED (R455). DRAM stacks train and boot regions are initialised; the preferred unit is switched on. -/
  | dramTrained (vcoreOk : Bool)
  /-- DRAM_INIT_DONE (R455). Every DRAM line is initialised and CACHE_READY is set. -/
  | dramInitDone
  /-- PEER_CALL_TIMEOUT (R457). The preferred unit has not claimed by T0 + 1 s and the other unit is switched on. -/
  | peerCallTimeout
  /-- RESET_N_ASSERT (R462). RESET_N low starts a device warm reset. -/
  | resetNAssert (lowNs : Nat)
  /-- PWR_RST_DEVICE (R462). PWR_RST_CTRL with DEVICE and a valid KEY starts a device warm reset. -/
  | pwrRstDevice (u : Cu) (v : Word)
  /-- PWR_RST_UNIT (R460). PWR_RST_CTRL UNIT_A or UNIT_B resets a unit's core. -/
  | pwrRstUnit (u : Cu) (v : Word)
  /-- PWR_CU_SELF_RESET (R461). PWR_CU_SELF.RESET resets the writing unit whatever the token. -/
  | pwrCuSelfReset (u : Cu) (v : Word)
  /-- WARM_RESET_RELEASE (R462). The warm reset is released; DRAM leaves self-refresh and bring-up resumes. -/
  | warmResetRelease
  /-- DRIVE_POWER_DOWN (R533). 100 µs after a park clock the drive stages power down. -/
  | drivePowerDown
  /-- VANA_LOW (R560). VANA below threshold for 10 µs makes a device warm reset. -/
  | vanaLow
  /-- VCORE_LOW (R560). VCORE of a unit below threshold resets that unit. -/
  | vcoreLow (u : Cu)
  /-- VPHY_LOW (R560). VPHY of a unit below threshold takes its link down. -/
  | vphyLow (u : Cu) (v12 : Bool)
  /-- DRIVE_RAIL_LOW (R470). VTHR or VHTR below threshold powers those stages down and reports. -/
  | driveRailLow (vhtr : Bool)
  /-- VIO_LOW (R560). VIO below threshold reports source 3. -/
  | vioLow
  /-- SUPPLY_MONITOR_RELEASE (R560). A rail 2 % above threshold for 1 ms releases its monitor. -/
  | supplyMonitorRelease (rail : Nat) (u : Cu)
  /-- DRAM_SCRUB (R483). The patrol scrub reads a line, writing back corrected data. -/
  | dramScrub (stack : Nat) (e : ScrubRes)
  /-- ROW_COPY_DONE (R485). A row copy ends and the remap comes into force. -/
  | rowCopyDone
  /-- BANK_COPY_DONE (R486). A bank copy ends and the remap comes into force. -/
  | bankCopyDone
  /-- MEM_SPARE_BANK (R486). MEM_CMD.SPARE_BANK spares the named bank. -/
  | memSpareBank (u : Cu) (v : Word)
  /-- FUSE_COMMIT_DONE (R487). A remap commit to the repair fuses ends or fails. -/
  | fuseCommitDone (ok : Bool)
  /-- MEM_PROBE (R479). A MEM_PROBE_HI write reads the metadata of a line. -/
  | memProbe (u : Cu) (v : Word)
  /-- MEM_COUNT_CLEAR (R500). MEM_CTRL.CNT_CLR clears the memory counters. -/
  | memCountClear (u : Cu) (v : Word)
  /-- SP_PSTATE_WRITE (R497). SP_BANKb.PSTATE starts a scratchpad bank power-state change. -/
  | spPstateWrite (u : Cu) (b : Nat) (v : Word)
  /-- SP_PSTATE_DONE (R497). A bank power-state change ends. -/
  | spPstateDone (u : Cu) (b : Nat)
  /-- SP_OWNER_WRITE (R495). A write of SP_BANKb.OWNER changes owner after the old owner's writes complete. -/
  | spOwnerWrite (u : Cu) (b : Nat) (v : Word)
  /-- SP_RETIRE_CMD (R498). SP_CMD.RETIRE retires a scratchpad bank to a pool bank. -/
  | spRetireCmd (u : Cu) (v : Word)
  /-- SP_RETIRE_DONE (R498). A retirement copy ends and the address moves to the pool bank. -/
  | spRetireDone (u : Cu) (b : Nat) (zeros : List Nat)
  /-- DM_START (R507). DM_CTLn.START begins a register-started transfer. -/
  | dmStart (u : Cu) (n : Nat) (v : Word)
  /-- DM_PAUSE (R510). DM_CTLn.PAUSE set stops new reads and drains the channel. -/
  | dmPause (u : Cu) (n : Nat) (v : Word)
  /-- DM_PAUSED (R510). A drain ends and the channel is PAUSED with exact position. -/
  | dmPaused (u : Cu) (n : Nat) (data : List Byte)
  /-- DM_UNPAUSE (R510). DM_CTLn.PAUSE cleared resumes from the recorded position. -/
  | dmUnpause (u : Cu) (n : Nat) (v : Word)
  /-- DM_RESUME (R513). DM_CTLn.RESUME retries a halted channel. -/
  | dmResume (u : Cu) (n : Nat) (v : Word)
  /-- DM_END (R521). DM_CTLn.END ends a channel's transfer SHORT. -/
  | dmEnd (u : Cu) (n : Nat) (v : Word)
  /-- DM_BURST_FAIL (R511). A burst fails; the position moves back and a retry is scheduled or the channel halts. -/
  | dmBurstFail (u : Cu) (n : Nat) (data : List Byte) (addr cause : Nat)
  /-- DM_RETRY_TIMER (R511). The back-off of a failed burst expires and the burst is issued again. -/
  | dmRetryTimer (u : Cu) (n : Nat)
  /-- DM_POISON_HALT (R514). A read returning POISON halts the channel at once. -/
  | dmPoisonHalt (u : Cu) (n : Nat) (data : List Byte) (addr : Nat)
  /-- DM_TRANSFER_DONE (R512). The last write response returns OKAY and the transfer completes. -/
  | dmTransferDone (u : Cu) (n : Nat) (data : List Byte)
  /-- DM_HW_REQUEST (R515). A result queue or the recorder asks a bound channel to move a copy. -/
  | dmHwRequest (u : Cu) (n : Nat)
  /-- DM_HW_WITHDRAW (R516). A source withdraws a request, which is dropped or ends SHORT. -/
  | dmHwWithdraw (u : Cu) (n : Nat) (beats : Option Nat)
  /-- DM_COUNT_CLEAR (R517). DM_CTRL.CNT_CLR clears DM_CNT. -/
  | dmCountClear (u : Cu) (v : Word)
  /-- FAULT_REPORT (R524). A source reports; it is classified, merged into the first record and its reaction applied. -/
  | faultReport (reports : List FaultRep)
  /-- FLT_RELEASE (R534). FLT_CMD.RELEASE ends HOLD or PARK on the next update tick, or is refused. -/
  | fltRelease (u : Cu) (v : Word)
  /-- FLT_CLR_ALL (R536). FLT_CMD.CLR_ALL clears every clearable record. -/
  | fltClrAll (u : Cu) (v : Word)
  /-- FLT_CLR_FIRST (R535). FLT_CMD.CLR_FIRST makes the first record invalid. -/
  | fltClrFirst (u : Cu) (v : Word)
  /-- FLT_SRC_CLR (R535). FLT_SRC_CLRs closes a source record, or is refused while its level stands. -/
  | fltSrcClr (u : Cu) (src : Nat) (v : Word)
  /-- LOG_COMMIT (R540). A latched log record is committed to the event-log memory. -/
  | logCommit (ok : Bool)
  /-- HK_SLOT (R550). Each 52.5 µs slot converts its listed channel or serves a free-slot user. -/
  | hkSlot (value : Option Int)
  /-- HK_ROUND_END (R554). A housekeeping round ends: suspects, tile temperatures and thermal states are updated. -/
  | hkRoundEnd (legs : List (Nat × Nat × Nat))
  /-- HK_INJ_START (R552). HK_INJ.START asks for one injected conversion. -/
  | hkInjStart (u : Cu) (v : Word)
  /-- THM_CLR_SUSPECT (R564). THM_CMD.CLR_SUSPECT clears SUSPECT on a device diode. -/
  | thmClrSuspect (u : Cu) (v : Word)
  /-- THM_CLR_PIC (R564). THM_CMD.CLR_PIC clears SUSPECT on a PIC diode. -/
  | thmClrPic (u : Cu) (v : Word)
  /-- SEC_PASSWORD (R607). SEC_CMD PASSWORD compares a password digest and opens DIAG. -/
  | secPassword (u : Cu) (v : Word)
  /-- SEC_CHALLENGE (R608). SEC_CMD CHALLENGE draws a nonce for a scope. -/
  | secChallenge (u : Cu) (v : Word)
  /-- SEC_RESPOND (R608). SEC_CMD RESPOND verifies a signed response and opens the scope. -/
  | secRespond (u : Cu) (v : Word)
  /-- SEC_CLOSE (R609). SEC_CMD CLOSE closes a scope or all scopes. -/
  | secClose (u : Cu) (v : Word)
  /-- SEC_ENROL (R591). SEC_CMD ENROL fuses the owner key, password digest and flags. -/
  | secEnrol (u : Cu) (v : Word)
  /-- SEC_RAISE_FLOOR (R600). SEC_CMD RAISE_FLOOR raises the roll-back floor. -/
  | secRaiseFloor (u : Cu) (v : Word)
  /-- FUSE_PROGRAM_DONE (R591). Fuse programming of an enrolment or floor raise ends and is read back. -/
  | fuseProgramDone (u : Cu) (ok : Bool)
  /-- NONCE_EXPIRY (R608). A challenge nonce is discarded 60 s after it was drawn. -/
  | nonceExpiry (u : Cu)
  /-- PMC_CLR_ALL (R619). PMC_CTRL.CLR_ALL zeroes every counter and overflow bit. -/
  | pmcClrAll (u : Cu) (v : Word)
  /-- PMC_FREEZE (R613). PMC_CTRL.FREEZE set stops every counter on one clock. -/
  | pmcFreeze (u : Cu) (v : Word)
  /-- PMC_UNFREEZE (R613). PMC_CTRL.FREEZE cleared restarts every counter on one clock. -/
  | pmcUnfreeze (u : Cu) (v : Word)
  /-- PMC_CNT_WRITE (R619). A PMC_CNTn write sets a counter, or is ignored while counting. -/
  | pmcCntWrite (u : Cu) (n : Nat) (v : Word)
  /-- PMC_EVT_WRITE (R614). A PMC_EVTn write selects the event and chaining from the next clock. -/
  | pmcEvtWrite (u : Cu) (n : Nat) (v : Word)
  /-- PMC_COUNTER_WRAP (R615). A counter wraps and sets its PMC_OVF bit. -/
  | pmcCounterWrap (u : Cu) (n : Nat)
  /-- PMC_WINDOW_END (R618). A window ends on an update tick and every result is latched. -/
  | pmcWindowEnd (u : Cu) (bytes : List Nat)
  /-- PLL_UNLOCK (R639). The drive PLL loses lock and source 8 calls HOLD. -/
  | pllUnlock
  /-- PLL_RELOCK (R530). The PLL locks again and the drive clock resumes. -/
  | pllRelock
  /-- JTAG_INSTRUCTION (R628). A TAP instruction is loaded, or BYPASS if it is not available. -/
  | jtagInstruction (ir : Nat)
  /-- WATCHDOG (R523). The 50 ms firmware watchdog of a unit runs out, resets that unit's core and reports local source WATCHDOG, ending the lease as a lapse if the unit held the token. -/
  | watchdog (u : Cu)
  /-- LINK_UP (R336). Link training completes and the link reaches L0 at the rate and width in force, setting LINK_UP and HL_LINK, and DEGRADED if below 128 GT/s x16. -/
  | linkUp (u : Cu) (rate width : Nat) (reversed l0p flit : Bool)
  /-- TOUT_PULSE_END (R297). WIDTH after a pulse started, the TOUT pin returns to its inactive level. -/
  | toutPulseEnd (i : Nat)
  deriving DecidableEq, Repr

end Sys2Proof
end

