-- ==== Sys2Proof/Decode.lean ====
section
/-! DEFINITION. The table of this block gives no row any bits: a command is a write, a read, a pin or an event, not a word. -/
namespace Sys2Proof

/-- The command a word spells by the table's bits: no row of the table gives bits, so no word spells one. -/
def decodeTableWord (_nbits _w : Nat) : Option Instr := none

end Sys2Proof
end

