-- ==== Sys2Proof/Machine/Bits.lean ====
section
/-! DEFINITION. Bit fields of registers and little-endian byte strings (R15, R16). -/
namespace Sys2Proof.Machine

/-- Bit `i` of a register. -/
def bit (w : Word) (i : Nat) : Bool := w.getLsbD i

/-- The number held in bits `hi`:`lo` of a register. -/
def field (w : Word) (hi lo : Nat) : Nat := (w.toNat >>> lo) % 2 ^ (hi - lo + 1)

/-- A word with ones in bits `hi`:`lo`. -/
def maskOf (hi lo : Nat) : Word := BitVec.ofNat 32 ((2 ^ (hi - lo + 1) - 1) * 2 ^ lo)

/-- `w` with bits `hi`:`lo` holding `v`. -/
def putField (w : Word) (hi lo v : Nat) : Word :=
  (w &&& ~~~(maskOf hi lo)) ||| BitVec.ofNat 32 ((v % 2 ^ (hi - lo + 1)) * 2 ^ lo)

/-- `w` with bit `i` set to `b`. -/
def putBit (w : Word) (i : Nat) (b : Bool) : Word := if b then w ||| maskOf i i else w &&& ~~~(maskOf i i)

/-- The word of a natural number, modulo 2³². -/
def word (n : Nat) : Word := BitVec.ofNat 32 n

/-- One as a number for true. -/
def b2n (b : Bool) : Nat := if b then 1 else 0

/-- A two's-complement reading of the low `n` bits of `v`. -/
def sext (n v : Nat) : Int :=
  let m := v % 2 ^ n
  if m < 2 ^ (n - 1) then (m : Int) else (m : Int) - 2 ^ n

/-- The low `n` bits of an integer in two's complement. -/
def low (n : Nat) (v : Int) : Nat := (v % (2 ^ n : Int)).toNat

/-- Clamp to an interval. -/
def clampI (v lo hi : Int) : Int := if v < lo then lo else if hi < v then hi else v

/-- Clamp of naturals. -/
def clampN (v lo hi : Nat) : Nat := if v < lo then lo else if hi < v then hi else v

/-- Arithmetic shift right of an integer: floor of `v / 2^n`. -/
def asr (v : Int) (n : Nat) : Int := v.fdiv (2 ^ n : Int)

/-- A counter field that saturates at `max`. -/
def satAdd (v n max : Nat) : Nat := if v + n < max then v + n else max

/-- Byte `i` of a byte string, zero past its end. -/
def byteAt (l : List Byte) (i : Nat) : Nat := (l.getD i 0).toNat

/-- The little-endian number of `n` bytes at offset `off` (R16). -/
def le (l : List Byte) (off : Nat) : Nat → Nat
  | 0 => 0
  | n + 1 => byteAt l off + 256 * le l (off + 1) n

/-- The little-endian number of a whole byte string, read by structure. -/
def leAll : List Byte → Nat
  | [] => 0
  | b :: r => b.toNat + 256 * leAll r

/-- `n` bytes of a number, little-endian (R16). -/
def bytesOf (n v : Nat) : List Byte :=
  match n with
  | 0 => []
  | k + 1 => BitVec.ofNat 8 v :: bytesOf k (v / 256)

/-- Whether every byte of a slice is zero. -/
def zeroSlice (l : List Byte) (off len : Nat) : Bool := ((l.drop off).take len).all (· == 0)

/-- How far the free-running 32-bit count `a` lies ahead of `b` (R359). -/
def dist32 (a b : Nat) : Nat := (a + 2 ^ 32 - b) % 2 ^ 32

/-- The list of naturals below `n`. -/
def upto (n : Nat) : List Nat := List.range n

/-- Pad or cut a byte string to `n` bytes. -/
def fit (n : Nat) (l : List Byte) : List Byte := (l ++ List.replicate (n - l.length) 0).take n

end Sys2Proof.Machine
end

