-- ==== Sys2Proof/Machine/Crypto.lean ====
section
/-! DEFINITION. SHAKE256 (R48, R432, R589; the function of FIPS 202, log entry 3) and CRC-32C (R28, R538, R569; log entry 3). -/
namespace Sys2Proof.Machine.Crypto

/-- Round constants of Keccak-f[1600]. -/
def roundConsts : List (BitVec 64) :=
  [0x0000000000000001, 0x0000000000008082, 0x800000000000808A, 0x8000000080008000, 0x000000000000808B, 0x0000000080000001,
   0x8000000080008081, 0x8000000000008009, 0x000000000000008A, 0x0000000000000088, 0x0000000080008009, 0x000000008000000A] ++
  [0x000000008000808B, 0x800000000000008B, 0x8000000000008089, 0x8000000000008003, 0x8000000000008002, 0x8000000000000080,
   0x000000000000800A, 0x800000008000000A, 0x8000000080008081, 0x8000000000008080, 0x0000000080000001, 0x8000000080008008]

/-- Rotation offsets of lane x + 5y. -/
def rotOffs : List Nat :=
  [0, 1, 62, 28, 27, 36, 44, 6, 55, 20, 3, 10, 43, 25, 39, 41, 45, 15, 21, 8, 18, 2, 61, 56, 14]

/-- Lane `i` of a state of 25 lanes. -/
def lane (a : List (BitVec 64)) (i : Nat) : BitVec 64 := a.getD i 0

/-- One round of Keccak-f[1600]. -/
def keccakRound (a : List (BitVec 64)) (rc : BitVec 64) : List (BitVec 64) :=
  let c := (List.range 5).map (fun x => lane a x ^^^ lane a (x + 5) ^^^ lane a (x + 10) ^^^ lane a (x + 15) ^^^ lane a (x + 20))
  let d := (List.range 5).map (fun x => lane c ((x + 4) % 5) ^^^ (lane c ((x + 1) % 5)).rotateLeft 1)
  let t := (List.range 25).map (fun i => (lane a i ^^^ lane d (i % 5)).rotateLeft (rotOffs.getD i 0))
  let b := (List.range 25).map (fun i => lane t ((i % 5 + 3 * (i / 5)) % 5 + 5 * (i % 5)))
  let e := (List.range 25).map (fun i =>
    lane b i ^^^ (~~~(lane b ((i + 1) % 5 + 5 * (i / 5))) &&& lane b ((i + 2) % 5 + 5 * (i / 5))))
  match e with
  | h :: r => (h ^^^ rc) :: r
  | [] => []

/-- The permutation Keccak-f[1600]. -/
def keccakF (a : List (BitVec 64)) : List (BitVec 64) := roundConsts.foldl keccakRound a

/-- The lanes of a block of bytes. -/
def lanes : Nat → List Byte → List (BitVec 64)
  | 0, _ => []
  | n + 1, l => BitVec.ofNat 64 (leAll (l.take 8)) :: lanes n (l.drop 8)

/-- Exclusive-or of lanes into a state. -/
def xorInto : List (BitVec 64) → List (BitVec 64) → List (BitVec 64)
  | a :: r, b :: q => (a ^^^ b) :: xorInto r q
  | a, [] => a
  | [], _ => []

/-- Absorb a whole number of 136-byte blocks. -/
def absorb : Nat → List (BitVec 64) → List Byte → List (BitVec 64)
  | 0, a, _ => a
  | n + 1, a, l => absorb n (keccakF (xorInto a (lanes 17 l))) (l.drop 136)

/-- The message padded for SHAKE256. -/
def padMsg (m : List Byte) : List Byte :=
  let r := m.length % 136
  if r = 135 then m ++ [0x9F] else m ++ [0x1F] ++ List.replicate (134 - r) 0 ++ [0x80]

/-- SHAKE256 with 64 bytes of output (R48) (log entry 3 PRESUMED). -/
def shake256 (m : List Byte) : List Byte :=
  let p := padMsg m
  let a := absorb (p.length / 136) (List.replicate 25 0) p
  (a.take 8).flatMap (fun w => bytesOf 8 w.toNat)

/-- One bit of CRC-32C, reflected. -/
def crcBit (c : BitVec 32) : BitVec 32 := if c.getLsbD 0 then (c >>> 1) ^^^ 0x82F63B78 else c >>> 1

/-- One byte of CRC-32C. -/
def crcByte (c : BitVec 32) (b : Byte) : BitVec 32 :=
  (List.range 8).foldl (fun c _ => crcBit c) (c ^^^ b.zeroExtend 32)

/-- CRC-32C of a byte string. -/
def crc32c (m : List Byte) : BitVec 32 := ~~~(m.foldl crcByte 0xFFFFFFFF)

end Sys2Proof.Machine.Crypto
end

