-- ==== Sys2Proof/Machine/Table.lean ====
section
/-! DEFINITION. Sparse tables: lists of (key, entry) pairs with strictly rising keys. An unlisted key reads as a default
that the caller names, and writing that default removes the entry, so equal tables are equal data. -/
namespace Sys2Proof.Machine.Tab

variable {α : Type}

/-- The entry of a key, if it is listed. -/
def find (k : Nat) : List (Nat × α) → Option α
  | [] => none
  | (i, v) :: r => if i = k then some v else find k r

/-- The table without a key. -/
def erase (k : Nat) : List (Nat × α) → List (Nat × α)
  | [] => []
  | (i, v) :: r => if i = k then erase k r else (i, v) :: erase k r

/-- Insert before the first greater key. -/
def ins (k : Nat) (v : α) : List (Nat × α) → List (Nat × α)
  | [] => [(k, v)]
  | (i, w) :: r => if k < i then (k, v) :: (i, w) :: r else (i, w) :: ins k v r

/-- The table with `k` listed at `v`. -/
def set (k : Nat) (v : α) (l : List (Nat × α)) : List (Nat × α) := ins k v (erase k l)

/-- What a key reads as, `d` where it is not listed. -/
def get (d : α) (k : Nat) (l : List (Nat × α)) : α := (find k l).getD d

/-- Write `v` at `k`: the default is not listed. -/
def put [DecidableEq α] (d : α) (k : Nat) (v : α) (l : List (Nat × α)) : List (Nat × α) :=
  if v = d then erase k l else set k v l

/-- Every key of the first table is listed in the result at its entry there; the others keep theirs. -/
def union (a b : List (Nat × α)) : List (Nat × α) := a.foldl (fun acc e => set e.1 e.2 acc) b

/-- Apply a change to one listed or default entry. -/
def modify [DecidableEq α] (d : α) (k : Nat) (f : α → α) (l : List (Nat × α)) : List (Nat × α) :=
  put d k (f (get d k l)) l

/-- Apply a change to every listed entry. -/
def mapAll (f : Nat → α → α) : List (Nat × α) → List (Nat × α)
  | [] => []
  | (i, v) :: r => (i, f i v) :: mapAll f r

/-- The keys are strictly rising and all above `lo`. -/
def risingFrom (lo : Option Nat) : List (Nat × α) → Bool
  | [] => true
  | (i, _) :: r => (match lo with | none => true | some j => decide (j < i)) && risingFrom (some i) r

/-- No entry equals what its key reads as when it is not listed. -/
def noDefault [DecidableEq α] (d : Nat → α) : List (Nat × α) → Bool
  | [] => true
  | (i, v) :: r => decide (v ≠ d i) && noDefault d r

/-- The canonical form of a table: keys strictly rising, no entry equal to its default. -/
def wf [DecidableEq α] (d : Nat → α) (l : List (Nat × α)) : Bool := risingFrom none l && noDefault d l

end Sys2Proof.Machine.Tab
end

