-- ==== Sys2Proof/Machine/Benes.lean ====
section
/-! DEFINITION. The Beneš fabric: its wiring (R18–R20), paths through a cell-state vector, the completed map (R24) and the constrained
looping algorithm (R160–R165). A vector is a number: bit c is the state of cell c, 1 for cross (R25). -/
namespace Sys2Proof.Machine.Benes

/-- Geometry: order n and extra stages e (R18). -/
structure Geo where
  n : Nat
  e : Nat
  deriving DecidableEq, Repr

/-- Ports N, cells in a stage, and stages (R18). -/
def Geo.ports (g : Geo) : Nat := 2 ^ g.n
def Geo.half (g : Geo) : Nat := 2 ^ (g.n - 1)
def Geo.stages (g : Geo) : Nat := 2 * g.n - 1 + g.e

/-- First rule of R19 for block size `B`: output link of a block at `b` to input link of the next stage. -/
def wireOut (B l : Nat) : Nat :=
  let b := l / B * B
  let x := l % B
  b + x % 2 * (B / 2) + x / 2

/-- Second rule of R19. -/
def wireIn (B l : Nat) : Nat :=
  let b := l / B * B
  let x := l % B
  b + 2 * (x % (B / 2)) + x / (B / 2)

/-- The input link of stage `s` + 1 that output link `l` of stage `s` connects to (R19, R20). -/
def wire (g : Geo) (s l : Nat) : Nat :=
  if g.e = 2 ∧ s = 0 then wireOut g.ports l
  else if g.e = 2 ∧ s = 1 then wireIn g.ports l
  else
    let t := s - g.e
    if t + 1 < g.n then wireOut (g.ports / 2 ^ t) l else wireIn (g.ports / 2 ^ (2 * g.n - 3 - t)) l

/-- Cell of a link at a stage (R6). -/
def cellAt (g : Geo) (s l : Nat) : Nat := s * g.half + l / 2

/-- Output link of the cell that input link `l` of stage `s` enters, under a vector (R22). -/
def through (g : Geo) (vec s l : Nat) : Nat := if vec.testBit (cellAt g s l) then l ^^^ 1 else l

/-- The cells input port `p` passes and the output it reaches, from stage `s` on, `k` stages to go. -/
def walk (g : Geo) (vec : Nat) : Nat → Nat → Nat → List Nat × Nat
  | 0, _, l => ([], l)
  | k + 1, s, l =>
    let o := through g vec s l
    let r := walk g vec k (s + 1) (if k = 0 then o else wire g s o)
    (cellAt g s l :: r.1, r.2)

/-- The whole path of an input port: its cells and its output. -/
def path (g : Geo) (vec p : Nat) : List Nat × Nat := walk g vec g.stages 0 p

/-- The completed map a vector realises: the input that feeds each output. -/
def realised (g : Geo) (vec : Nat) : List Nat :=
  (List.range g.ports).foldl (fun out p => out.set (path g vec p).2 p) (List.replicate g.ports 0)

/-- Shift `k` of the completion (R163): unnamed inputs to dark outputs. -/
def complete (N : Nat) (map : List Nat) (k : Nat) : List Nat :=
  let dark := (List.range N).filter (fun q => decide (map.getD q 0x3FF = 0x3FF))
  let free := (List.range N).filter (fun p => !map.contains p)
  let d := dark.length
  ((List.range d).foldl (fun out i => out.set (dark.getD ((i + k) % d) 0) (free.getD i 0)) map)

/-! ### The search (R160, R161, R163) -/

/-- A state being built: orientations still given, the ones used (newest first), how many more may be chosen, cells set crossed, and what has
stopped it. -/
structure Run where
  given : List Bool
  used : List Bool
  allow : Nat
  vec : Nat
  bad : Bool
  spent : Bool
  deriving DecidableEq, Repr

/-- Whether a cell in a state, crossed by a named path or not, breaks a constraint (R161). -/
def breaks (cons : List (Nat × Nat)) (cell : Nat) (cross named : Bool) : Bool :=
  match Tab.find cell cons with
  | some 2 => named
  | some 3 => cross
  | some 4 => !cross
  | _ => false

/-- The next loop's orientation: as given, else 0 at the cost of a step (R163). -/
def orient (r : Run) : Bool × Run :=
  match r.given with
  | o :: rest => (o, { r with given := rest, used := o :: r.used })
  | [] => if r.allow = 0 then (false, { r with spent := true })
          else (false, { r with used := false :: r.used, allow := r.allow - 1 })

/-- One block's tables while its loops are followed. -/
structure Blk where
  done : List Bool
  s0 : List Nat
  s1 : List Nat
  n0 : List Bool
  n1 : List Bool
  deriving DecidableEq, Repr

/-- route(p, q, j) of R160 with the check of both cells. -/
def route (cons : List (Nat × Nat)) (fbase lbase p q : Nat) (j named : Bool) (x : Blk × Run) : Blk × Run :=
  let f := fbase + p / 2
  let l := lbase + q / 2
  let fx := decide (p % 2 = 1) != j
  let lx := decide (q % 2 = 1) != j
  let b := x.1
  let b' : Blk := if j then { b with done := b.done.set (q / 2) true, s1 := b.s1.set (q / 2) (p / 2), n1 := b.n1.set (q / 2) named }
    else { b with done := b.done.set (q / 2) true, s0 := b.s0.set (q / 2) (p / 2), n0 := b.n0.set (q / 2) named }
  let v := x.2.vec ||| (if fx then 2 ^ f else 0) ||| (if lx then 2 ^ l else 0)
  (b', { x.2 with vec := v, bad := x.2.bad || breaks cons f fx named || breaks cons l lx named })

/-- Follow one loop from output `q` until it closes on cell `r` (R160). -/
def loop (cons : List (Nat × Nat)) (fbase lbase : Nat) (out inv : List Nat) (nm : List Bool) (o : Bool) (r : Nat) :
    Nat → Nat → Blk × Run → Blk × Run
  | 0, _, x => x
  | k + 1, q, x =>
    let p := out.getD q 0
    let x1 := route cons fbase lbase p q o (nm.getD q false) x
    let p2 := p ^^^ 1
    let q2 := inv.getD p2 0
    let x2 := route cons fbase lbase p2 q2 (!o) (nm.getD q2 false) x1
    let q' := q2 ^^^ 1
    if q' / 2 = r then x2 else loop cons fbase lbase out inv nm o r k q' x2

/-- The inverse of a permutation given as a list. -/
def inverse (out : List Nat) : List Nat :=
  (out.zip (List.range out.length)).foldl (fun a e => a.set e.1 e.2) (List.replicate out.length 0)

/-- solve_block of R160 for a block of 2^k links at link `b`, first stage `s`. -/
def solveBlock (half : Nat) (cons : List (Nat × Nat)) : Nat → Nat → Nat → List Nat → List Bool → Run → Run
  | 0, _, _, _, _, r => r
  | 1, s, b, out, nm, r =>
    let c := s * half + b / 2
    let x := decide (out.getD 0 0 = 1)
    { r with vec := r.vec ||| (if x then 2 ^ c else 0), bad := breaks cons c x (nm.getD 0 false || nm.getD 1 false) }
  | k + 2, s, b, out, nm, r =>
    let m := 2 ^ (k + 2)
    let h := m / 2
    let t := s + 2 * (k + 2) - 2
    let inv := inverse out
    let start : Blk := { done := List.replicate h false, s0 := List.replicate h 0, s1 := List.replicate h 0,
                         n0 := List.replicate h false, n1 := List.replicate h false }
    let x := (List.range h).foldl (fun (x : Blk × Run) i =>
      if x.2.bad || x.2.spent || x.1.done.getD i false then x
      else
        let o := orient x.2
        if o.2.spent then (x.1, o.2)
        else loop cons (s * half + b / 2) (t * half + b / 2) out inv nm o.1 i m (2 * i) (x.1, o.2)) (start, r)
    if x.2.bad || x.2.spent then x.2
    else
      let r1 := solveBlock half cons (k + 1) (s + 1) b x.1.s0 x.1.n0 x.2
      if r1.bad || r1.spent then r1 else solveBlock half cons (k + 1) (s + 1) (b + h) x.1.s1 x.1.n1 r1

/-- The orientations to try after a violation: the most recent loop still at 0 turns to 1 (R163). `used` is newest first. -/
def nextGiven : List Bool → Option (List Bool)
  | [] => none
  | true :: r => nextGiven r
  | false :: r => some (true :: r).reverse

/-- How a search of one local map ended: solved, exhausted, or out of budget, with the steps used. -/
inductive Found where
  | solved (vec steps : Nat)
  | exhausted (steps : Nat)
  | budget
  deriving DecidableEq, Repr

/-- The step budget (R165). -/
def budget : Nat := 16384

/-- Depth-first search over orientations (R163): `steps` used before; each rerun repeats the orientations it is given at no cost. -/
def search (g : Geo) (cons : List (Nat × Nat)) (out : List Nat) (nm : List Bool) (vec0 : Nat) : Nat → List Bool → Nat → Found
  | 0, _, _ => .budget
  | fuel + 1, given, steps =>
    let r := solveBlock g.half cons g.n g.e 0 out nm
      { given := given, used := [], allow := budget - steps, vec := vec0, bad := false, spent := false }
    let steps' := steps + (r.used.length - given.length)
    if r.spent then .budget
    else if r.bad then
      match nextGiven r.used with
      | none => .exhausted steps'
      | some g' => if steps' ≥ budget then .budget else search g cons out nm vec0 fuel g' (steps' + 1)
    else .solved r.vec steps'

/-! ### Extra-stage candidates (R164) -/

/-- The vector of the extra stages for candidate `c`, or none where it would invert a STUCK cell. -/
def candidate (g : Geo) (cons : List (Nat × Nat)) (c : Nat) : Option Nat :=
  if g.e = 0 then some 0
  else
    let base := (cons.filter (fun e => decide (e.1 < 2 * g.half) && decide (e.2 = 4))).foldl (fun v e => v ||| 2 ^ e.1) 0
    if c = 0 then some base
    else
      let cell := if c ≤ g.half then g.half + (c - 1) else c - g.half - 1
      match Tab.find cell cons with
      | some 3 => none
      | some 4 => none
      | _ => some (base ^^^ 2 ^ cell)

/-- The link of the Beneš section that input `p` reaches through the extra stages, and the extra cells it passes. -/
def preamble (g : Geo) (vec p : Nat) : List Nat × Nat :=
  if g.e = 0 then ([], p)
  else
    let o0 := through g vec 0 p
    let l1 := wire g 0 o0
    ([cellAt g 0 p, cellAt g 1 l1], wire g 1 (through g vec 1 l1))

/-- What a solve gives before it is recorded (R158, R165). -/
structure Solve where
  verdict : Nat
  vec : Nat
  shift : Nat
  cand : Nat
  steps : Nat
  detour : Bool
  deriving DecidableEq, Repr

/-- Try every candidate of one completed map in order (R163). -/
def tryCands (g : Geo) (cons : List (Nat × Nat)) (map full : List Nat) (k : Nat) : List Nat → Nat → Solve ⊕ Nat
  | [], steps => .inr steps
  | c :: rest, steps =>
    match candidate g cons c with
    | none => tryCands g cons map full k rest steps
    | some ev =>
      let named (q : Nat) : Bool := decide (map.getD q 0x3FF ≠ 0x3FF)
      let pre := (List.range g.ports).map (fun q => (q, preamble g ev (full.getD q 0)))
      if pre.any (fun e => named e.1 && e.2.1.any (fun cell => Tab.find cell cons == some 2)) then
        tryCands g cons map full k rest steps
      else
        match search g cons (pre.map (fun e => e.2.2)) ((List.range g.ports).map named) ev (budget + 1) [] steps with
        | .solved v st => .inl { verdict := 0, vec := v, shift := k, cand := c, steps := st, detour := decide (ev ≠ 0) }
        | .budget => .inl { verdict := 2, vec := 0, shift := 0, cand := 0, steps := budget, detour := false }
        | .exhausted st => tryCands g cons map full k rest st

/-- Try every completion shift in order (R163). -/
def tryShifts (g : Geo) (cons : List (Nat × Nat)) (map : List Nat) : List Nat → Nat → Solve
  | [], steps => { verdict := 1, vec := 0, shift := 0, cand := 0, steps := steps, detour := false }
  | k :: rest, steps =>
    match tryCands g cons map (complete g.ports map k) k (List.range (if g.e = 0 then 1 else g.ports + 1)) steps with
    | .inl r => r
    | .inr st => tryShifts g cons map rest st

/-- A named path's first or last cell is AVOID (R162). -/
def edgeAvoid (g : Geo) (cons : List (Nat × Nat)) (map : List Nat) : Bool :=
  (List.range g.ports).any (fun q =>
    let p := map.getD q 0x3FF
    decide (p ≠ 0x3FF) && (Tab.find (p / 2) cons == some 2 || Tab.find ((g.stages - 1) * g.half + q / 2) cons == some 2))

/-- A solve (R158–R165): `cons` are the constrained cells with their marks 2, 3 or 4. The count is judged before the edges (log entry 21). -/
def solve (g : Geo) (cons : List (Nat × Nat)) (map : List Nat) : Solve :=
  let refuse (v : Nat) : Solve := { verdict := v, vec := 0, shift := 0, cand := 0, steps := 0, detour := false }
  if cons.length > 256 then refuse 3
  else if edgeAvoid g cons map then refuse 4
  else
    let d := ((List.range g.ports).filter (fun q => decide (map.getD q 0x3FF = 0x3FF))).length
    tryShifts g cons map (List.range (max 1 d)) 0

/-- A map is valid (R23): entries below N or dark, no input twice. -/
def mapOk (N : Nat) (map : List Nat) : Bool :=
  map.all (fun p => decide (p < N) || decide (p = 0x3FF)) &&
  (List.range N).all (fun p => decide ((map.filter (· = p)).length ≤ 1))

/-- The packed form of a map (R23): entry i in bits 10i to 10i + 9, padded to 8-byte words. -/
def packMap (map : List Nat) : List Byte :=
  bytesOf ((10 * map.length + 63) / 64 * 8) (map.foldr (fun p acc => p % 1024 + 1024 * acc) 0)

end Sys2Proof.Machine.Benes
end

