-- ==== Sys2Proof/Machine/Maths.lean ====
section
/-! DEFINITION. The tables the spec gives by formulas: the Breeze sine (R100), the Draught response (R250) and the power in 0.01 dBm (R148),
each computed in integers with enough fraction bits that the stated rounding is exact. -/
namespace Sys2Proof.Machine.Maths

/-- Fraction bits of the fixed-point work. -/
def fb : Nat := 128

/-- One in fixed point. -/
def one : Int := 2 ^ 128

/-- π in fixed point: 2¹²⁸ π rounded down. -/
def piFix : Int := 1069028584064966747859680373161870783300

/-- Round a fixed-point number to the nearest integer, a tie up. -/
def roundFix (x : Int) : Int := (2 * x + one).fdiv (2 * one)

/-- Terms `term`, `k` more of them, of the sine series at x: each is the last times −x² over n(n + 1). -/
def sinSeries (x2 : Int) : Nat → Int → Nat → Int
  | 0, _, _ => 0
  | k + 1, term, n => term + sinSeries x2 k (-(term * x2).fdiv one / ((n * (n + 1) : Nat) : Int)) (n + 2)

/-- T[i] = round(32,767 sin(π(2i + 1)/4,096)) for i < 1,024 (R100) (log entry 53 DEDUCED). -/
def sineTab (i : Nat) : Int :=
  let x := piFix * ((2 * i + 1 : Nat) : Int) / 4096
  roundFix (32767 * sinSeries ((x * x).fdiv one) 24 x 2)

/-- Terms of the series of exp at −y. -/
def expSeries (y : Int) : Nat → Int → Nat → Int
  | 0, _, _ => 0
  | k + 1, term, n => term + expSeries y k (-(term * y).fdiv one / (n : Int)) (n + 1)

/-- exp(−num/den) in fixed point: the argument is cut to the unit interval and the value squared back. -/
def expNeg (num den : Nat) : Int :=
  let h := Nat.log2 (num / den + 1) + 1
  let y := (num : Int) * one / ((den * 2 ^ h : Nat) : Int)
  (List.range h).foldl (fun v _ => (v * v).fdiv one) (expSeries y 40 one 1)

/-- W_k[i] = round(32,768 (1 − exp(−(10,000 i + 5,000)/τ))), τ in ns (R250). -/
def response (tauNs i : Nat) : Int :=
  if tauNs = 0 then 32768
  else
    let num := 10000 * i + 5000
    if num / tauNs ≥ 60 then 32768 else roundFix (32768 * (one - expNeg num tauNs))

/-- Whether 1,000 log₁₀(p/q) is at least n − ½: compared as (p/q)^2000 against 10^(2n − 1). -/
def logAtLeast (p q : Nat) (n : Int) : Bool :=
  let e := 2 * n - 1
  let a := (p ^ 200) ^ 10
  let b := (q ^ 200) ^ 10
  if e ≥ 0 then decide (a ≥ b * 10 ^ e.toNat) else decide (a * 10 ^ (-e).toNat ≥ b)

/-- The largest n of an interval of 2^k values above `lo` that `logAtLeast` holds for, bisected. -/
def logSearch (p q : Nat) : Nat → Int → Int
  | 0, lo => lo
  | k + 1, lo => logSearch p q k (if logAtLeast p q (lo + 2 ^ k) then lo + 2 ^ k else lo)

/-- 1,000 log₁₀(p/q) rounded to nearest, within −32,768 … 32,767. -/
def log1000 (p q : Nat) : Int := logSearch p q 16 (-32768)

/-- A quotient rounded to nearest, a tie up; zero for a zero divisor. -/
def roundDiv (a : Int) (b : Int) : Int := if b = 0 then 0 else (2 * a + b).fdiv (2 * b)

end Sys2Proof.Machine.Maths
end

