-- ==== Sys2Proof/Config.lean ====
section
/-! DEFINITION. The free values of the model: constants with no body, one for each kind of value the spec leaves open.
Each is named in a log entry; nothing in Lean can evaluate one. -/
namespace Sys2Proof.Config

/-- A value the spec leaves open, drawn afresh: applied to the counter `State.fresh` (log entry 1). -/
opaque freeNat : Nat → Nat

/-- The verdict of the ML-DSA signature check (R589) over key, message and signature, which the spec takes from an
external standard: a free predicate (log entry 2). -/
opaque sigValid : List Byte → List Byte → List Byte → Bool

/-- The signature the unit's attestation key makes over a message (R604): free bytes (log entry 2). -/
opaque sign : Nat → List Byte → List Byte

/-- The error of a reported power, which the spec bounds at one unit (R148, log entry 4): from corrected value, gain and factor. -/
opaque powErr : Int → Nat → Nat → Nat

/-- RESID where the class's full scale is zero and R238's quotient does not exist: from the running mean (log entry 212). -/
opaque residAtZero : Nat → Nat

/-- Whether s_light is +1 where two equal powers do not make a cell DIM (R223, log entry 213): from the power. -/
opaque lightTie : Int → Bool

end Sys2Proof.Config
end

