-- ==== Sys2Proof/Machine/Operands.lean ====
section
/-! DEFINITION. The fields of a 64-byte descriptor (R385) and the bits each opcode's layout defines (R386, R389, R394–R415). -/
namespace Sys2Proof.Cmd
open Sys2Proof.Machine

/-- OPCODE, byte 0 (R385). -/
def op (c : Cmd) : Nat := byteAt c.desc 0
/-- Byte `i` of the descriptor. -/
def b (c : Cmd) (i : Nat) : Nat := byteAt c.desc i
/-- The 16-bit, 32-bit and 64-bit numbers at byte `i`. -/
def h (c : Cmd) (i : Nat) : Nat := le c.desc i 2
def w (c : Cmd) (i : Nat) : Nat := le c.desc i 4
def q (c : Cmd) (i : Nat) : Nat := le c.desc i 8
/-- TAG bits 13:0 (R368). -/
def tag (c : Cmd) : Nat := c.h 2 % 2 ^ 14
/-- FLAGS bits (R385). -/
def intOnDone (c : Cmd) : Bool := (c.b 1).testBit 0
def fence (c : Cmd) : Bool := (c.b 1).testBit 1
def lateExec (c : Cmd) : Bool := (c.b 1).testBit 2
def chain (c : Cmd) : Bool := (c.b 1).testBit 3
def deferOk (c : Cmd) : Bool := (c.b 1).testBit 4
/-- TIME is zero: the action is now (R385). -/
def isNow (c : Cmd) : Bool := decide (c.q 8 = 0)

end Sys2Proof.Cmd

namespace Sys2Proof.Machine

/-- The byte ranges (first, length) an opcode's layout defines beyond the common bytes 0–15, whatever its sub-operation (R394–R415). -/
def opBytes (d : List Byte) : List (Nat × Nat) :=
  match byteAt d 0 with
  | 0x01 => []
  | 0x02 => [(4, 4), (16, 12)]
  | 0x03 => [(4, 2)]
  | 0x04 => [(4, 3), (16, 12)]
  | 0x05 => [(4, 3), (16, 20)]
  | 0x06 => [(4, 1)]
  | 0x07 => (4, 1) :: (match byteAt d 4 with
      | 0 | 1 | 2 => [(16, 12), (32, 8)] | 3 => [(16, 12)] | 5 => [(16, 8)] | _ => [])
  | 0x08 => [(4, 2), (16, 36)]
  | 0x09 => if byteAt d 4 = 3 then [(4, 4), (16, 33)] else [(4, 2), (16, 4)]
  | 0x0A => [(4, 3), (16, 12)]
  | 0x0B => [(16, 12)]
  | 0x0C => if byteAt d 4 = 0 then [(4, 2), (16, 10), (32, 12)] else [(4, 1), (16, 10)]
  | 0x0D => [(4, 4), (16, 46)]
  | 0x0E => (4, 1) :: (if 3 ≤ byteAt d 4 then [(16, 8)] else [])
  | 0x0F => [(4, 3), (16, 6), (24, 8)]
  | 0x10 => [(4, 2), (16, 12)]
  | 0x11 => if byteAt d 4 = 0 then [(4, 2), (16, 4), (24, 32)] else [(4, 1), (16, 4)]
  | 0x12 => [(4, 2), (16, 4)]
  | 0x13 => if byteAt d 4 = 2 then [(4, 1), (16, 10)] else [(4, 1), (16, 2)]
  | 0x14 => []
  | 0x15 => [(4, 1), (16, 44)]
  | 0x16 => (4, 2) :: (if byteAt d 4 = 0 then [(16, 12)] else [])
  | _ => []

/-- Bytes of which only some bits are defined: (byte, mask of defined bits) (R395–R414). -/
def opBits (d : List Byte) : List (Nat × Nat) :=
  match byteAt d 0 with
  | 0x02 => [(5, 1)]
  | 0x03 => [(5, 1)]
  | 0x04 => [(6, 0x0F)]
  | 0x05 => [(6, 1)]
  | 0x08 => [(5, 1)]
  | 0x09 => if byteAt d 4 = 3 then [] else [(5, 0x8F)]
  | 0x0A => [(5, 0x0F), (6, 3)]
  | 0x0D => [(5, 3)]
  | 0x0F => [(6, 3)]
  | 0x10 => [(5, 1)]
  | 0x15 => [(4, 1)]
  | 0x16 => [(5, 3)]
  | _ => []

/-- Every byte and bit the opcode's layout does not define is zero (R386). -/
def undefinedZero (d : List Byte) : Bool :=
  (List.range 64).all (fun i =>
    decide (i < 4) || decide (8 ≤ i && i < 16) || (opBytes d).any (fun r => decide (r.1 ≤ i && i < r.1 + r.2)) ||
      decide (byteAt d i = 0)) &&
  (opBits d).all (fun r => decide (byteAt d r.1 &&& (0xFF - r.2) = 0)) &&
  decide (byteAt d 1 < 32)

/-- The opcodes R389 marks as timed (LOOP_SET, LOOP_MODE, GUST, SCHED_CTRL, TIME_PULSE, ELEMENT_DIRECT, SPARE_MAP). -/
def opTimed (op : Nat) : Bool := [0x03, 0x06, 0x08, 0x09, 0x10, 0x11, 0x12].contains op

/-- An opcode R389 lists. -/
def opKnown (op : Nat) : Bool := decide (1 ≤ op) && decide (op ≤ 0x16)

/-- Whether R389 requires the token for this descriptor; MOVE and FAULT_CTRL judge it by their own rules (R406, R412). -/
def needsToken (d : List Byte) : Bool :=
  match byteAt d 0 with
  | 0x01 | 0x04 | 0x0D | 0x13 | 0x15 | 0x16 => false
  | 0x0E => decide (byteAt d 4 ≠ 0)
  | 0x11 => decide (byteAt d 4 ≠ 1)
  | _ => true

/-- Check 3 of R387: OPCODE known, the rules of R386, TIME nanoseconds below 10⁹. -/
def check3 (d : List Byte) : Bool :=
  opKnown (byteAt d 0) && undefinedZero d && (opTimed (byteAt d 0) || decide (le d 8 8 = 0)) && decide (le d 12 4 < 1000000000)

end Sys2Proof.Machine
end

