-- ==== Sys2Proof/Machine/BaseParts.lean ====
section
/-! DEFINITION. State of the base die's clocks and time, schedules and time outputs (R270–R303), token arbiter and saved-state
images (R420–R449), fault collector and event log (R522–R545), start-up (R450–R470) and recorder (R568–R588). -/
namespace Sys2Proof.Machine

/-- Clocks, device time and the grid (R130, R132, R270–R277). -/
structure TimeSt where
  /-- the drive clock runs -/
  on : Bool
  /-- TIM_DCLK (R271) -/
  clk : Nat
  sec : Nat
  ns : Nat
  frac : Nat
  /-- the phase term and the drive clocks it still lasts (R275) -/
  ph : Int
  phLeft : Nat
  /-- grid index, the clock of the last update tick and the length of the present interval (R130, R132) -/
  g : Nat
  lastTick : Nat
  interval : Nat
  /-- clock of the last accepted PPS edge; consecutive edges within 100 ns; whether the loss has been taken (R272, R276) -/
  edge : Option Nat
  goodEdges : Nat
  /-- clock from which the 1,100 ms of R272 run -/
  ppsSince : Nat
  lost : Bool
  deriving DecidableEq, Repr

/-- One schedule entry (R288). -/
structure SchEnt where
  dur : Nat
  slot : Nat
  partl : Bool
  deriving DecidableEq, Repr

/-- A schedule list with its start S in ns (R288–R295). `pos` is the entry of the next edge and `cyc` its cycle. -/
structure SchList where
  ents : List SchEnt
  base : Nat
  s : Nat
  k : Nat
  cycles : Nat
  cyc : Nat
  pos : Nat
  /-- the instant E of the next edge, ns (R292) -/
  edge : Nat
  deriving DecidableEq, Repr

/-- One time output (R297): its next instant in ns, pulse end, and the TIME_PULSE that waits for the first pulse. -/
structure Tout where
  running : Bool := false
  start : Nat := 0
  nextAt : Nat := 0
  high : Bool := false
  endClk : Nat := 0
  cmd : Option Cmd := none
  late : Bool := false
  deriving DecidableEq, Repr

/-- Schedule and time-output state beside the registers. -/
structure SchSt where
  active : Option SchList
  pend : Option SchList
  stopAtEnd : Bool
  stopCmds : List Cmd
  /-- skips of the present cycle by cause 1–3: cause, count, first entry, edge time (R293) -/
  skips : List (Nat × Nat × Nat × Nat)
  touts : List (Nat × Tout)
  deriving DecidableEq, Repr

/-- Per-cell loop state as a saved-state image and the Loop Array hold it (R433). -/
structure CellSt where
  mode : Nat := 0
  light : Nat := 0
  dim : Bool := false
  sat : Bool := false
  strikes : Nat := 0
  i : Int := 0
  dfilt : Int := 0
  ePrev : Int := 0
  z : Int := 0
  m : Nat := 0
  satcnt : Nat := 0
  effortRun : Nat := 0
  residRun : Nat := 0
  effort : Nat := 0
  resid : Nat := 0
  throw : Nat := 0
  deriving DecidableEq, Repr

/-- One generation of the saved-state image (R431–R433). -/
structure Image where
  kind : Nat
  unit : Cu
  gen : Nat
  tgen : Nat
  g : Nat
  sec : Nat
  ns : Nat
  epoch : Nat
  calGen : Nat
  active : Nat
  seq : Nat
  hash : List Nat
  cells : List (Nat × CellSt)
  health : List (Nat × Word)
  spares : List (Nat × Word)
  recSec : List Nat
  deriving DecidableEq, Repr

/-- A rehearsal or a call of a successor (R435–R441). -/
structure Rehearsal where
  unit : Cu
  start : Nat
  /-- called as a successor (R439, R440) -/
  succ : Bool
  /-- called when wait-to-restore ran out: the hand-over follows READY by itself (R439, R441) -/
  auto : Bool
  deriving DecidableEq, Repr

/-- Token arbiter state beside its registers (R420–R449). -/
structure TknSt where
  /-- clock at which the lease expires (HELD), grace ends (LAPSED), PEER_FAIL time-out counts from (FREE), or the reservation ends (RESERVED) -/
  leaseEnd : Nat
  graceEnd : Nat
  freeAt : Nat
  resvEnd : Nat
  releaser : Cu
  rehearsal : Option Rehearsal
  handoverArmed : Bool
  rehDue : Option Nat
  revertDue : Option Nat
  wtrEnd : Option Nat
  /-- saved-state images by slot (R430), the next generation, and the clock of the last save (R431) -/
  images : List (Nat × Image)
  nextGen : Nat
  lastSave : Nat
  eventSave : Bool
  /-- clock at which the base left reset (R421) -/
  resetAt : Nat
  deriving DecidableEq, Repr

/-- One record of the event log (R538). -/
structure LogRec where
  seq : Nat
  kind : Nat
  cls : Nat
  react : Nat
  src : Nat
  ns : Nat
  sec : Nat
  tgen : Nat
  g : Nat
  total : Nat
  suppressed : Nat
  units : Nat
  temp : Int
  detail : Nat
  deriving DecidableEq, Repr

/-- Fault collector state beside its registers (R522–R540). -/
structure FltSt where
  /-- report times in ns of each source since its last clear, newest first (R524) -/
  hist : List (Nat × List Nat)
  /-- sources whose SEVERE reaction called the safe state in effect (R534) -/
  callers : List Nat
  /-- the event log, by slot, and the buffer of the keeper domain, oldest first (R537–R540) -/
  log : List (Nat × LogRec)
  buf : List LogRec
  seq : Nat
  wear : List (Nat × Nat)
  supTimes : List Nat
  supOwed : Nat
  deriving DecidableEq, Repr

/-- Start-up state beside its registers (R450–R466). -/
structure PwrSt where
  por : Bool
  testmode : Bool
  /-- TAP instruction register (R628) -/
  ir : Nat
  t0 : Nat
  /-- a device warm reset in progress (R462): first cause, its origin W, and whether event 3 has come -/
  warm : Option (Nat × Nat × Bool)
  /-- the earliest clock of its event 4, but for VANA -/
  relAt : Nat
  /-- under-voltage monitors that have tripped, as 2 × rail + unit (R560) -/
  low : List Nat
  dramUp : Bool
  tout : Bool
  deriving DecidableEq, Repr

/-- One recorder record (R570, R571). -/
structure RecRec where
  typ : Nat
  /-- RFLAGS.CONT: the payload goes on in the next record -/
  cont : Bool
  g : Nat
  payload : List Byte
  deriving DecidableEq, Repr

/-- A closed block of the ring (R569). -/
structure Block where
  unit : Cu
  mode : Nat
  bseq : Nat
  gFirst : Nat
  gLast : Nat
  used : Nat
  tgen : Nat
  gap : Bool
  freeze : Bool
  lost : Nat
  recs : List RecRec
  deriving DecidableEq, Repr

/-- Recorder state beside its registers (R568–R588). -/
structure RecSt where
  ring : List (Nat × Block)
  open_ : List RecRec
  used : Nat
  mode : Nat
  gap : Bool
  lost : Nat
  bseq : Nat
  postTrig : Option (Nat × Nat × Nat × Nat)
  lastCkpt : Nat
  ckptDue : Bool
  /-- a fast capture in progress (R573): trigger clock, its first instant, the pads -/
  cap : Option (Nat × Nat × List Nat)
  /-- fast results of the last 102 instants while captures are enabled: instant, then pad and value -/
  fastHist : List (Nat × List (Nat × Int))
  capCount : Nat
  /-- a pull in progress: blocks left to move -/
  pull : Option (List Nat)
  /-- blocks of the pull moved so far -/
  pulled : Nat
  replay : Bool
  /-- where the replay reads its next record (R583): block and offset in 8-byte units -/
  rpAt : Nat × Nat
  /-- why the replay is to end: 0 it goes on, else the RESULT of R587 -/
  rpEnd : Nat
  /-- records still to be compared and what the bench has produced for them (R584), by WHAT of REC_RP_DIFF -/
  rpWant : List (Nat × List Byte)
  rpMade : List (Nat × List Byte)
  /-- payload of the GUST record of the Gust fired last (R581) -/
  rpGust : List Byte
  deriving DecidableEq, Repr

end Sys2Proof.Machine
end

