-- ==== Sys2Proof/Machine/FabParts.lean ====
section
/-! DEFINITION. State of the fabric, the site and the drive channels: the record in force (R28–R39), the stored copies, the
park image, a running site check, and the 15,360 drive channels (R92–R112). -/
namespace Sys2Proof.Machine

/-- One ELEMENTS entry (R30). -/
structure Elem where
  kind : Nat
  index : Nat
  chan : Nat
  role : Nat
  range : Nat
  codeMin : Nat
  codeMax : Nat
  codePark : Nat
  cls : Nat
  tone : Nat
  flags : Nat
  deriving DecidableEq, Repr

/-- One PORTS entry (R35). -/
structure PortEnt where
  inLabel : Nat
  outLabel : Nat
  flags : Nat
  deriving DecidableEq, Repr

/-- The PARK section (R36): mode 0, 1 (a map) or 2 (a vector, one bit a cell). -/
inductive ParkSpec where
  | allBar
  | map (out : List Nat)
  | vector (v : Nat)
  deriving DecidableEq, Repr

/-- A Fabric Description Record as the device holds it once accepted (R28–R39). -/
structure Fdr where
  order : Nat
  extra : Nat
  graph : Bool
  ports : Nat
  cells : Nat
  auxDrive : Nat
  auxMon : Nat
  tiles : Nat
  elements : List Elem
  /-- two link references per cell, then one per output port (R38) -/
  topo : List Nat
  brzMask : Nat
  brzAmp : List Nat
  /-- the neighbourhood list of each actuator 3c + kind (R34) -/
  neigh : List (List Nat)
  portEnts : List PortEnt
  park : ParkSpec
  /-- sense pad and ideality factor (R39) -/
  sense : List (Nat × Nat)
  terminated : Nat
  digest : List Byte
  deriving DecidableEq, Repr

/-- A load in progress (R44, R45): its source, its length to compare, and whether its read waits for the drive power-down. -/
structure FabLoad where
  stored : Bool
  addr : Nat
  len : Nat
  waitDown : Bool
  startClk : Nat
  deriving DecidableEq, Repr

/-- The stored copies of the record in DRAM, with the digest kept beside them (R48, R49). -/
structure StoredFdr where
  bytes : List Byte
  digest : List Byte
  deriving DecidableEq, Repr

/-- Fabric state beside its registers. -/
structure FabSt where
  fdr : Option Fdr
  load : Option FabLoad
  stored : Option StoredFdr
  /-- digest of the record the marks are kept under (R55); empty when none -/
  marksDigest : List Byte
  /-- the park state in force, one bit a cell, and its image (R37) -/
  parkVec : Nat
  parkImg : List Nat
  fallback : Bool
  /-- the drive stages are powered (R46, R533) -/
  powered : Bool
  /-- clock at which the drive stages power down after a park clock (R533) -/
  downAt : Option Nat
  /-- stages that a lost rail has powered down until EN is next set (R560): bit 0 THROW, bit 1 TRIM, BIAS and AUX -/
  stagesDown : Nat
  deriving DecidableEq, Repr

/-- A running site check (R78–R81). -/
structure SiteCheck where
  mode1 : Bool
  drive : Bool
  mon : Bool
  sense : Bool
  dest : Nat
  startClk : Nat
  deriving DecidableEq, Repr

/-- Site state beside its registers: the running check and the tiles whose bias nets stand released (R68). -/
structure SiteSt where
  check : Option SiteCheck
  released : List Nat
  deriving DecidableEq, Repr

/-- A pre-emphasis pulse or sweep in progress, with the values it started with (R102). -/
structure Pulse where
  startClk : Nat
  width : Nat
  amp : Nat
  sweep : Bool
  deriving DecidableEq, Repr

/-- One drive channel (R92–R119). `slew` and `pe` are the values in force; the registers hold the values written (R13). -/
structure Chan where
  kind : Nat := 15
  role : Nat := 0
  range : Nat := 0
  codeMin : Nat := 0
  codeMax : Nat := 0
  /-- index of the element the channel serves: cell, or auxiliary number -/
  elem : Nat := 0
  active : Nat := 0
  next : Nat := 0
  r : Nat := 0
  cnt : Nat := 0
  x : Nat := 0
  dac : Nat := 0
  acc : BitVec 32 := 0
  accOn : Bool := false
  queue : List Nat := []
  drt : Int := 0
  gated : Bool := false
  brzEn : Bool := false
  tone : Nat := 0x3F
  amp : Nat := 0
  /-- working amplitude that the next rising zero crossing brings in (R217) -/
  ampNext : Nat := 0
  gain : Nat := 0x4000
  offset : Int := 0
  holdL : Nat := 0
  holdD : Nat := 0
  /-- the park register of the keeper (R531): logical code and DAC code -/
  parkL : Nat := 0
  parkD : Nat := 0
  slew : Word := 0x00400001
  pe : Word := 0
  pulse : Option Pulse := none
  /-- clock of the last change of the DAC code (R89) -/
  chgClk : Nat := 0
  /-- spare index serving this primary's element, or primary index served by this spare (R118 PARTNER) -/
  partner : Option Nat := none
  deriving DecidableEq, Repr

/-- Tracking of a spare entry that is PEND (R108): the clock its 64 ticks began, whether it is a release, and the SPARE_MAP
that waits on it. -/
structure SpareTrack where
  release : Bool
  startG : Option Nat
  ready : Bool
  cmd : Option Cmd
  late : Bool
  deriving DecidableEq, Repr

/-- Drive state beside its registers. -/
structure DrvSt where
  chans : List (Nat × Chan)
  /-- tracking of drive spare entries, keyed tile × 12 + j -/
  track : List (Nat × SpareTrack)
  /-- every channel is in hold (R104) or drives the park image (R105) -/
  held : Bool
  parked : Bool
  /-- a release of Thimble's safe state, or of the gap's hold, is due on the next update tick (R106, R428, R534) -/
  relThimble : Bool
  relGap : Bool
  deriving DecidableEq, Repr

end Sys2Proof.Machine
end

