-- ==== Sys2Proof/Machine/HostParts.lean ====
section
/-! DEFINITION. State of one control unit's host-link island: its link, its functions with their queues (R334–R384), the
commands in flight and the timed commands it holds. -/
namespace Sys2Proof.Machine

/-- A command in flight (R368): from the grant that accepts it until its record has been written. -/
structure Flight where
  func : Nat
  sq : Nat
  tag : Nat
  desc : List Byte
  /-- accepted but not yet started; a started command is executing or held -/
  started : Bool
  deriving DecidableEq, Repr

/-- A completion record not yet written (R365): its function, its CQ's SQ and its 32 bytes without phase and DEP_NS. -/
structure CqRec where
  sq : Nat
  tag : Nat
  status : Nat
  op : Nat
  flags : Nat
  intOn : Bool
  evt : Nat
  r0 : Nat
  r1 : Nat
  r2 : Nat
  r3 : Nat
  deriving DecidableEq, Repr

/-- An event record (R416) before its ring position is known. -/
structure EvRec where
  cls : Nat
  typ : Nat
  flags : Nat
  eseq : Nat
  evt : Nat
  p0 : Nat
  p1 : Nat
  p2 : Nat
  p3 : Nat
  deriving DecidableEq, Repr

/-- A submission queue's engine state (R357–R375). Counts are free-running. -/
structure Sq where
  head : Nat := 0
  tail : Nat := 0
  /-- fetched descriptors waiting for arbitration, oldest first -/
  fetched : List (List Byte) := []
  fetchFails : Nat := 0
  startTag : Nat := 0
  finTag : Nat := 0
  eligible : Bool := false
  /-- levels of the command and the Gust bucket, in millionths (R375) -/
  cBucket : Nat := 0
  gBucket : Nat := 0
  /-- a fence or a chain holds the queue: tag of the command waited for, and whether the chain is broken -/
  chainTag : Option Nat := none
  chainLen : Nat := 0
  chainBroken : Bool := false
  deriving DecidableEq, Repr

/-- A completion queue's engine state (R364, R365, R382). -/
structure Cq where
  tail : Nat := 0
  head : Nat := 0
  phase : Bool := true
  wait : List CqRec := []
  pendCount : Nat := 0
  pendSince : Option Nat := none
  deriving DecidableEq, Repr

/-- The event queue's engine state (R366, R376). -/
structure Eq' where
  tail : Nat := 0
  head : Nat := 0
  phase : Bool := true
  lostOwed : Bool := false
  pendCount : Nat := 0
  pendSince : Option Nat := none
  deriving DecidableEq, Repr

/-- A telemetry ring's engine state (R359, R367). -/
structure Tr where
  tail : Nat := 0
  head : Nat := 0
  pendCount : Nat := 0
  pendSince : Option Nat := none
  deriving DecidableEq, Repr

/-- One function of a unit (R338): its queues, its poll state, its arbitration tags and its MSI-X state (R343). -/
structure Fn where
  copy : Nat := 0
  pollFails : Nat := 0
  halted : Bool := false
  d3 : Bool := false
  sqs : List (Nat × Sq) := []
  cqs : List (Nat × Cq) := []
  eq : Eq' := {}
  trs : List (Nat × Tr) := []
  vtime : Nat := 0
  startTag : Nat := 0
  finTag : Nat := 0
  eligible : Bool := false
  /-- event records waiting while the function is in D3hot (R347); completion records wait in their CQ -/
  evWait : List EvRec := []
  msixFnMask : Bool := false
  msixMask : Nat := 2 ^ 64 - 1
  msixPend : Nat := 0
  /-- the MSI-X table's message words by word number (R340): address low and high, data -/
  msixTab : List (Nat × Nat) := []
  deriving DecidableEq, Repr

/-- A timed command a unit holds other than a Gust (R287): its descriptor, its action time in ns, and its order of acceptance. -/
structure Timed where
  cmd : Cmd
  op : Nat
  due : Nat
  late : Bool
  deriving DecidableEq, Repr

/-- Power state of a unit's core: off (island only, R334), switched on and booting since a clock, or running firmware. -/
inductive Core where
  | off
  | booting (since : Nat)
  | running
  deriving DecidableEq, Repr

end Sys2Proof.Machine
end

