-- ==== Sys2Proof/Machine/LateParts.lean ====
section
/-! DEFINITION. State of the stacked memory and scratchpads (R471–R504), the data movers (R505–R521), the temperature round (R546–R567) and the
trust functions (R589–R612). -/
namespace Sys2Proof.Machine

/-- A remap to be committed to the repair fuses (R487): of a row by its number, to a spare row, or of a bank by its number. -/
inductive Remap where
  | row (id spare : Nat)
  | bank (id : Nat)
  deriving DecidableEq, Repr

/-- Stacked memory beside its registers. A row is numbered ((stack × 16 + channel) × 32 + bank) × 65,536 + row, a bank without the row. -/
structure MemSt where
  /-- bytes of DRAM that no other part of the state holds, by internal address -/
  dram : List Host.Cell
  /-- the number a change of SIZE drew: what the user region holds where nothing has been written since is open (R477) -/
  userFree : Option Nat
  /-- metadata of a line by line address / 64: VERSION + 2¹⁶ OWNER + 2²⁴ FLAGS (R479) -/
  meta_ : List (Nat × Nat)
  /-- clocks of the corrected codewords of a row and of the uncorrectable ones of a bank (R485, R486) -/
  rowCe : List (Nat × List Nat)
  bankUe : List (Nat × List Nat)
  /-- rows remapped and their spare row; channels (stack × 16 + channel) and the bank their spare bank serves -/
  spareRows : List (Nat × Nat)
  spareBanks : List (Nat × Nat)
  /-- copies that run or wait, oldest first -/
  rowCopy : List Nat
  bankCopy : List Nat
  fuses : List Remap
  /-- remaps the stack's own fuses hold: they outlive the supply -/
  fused : List Remap
  deriving DecidableEq, Repr

/-- A unit's scratchpads beside their registers: bytes by address in the window; banks whose power state is being changed;
retirements that run, with their pool bank, and those that wait for the bank to be ON (R494–R499). -/
structure SpSt where
  bytes : List Host.Cell := []
  change : List Nat := []
  retiring : List (Nat × Nat) := []
  retireWait : List Nat := []
  deriving DecidableEq, Repr

/-- A hardware request (R515): its source (1 result queues, 2 recorder), the queue, function, host destination and bytes; of a queue's beats, their G. -/
structure DmReq where
  src : Nat
  queue : Nat
  func : Nat
  dst : Nat
  data : List Byte
  gs : List Nat
  deriving DecidableEq, Repr

/-- A transfer that holds a data-mover channel (R507–R516): its MOVE until that completes, the function and spaces of its addresses, or its hardware
request; bytes written; failures of the present burst and the clock at which it is issued again; and its state. -/
structure DmChan where
  cmd : Option Cmd := none
  func : Nat := 0
  srcHost : Bool := false
  dstHost : Bool := false
  hw : Option DmReq := none
  moved : Nat := 0
  tries : Nat := 0
  retryAt : Option Nat := none
  paused : Bool := false
  halted : Bool := false
  /-- END was written: the transfer ends once it is drained (R521) -/
  ending : Bool := false
  deriving DecidableEq, Repr

/-- Thermal judgement of one domain (R554, R556): direction counted (1 rising, 2 falling), the states the rounds counted called for, rounds counted
towards a deeper level, and the domain's own level. -/
structure ThmDom where
  dir : Nat := 0
  us : List Nat := []
  deep : Nat := 0
  level : Nat := 0
  deriving DecidableEq, Repr

/-- The housekeeping round beside its registers: the next slot; last readings of the PIC diodes by sense pad; rounds each diode has been off its median
(PIC diodes at 144 + pad); the domains, 0 base, 1 CU-A, 2 CU-B; the injected conversion that is pending, with whether a run was BUSY when it was asked
for; THM_CTRL as the last round end took it; and each unit's effective clock in eighths (R557). -/
structure ThmSt where
  slot : Nat
  pic : List (Nat × Int)
  off : List (Nat × Nat)
  doms : List (Nat × ThmDom)
  inj : Option (Nat × Bool)
  ctl : Nat
  fA : Nat
  fB : Nat
  deriving DecidableEq, Repr

/-- Use of the flash port (R597, R599, R600, R591). -/
inductive FlashJob where
  | activate (c : Cmd) (bank : Nat) (units : Nat)
  | enrol (u : Cu) (key diag : List Byte) (flags : Nat)
  | floor (u : Cu) (value : Nat)
  deriving DecidableEq, Repr

/-- The fuses, the boot record and the flash (R589–R600), all of which outlive every reset, and the failures of R607. -/
structure SecSt where
  vendorKey : List Byte
  ownerKey : List Byte
  diagVendor : List Byte
  diagOwner : List Byte
  ownerFlags : Nat
  floor : Nat
  fuseErr : Bool
  /-- consecutive failures, and the clock until which attempts are refused -/
  fails : Nat
  lockUntil : Nat
  primaryA : Nat
  primaryB : Nat
  bankInvalid : Nat
  recSeq : Nat
  /-- header bytes of the image of each bank, where the device has seen it -/
  banks : List (Nat × List Byte)
  /-- the staging area: header of the image, its length, and the code its check gave -/
  staged : Option (List Byte × Nat × Nat)
  flash : Option FlashJob
  deriving DecidableEq, Repr

/-- Trust state of one unit (R595, R606–R609): its SEC_BUF, the nonce's scope and clock, the running image's header. -/
structure SecUnit where
  buf : List Host.Cell := []
  nonce : Option (Nat × Nat) := none
  running : List Byte := []
  deriving DecidableEq, Repr

/-- An ATTEST that waits for its hash of the coupling table (R603), with its unit's bank measurements as its completion needs them. -/
structure Attest where
  cmd : Cmd
  deriving DecidableEq, Repr

end Sys2Proof.Machine
end

