-- ==== Sys2Proof/Machine/LoopParts.lean ====
section
/-! DEFINITION. State of the element loops and Squall (R215–R245), Draught (R246–R269) and calibration (R304–R333). -/
namespace Sys2Proof.Machine

/-- A loop beside what a saved-state image holds (R221–R228): usable results since the last instant, requests waiting for the next
instant, whether e_prev is still to be taken, the last error, and whether the present saturation run has been reported. -/
structure LoopCell where
  st : CellSt := {}
  hasLoop : Bool := false
  cls : Nat := 0
  n : Nat := 0
  modeReq : Option Nat := none
  lightReq : Option Nat := none
  presetDue : Bool := false
  fresh : Bool := true
  lastE : Int := 0
  satRep : Bool := false
  deriving DecidableEq, Repr

/-- One cell of a Squall run (R235, R236): base code, level, instants, rising switches, extremes of e over the measured cycles. -/
structure SqCell where
  cell : Nat
  prevMode : Nat
  b : Nat
  level : Int
  inst : Nat
  rises : List Nat
  lo : Int
  hi : Int
  /-- 0 running, else the RESULT of R241 -/
  result : Nat
  tu16 : Nat
  amp : Nat
  deriving DecidableEq, Repr

/-- A Squall run (R235–R237). `started` once the loop instant that begins it has come. -/
structure Squall where
  cls : Nat
  h : Nat
  cells : List SqCell
  started : Bool
  cmd : Option Cmd
  late : Bool
  deriving DecidableEq, Repr

/-- A LOOP_SET with HOLD_WRAP in progress (R231, R232): 0 hold asked for, 1 hold in force and registers written, 2 release asked for. -/
structure Wrap where
  cmd : Cmd
  cls : Nat
  late : Bool
  stage : Nat
  held : Bool
  deriving DecidableEq, Repr

/-- An output computed at a loop instant, to be applied (R218): cell, arm and code. -/
structure LoopOut where
  cell : Nat
  arm : Nat
  code : Nat
  deriving DecidableEq, Repr

/-- Loop state beside its registers. -/
structure LoopSt where
  cells : List (Nat × LoopCell)
  /-- class registers in force, by register key (R230) -/
  clsVals : List (Nat × Word)
  outs : List LoopOut
  /-- grid index at which `outs` become active -/
  outAt : Nat
  squall : Option Squall
  wraps : List Wrap
  /-- grid index of the last loop instant carried out (R218) -/
  instAt : Option Nat
  /-- commands of LOOP_MODE that complete at the next loop instant -/
  modeCmds : List (Cmd × Bool)
  deriving DecidableEq, Repr

/-- A coupling run in progress (R264): its command, and the sources it covers. -/
structure Coupling where
  cmd : Cmd
  sources : List Nat
  aborted : List Nat
  /-- targets held MANUAL, with their modes before the run -/
  modes : List (Nat × Nat)
  deriving DecidableEq, Repr

/-- A change of a control unit's power since the last housekeeping round (R253): unit, clock, change in mW. -/
structure CuStep where
  unit : Cu
  at_ : Nat
  dP : Int
  deriving DecidableEq, Repr

/-- Draught state beside its registers: the coupling table by index (offset in the table over 2), the tile temperatures of the last four
rounds with their clocks, and the power changes since. -/
structure DrtSt where
  coeff : List (Nat × Int)
  rounds : List (Nat × List Int)
  cuSteps : List CuStep
  coupling : Option Coupling
  hashing : Option Nat
  deriving DecidableEq, Repr

/-- A stored value with its temperature in 0.01 °C (R316, R326). -/
structure Knot where
  gain : Nat
  offset : Int
  t : Int
  deriving DecidableEq, Repr

/-- The working values of one cell in one record (R326): W for trims A and B in bar and in cross, ON, their temperatures, active arms and
valid bits. -/
structure CellCal where
  wBar : Nat × Nat
  wCross : Nat × Nat
  on : Nat
  tBar : Int
  tCross : Int
  tOn : Int
  armBar : Bool
  armCross : Bool
  valid : Nat
  deriving DecidableEq, Repr

/-- One record of the live store (R326, R327). -/
structure CalRec where
  gen : Nat := 0
  g : Nat := 0
  sec : Nat := 0
  ns : Nat := 0
  refV : Nat := 0
  refR : Nat := 0
  dac : List (Nat × Knot) := []
  drv : List (Nat × Knot) := []
  mon : List (Nat × Knot) := []
  cells : List (Nat × CellCal) := []
  /-- port sides by port + 2¹⁵ for an output side: K and temperature -/
  ports : List (Nat × Nat × Int) := []
  deriving DecidableEq, Repr

/-- A calibration run in progress (R306). -/
structure CalRun where
  cmd : Cmd
  deriving DecidableEq, Repr

/-- A characterisation table or sweep in progress (R323–R325): its command, its cells and their modes before it. A table adds its bytes, the next
entry, executions of it done, ticks to wait, results still to take and their lane, results written and lost, whether a GAP is owed, loops
done, and how it ended: 0 running, 1 at its loop count, 2 for a full buffer. -/
structure CharRun where
  cmd : Cmd
  kind : Nat
  cells : List Nat
  modes : List (Nat × Nat)
  table : List Byte := []
  pos : Nat := 0
  rep : Nat := 0
  wait : Nat := 0
  samp : Nat := 0
  fast : Bool := false
  chan : Nat := 0
  count : Nat := 0
  lost : Nat := 0
  gap : Bool := false
  loops : Nat := 0
  ended : Nat := 0
  deriving DecidableEq, Repr

/-- Calibration state beside its registers: the values in force and the live store in DRAM, by 9 × tile + slot; whether a set is pending, with
its digest; and the history ring. -/
structure CalSt where
  store : List (Nat × CalRec)
  live : List (Nat × CalRec)
  pend : Bool
  pendDigest : List Byte
  /-- tiles with a correction update pending, and the temperature it was formed at -/
  upd : List (Nat × Int)
  hist : List (Nat × (Nat × CalRec))
  run : Option CalRun
  char : Option CharRun
  idleSince : Option Nat
  /-- MON_CORR to be taken on the next fine-lane instant (R322) -/
  monDue : Bool
  /-- a calibration set has come into force since the cold reset (R133 UNCAL, R186) -/
  everInForce : Bool
  /-- a schedule cycle boundary is due for correction updates (R321) -/
  cycleDue : Bool
  deriving DecidableEq, Repr

end Sys2Proof.Machine
end

