-- ==== Sys2Proof/Machine/MonParts.lean ====
section
/-! DEFINITION. State of the monitor channels, port sides and result queues (R123–R157), the route cache and solvers
(R158–R182), the shadow store and its Gusts (R183–R214). -/
namespace Sys2Proof.Machine

/-- One monitor channel (R123–R155): the settings in force, its element, the counts of flagged results still to come, the run of low
results of autorange, and its last results. -/
structure Mon where
  kind : Nat := 15
  role : Nat := 0
  /-- cell of a tap, port of an edge monitor, number of an auxiliary one -/
  elem : Nat := 0
  gain : Nat := 0
  filt : Bool := false
  auto : Bool := false
  /-- MON_CFG bits 11:8 as written, until the fine-lane instant that takes them (R155) -/
  req : Option Nat := none
  lowRun : Nat := 0
  setFast : Nat := 0
  setFine : Nat := 0
  /-- the counts running follow a substitution (R136 SUBST) -/
  subst : Bool := false
  fast : Int := 0
  fastFl : Nat := 0
  fine : Int := 0
  fineFl : Nat := 0
  /-- a gain step of autorange due at the next fine-lane instant (R137) -/
  step : Int := 0
  partner : Option Nat := none
  deriving DecidableEq, Repr

/-- The counts of one port side towards entering and leaving loss of light (R150). -/
structure Side where
  on : Nat := 0
  off : Nat := 0
  deriving DecidableEq, Repr

/-- One result as a queue stores it (R134), with the clock it arrived on. -/
structure MonRes where
  tag : Nat
  value : Int
  g : Nat
  at_ : Nat
  deriving DecidableEq, Repr

/-- A result queue (R142–R145): its stored results, instants counted since EN, and whether the next result carries GAP. -/
structure RQ where
  store : List MonRes := []
  count : Nat := 0
  gapOwed : Bool := false
  /-- it has asked its data-mover channel to move (R144) -/
  asked : Bool := false
  deriving DecidableEq, Repr

/-- A manual injection in a tile (R139): the monitor index, from which clock the current flows and, once ended, until which clock it flowed. -/
structure Inj where
  index : Nat
  fromClk : Nat
  untilClk : Option Nat
  deriving DecidableEq, Repr

/-- A substitution of a monitor channel being prepared (R146). -/
structure MonTrack where
  release : Bool
  ready : Bool
  cmd : Option Cmd
  late : Bool
  /-- a Lull has ended since READY: the switch falls on the next fine-lane instant -/
  due : Bool
  deriving DecidableEq, Repr

/-- Monitor state beside its registers. -/
structure MonSt where
  /-- channels by number tile × 96 + index -/
  chans : List (Nat × Mon)
  /-- port sides by 2 × port + 1 for the output side -/
  sides : List (Nat × Side)
  queues : List (Nat × RQ)
  inj : List (Nat × Inj)
  track : List (Nat × MonTrack)
  /-- a diagnosis in progress: its MODE -/
  diag : Option Nat
  /-- grid index of the last fine-lane instant carried out (R130) -/
  fineAt : Option Nat
  /-- a calibration set has reached the monitors: results no longer carry UNCAL (R135) -/
  calSeen : Bool
  /-- the queue whose turn at the data mover comes next (R515) -/
  turn : Nat
  deriving DecidableEq, Repr

/-! ### Routes -/

/-- A route-cache entry (R169); PAR is as R170 defines it, so a stored entry carries it implicitly. -/
structure RteEntry where
  hash : Nat
  epoch : Nat
  ports : Nat
  flushGen : Nat
  age : Nat
  sgen : Bool
  detour : Bool
  repaired : Bool
  shift : Nat
  cand : Nat
  steps : Nat
  map : List Byte
  vec : Nat
  deriving DecidableEq, Repr

/-- What a solve or a hit gives (R158, R165). -/
structure RteResult where
  verdict : Nat
  vec : Nat
  shift : Nat
  cand : Nat
  steps : Nat
  detour : Bool
  hit : Bool
  constrained : Nat
  epoch : Nat
  deriving DecidableEq, Repr

/-- A result that waits to be inserted (R173): the map, the epoch its solve started at, and whether the insert is wanted. -/
structure RteInsert where
  map : List Byte
  res : RteResult
  deriving DecidableEq, Repr

/-- Route-cache state beside its registers: entries by 4 × bucket + way. -/
structure RteSt where
  table : List (Nat × RteEntry)
  insA : List RteInsert
  insB : List RteInsert
  ageDue : Nat
  deriving DecidableEq, Repr

/-! ### Slots and Gusts -/

/-- One arm of a trajectory (R251, R256). -/
structure Arm where
  cell : Nat
  arm : Nat
  changed : Bool
  slope : Int
  peak : Nat
  pts : List Int
  /-- the source of the largest class 2 contribution: actuator, list entry and Δu (R267) -/
  top : Option (Nat × Nat × Int)
  deriving DecidableEq, Repr

/-- A Draught trajectory record (R255, R256). -/
structure Traj where
  dropped : Nat
  clipped : Nat
  sources : Nat
  tgen : Nat
  originSlot : Nat
  originBgen : Nat
  slot : Nat
  bgen : Nat
  tBaste : List Int
  arms : List Arm
  /-- which 1 MiB half of the slot's area it lies in (R257) -/
  half : Bool
  deriving DecidableEq, Repr

/-- One slot of the shadow store (R183–R185). -/
structure Slot where
  st : Nat := 0
  epoch : Nat := 0
  bgen : Nat := 0
  flags : Nat := 0
  originSlot : Nat := 0xFFFF
  originBgen : Nat := 0
  calset : Nat := 0
  cellsChanged : Nat := 0
  sec : Nat := 0
  ns : Nat := 0
  vec : Nat := 0
  map : List Byte := []
  img : List Nat := []
  traj : Option Traj := none
  deriving DecidableEq, Repr

/-- What a Baste writes when it completes (R187): slot, content, status, CFLAGS, verdict, steps and a stuck cell. -/
structure BasteWork where
  slot : Nat
  new : Slot
  status : Nat
  flags : Nat
  verdict : Nat
  steps : Nat
  stuck : Option Nat
  deriving DecidableEq, Repr

/-- A Baste in hand (R187); one accepted behind another has no work yet. -/
structure Baste where
  cmd : Cmd
  data : HostData
  badWays : List Nat
  work : Option BasteWork
  deriving DecidableEq, Repr

/-- Who asks for a Gust (R193, R194). -/
inductive GustSrc where
  | desc (c : Cmd)
  | sched
  | pin (i : Nat)
  /-- the slot a pin keeps armed, with no edge yet (R197) -/
  | keep (i : Nat)
  deriving DecidableEq, Repr

/-- A Gust that has been accepted and not yet fired: source, slot, kind, trigger clock of a pin Gust or a schedule entry (a descriptor's
follows its action time in ns, zero for at once), whether it is executing late. -/
structure GustReq where
  src : GustSrc
  slot : Nat
  partl : Bool
  /-- action time in ns; none for a trigger as soon as it is armed -/
  due : Option Nat
  late : Bool
  /-- of a deferred Gust: its first trigger instant D, ns, and the edge its preload waits for (R296) -/
  deferFrom : Option Nat := none
  deferEdge : Nat := 0
  /-- clock of a pin Gust's compensated edge (R197); of a schedule Gust, its entry plus one -/
  edgeClk : Nat := 0
  deriving DecidableEq, Repr

/-- A preload that runs, or the armed slot once it has ended (R193). -/
structure Preload where
  req : GustReq
  startClk : Nat
  /-- tile temperatures formed at the start (R253), 2⁻¹⁶ °C -/
  tnow : List Int
  noDraught : Bool
  stale : Bool
  calOld : Bool
  deriving DecidableEq, Repr

/-- A Gust taken whose verification is not final (R199–R204). -/
structure Verify where
  req : GustReq
  d : Nat
  seq : Nat
  partl : Bool
  cells : Nat
  /-- grid index of the next instant to judge at -/
  vAt : Nat
  /-- reverification instants left, and whether V has been judged -/
  left : Nat
  judged : Bool
  everFailed : Bool
  /-- changed outputs of the new map: output, its input, and its last loss L -/
  ports : List (Nat × Nat × Int)
  changed : List Nat
  /-- GST_CTRL, GST_VLOSS and GST_VFLOOR as they were at the trigger -/
  ctrl : Word
  vloss : Word
  vfloor : Word
  /-- whether any channel changed -/
  moved : Bool
  /-- CFLAGS of the completion (R391) -/
  cflags : Nat
  deriving DecidableEq, Repr

/-- A Lull (R205–R207): where it began, when it ends, whether it is null, and the trajectory being replayed. -/
structure Lull where
  d : Nat
  endClk : Nat
  null : Bool
  slot : Nat
  seq : Nat
  len : Nat
  /-- arms with their channel, offset and points; the point in force -/
  play : Option Traj
  /-- the trajectory this Lull replays or has replayed (R267) -/
  played : Option Traj
  point : Nat
  /-- offset of each played arm (R258) and the LIMIT in force at the trigger -/
  offs : List Int
  lim : Nat
  /-- int(I) of every folded arm's cell as the fold left it (R267) -/
  iFold : List (Nat × Int)
  /-- int(I) of every played arm's cell at the trigger, after any preset (R267) -/
  iAt : List (Nat × Int)
  counted : List (Nat × Nat)
  /-- outputs whose path the Gust changed: not judged for loss of light (R149) -/
  outs : List Nat
  deriving DecidableEq, Repr

/-- Gust state beside its registers. -/
structure GstSt where
  slots : List (Nat × Slot)
  basteA : List Baste
  basteB : List Baste
  /-- timed and waiting descriptor Gusts, oldest first -/
  reqs : List GustReq
  /-- pin Gusts whose slot is being preloaded -/
  pins : List GustReq
  pre : Option Preload
  armed : Option Preload
  verify : Option Verify
  lull : Option Lull
  /-- the vector the active image drives -/
  activeVec : Nat
  /-- the drive image being driven, codes in the order 3c + kind (R191) -/
  activeImg : List Nat
  activeMap : List (Nat × Nat)
  /-- clock of each pin's last trigger, and of its pending edge -/
  pinLast : List (Nat × Nat)
  deriving DecidableEq, Repr

end Sys2Proof.Machine
end

