-- ==== Sys2Proof/Machine/Regs.lean ====
section
/-! DEFINITION. The register map: one address constant and one row for every register of the spec's register tables, with
the bits a write may change (RW and RWS fields), the bits locked while the block is enabled (RWL), the bits cleared by
writing 1 (W1C) and the value after a cold reset (R11). Keys: a base register or tile register has its BAR0 offset; a unit
register has 0x100_0000 × (1 + unit) + its offset in the unit's own space (R340). -/
namespace Sys2Proof.Machine

/-- The key of offset `off` in the own register space of unit `u`. -/
@[reducible] def unitKey (u : Cu) (off : Nat) : Nat := 0x1000000 * (1 + u.num) + off

namespace Reg

/-- FAB_CTRL (R40/R41). -/
@[reducible] def FAB_CTRL : Nat := 0x100000
/-- FAB_STATUS (R42). -/
@[reducible] def FAB_STATUS : Nat := 0x100004
/-- FAB_SRC_LO (R40). -/
@[reducible] def FAB_SRC_LO : Nat := 0x100008
/-- FAB_SRC_HI (R40). -/
@[reducible] def FAB_SRC_HI : Nat := 0x10000c
/-- FAB_LEN (R40). -/
@[reducible] def FAB_LEN : Nat := 0x100010
/-- FAB_ERR_CODE (R40). -/
@[reducible] def FAB_ERR_CODE : Nat := 0x100014
/-- FAB_ERR_OFFSET (R40). -/
@[reducible] def FAB_ERR_OFFSET : Nat := 0x100018
/-- FAB_GEOM (R43). -/
@[reducible] def FAB_GEOM : Nat := 0x10001c
/-- FAB_CELLS (R43). -/
@[reducible] def FAB_CELLS : Nat := 0x100020
/-- FAB_EPOCH (R53). -/
@[reducible] def FAB_EPOCH : Nat := 0x100024
/-- FAB_HEALTH_CTRL (R51). -/
@[reducible] def FAB_HEALTH_CTRL : Nat := 0x100028
/-- FAB_HASH (R48). -/
@[reducible] def FAB_HASH (i : Nat) : Nat := 0x100040 + 0x4 * i
/-- FAB_HEALTH (R50). -/
@[reducible] def FAB_HEALTH (i : Nat) : Nat := 0x101000 + 0x4 * i
/-- SITE_CTRL (R76). -/
@[reducible] def SITE_CTRL : Nat := 0x102000
/-- SITE_STATUS (R77). -/
@[reducible] def SITE_STATUS : Nat := 0x102004
/-- SITE_PD_BIAS (R76). -/
@[reducible] def SITE_PD_BIAS : Nat := 0x102008
/-- SITE_CHECK_CTRL (R78). -/
@[reducible] def SITE_CHECK_CTRL : Nat := 0x10200c
/-- SITE_RES_LO (R76). -/
@[reducible] def SITE_RES_LO : Nat := 0x102010
/-- SITE_RES_HI (R76). -/
@[reducible] def SITE_RES_HI : Nat := 0x102014
/-- SITE_CNT0 (R76). -/
@[reducible] def SITE_CNT0 : Nat := 0x102018
/-- SITE_CNT1 (R76). -/
@[reducible] def SITE_CNT1 : Nat := 0x10201c
/-- SITE_CNT2 (R76). -/
@[reducible] def SITE_CNT2 : Nat := 0x102020
/-- SITE_FIRST (R76). -/
@[reducible] def SITE_FIRST : Nat := 0x102024
/-- DRV_TSUM_LO (R121). -/
@[reducible] def DRV_TSUM_LO : Nat := 0x103000
/-- DRV_TSUM_HI (R121). -/
@[reducible] def DRV_TSUM_HI : Nat := 0x103004
/-- DRV_BRZ_INC (R100/R121). -/
@[reducible] def DRV_BRZ_INC (i : Nat) : Nat := 0x103100 + 0x4 * i
/-- DRV_TCTRL (R114). -/
@[reducible] def DRV_TCTRL (i : Nat) : Nat := 0x800000 + 0x20000 * i
/-- DRV_STATUS (R115). -/
@[reducible] def DRV_STATUS (i : Nat) : Nat := 0x800004 + 0x20000 * i
/-- DRV_TCNT (R113). -/
@[reducible] def DRV_TCNT (i : Nat) : Nat := 0x800008 + 0x20000 * i
/-- DRV_SPARE (R116). -/
@[reducible] def DRV_SPARE (i j : Nat) : Nat := 0x800010 + 0x20000 * i + 0x4 * j
/-- DRV_CFG (R118). -/
@[reducible] def DRV_CFG (i j : Nat) : Nat := 0x800400 + 0x20000 * i + 0x40 * j
/-- DRV_LIMIT (R117). -/
@[reducible] def DRV_LIMIT (i j : Nat) : Nat := 0x800404 + 0x20000 * i + 0x40 * j
/-- DRV_ACTIVE (R117). -/
@[reducible] def DRV_ACTIVE (i j : Nat) : Nat := 0x800408 + 0x20000 * i + 0x40 * j
/-- DRV_NEXT (R117). -/
@[reducible] def DRV_NEXT (i j : Nat) : Nat := 0x80040c + 0x20000 * i + 0x40 * j
/-- DRV_HOLD (R117). -/
@[reducible] def DRV_HOLD (i j : Nat) : Nat := 0x800410 + 0x20000 * i + 0x40 * j
/-- DRV_OUT (R117). -/
@[reducible] def DRV_OUT (i j : Nat) : Nat := 0x800414 + 0x20000 * i + 0x40 * j
/-- DRV_SLEW (R119). -/
@[reducible] def DRV_SLEW (i j : Nat) : Nat := 0x800418 + 0x20000 * i + 0x40 * j
/-- DRV_PE (R119). -/
@[reducible] def DRV_PE (i j : Nat) : Nat := 0x80041c + 0x20000 * i + 0x40 * j
/-- DRV_BRZ (R119). -/
@[reducible] def DRV_BRZ (i j : Nat) : Nat := 0x800420 + 0x20000 * i + 0x40 * j
/-- DRV_PHASE (R117). -/
@[reducible] def DRV_PHASE (i j : Nat) : Nat := 0x800424 + 0x20000 * i + 0x40 * j
/-- DRV_CORR (R117). -/
@[reducible] def DRV_CORR (i j : Nat) : Nat := 0x800428 + 0x20000 * i + 0x40 * j
/-- DRV_DRT (R117). -/
@[reducible] def DRV_DRT (i j : Nat) : Nat := 0x80042c + 0x20000 * i + 0x40 * j
/-- DRV_QUEUE (R117). -/
@[reducible] def DRV_QUEUE (i j : Nat) : Nat := 0x800430 + 0x20000 * i + 0x40 * j
/-- DRV_QSTAT (R120). -/
@[reducible] def DRV_QSTAT (i j : Nat) : Nat := 0x800434 + 0x20000 * i + 0x40 * j
/-- MON_TCTRL (R152). -/
@[reducible] def MON_TCTRL (i : Nat) : Nat := 0x804000 + 0x20000 * i
/-- MON_STATUS (R153). -/
@[reducible] def MON_STATUS (i : Nat) : Nat := 0x804004 + 0x20000 * i
/-- MON_TCNT (R152). -/
@[reducible] def MON_TCNT (i : Nat) : Nat := 0x804008 + 0x20000 * i
/-- MON_SPARE (R152/R116). -/
@[reducible] def MON_SPARE (i j : Nat) : Nat := 0x804010 + 0x20000 * i + 0x4 * j
/-- MON_INJ (R152). -/
@[reducible] def MON_INJ (i : Nat) : Nat := 0x804020 + 0x20000 * i
/-- MON_CFG (R155). -/
@[reducible] def MON_CFG (i j : Nat) : Nat := 0x804400 + 0x20000 * i + 0x20 * j
/-- MON_FAST (R154). -/
@[reducible] def MON_FAST (i j : Nat) : Nat := 0x804404 + 0x20000 * i + 0x20 * j
/-- MON_FINE (R154). -/
@[reducible] def MON_FINE (i j : Nat) : Nat := 0x804408 + 0x20000 * i + 0x20 * j
/-- MON_CORR0 (R154). -/
@[reducible] def MON_CORR0 (i j : Nat) : Nat := 0x80440c + 0x20000 * i + 0x20 * j
/-- MON_CORR1 (R154). -/
@[reducible] def MON_CORR1 (i j : Nat) : Nat := 0x804410 + 0x20000 * i + 0x20 * j
/-- MON_CORR2 (R154). -/
@[reducible] def MON_CORR2 (i j : Nat) : Nat := 0x804414 + 0x20000 * i + 0x20 * j
/-- MON_CORR3 (R154). -/
@[reducible] def MON_CORR3 (i j : Nat) : Nat := 0x804418 + 0x20000 * i + 0x20 * j
/-- MON_CSTAT (R154). -/
@[reducible] def MON_CSTAT (i j : Nat) : Nat := 0x80441c + 0x20000 * i + 0x20 * j
/-- MON_GRID_LO (R156). -/
@[reducible] def MON_GRID_LO : Nat := 0x104000
/-- MON_GRID_HI (R156). -/
@[reducible] def MON_GRID_HI : Nat := 0x104004
/-- MON_GCTRL (R156). -/
@[reducible] def MON_GCTRL : Nat := 0x104008
/-- MON_GSTAT (R156). -/
@[reducible] def MON_GSTAT : Nat := 0x10400c
/-- MON_GPHASE (R156). -/
@[reducible] def MON_GPHASE : Nat := 0x104010
/-- MON_DIAG_CTRL (R156). -/
@[reducible] def MON_DIAG_CTRL : Nat := 0x104014
/-- MON_DIAG_STATUS (R156). -/
@[reducible] def MON_DIAG_STATUS : Nat := 0x104018
/-- MON_TSUM_LO (R156). -/
@[reducible] def MON_TSUM_LO : Nat := 0x104020
/-- MON_TSUM_HI (R156). -/
@[reducible] def MON_TSUM_HI : Nat := 0x104024
/-- MON_RQ_CTRL (R156). -/
@[reducible] def MON_RQ_CTRL (i : Nat) : Nat := 0x104100 + 0x20 * i
/-- MON_RQ_WM (R156). -/
@[reducible] def MON_RQ_WM (i : Nat) : Nat := 0x104104 + 0x20 * i
/-- MON_RQ_STATUS (R156). -/
@[reducible] def MON_RQ_STATUS (i : Nat) : Nat := 0x104108 + 0x20 * i
/-- MON_RQ_DROPS (R156). -/
@[reducible] def MON_RQ_DROPS (i : Nat) : Nat := 0x10410c + 0x20 * i
/-- MON_RQ_MAP (R156). -/
@[reducible] def MON_RQ_MAP (i j : Nat) : Nat := 0x105000 + 0x300 * i + 0x4 * j
/-- MON_PORT_CFG (R156). -/
@[reducible] def MON_PORT_CFG (i : Nat) : Nat := 0x108000 + 0x20 * i
/-- MON_PORT_DWELL (R156). -/
@[reducible] def MON_PORT_DWELL (i : Nat) : Nat := 0x108004 + 0x20 * i
/-- MON_PORT_K (R156). -/
@[reducible] def MON_PORT_K (i : Nat) : Nat := 0x108008 + 0x20 * i
/-- MON_PORT_PWR (R156). -/
@[reducible] def MON_PORT_PWR (i : Nat) : Nat := 0x10800c + 0x20 * i
/-- MON_PORT_CFG_OUT (R156). -/
@[reducible] def MON_PORT_CFG_OUT (i : Nat) : Nat := 0x108010 + 0x20 * i
/-- MON_PORT_DWELL_OUT (R156). -/
@[reducible] def MON_PORT_DWELL_OUT (i : Nat) : Nat := 0x108014 + 0x20 * i
/-- MON_PORT_K_OUT (R156). -/
@[reducible] def MON_PORT_K_OUT (i : Nat) : Nat := 0x108018 + 0x20 * i
/-- MON_PORT_PWR_OUT (R156). -/
@[reducible] def MON_PORT_PWR_OUT (i : Nat) : Nat := 0x10801c + 0x20 * i
/-- RTE_CACHE_CTRL (R179/R180). -/
@[reducible] def RTE_CACHE_CTRL : Nat := 0x10c000
/-- RTE_CACHE_STATUS (R180). -/
@[reducible] def RTE_CACHE_STATUS : Nat := 0x10c004
/-- RTE_SEED_LO (R179). -/
@[reducible] def RTE_SEED_LO : Nat := 0x10c008
/-- RTE_SEED_HI (R179). -/
@[reducible] def RTE_SEED_HI : Nat := 0x10c00c
/-- RTE_SEED_OLD_LO (R179). -/
@[reducible] def RTE_SEED_OLD_LO : Nat := 0x10c010
/-- RTE_SEED_OLD_HI (R179). -/
@[reducible] def RTE_SEED_OLD_HI : Nat := 0x10c014
/-- RTE_AGE_PERIOD (R179). -/
@[reducible] def RTE_AGE_PERIOD : Nat := 0x10c018
/-- RTE_AGE_LIMIT (R179). -/
@[reducible] def RTE_AGE_LIMIT : Nat := 0x10c01c
/-- RTE_VALID (R179). -/
@[reducible] def RTE_VALID : Nat := 0x10c020
/-- RTE_LOOKUPS (R179). -/
@[reducible] def RTE_LOOKUPS : Nat := 0x10c024
/-- RTE_HITS (R179). -/
@[reducible] def RTE_HITS : Nat := 0x10c028
/-- RTE_PARITY_MISS (R179). -/
@[reducible] def RTE_PARITY_MISS : Nat := 0x10c02c
/-- RTE_TABLE_FULL (R179). -/
@[reducible] def RTE_TABLE_FULL : Nat := 0x10c030
/-- RTE_AGED_OUT (R179). -/
@[reducible] def RTE_AGED_OUT : Nat := 0x10c034
/-- RTE_REHASH_DROPS (R179). -/
@[reducible] def RTE_REHASH_DROPS : Nat := 0x10c038
/-- RTE_REHASH_POS (R179). -/
@[reducible] def RTE_REHASH_POS : Nat := 0x10c03c
/-- RTE_PARITY_LAST (R179). -/
@[reducible] def RTE_PARITY_LAST : Nat := 0x10c040
/-- RTE_SOLVE_STAT (R181). -/
@[reducible] def RTE_SOLVE_STAT (u : Cu) : Nat := unitKey u (0x2000)
/-- RTE_SOLVE_EXT (R181). -/
@[reducible] def RTE_SOLVE_EXT (u : Cu) : Nat := unitKey u (0x2004)
/-- RTE_SOLVE_NS (R181). -/
@[reducible] def RTE_SOLVE_NS (u : Cu) : Nat := unitKey u (0x2008)
/-- RTE_SOLVE_EPOCH (R181). -/
@[reducible] def RTE_SOLVE_EPOCH (u : Cu) : Nat := unitKey u (0x200c)
/-- RTE_SOLVE_CNT (R181). -/
@[reducible] def RTE_SOLVE_CNT (u : Cu) : Nat := unitKey u (0x2010)
/-- RTE_INFEAS_CNT (R181). -/
@[reducible] def RTE_INFEAS_CNT (u : Cu) : Nat := unitKey u (0x2014)
/-- GST_CTRL (R209). -/
@[reducible] def GST_CTRL : Nat := 0x10d000
/-- GST_STATUS (R210). -/
@[reducible] def GST_STATUS : Nat := 0x10d004
/-- GST_LULL (R208). -/
@[reducible] def GST_LULL : Nat := 0x10d008
/-- GST_VLOSS (R208). -/
@[reducible] def GST_VLOSS : Nat := 0x10d00c
/-- GST_VFLOOR (R208). -/
@[reducible] def GST_VFLOOR : Nat := 0x10d010
/-- GST_ACTIVE (R191/R208). -/
@[reducible] def GST_ACTIVE : Nat := 0x10d014
/-- GST_SEQ (R208). -/
@[reducible] def GST_SEQ : Nat := 0x10d018
/-- GST_LAST (R208). -/
@[reducible] def GST_LAST : Nat := 0x10d01c
/-- GST_LAST_D_LO (R208). -/
@[reducible] def GST_LAST_D_LO : Nat := 0x10d020
/-- GST_LAST_D_HI (R208). -/
@[reducible] def GST_LAST_D_HI : Nat := 0x10d024
/-- GST_VSUM0 (R208). -/
@[reducible] def GST_VSUM0 : Nat := 0x10d028
/-- GST_VSUM1 (R208). -/
@[reducible] def GST_VSUM1 : Nat := 0x10d02c
/-- GST_VFIRST (R208). -/
@[reducible] def GST_VFIRST : Nat := 0x10d030
/-- GST_CNT0 (R208). -/
@[reducible] def GST_CNT0 : Nat := 0x10d034
/-- GST_CNT1 (R208). -/
@[reducible] def GST_CNT1 : Nat := 0x10d038
/-- GST_CMD (R208). -/
@[reducible] def GST_CMD : Nat := 0x10d03c
/-- GST_PIN_CFG (R212). -/
@[reducible] def GST_PIN_CFG (i : Nat) : Nat := 0x10d040 + 0x8 * i
/-- GST_PIN_STATUS (R208). -/
@[reducible] def GST_PIN_STATUS : Nat := 0x10d060
/-- GST_VRES (R202/R208). -/
@[reducible] def GST_VRES (i : Nat) : Nat := 0x10d100 + 0x4 * i
/-- GST_SLOT (R213). -/
@[reducible] def GST_SLOT (i : Nat) : Nat := 0x10d400 + 0x4 * i
/-- LOOP_CTRL (R241). -/
@[reducible] def LOOP_CTRL : Nat := 0x10e000
/-- LOOP_STATUS (R242). -/
@[reducible] def LOOP_STATUS : Nat := 0x10e004
/-- LOOP_CLS_HOLD (R241). -/
@[reducible] def LOOP_CLS_HOLD : Nat := 0x10e008
/-- LOOP_CLS_STAT (R241). -/
@[reducible] def LOOP_CLS_STAT : Nat := 0x10e00c
/-- LOOP_CNT (R241). -/
@[reducible] def LOOP_CNT : Nat := 0x10e010
/-- LOOP_CMD (R241). -/
@[reducible] def LOOP_CMD : Nat := 0x10e014
/-- LOOP_INST (R241). -/
@[reducible] def LOOP_INST : Nat := 0x10e018
/-- LOOP_SQ_CTRL (R241). -/
@[reducible] def LOOP_SQ_CTRL : Nat := 0x10e040
/-- LOOP_SQ_STATUS (R241). -/
@[reducible] def LOOP_SQ_STATUS : Nat := 0x10e044
/-- LOOP_SQ_PROP_KP (R241). -/
@[reducible] def LOOP_SQ_PROP_KP : Nat := 0x10e048
/-- LOOP_SQ_PROP_KI (R241). -/
@[reducible] def LOOP_SQ_PROP_KI : Nat := 0x10e04c
/-- LOOP_SQ_EPS (R241). -/
@[reducible] def LOOP_SQ_EPS : Nat := 0x10e050
/-- LOOP_SQ_CELL (R241). -/
@[reducible] def LOOP_SQ_CELL (i : Nat) : Nat := 0x10e080 + 0x4 * i
/-- LOOP_SQ_RES (R241). -/
@[reducible] def LOOP_SQ_RES (i : Nat) : Nat := 0x10e0c0 + 0x4 * i
/-- LOOP_KP (R243). -/
@[reducible] def LOOP_KP (i : Nat) : Nat := 0x10e200 + 0x40 * i
/-- LOOP_KI (R243). -/
@[reducible] def LOOP_KI (i : Nat) : Nat := 0x10e204 + 0x40 * i
/-- LOOP_KD (R243). -/
@[reducible] def LOOP_KD (i : Nat) : Nat := 0x10e208 + 0x40 * i
/-- LOOP_SHAPE (R243). -/
@[reducible] def LOOP_SHAPE (i : Nat) : Nat := 0x10e20c + 0x40 * i
/-- LOOP_AMP (R243). -/
@[reducible] def LOOP_AMP (i : Nat) : Nat := 0x10e210 + 0x40 * i
/-- LOOP_LIGHT (R243). -/
@[reducible] def LOOP_LIGHT (i : Nat) : Nat := 0x10e214 + 0x40 * i
/-- LOOP_HLTH0 (R243). -/
@[reducible] def LOOP_HLTH0 (i : Nat) : Nat := 0x10e218 + 0x40 * i
/-- LOOP_HLTH1 (R243). -/
@[reducible] def LOOP_HLTH1 (i : Nat) : Nat := 0x10e21c + 0x40 * i
/-- LOOP_RESID_FS (R243). -/
@[reducible] def LOOP_RESID_FS (i : Nat) : Nat := 0x10e220 + 0x40 * i
/-- LOOP_CELL_CFG (R244/R245). -/
@[reducible] def LOOP_CELL_CFG (u : Cu) (i : Nat) : Nat := unitKey u (0x40000 + 0x20 * i)
/-- LOOP_CELL_INT (R244/R245). -/
@[reducible] def LOOP_CELL_INT (u : Cu) (i : Nat) : Nat := unitKey u (0x40004 + 0x20 * i)
/-- LOOP_CELL_ERR (R244/R245). -/
@[reducible] def LOOP_CELL_ERR (u : Cu) (i : Nat) : Nat := unitKey u (0x40008 + 0x20 * i)
/-- LOOP_CELL_HLTH (R244/R245). -/
@[reducible] def LOOP_CELL_HLTH (u : Cu) (i : Nat) : Nat := unitKey u (0x4000c + 0x20 * i)
/-- LOOP_CELL_SAT (R244/R245). -/
@[reducible] def LOOP_CELL_SAT (u : Cu) (i : Nat) : Nat := unitKey u (0x40010 + 0x20 * i)
/-- DRT_CTRL (R268). -/
@[reducible] def DRT_CTRL : Nat := 0x10f000
/-- DRT_STATUS (R269). -/
@[reducible] def DRT_STATUS : Nat := 0x10f004
/-- DRT_TAU0 (R268). -/
@[reducible] def DRT_TAU0 : Nat := 0x10f008
/-- DRT_TAU1 (R268). -/
@[reducible] def DRT_TAU1 : Nat := 0x10f00c
/-- DRT_TAU2 (R268). -/
@[reducible] def DRT_TAU2 : Nat := 0x10f010
/-- DRT_LIMIT (R268). -/
@[reducible] def DRT_LIMIT : Nat := 0x10f014
/-- DRT_REFINE (R268). -/
@[reducible] def DRT_REFINE : Nat := 0x10f018
/-- DRT_CU_PWR (R268). -/
@[reducible] def DRT_CU_PWR : Nat := 0x10f01c
/-- DRT_CU_TAU (R268). -/
@[reducible] def DRT_CU_TAU : Nat := 0x10f020
/-- DRT_TGEN (R268). -/
@[reducible] def DRT_TGEN : Nat := 0x10f024
/-- DRT_CNT0 (R268). -/
@[reducible] def DRT_CNT0 : Nat := 0x10f028
/-- DRT_CNT1 (R268). -/
@[reducible] def DRT_CNT1 : Nat := 0x10f02c
/-- DRT_CMD (R268). -/
@[reducible] def DRT_CMD : Nat := 0x10f030
/-- DRT_CHAR_CFG (R268). -/
@[reducible] def DRT_CHAR_CFG : Nat := 0x10f040
/-- DRT_CHAR_MIN (R268). -/
@[reducible] def DRT_CHAR_MIN : Nat := 0x10f044
/-- DRT_CHAR_CNT0 (R268). -/
@[reducible] def DRT_CHAR_CNT0 : Nat := 0x10f048
/-- DRT_CHAR_CNT1 (R268). -/
@[reducible] def DRT_CHAR_CNT1 : Nat := 0x10f04c
/-- DRT_GAMMA (R268). -/
@[reducible] def DRT_GAMMA (i : Nat) : Nat := 0x10f400 + 0x10 * i
/-- DRT_TNOW (R268). -/
@[reducible] def DRT_TNOW (i : Nat) : Nat := 0x10f404 + 0x10 * i
/-- DRT_SLOPE (R268). -/
@[reducible] def DRT_SLOPE (i : Nat) : Nat := 0x10f408 + 0x10 * i
/-- DRT_RESP (R250/R268). -/
@[reducible] def DRT_RESP (i : Nat) : Nat := 0x10f800 + 0x4 * i
/-- TIM_CTRL (R299). -/
@[reducible] def TIM_CTRL : Nat := 0x110000
/-- TIM_STATUS (R300). -/
@[reducible] def TIM_STATUS : Nat := 0x110004
/-- TIM_NOW_NS (R299). -/
@[reducible] def TIM_NOW_NS : Nat := 0x110008
/-- TIM_NOW_SEC_LO (R299). -/
@[reducible] def TIM_NOW_SEC_LO : Nat := 0x11000c
/-- TIM_NOW_SEC_HI (R299). -/
@[reducible] def TIM_NOW_SEC_HI : Nat := 0x110010
/-- TIM_DCLK_LO (R299). -/
@[reducible] def TIM_DCLK_LO : Nat := 0x110014
/-- TIM_DCLK_HI (R299). -/
@[reducible] def TIM_DCLK_HI : Nat := 0x110018
/-- TIM_SEC_SET_LO (R299). -/
@[reducible] def TIM_SEC_SET_LO : Nat := 0x11001c
/-- TIM_SEC_SET_HI (R299). -/
@[reducible] def TIM_SEC_SET_HI : Nat := 0x110020
/-- TIM_FREQ (R299). -/
@[reducible] def TIM_FREQ : Nat := 0x110024
/-- TIM_STEP_THR (R299). -/
@[reducible] def TIM_STEP_THR : Nat := 0x110028
/-- TIM_SLEW (R299). -/
@[reducible] def TIM_SLEW : Nat := 0x11002c
/-- TIM_PPS_ERR (R299). -/
@[reducible] def TIM_PPS_ERR : Nat := 0x110030
/-- TIM_PPS_CAP_NS (R299). -/
@[reducible] def TIM_PPS_CAP_NS : Nat := 0x110034
/-- TIM_PPS_CAP_SEC (R299). -/
@[reducible] def TIM_PPS_CAP_SEC : Nat := 0x110038
/-- TIM_CNT (R299). -/
@[reducible] def TIM_CNT : Nat := 0x11003c
/-- TIM_DLY_PPS (R299). -/
@[reducible] def TIM_DLY_PPS : Nat := 0x110040
/-- TIM_DLY_TRIG (R299). -/
@[reducible] def TIM_DLY_TRIG (i : Nat) : Nat := 0x110044 + 0x4 * i
/-- TIM_TOUT_CFG (R299). -/
@[reducible] def TIM_TOUT_CFG (i : Nat) : Nat := 0x110100 + 0x20 * i
/-- TIM_TOUT_SEC (R299). -/
@[reducible] def TIM_TOUT_SEC (i : Nat) : Nat := 0x110104 + 0x20 * i
/-- TIM_TOUT_NS (R299). -/
@[reducible] def TIM_TOUT_NS (i : Nat) : Nat := 0x110108 + 0x20 * i
/-- TIM_TOUT_PER (R299). -/
@[reducible] def TIM_TOUT_PER (i : Nat) : Nat := 0x11010c + 0x20 * i
/-- TIM_TOUT_WID (R299). -/
@[reducible] def TIM_TOUT_WID (i : Nat) : Nat := 0x110110 + 0x20 * i
/-- TIM_TOUT_ADV (R299). -/
@[reducible] def TIM_TOUT_ADV (i : Nat) : Nat := 0x110114 + 0x20 * i
/-- TIM_TOUT_STAT (R299). -/
@[reducible] def TIM_TOUT_STAT (i : Nat) : Nat := 0x110118 + 0x20 * i
/-- TIM_PORT_DLY_IN (R299). -/
@[reducible] def TIM_PORT_DLY_IN (i : Nat) : Nat := 0x112000 + 0x8 * i
/-- TIM_PORT_DLY_OUT (R299). -/
@[reducible] def TIM_PORT_DLY_OUT (i : Nat) : Nat := 0x112004 + 0x8 * i
/-- SCH_CTRL (R301). -/
@[reducible] def SCH_CTRL : Nat := 0x114000
/-- SCH_STATUS (R302). -/
@[reducible] def SCH_STATUS : Nat := 0x114004
/-- SCH_GUARD (R301). -/
@[reducible] def SCH_GUARD : Nat := 0x114008
/-- SCH_P_BASE_SEC (R301). -/
@[reducible] def SCH_P_BASE_SEC : Nat := 0x114010
/-- SCH_P_BASE_NS (R301). -/
@[reducible] def SCH_P_BASE_NS : Nat := 0x114014
/-- SCH_P_COUNT (R301). -/
@[reducible] def SCH_P_COUNT : Nat := 0x114018
/-- SCH_P_CYCLES (R301). -/
@[reducible] def SCH_P_CYCLES : Nat := 0x11401c
/-- SCH_A_BASE_SEC (R301). -/
@[reducible] def SCH_A_BASE_SEC : Nat := 0x114020
/-- SCH_A_BASE_NS (R301). -/
@[reducible] def SCH_A_BASE_NS : Nat := 0x114024
/-- SCH_A_CYCLE_NS (R301). -/
@[reducible] def SCH_A_CYCLE_NS : Nat := 0x114028
/-- SCH_POS (R301). -/
@[reducible] def SCH_POS : Nat := 0x11402c
/-- SCH_START_K_LO (R301). -/
@[reducible] def SCH_START_K_LO : Nat := 0x114030
/-- SCH_START_K_HI (R301). -/
@[reducible] def SCH_START_K_HI : Nat := 0x114034
/-- SCH_CYCLE_CNT (R301). -/
@[reducible] def SCH_CYCLE_CNT : Nat := 0x114038
/-- SCH_SKIP0 (R301). -/
@[reducible] def SCH_SKIP0 : Nat := 0x11403c
/-- SCH_SKIP1 (R301). -/
@[reducible] def SCH_SKIP1 : Nat := 0x114040
/-- SCH_DEFER (R301). -/
@[reducible] def SCH_DEFER : Nat := 0x114044
/-- SCH_P_DUR (R301). -/
@[reducible] def SCH_P_DUR (i : Nat) : Nat := 0x114800 + 0x8 * i
/-- SCH_P_SLOT (R301). -/
@[reducible] def SCH_P_SLOT (i : Nat) : Nat := 0x114804 + 0x8 * i
/-- SCH_A_DUR (R301). -/
@[reducible] def SCH_A_DUR (i : Nat) : Nat := 0x115000 + 0x8 * i
/-- SCH_A_SLOT (R301). -/
@[reducible] def SCH_A_SLOT (i : Nat) : Nat := 0x115004 + 0x8 * i
/-- CAL_CTRL (R331). -/
@[reducible] def CAL_CTRL : Nat := 0x116000
/-- CAL_STATUS (R332). -/
@[reducible] def CAL_STATUS : Nat := 0x116004
/-- CAL_GEN (R331). -/
@[reducible] def CAL_GEN : Nat := 0x116008
/-- CAL_PEND_GEN (R331). -/
@[reducible] def CAL_PEND_GEN : Nat := 0x11600c
/-- CAL_RETEMP (R331). -/
@[reducible] def CAL_RETEMP : Nat := 0x116010
/-- CAL_TSTAB (R331). -/
@[reducible] def CAL_TSTAB : Nat := 0x116014
/-- CAL_TOL0 (R331). -/
@[reducible] def CAL_TOL0 : Nat := 0x116018
/-- CAL_TOL1 (R331). -/
@[reducible] def CAL_TOL1 : Nat := 0x11601c
/-- CAL_TOL2 (R331). -/
@[reducible] def CAL_TOL2 : Nat := 0x116020
/-- CAL_DARK (R331). -/
@[reducible] def CAL_DARK : Nat := 0x116024
/-- CAL_REF_V (R331). -/
@[reducible] def CAL_REF_V : Nat := 0x116028
/-- CAL_REF_R (R331). -/
@[reducible] def CAL_REF_R : Nat := 0x11602c
/-- CAL_GRID_LO (R331). -/
@[reducible] def CAL_GRID_LO : Nat := 0x116030
/-- CAL_GRID_HI (R331). -/
@[reducible] def CAL_GRID_HI : Nat := 0x116034
/-- CAL_KEPT (R331). -/
@[reducible] def CAL_KEPT : Nat := 0x116038
/-- CAL_DISAGREED (R331). -/
@[reducible] def CAL_DISAGREED : Nat := 0x11603c
/-- CAL_PRECONDS (R331). -/
@[reducible] def CAL_PRECONDS : Nat := 0x116040
/-- CAL_HIST (R331). -/
@[reducible] def CAL_HIST : Nat := 0x116044
/-- CAL_CMD (R331). -/
@[reducible] def CAL_CMD : Nat := 0x116048
/-- CAL_HASH (R331). -/
@[reducible] def CAL_HASH (i : Nat) : Nat := 0x116080 + 0x4 * i
/-- CAL_DHASH (R331). -/
@[reducible] def CAL_DHASH (i : Nat) : Nat := 0x1160c0 + 0x4 * i
/-- CAL_DHASH_TGEN (R331). -/
@[reducible] def CAL_DHASH_TGEN : Nat := 0x116100
/-- CAL_SKIPPED_REF (R331). -/
@[reducible] def CAL_SKIPPED_REF : Nat := 0x116104
/-- CAL_TILE (R331). -/
@[reducible] def CAL_TILE (i : Nat) : Nat := 0x116200 + 0x8 * i
/-- CAL_TSTEP (R331). -/
@[reducible] def CAL_TSTEP (i : Nat) : Nat := 0x116204 + 0x8 * i
/-- CAL_SEQ_STATUS (R331). -/
@[reducible] def CAL_SEQ_STATUS : Nat := 0x116400
/-- CAL_SEQ_POS (R331). -/
@[reducible] def CAL_SEQ_POS : Nat := 0x116404
/-- HL_ID (R353). -/
@[reducible] def HL_ID (u : Cu) : Nat := unitKey u (0x0)
/-- HL_CTRL (R353). -/
@[reducible] def HL_CTRL (u : Cu) : Nat := unitKey u (0x4)
/-- HL_STATUS (R354). -/
@[reducible] def HL_STATUS (u : Cu) : Nat := unitKey u (0x8)
/-- HL_LINK (R353/R355). -/
@[reducible] def HL_LINK (u : Cu) : Nat := unitKey u (0xc)
/-- HL_REFUSED (R353/R355). -/
@[reducible] def HL_REFUSED (u : Cu) : Nat := unitKey u (0x10)
/-- HL_CERR_CNT (R353/R355). -/
@[reducible] def HL_CERR_CNT (u : Cu) : Nat := unitKey u (0x14)
/-- HL_UERR_CNT (R353/R355). -/
@[reducible] def HL_UERR_CNT (u : Cu) : Nat := unitKey u (0x18)
/-- HL_LOST (R353/R355). -/
@[reducible] def HL_LOST (u : Cu) : Nat := unitKey u (0x1c)
/-- HL_RETRAIN (R353/R355). -/
@[reducible] def HL_RETRAIN (u : Cu) : Nat := unitKey u (0x20)
/-- Q_POLL (R378). -/
@[reducible] def Q_POLL (u : Cu) : Nat := unitKey u (0x3000)
/-- Q_INFLIGHT (R378). -/
@[reducible] def Q_INFLIGHT (u : Cu) : Nat := unitKey u (0x3004)
/-- Q_RTT (R378). -/
@[reducible] def Q_RTT (u : Cu) : Nat := unitKey u (0x3008)
/-- Q_GRANTS (R378). -/
@[reducible] def Q_GRANTS (u : Cu) : Nat := unitKey u (0x300c)
/-- Q_FN_WEIGHT (R378). -/
@[reducible] def Q_FN_WEIGHT (u : Cu) (i : Nat) : Nat := unitKey u (0x3040 + 0x4 * i)
/-- Q_FN_QUOTA (R378). -/
@[reducible] def Q_FN_QUOTA (u : Cu) (i : Nat) : Nat := unitKey u (0x3080 + 0x4 * i)
/-- Q_CTRL (R379). -/
@[reducible] def Q_CTRL (u : Cu) (i : Nat) : Nat := unitKey u (0xc0000 + 0x4000 * i)
/-- Q_STATUS (R383). -/
@[reducible] def Q_STATUS (u : Cu) (i : Nat) : Nat := unitKey u (0xc0004 + 0x4000 * i)
/-- Q_DB_LO (R379). -/
@[reducible] def Q_DB_LO (u : Cu) (i : Nat) : Nat := unitKey u (0xc0008 + 0x4000 * i)
/-- Q_DB_HI (R379). -/
@[reducible] def Q_DB_HI (u : Cu) (i : Nat) : Nat := unitKey u (0xc000c + 0x4000 * i)
/-- Q_EQ_LO (R379). -/
@[reducible] def Q_EQ_LO (u : Cu) (i : Nat) : Nat := unitKey u (0xc0010 + 0x4000 * i)
/-- Q_EQ_HI (R379). -/
@[reducible] def Q_EQ_HI (u : Cu) (i : Nat) : Nat := unitKey u (0xc0014 + 0x4000 * i)
/-- Q_EQ_CFG (R379). -/
@[reducible] def Q_EQ_CFG (u : Cu) (i : Nat) : Nat := unitKey u (0xc0018 + 0x4000 * i)
/-- Q_EQ_MOD (R379). -/
@[reducible] def Q_EQ_MOD (u : Cu) (i : Nat) : Nat := unitKey u (0xc001c + 0x4000 * i)
/-- Q_EQ_MASK (R379). -/
@[reducible] def Q_EQ_MASK (u : Cu) (i : Nat) : Nat := unitKey u (0xc0020 + 0x4000 * i)
/-- Q_EQ_LOST (R379). -/
@[reducible] def Q_EQ_LOST (u : Cu) (i : Nat) : Nat := unitKey u (0xc0024 + 0x4000 * i)
/-- Q_FN_INFLIGHT (R379). -/
@[reducible] def Q_FN_INFLIGHT (u : Cu) (i : Nat) : Nat := unitKey u (0xc0028 + 0x4000 * i)
/-- Q_SQ_LO (R379). -/
@[reducible] def Q_SQ_LO (u : Cu) (i j : Nat) : Nat := unitKey u (0xc0400 + 0x4000 * i + 0x20 * j)
/-- Q_SQ_HI (R379). -/
@[reducible] def Q_SQ_HI (u : Cu) (i j : Nat) : Nat := unitKey u (0xc0404 + 0x4000 * i + 0x20 * j)
/-- Q_SQ_CFG (R380). -/
@[reducible] def Q_SQ_CFG (u : Cu) (i j : Nat) : Nat := unitKey u (0xc0408 + 0x4000 * i + 0x20 * j)
/-- Q_SQ_STATUS (R381). -/
@[reducible] def Q_SQ_STATUS (u : Cu) (i j : Nat) : Nat := unitKey u (0xc040c + 0x4000 * i + 0x20 * j)
/-- Q_SQ_CRATE (R379). -/
@[reducible] def Q_SQ_CRATE (u : Cu) (i j : Nat) : Nat := unitKey u (0xc0410 + 0x4000 * i + 0x20 * j)
/-- Q_SQ_GRATE (R379). -/
@[reducible] def Q_SQ_GRATE (u : Cu) (i j : Nat) : Nat := unitKey u (0xc0414 + 0x4000 * i + 0x20 * j)
/-- Q_SQ_BURST (R379). -/
@[reducible] def Q_SQ_BURST (u : Cu) (i j : Nat) : Nat := unitKey u (0xc0418 + 0x4000 * i + 0x20 * j)
/-- Q_SQ_POLICED (R379). -/
@[reducible] def Q_SQ_POLICED (u : Cu) (i j : Nat) : Nat := unitKey u (0xc041c + 0x4000 * i + 0x20 * j)
/-- Q_CQ_LO (R379). -/
@[reducible] def Q_CQ_LO (u : Cu) (i j : Nat) : Nat := unitKey u (0xc0c00 + 0x4000 * i + 0x20 * j)
/-- Q_CQ_HI (R379). -/
@[reducible] def Q_CQ_HI (u : Cu) (i j : Nat) : Nat := unitKey u (0xc0c04 + 0x4000 * i + 0x20 * j)
/-- Q_CQ_CFG (R382). -/
@[reducible] def Q_CQ_CFG (u : Cu) (i j : Nat) : Nat := unitKey u (0xc0c08 + 0x4000 * i + 0x20 * j)
/-- Q_CQ_MOD (R379). -/
@[reducible] def Q_CQ_MOD (u : Cu) (i j : Nat) : Nat := unitKey u (0xc0c0c + 0x4000 * i + 0x20 * j)
/-- Q_CQ_STATUS (R379). -/
@[reducible] def Q_CQ_STATUS (u : Cu) (i j : Nat) : Nat := unitKey u (0xc0c10 + 0x4000 * i + 0x20 * j)
/-- Q_TR_LO (R379). -/
@[reducible] def Q_TR_LO (u : Cu) (i j : Nat) : Nat := unitKey u (0xc1400 + 0x4000 * i + 0x20 * j)
/-- Q_TR_HI (R379). -/
@[reducible] def Q_TR_HI (u : Cu) (i j : Nat) : Nat := unitKey u (0xc1404 + 0x4000 * i + 0x20 * j)
/-- Q_TR_CFG (R379). -/
@[reducible] def Q_TR_CFG (u : Cu) (i j : Nat) : Nat := unitKey u (0xc1408 + 0x4000 * i + 0x20 * j)
/-- Q_TR_MOD (R379). -/
@[reducible] def Q_TR_MOD (u : Cu) (i j : Nat) : Nat := unitKey u (0xc140c + 0x4000 * i + 0x20 * j)
/-- Q_TR_STATUS (R379). -/
@[reducible] def Q_TR_STATUS (u : Cu) (i j : Nat) : Nat := unitKey u (0xc1410 + 0x4000 * i + 0x20 * j)
/-- TKN_STATE (R446). -/
@[reducible] def TKN_STATE : Nat := 0x118000
/-- TKN_STATUS (R447). -/
@[reducible] def TKN_STATUS : Nat := 0x118004
/-- TKN_CFG (R445). -/
@[reducible] def TKN_CFG : Nat := 0x118008
/-- TKN_CLAIM (R445). -/
@[reducible] def TKN_CLAIM : Nat := 0x11800c
/-- TKN_RENEW (R445). -/
@[reducible] def TKN_RENEW : Nat := 0x118010
/-- TKN_RELEASE (R445). -/
@[reducible] def TKN_RELEASE : Nat := 0x118014
/-- TKN_RESUME (R445). -/
@[reducible] def TKN_RESUME : Nat := 0x118018
/-- TKN_LEFT (R445). -/
@[reducible] def TKN_LEFT : Nat := 0x11801c
/-- TKN_LAST (R445). -/
@[reducible] def TKN_LAST : Nat := 0x118020
/-- TKN_WTR (R445). -/
@[reducible] def TKN_WTR : Nat := 0x118024
/-- TKN_WTR_LEFT (R445). -/
@[reducible] def TKN_WTR_LEFT : Nat := 0x118028
/-- TKN_REH_CTRL (R445). -/
@[reducible] def TKN_REH_CTRL : Nat := 0x11802c
/-- TKN_REH_STATUS (R445). -/
@[reducible] def TKN_REH_STATUS : Nat := 0x118030
/-- TKN_REH_REPORT (R445). -/
@[reducible] def TKN_REH_REPORT : Nat := 0x118034
/-- TKN_IMG_CFG (R445). -/
@[reducible] def TKN_IMG_CFG : Nat := 0x118038
/-- TKN_IMG_GEN_LO (R445). -/
@[reducible] def TKN_IMG_GEN_LO : Nat := 0x11803c
/-- TKN_IMG_GEN_HI (R445). -/
@[reducible] def TKN_IMG_GEN_HI : Nat := 0x118040
/-- TKN_CNT0 (R445). -/
@[reducible] def TKN_CNT0 : Nat := 0x118044
/-- TKN_CNT1 (R445). -/
@[reducible] def TKN_CNT1 : Nat := 0x118048
/-- PWR_RST_CAUSE (R468). -/
@[reducible] def PWR_RST_CAUSE : Nat := 0x11a000
/-- PWR_STRAP (R467). -/
@[reducible] def PWR_STRAP : Nat := 0x11a004
/-- PWR_BOOT (R469). -/
@[reducible] def PWR_BOOT : Nat := 0x11a008
/-- PWR_RST_CTRL (R467). -/
@[reducible] def PWR_RST_CTRL : Nat := 0x11a00c
/-- PWR_RAIL (R467). -/
@[reducible] def PWR_RAIL : Nat := 0x11a010
/-- PWR_RAIL_LOST (R467). -/
@[reducible] def PWR_RAIL_LOST : Nat := 0x11a014
/-- PWR_RST_CNT (R467). -/
@[reducible] def PWR_RST_CNT : Nat := 0x11a018
/-- PWR_CU_SELF (R467). -/
@[reducible] def PWR_CU_SELF (u : Cu) : Nat := unitKey u (0x1000)
/-- MEM_CTRL (R500). -/
@[reducible] def MEM_CTRL : Nat := 0x11c000
/-- MEM_STATUS (R501). -/
@[reducible] def MEM_STATUS : Nat := 0x11c004
/-- MEM_SCRUB (R500). -/
@[reducible] def MEM_SCRUB : Nat := 0x11c008
/-- MEM_CE_THR (R500). -/
@[reducible] def MEM_CE_THR : Nat := 0x11c00c
/-- MEM_CE_CNT (R500). -/
@[reducible] def MEM_CE_CNT (i : Nat) : Nat := 0x11c010 + 0x10 * i
/-- MEM_UE_CNT (R500). -/
@[reducible] def MEM_UE_CNT (i : Nat) : Nat := 0x11c014 + 0x10 * i
/-- MEM_SPARED (R500). -/
@[reducible] def MEM_SPARED (i : Nat) : Nat := 0x11c018 + 0x10 * i
/-- MEM_SCRUB_POS (R500). -/
@[reducible] def MEM_SCRUB_POS (i : Nat) : Nat := 0x11c01c + 0x10 * i
/-- MEM_ERR_ADDR_LO (R500). -/
@[reducible] def MEM_ERR_ADDR_LO : Nat := 0x11c030
/-- MEM_ERR_ADDR_HI (R500). -/
@[reducible] def MEM_ERR_ADDR_HI : Nat := 0x11c034
/-- MEM_ERR_SYM (R500). -/
@[reducible] def MEM_ERR_SYM : Nat := 0x11c038
/-- MEM_CMD (R500). -/
@[reducible] def MEM_CMD : Nat := 0x11c03c
/-- MEM_PROBE_LO (R500). -/
@[reducible] def MEM_PROBE_LO : Nat := 0x11c040
/-- MEM_PROBE_HI (R500). -/
@[reducible] def MEM_PROBE_HI : Nat := 0x11c044
/-- MEM_PROBE_META (R500). -/
@[reducible] def MEM_PROBE_META : Nat := 0x11c048
/-- MEM_USER_BASE_LO (R477/R500). -/
@[reducible] def MEM_USER_BASE_LO : Nat := 0x11c050
/-- MEM_USER_BASE_HI (R477/R500). -/
@[reducible] def MEM_USER_BASE_HI : Nat := 0x11c054
/-- SP_RETMAP_A (R500). -/
@[reducible] def SP_RETMAP_A : Nat := 0x11c100
/-- SP_RETMAP_B (R500). -/
@[reducible] def SP_RETMAP_B : Nat := 0x11c104
/-- MX_STATUS (R500). -/
@[reducible] def MX_STATUS : Nat := 0x11d000
/-- MX_DECERR_CNT (R500). -/
@[reducible] def MX_DECERR_CNT : Nat := 0x11d004
/-- MX_DECERR_ADDR_LO (R500). -/
@[reducible] def MX_DECERR_ADDR_LO : Nat := 0x11d008
/-- MX_DECERR_ADDR_HI (R500). -/
@[reducible] def MX_DECERR_ADDR_HI : Nat := 0x11d00c
/-- MX_REFUSED_CNT (R500). -/
@[reducible] def MX_REFUSED_CNT : Nat := 0x11d010
/-- MX_REFUSED_ADDR_LO (R500). -/
@[reducible] def MX_REFUSED_ADDR_LO : Nat := 0x11d014
/-- MX_REFUSED_ADDR_HI (R500). -/
@[reducible] def MX_REFUSED_ADDR_HI : Nat := 0x11d018
/-- MX_OUT (R500). -/
@[reducible] def MX_OUT (i : Nat) : Nat := 0x11d100 + 0x4 * i
/-- SP_STATUS (R502). -/
@[reducible] def SP_STATUS (u : Cu) : Nat := unitKey u (0x4000)
/-- SP_CNT (R502). -/
@[reducible] def SP_CNT (u : Cu) : Nat := unitKey u (0x4004)
/-- SP_CMD (R502). -/
@[reducible] def SP_CMD (u : Cu) : Nat := unitKey u (0x4008)
/-- SP_RET_THR (R502). -/
@[reducible] def SP_RET_THR (u : Cu) : Nat := unitKey u (0x400c)
/-- SP_BANK (R503). -/
@[reducible] def SP_BANK (u : Cu) (i : Nat) : Nat := unitKey u (0x4100 + 0x4 * i)
/-- DM_CTRL (R517). -/
@[reducible] def DM_CTRL (u : Cu) : Nat := unitKey u (0x5000)
/-- DM_STATUS (R517). -/
@[reducible] def DM_STATUS (u : Cu) : Nat := unitKey u (0x5004)
/-- DM_ACTIVE (R517). -/
@[reducible] def DM_ACTIVE (u : Cu) : Nat := unitKey u (0x5008)
/-- DM_BUF (R517). -/
@[reducible] def DM_BUF (u : Cu) : Nat := unitKey u (0x500c)
/-- DM_CNT (R517). -/
@[reducible] def DM_CNT (u : Cu) : Nat := unitKey u (0x5010)
/-- DM_CFG (R519). -/
@[reducible] def DM_CFG (u : Cu) (i : Nat) : Nat := unitKey u (0x5100 + 0x80 * i)
/-- DM_CTL (R518). -/
@[reducible] def DM_CTL (u : Cu) (i : Nat) : Nat := unitKey u (0x5104 + 0x80 * i)
/-- DM_ST (R520). -/
@[reducible] def DM_ST (u : Cu) (i : Nat) : Nat := unitKey u (0x5108 + 0x80 * i)
/-- DM_ELEM (R518). -/
@[reducible] def DM_ELEM (u : Cu) (i : Nat) : Nat := unitKey u (0x510c + 0x80 * i)
/-- DM_SRC_LO (R518). -/
@[reducible] def DM_SRC_LO (u : Cu) (i : Nat) : Nat := unitKey u (0x5110 + 0x80 * i)
/-- DM_SRC_HI (R518). -/
@[reducible] def DM_SRC_HI (u : Cu) (i : Nat) : Nat := unitKey u (0x5114 + 0x80 * i)
/-- DM_DST_LO (R518). -/
@[reducible] def DM_DST_LO (u : Cu) (i : Nat) : Nat := unitKey u (0x5118 + 0x80 * i)
/-- DM_DST_HI (R518). -/
@[reducible] def DM_DST_HI (u : Cu) (i : Nat) : Nat := unitKey u (0x511c + 0x80 * i)
/-- DM_LOOP0 (R518). -/
@[reducible] def DM_LOOP0 (u : Cu) (i : Nat) : Nat := unitKey u (0x5120 + 0x80 * i)
/-- DM_LOOP1 (R518). -/
@[reducible] def DM_LOOP1 (u : Cu) (i : Nat) : Nat := unitKey u (0x5124 + 0x80 * i)
/-- DM_LOOP2 (R518). -/
@[reducible] def DM_LOOP2 (u : Cu) (i : Nat) : Nat := unitKey u (0x5128 + 0x80 * i)
/-- DM_SSTEP0 (R518). -/
@[reducible] def DM_SSTEP0 (u : Cu) (i : Nat) : Nat := unitKey u (0x5130 + 0x80 * i)
/-- DM_SSTEP1 (R518). -/
@[reducible] def DM_SSTEP1 (u : Cu) (i : Nat) : Nat := unitKey u (0x5134 + 0x80 * i)
/-- DM_SSTEP2 (R518). -/
@[reducible] def DM_SSTEP2 (u : Cu) (i : Nat) : Nat := unitKey u (0x5138 + 0x80 * i)
/-- DM_DSTEP0 (R518). -/
@[reducible] def DM_DSTEP0 (u : Cu) (i : Nat) : Nat := unitKey u (0x5140 + 0x80 * i)
/-- DM_DSTEP1 (R518). -/
@[reducible] def DM_DSTEP1 (u : Cu) (i : Nat) : Nat := unitKey u (0x5144 + 0x80 * i)
/-- DM_DSTEP2 (R518). -/
@[reducible] def DM_DSTEP2 (u : Cu) (i : Nat) : Nat := unitKey u (0x5148 + 0x80 * i)
/-- DM_OFF (R518). -/
@[reducible] def DM_OFF (u : Cu) (i : Nat) : Nat := unitKey u (0x514c + 0x80 * i)
/-- DM_CUR_SRC_LO (R518). -/
@[reducible] def DM_CUR_SRC_LO (u : Cu) (i : Nat) : Nat := unitKey u (0x5150 + 0x80 * i)
/-- DM_CUR_SRC_HI (R518). -/
@[reducible] def DM_CUR_SRC_HI (u : Cu) (i : Nat) : Nat := unitKey u (0x5154 + 0x80 * i)
/-- DM_CUR_DST_LO (R518). -/
@[reducible] def DM_CUR_DST_LO (u : Cu) (i : Nat) : Nat := unitKey u (0x5158 + 0x80 * i)
/-- DM_CUR_DST_HI (R518). -/
@[reducible] def DM_CUR_DST_HI (u : Cu) (i : Nat) : Nat := unitKey u (0x515c + 0x80 * i)
/-- DM_MOVED_LO (R518). -/
@[reducible] def DM_MOVED_LO (u : Cu) (i : Nat) : Nat := unitKey u (0x5160 + 0x80 * i)
/-- DM_MOVED_HI (R518). -/
@[reducible] def DM_MOVED_HI (u : Cu) (i : Nat) : Nat := unitKey u (0x5164 + 0x80 * i)
/-- DM_ERR_LO (R518). -/
@[reducible] def DM_ERR_LO (u : Cu) (i : Nat) : Nat := unitKey u (0x5168 + 0x80 * i)
/-- DM_ERR_HI (R518). -/
@[reducible] def DM_ERR_HI (u : Cu) (i : Nat) : Nat := unitKey u (0x516c + 0x80 * i)
/-- DM_OWN (R518). -/
@[reducible] def DM_OWN (u : Cu) (i : Nat) : Nat := unitKey u (0x5170 + 0x80 * i)
/-- FLT_CTRL (R541). -/
@[reducible] def FLT_CTRL : Nat := 0x11e000
/-- FLT_STATUS (R542). -/
@[reducible] def FLT_STATUS : Nat := 0x11e004
/-- FLT_CMD (R541). -/
@[reducible] def FLT_CMD : Nat := 0x11e008
/-- FLT_SAFE (R541). -/
@[reducible] def FLT_SAFE : Nat := 0x11e00c
/-- FLT_FIRST (R541). -/
@[reducible] def FLT_FIRST : Nat := 0x11e010
/-- FLT_FIRST_NS (R541). -/
@[reducible] def FLT_FIRST_NS : Nat := 0x11e014
/-- FLT_FIRST_SEC (R541). -/
@[reducible] def FLT_FIRST_SEC : Nat := 0x11e018
/-- FLT_FIRST_MERGE (R541). -/
@[reducible] def FLT_FIRST_MERGE : Nat := 0x11e01c
/-- FLT_FIRST_LAST_NS (R541). -/
@[reducible] def FLT_FIRST_LAST_NS : Nat := 0x11e020
/-- FLT_FIRST_LAST_SEC (R541). -/
@[reducible] def FLT_FIRST_LAST_SEC : Nat := 0x11e024
/-- FLT_FIRST_SRC (R541). -/
@[reducible] def FLT_FIRST_SRC (i : Nat) : Nat := 0x11e030 + 0x4 * i
/-- FLT_OPEN (R541). -/
@[reducible] def FLT_OPEN (i : Nat) : Nat := 0x11e040 + 0x4 * i
/-- FLT_LOG_SEQ (R541). -/
@[reducible] def FLT_LOG_SEQ : Nat := 0x11e050
/-- FLT_LOG_CNT (R541). -/
@[reducible] def FLT_LOG_CNT : Nat := 0x11e054
/-- FLT_LOG_WEAR (R541). -/
@[reducible] def FLT_LOG_WEAR : Nat := 0x11e058
/-- FLT_SRC_CFG (R541/R543). -/
@[reducible] def FLT_SRC_CFG (i : Nat) : Nat := 0x11e400 + 0x20 * i
/-- FLT_U_SRC_CFG (R544). -/
@[reducible] def FLT_U_SRC_CFG (u : Cu) (i : Nat) : Nat := unitKey u (0x6400 + 0x20 * i)
/-- FLT_SRC_WIN (R541/R543). -/
@[reducible] def FLT_SRC_WIN (i : Nat) : Nat := 0x11e404 + 0x20 * i
/-- FLT_U_SRC_WIN (R544). -/
@[reducible] def FLT_U_SRC_WIN (u : Cu) (i : Nat) : Nat := unitKey u (0x6404 + 0x20 * i)
/-- FLT_SRC_STAT (R541/R543). -/
@[reducible] def FLT_SRC_STAT (i : Nat) : Nat := 0x11e408 + 0x20 * i
/-- FLT_U_SRC_STAT (R544). -/
@[reducible] def FLT_U_SRC_STAT (u : Cu) (i : Nat) : Nat := unitKey u (0x6408 + 0x20 * i)
/-- FLT_SRC_TOTAL (R541/R543). -/
@[reducible] def FLT_SRC_TOTAL (i : Nat) : Nat := 0x11e40c + 0x20 * i
/-- FLT_U_SRC_TOTAL (R544). -/
@[reducible] def FLT_U_SRC_TOTAL (u : Cu) (i : Nat) : Nat := unitKey u (0x640c + 0x20 * i)
/-- FLT_SRC_MERGES (R541/R543). -/
@[reducible] def FLT_SRC_MERGES (i : Nat) : Nat := 0x11e410 + 0x20 * i
/-- FLT_U_SRC_MERGES (R544). -/
@[reducible] def FLT_U_SRC_MERGES (u : Cu) (i : Nat) : Nat := unitKey u (0x6410 + 0x20 * i)
/-- FLT_SRC_LAST (R541/R543). -/
@[reducible] def FLT_SRC_LAST (i : Nat) : Nat := 0x11e414 + 0x20 * i
/-- FLT_U_SRC_LAST (R544). -/
@[reducible] def FLT_U_SRC_LAST (u : Cu) (i : Nat) : Nat := unitKey u (0x6414 + 0x20 * i)
/-- FLT_SRC_CLR (R541/R543). -/
@[reducible] def FLT_SRC_CLR (i : Nat) : Nat := 0x11e418 + 0x20 * i
/-- FLT_U_SRC_CLR (R544). -/
@[reducible] def FLT_U_SRC_CLR (u : Cu) (i : Nat) : Nat := unitKey u (0x6418 + 0x20 * i)
/-- FLT_U_STATUS (R544). -/
@[reducible] def FLT_U_STATUS (u : Cu) : Nat := unitKey u (0x6000)
/-- THM_CTRL (R564). -/
@[reducible] def THM_CTRL : Nat := 0x120000
/-- THM_STATUS (R566). -/
@[reducible] def THM_STATUS : Nat := 0x120004
/-- THM_LIMIT (R564). -/
@[reducible] def THM_LIMIT : Nat := 0x120008
/-- THM_CMD (R564). -/
@[reducible] def THM_CMD : Nat := 0x12000c
/-- THM_DOMAIN (R565). -/
@[reducible] def THM_DOMAIN (i : Nat) : Nat := 0x120010 + 0x4 * i
/-- THM_ROUND_LO (R564). -/
@[reducible] def THM_ROUND_LO : Nat := 0x120020
/-- THM_ROUND_HI (R564). -/
@[reducible] def THM_ROUND_HI : Nat := 0x120024
/-- THM_SUSPECT (R564). -/
@[reducible] def THM_SUSPECT (i : Nat) : Nat := 0x120028 + 0x4 * i
/-- THM_PSUSPECT (R564). -/
@[reducible] def THM_PSUSPECT (i : Nat) : Nat := 0x12003c + 0x4 * i
/-- THM_TILE (R564). -/
@[reducible] def THM_TILE (i : Nat) : Nat := 0x120100 + 0x4 * i
/-- THM_LEG (R553). -/
@[reducible] def THM_LEG (i : Nat) : Nat := 0x121000 + 0x4 * i
/-- HK_STATUS (R564). -/
@[reducible] def HK_STATUS : Nat := 0x122000
/-- HK_INJ (R564). -/
@[reducible] def HK_INJ : Nat := 0x122004
/-- HK_INJ_RES (R564). -/
@[reducible] def HK_INJ_RES : Nat := 0x122008
/-- HK_INJ_G_LO (R564). -/
@[reducible] def HK_INJ_G_LO : Nat := 0x12200c
/-- HK_INJ_G_HI (R564). -/
@[reducible] def HK_INJ_G_HI : Nat := 0x122010
/-- HK_VALUE (R564). -/
@[reducible] def HK_VALUE (i : Nat) : Nat := 0x122400 + 0x4 * i
/-- REC_CTRL (R586). -/
@[reducible] def REC_CTRL : Nat := 0x124000
/-- REC_STATUS (R587). -/
@[reducible] def REC_STATUS : Nat := 0x124004
/-- REC_SIZE (R586). -/
@[reducible] def REC_SIZE : Nat := 0x124008
/-- REC_TRIG (R586). -/
@[reducible] def REC_TRIG : Nat := 0x12400c
/-- REC_POST (R586). -/
@[reducible] def REC_POST : Nat := 0x124010
/-- REC_CKPT (R586). -/
@[reducible] def REC_CKPT : Nat := 0x124014
/-- REC_CAP (R586). -/
@[reducible] def REC_CAP : Nat := 0x124018
/-- REC_WPTR (R586). -/
@[reducible] def REC_WPTR : Nat := 0x12401c
/-- REC_BSEQ_LO (R586). -/
@[reducible] def REC_BSEQ_LO : Nat := 0x124020
/-- REC_BSEQ_HI (R586). -/
@[reducible] def REC_BSEQ_HI : Nat := 0x124024
/-- REC_FREEZE_G_LO (R586). -/
@[reducible] def REC_FREEZE_G_LO : Nat := 0x124028
/-- REC_FREEZE_G_HI (R586). -/
@[reducible] def REC_FREEZE_G_HI : Nat := 0x12402c
/-- REC_FILL (R586). -/
@[reducible] def REC_FILL : Nat := 0x124030
/-- REC_CNT (R586). -/
@[reducible] def REC_CNT : Nat := 0x124034
/-- REC_PULL_CTRL (R586). -/
@[reducible] def REC_PULL_CTRL : Nat := 0x124040
/-- REC_PULL_DST_LO (R586). -/
@[reducible] def REC_PULL_DST_LO : Nat := 0x124044
/-- REC_PULL_DST_HI (R586). -/
@[reducible] def REC_PULL_DST_HI : Nat := 0x124048
/-- REC_PULL_STATUS (R586). -/
@[reducible] def REC_PULL_STATUS : Nat := 0x12404c
/-- REC_RP_CTRL (R586). -/
@[reducible] def REC_RP_CTRL : Nat := 0x124100
/-- REC_RP_STATUS (R587). -/
@[reducible] def REC_RP_STATUS : Nat := 0x124104
/-- REC_RP_FROM (R586). -/
@[reducible] def REC_RP_FROM : Nat := 0x124108
/-- REC_RP_FROM_OFF (R586). -/
@[reducible] def REC_RP_FROM_OFF : Nat := 0x12410c
/-- REC_RP_SLOTS_LO (R586). -/
@[reducible] def REC_RP_SLOTS_LO : Nat := 0x124110
/-- REC_RP_SLOTS_HI (R586). -/
@[reducible] def REC_RP_SLOTS_HI : Nat := 0x124114
/-- REC_RP_G_LO (R586). -/
@[reducible] def REC_RP_G_LO : Nat := 0x124118
/-- REC_RP_G_HI (R586). -/
@[reducible] def REC_RP_G_HI : Nat := 0x12411c
/-- REC_RP_DIFF_G_LO (R586). -/
@[reducible] def REC_RP_DIFF_G_LO : Nat := 0x124120
/-- REC_RP_DIFF_G_HI (R586). -/
@[reducible] def REC_RP_DIFF_G_HI : Nat := 0x124124
/-- REC_RP_DIFF (R586). -/
@[reducible] def REC_RP_DIFF : Nat := 0x124128
/-- REC_RP_DIFF_VAL (R586). -/
@[reducible] def REC_RP_DIFF_VAL : Nat := 0x12412c
/-- REC_RP_DIFFS (R586). -/
@[reducible] def REC_RP_DIFFS : Nat := 0x124130
/-- SEC_STATUS (R611). -/
@[reducible] def SEC_STATUS (u : Cu) : Nat := unitKey u (0x7000)
/-- SEC_CMD (R610). -/
@[reducible] def SEC_CMD (u : Cu) : Nat := unitKey u (0x7004)
/-- SEC_DEVID_LO (R610). -/
@[reducible] def SEC_DEVID_LO (u : Cu) : Nat := unitKey u (0x7008)
/-- SEC_DEVID_HI (R610). -/
@[reducible] def SEC_DEVID_HI (u : Cu) : Nat := unitKey u (0x700c)
/-- SEC_FUSE (R610). -/
@[reducible] def SEC_FUSE (u : Cu) : Nat := unitKey u (0x7010)
/-- SEC_BOOT (R610). -/
@[reducible] def SEC_BOOT (u : Cu) : Nat := unitKey u (0x7014)
/-- SEC_SCOPE (R610). -/
@[reducible] def SEC_SCOPE (u : Cu) : Nat := unitKey u (0x7018)
/-- SEC_MEAS (R610). -/
@[reducible] def SEC_MEAS (u : Cu) (i : Nat) : Nat := unitKey u (0x7020 + 0x4 * i)
/-- SEC_NONCE (R610). -/
@[reducible] def SEC_NONCE (u : Cu) (i : Nat) : Nat := unitKey u (0x7060 + 0x4 * i)
/-- SEC_CERT (R610). -/
@[reducible] def SEC_CERT (u : Cu) (i : Nat) : Nat := unitKey u (0x8000 + 0x4 * i)
/-- SEC_BUF (R610). -/
@[reducible] def SEC_BUF (u : Cu) (i : Nat) : Nat := unitKey u (0xc000 + 0x4 * i)
/-- PMC_CTRL (R619). -/
@[reducible] def PMC_CTRL (u : Cu) : Nat := unitKey u (0x10000)
/-- PMC_STATUS (R619). -/
@[reducible] def PMC_STATUS (u : Cu) : Nat := unitKey u (0x10004)
/-- PMC_FROZEN_CLK (R619). -/
@[reducible] def PMC_FROZEN_CLK (u : Cu) : Nat := unitKey u (0x10008)
/-- PMC_OVF (R619). -/
@[reducible] def PMC_OVF (u : Cu) (i : Nat) : Nat := unitKey u (0x10010 + 0x4 * i)
/-- PMC_CNT (R619). -/
@[reducible] def PMC_CNT (u : Cu) (i : Nat) : Nat := unitKey u (0x10400 + 0x4 * i)
/-- PMC_EVT (R619). -/
@[reducible] def PMC_EVT (u : Cu) (i : Nat) : Nat := unitKey u (0x10800 + 0x4 * i)
/-- PMC_WIN_CTRL (R619). -/
@[reducible] def PMC_WIN_CTRL (u : Cu) : Nat := unitKey u (0x11000)
/-- PMC_WIN_SEQ (R619). -/
@[reducible] def PMC_WIN_SEQ (u : Cu) : Nat := unitKey u (0x11004)
/-- PMC_WIN_G_LO (R619). -/
@[reducible] def PMC_WIN_G_LO (u : Cu) : Nat := unitKey u (0x11008)
/-- PMC_WIN_G_HI (R619). -/
@[reducible] def PMC_WIN_G_HI (u : Cu) : Nat := unitKey u (0x1100c)
/-- PMC_WIN_RD_LO (R619). -/
@[reducible] def PMC_WIN_RD_LO (u : Cu) (i : Nat) : Nat := unitKey u (0x11100 + 0x10 * i)
/-- PMC_WIN_RD_HI (R619). -/
@[reducible] def PMC_WIN_RD_HI (u : Cu) (i : Nat) : Nat := unitKey u (0x11104 + 0x10 * i)
/-- PMC_WIN_WR_LO (R619). -/
@[reducible] def PMC_WIN_WR_LO (u : Cu) (i : Nat) : Nat := unitKey u (0x11108 + 0x10 * i)
/-- PMC_WIN_WR_HI (R619). -/
@[reducible] def PMC_WIN_WR_HI (u : Cu) (i : Nat) : Nat := unitKey u (0x1110c + 0x10 * i)
/-- PMC_WIN_RX_LO (R619). -/
@[reducible] def PMC_WIN_RX_LO (u : Cu) : Nat := unitKey u (0x111c0)
/-- PMC_WIN_RX_HI (R619). -/
@[reducible] def PMC_WIN_RX_HI (u : Cu) : Nat := unitKey u (0x111c4)
/-- PMC_WIN_TX_LO (R619). -/
@[reducible] def PMC_WIN_TX_LO (u : Cu) : Nat := unitKey u (0x111c8)
/-- PMC_WIN_TX_HI (R619). -/
@[reducible] def PMC_WIN_TX_HI (u : Cu) : Nat := unitKey u (0x111cc)
end Reg

/-- The register blocks: which enable bit locks their RWL fields and which status register carries CFG_IGNORED (R12). -/
inductive Blk where
  | kFab
  | kSite
  | kDrvw
  | kDrv
  | kMon
  | kMonw
  | kRq
  | kRqmap
  | kPort
  | kRte
  | kRteu
  | kGst
  | kGstpin
  | kLoop
  | kCell
  | kDrt
  | kTim
  | kTout
  | kSch
  | kSchp
  | kCal
  | kHl
  | kQ
  | kQf
  | kQeq
  | kQsq
  | kQcq
  | kQtr
  | kTkn
  | kPwr
  | kPwru
  | kMem
  | kMx
  | kSp
  | kDm
  | kDmch
  | kFlt
  | kFltu
  | kThm
  | kHk
  | kRec
  | kSec
  | kPmc
  | kPmcw
  deriving DecidableEq, Repr

/-- The value a register holds after a cold reset: a number, or a rule over the part, the unit and the indices. -/
inductive ResetVal where
  | num (v : Nat)
  | rCERT
  | rDEVHI
  | rDEVLO
  | rDMCFG
  | rDRVCFG
  | rEQMASK
  | rFLTCFG
  | rFLTCFGU
  | rFLTWIN
  | rFLTWINU
  | rFUSE
  | rHLID
  | rINC
  | rMONCFG
  | rPMCEVT
  | rRECSIZE
  | rRESP
  | rSEED
  | rUBHI
  | rUBLO
  deriving DecidableEq, Repr

/-- One row of a register table. -/
structure RegRow where
  name : String
  base : Nat
  dims : List (Nat × Nat)
  rw : Nat
  rwl : Nat
  w1c : Nat
  live : Bool
  blk : Blk
  reset : ResetVal
  deriving DecidableEq, Repr

/-- Rows of the base and tile register tables, part 1. -/
def baseRows0 : List RegRow := [
  ⟨"FAB_CTRL", 0x100000, [], 0x1, 0x4, 0x0, false, .kFab, .num 0x0⟩,
  ⟨"FAB_STATUS", 0x100004, [], 0x0, 0x0, 0x7c, false, .kFab, .num 0x0⟩,
  ⟨"FAB_SRC_LO", 0x100008, [], 0x0, 0xfffffff8, 0x0, false, .kFab, .num 0x0⟩,
  ⟨"FAB_SRC_HI", 0x10000c, [], 0x0, 0xffffffff, 0x0, false, .kFab, .num 0x0⟩,
  ⟨"FAB_LEN", 0x100010, [], 0x0, 0xffffffff, 0x0, false, .kFab, .num 0x0⟩,
  ⟨"FAB_ERR_CODE", 0x100014, [], 0x0, 0x0, 0x0, false, .kFab, .num 0x0⟩,
  ⟨"FAB_ERR_OFFSET", 0x100018, [], 0x0, 0x0, 0x0, false, .kFab, .num 0x0⟩,
  ⟨"FAB_GEOM", 0x10001c, [], 0x0, 0x0, 0x0, false, .kFab, .num 0x0⟩,
  ⟨"FAB_CELLS", 0x100020, [], 0x0, 0x0, 0x0, false, .kFab, .num 0x0⟩,
  ⟨"FAB_EPOCH", 0x100024, [], 0x0, 0x0, 0x0, false, .kFab, .num 0x0⟩,
  ⟨"FAB_HEALTH_CTRL", 0x100028, [], 0x3, 0x0, 0x0, false, .kFab, .num 0x3⟩,
  ⟨"FAB_HASH", 0x100040, [(0x4, 16)], 0x0, 0x0, 0x0, false, .kFab, .num 0x0⟩,
  ⟨"FAB_HEALTH", 0x101000, [(0x4, 608)], 0xffffffff, 0x0, 0x0, false, .kFab, .num 0x0⟩,
  ⟨"SITE_CTRL", 0x102000, [], 0x3, 0x0, 0x0, false, .kSite, .num 0x0⟩,
  ⟨"SITE_STATUS", 0x102004, [], 0x0, 0x0, 0xf8, false, .kSite, .num 0x0⟩,
  ⟨"SITE_PD_BIAS", 0x102008, [], 0x0, 0x3ff, 0x0, false, .kSite, .num 0xc8⟩,
  ⟨"SITE_CHECK_CTRL", 0x10200c, [], 0x0, 0x3c, 0x0, false, .kSite, .num 0x38⟩,
  ⟨"SITE_RES_LO", 0x102010, [], 0x0, 0xfffffff8, 0x0, false, .kSite, .num 0x0⟩,
  ⟨"SITE_RES_HI", 0x102014, [], 0x0, 0xffffffff, 0x0, false, .kSite, .num 0x0⟩,
  ⟨"SITE_CNT0", 0x102018, [], 0x0, 0x0, 0x0, false, .kSite, .num 0x0⟩,
  ⟨"SITE_CNT1", 0x10201c, [], 0x0, 0x0, 0x0, false, .kSite, .num 0x0⟩,
  ⟨"SITE_CNT2", 0x102020, [], 0x0, 0x0, 0x0, false, .kSite, .num 0x0⟩,
  ⟨"SITE_FIRST", 0x102024, [], 0x0, 0x0, 0x0, false, .kSite, .num 0xffff⟩,
  ⟨"DRV_TSUM_LO", 0x103000, [], 0x0, 0x0, 0x0, false, .kDrvw, .num 0x0⟩,
  ⟨"DRV_TSUM_HI", 0x103004, [], 0x0, 0x0, 0x0, false, .kDrvw, .num 0x0⟩,
  ⟨"DRV_BRZ_INC", 0x103100, [(0x4, 48)], 0x0, 0x0, 0x0, false, .kDrvw, .rINC⟩,
  ⟨"MON_GRID_LO", 0x104000, [], 0x0, 0x0, 0x0, false, .kMonw, .num 0x0⟩,
  ⟨"MON_GRID_HI", 0x104004, [], 0x0, 0x0, 0x0, false, .kMonw, .num 0x0⟩,
  ⟨"MON_GCTRL", 0x104008, [], 0x0, 0x0, 0x0, false, .kMonw, .num 0x0⟩,
  ⟨"MON_GSTAT", 0x10400c, [], 0x0, 0x0, 0x4, false, .kMonw, .num 0x0⟩,
  ⟨"MON_GPHASE", 0x104010, [], 0x0, 0x0, 0x0, false, .kMonw, .num 0x0⟩,
  ⟨"MON_DIAG_CTRL", 0x104014, [], 0x4, 0x0, 0x0, false, .kMonw, .num 0x0⟩,
  ⟨"MON_DIAG_STATUS", 0x104018, [], 0x0, 0x0, 0xe, false, .kMonw, .num 0x0⟩,
  ⟨"MON_TSUM_LO", 0x104020, [], 0x0, 0x0, 0x0, false, .kMonw, .num 0x0⟩,
  ⟨"MON_TSUM_HI", 0x104024, [], 0x0, 0x0, 0x0, false, .kMonw, .num 0x0⟩,
  ⟨"MON_RQ_CTRL", 0x104100, [(0x20, 16)], 0x80000000, 0x43ff0f07, 0x0, false, .kRq, .num 0x10000⟩,
  ⟨"MON_RQ_WM", 0x104104, [(0x20, 16)], 0xfff0fff, 0x0, 0x0, false, .kRq, .num 0x640400⟩,
  ⟨"MON_RQ_STATUS", 0x104108, [(0x20, 16)], 0x0, 0x0, 0xf0000, false, .kRq, .num 0x0⟩,
  ⟨"MON_RQ_DROPS", 0x10410c, [(0x20, 16)], 0x0, 0x0, 0x0, false, .kRq, .num 0x0⟩,
  ⟨"MON_RQ_MAP", 0x105000, [(0x300, 16), (0x4, 192)], 0x0, 0xffffffff, 0x0, false, .kRqmap, .num 0x0⟩]
/-- Rows of the base and tile register tables, part 2. -/
def baseRows1 : List RegRow := [
  ⟨"MON_PORT_CFG", 0x108000, [(0x20, 512)], 0x83ffffff, 0x0, 0x0, true, .kPort, .num 0xc8f448⟩,
  ⟨"MON_PORT_DWELL", 0x108004, [(0x20, 512)], 0xffffffff, 0x0, 0x0, true, .kPort, .num 0x1f40032⟩,
  ⟨"MON_PORT_K", 0x108008, [(0x20, 512)], 0xffffffff, 0x0, 0x0, true, .kPort, .num 0x1000000⟩,
  ⟨"MON_PORT_PWR", 0x10800c, [(0x20, 512)], 0x0, 0x0, 0x0, false, .kPort, .num 0x8000⟩,
  ⟨"MON_PORT_CFG_OUT", 0x108010, [(0x20, 512)], 0x83ffffff, 0x0, 0x0, true, .kPort, .num 0xc8f448⟩,
  ⟨"MON_PORT_DWELL_OUT", 0x108014, [(0x20, 512)], 0xffffffff, 0x0, 0x0, true, .kPort, .num 0x1f40032⟩,
  ⟨"MON_PORT_K_OUT", 0x108018, [(0x20, 512)], 0xffffffff, 0x0, 0x0, true, .kPort, .num 0x1000000⟩,
  ⟨"MON_PORT_PWR_OUT", 0x10801c, [(0x20, 512)], 0x0, 0x0, 0x0, false, .kPort, .num 0x8000⟩,
  ⟨"RTE_CACHE_CTRL", 0x10c000, [], 0x3, 0x0, 0x0, false, .kRte, .num 0x3⟩,
  ⟨"RTE_CACHE_STATUS", 0x10c004, [], 0x0, 0x0, 0x78, false, .kRte, .num 0x0⟩,
  ⟨"RTE_SEED_LO", 0x10c008, [], 0x0, 0x0, 0x0, false, .kRte, .rSEED⟩,
  ⟨"RTE_SEED_HI", 0x10c00c, [], 0x0, 0x0, 0x0, false, .kRte, .rSEED⟩,
  ⟨"RTE_SEED_OLD_LO", 0x10c010, [], 0x0, 0x0, 0x0, false, .kRte, .num 0x0⟩,
  ⟨"RTE_SEED_OLD_HI", 0x10c014, [], 0x0, 0x0, 0x0, false, .kRte, .num 0x0⟩,
  ⟨"RTE_AGE_PERIOD", 0x10c018, [], 0xffff, 0x0, 0x0, true, .kRte, .num 0x3c⟩,
  ⟨"RTE_AGE_LIMIT", 0x10c01c, [], 0xff, 0x0, 0x0, true, .kRte, .num 0xf0⟩,
  ⟨"RTE_VALID", 0x10c020, [], 0x0, 0x0, 0x0, false, .kRte, .num 0x0⟩,
  ⟨"RTE_LOOKUPS", 0x10c024, [], 0x0, 0x0, 0x0, false, .kRte, .num 0x0⟩,
  ⟨"RTE_HITS", 0x10c028, [], 0x0, 0x0, 0x0, false, .kRte, .num 0x0⟩,
  ⟨"RTE_PARITY_MISS", 0x10c02c, [], 0x0, 0x0, 0x0, false, .kRte, .num 0x0⟩,
  ⟨"RTE_TABLE_FULL", 0x10c030, [], 0x0, 0x0, 0x0, false, .kRte, .num 0x0⟩,
  ⟨"RTE_AGED_OUT", 0x10c034, [], 0x0, 0x0, 0x0, false, .kRte, .num 0x0⟩,
  ⟨"RTE_REHASH_DROPS", 0x10c038, [], 0x0, 0x0, 0x0, false, .kRte, .num 0x0⟩,
  ⟨"RTE_REHASH_POS", 0x10c03c, [], 0x0, 0x0, 0x0, false, .kRte, .num 0x0⟩,
  ⟨"RTE_PARITY_LAST", 0x10c040, [], 0x0, 0x0, 0x0, false, .kRte, .num 0x0⟩,
  ⟨"GST_CTRL", 0x10d000, [], 0x373, 0x0, 0x0, true, .kGst, .num 0x101⟩,
  ⟨"GST_STATUS", 0x10d004, [], 0x0, 0x0, 0x3f, false, .kGst, .num 0x0⟩,
  ⟨"GST_LULL", 0x10d008, [], 0x7fff, 0x0, 0x0, true, .kGst, .num 0x7d0⟩,
  ⟨"GST_VLOSS", 0x10d00c, [], 0xffffffff, 0x0, 0x0, true, .kGst, .num 0x64012c⟩,
  ⟨"GST_VFLOOR", 0x10d010, [], 0xffff, 0x0, 0x0, true, .kGst, .num 0xf448⟩,
  ⟨"GST_ACTIVE", 0x10d014, [], 0x0, 0x0, 0x0, false, .kGst, .num 0xffffffff⟩,
  ⟨"GST_SEQ", 0x10d018, [], 0x0, 0x0, 0x0, false, .kGst, .num 0x0⟩,
  ⟨"GST_LAST", 0x10d01c, [], 0x0, 0x0, 0x0, false, .kGst, .num 0x0⟩,
  ⟨"GST_LAST_D_LO", 0x10d020, [], 0x0, 0x0, 0x0, false, .kGst, .num 0x0⟩,
  ⟨"GST_LAST_D_HI", 0x10d024, [], 0x0, 0x0, 0x0, false, .kGst, .num 0x0⟩,
  ⟨"GST_VSUM0", 0x10d028, [], 0x0, 0x0, 0x0, false, .kGst, .num 0x0⟩,
  ⟨"GST_VSUM1", 0x10d02c, [], 0x0, 0x0, 0x0, false, .kGst, .num 0x0⟩,
  ⟨"GST_VFIRST", 0x10d030, [], 0x0, 0x0, 0x0, false, .kGst, .num 0x3ff⟩,
  ⟨"GST_CNT0", 0x10d034, [], 0x0, 0x0, 0x0, false, .kGst, .num 0x0⟩,
  ⟨"GST_CNT1", 0x10d038, [], 0x0, 0x0, 0x0, false, .kGst, .num 0x0⟩]
/-- Rows of the base and tile register tables, part 3. -/
def baseRows2 : List RegRow := [
  ⟨"GST_CMD", 0x10d03c, [], 0x0, 0x0, 0x0, false, .kGst, .num 0x0⟩,
  ⟨"GST_PIN_CFG", 0x10d040, [(0x8, 4)], 0xfc0000ff, 0x0, 0x0, true, .kGstpin, .num 0x10000000⟩,
  ⟨"GST_PIN_STATUS", 0x10d060, [], 0x0, 0x0, 0xff0, false, .kGst, .num 0x0⟩,
  ⟨"GST_VRES", 0x10d100, [(0x4, 64)], 0x0, 0x0, 0x0, false, .kGst, .num 0x0⟩,
  ⟨"GST_SLOT", 0x10d400, [(0x4, 256)], 0x0, 0x0, 0x0, false, .kGst, .num 0x0⟩,
  ⟨"LOOP_CTRL", 0x10e000, [], 0x1, 0x7ff0000, 0x0, false, .kLoop, .num 0x1400000⟩,
  ⟨"LOOP_STATUS", 0x10e004, [], 0x0, 0x0, 0x3c, false, .kLoop, .num 0x0⟩,
  ⟨"LOOP_CLS_HOLD", 0x10e008, [], 0xffff, 0x0, 0x0, true, .kLoop, .num 0x0⟩,
  ⟨"LOOP_CLS_STAT", 0x10e00c, [], 0x0, 0x0, 0x0, false, .kLoop, .num 0x0⟩,
  ⟨"LOOP_CNT", 0x10e010, [], 0x0, 0x0, 0x0, false, .kLoop, .num 0x0⟩,
  ⟨"LOOP_CMD", 0x10e014, [], 0x0, 0x0, 0x0, false, .kLoop, .num 0x0⟩,
  ⟨"LOOP_INST", 0x10e018, [], 0x0, 0x0, 0x0, false, .kLoop, .num 0x0⟩,
  ⟨"LOOP_SQ_CTRL", 0x10e040, [], 0xfff0ff0, 0x0, 0x0, false, .kLoop, .num 0x0⟩,
  ⟨"LOOP_SQ_STATUS", 0x10e044, [], 0x0, 0x0, 0x1e, false, .kLoop, .num 0x0⟩,
  ⟨"LOOP_SQ_PROP_KP", 0x10e048, [], 0x0, 0x0, 0x0, false, .kLoop, .num 0x0⟩,
  ⟨"LOOP_SQ_PROP_KI", 0x10e04c, [], 0x0, 0x0, 0x0, false, .kLoop, .num 0x0⟩,
  ⟨"LOOP_SQ_EPS", 0x10e050, [], 0xffffff, 0x0, 0x0, false, .kLoop, .num 0x40⟩,
  ⟨"LOOP_SQ_CELL", 0x10e080, [(0x4, 16)], 0x1fff, 0x0, 0x0, false, .kLoop, .num 0x0⟩,
  ⟨"LOOP_SQ_RES", 0x10e0c0, [(0x4, 16)], 0x0, 0x0, 0x0, false, .kLoop, .num 0x0⟩,
  ⟨"LOOP_KP", 0x10e200, [(0x40, 16)], 0xffffffff, 0x0, 0x0, true, .kLoop, .num 0x0⟩,
  ⟨"LOOP_KI", 0x10e204, [(0x40, 16)], 0xffffffff, 0x0, 0x0, true, .kLoop, .num 0x0⟩,
  ⟨"LOOP_KD", 0x10e208, [(0x40, 16)], 0xffffffff, 0x0, 0x0, true, .kLoop, .num 0x0⟩,
  ⟨"LOOP_SHAPE", 0x10e20c, [(0x40, 16)], 0xff0f771f, 0x0, 0x0, true, .kLoop, .num 0x41022210⟩,
  ⟨"LOOP_AMP", 0x10e210, [(0x40, 16)], 0x1fff, 0x0, 0x0, true, .kLoop, .num 0x0⟩,
  ⟨"LOOP_LIGHT", 0x10e214, [(0x40, 16)], 0xffffffff, 0x0, 0x0, true, .kLoop, .num 0xf060012c⟩,
  ⟨"LOOP_HLTH0", 0x10e218, [(0x40, 16)], 0xfffffff, 0x0, 0x0, true, .kLoop, .num 0x3f0c8e6⟩,
  ⟨"LOOP_HLTH1", 0x10e21c, [(0x40, 16)], 0xffffffff, 0x0, 0x0, true, .kLoop, .num 0x1f41388⟩,
  ⟨"LOOP_RESID_FS", 0x10e220, [(0x40, 16)], 0xffffff, 0x0, 0x0, true, .kLoop, .num 0x10000⟩,
  ⟨"DRT_CTRL", 0x10f000, [], 0xe, 0x0, 0x0, false, .kDrt, .num 0x6⟩,
  ⟨"DRT_STATUS", 0x10f004, [], 0x0, 0x0, 0x6f9, false, .kDrt, .num 0x0⟩,
  ⟨"DRT_TAU0", 0x10f008, [], 0x0, 0xffff, 0x0, false, .kDrt, .num 0x50⟩,
  ⟨"DRT_TAU1", 0x10f00c, [], 0x0, 0xffff, 0x0, false, .kDrt, .num 0x258⟩,
  ⟨"DRT_TAU2", 0x10f010, [], 0x0, 0xffff, 0x0, false, .kDrt, .num 0x1388⟩,
  ⟨"DRT_LIMIT", 0x10f014, [], 0x3fff, 0x0, 0x0, true, .kDrt, .num 0x1000⟩,
  ⟨"DRT_REFINE", 0x10f018, [], 0xffff001f, 0x0, 0x0, true, .kDrt, .num 0x40002⟩,
  ⟨"DRT_CU_PWR", 0x10f01c, [], 0xffffffff, 0x0, 0x0, true, .kDrt, .num 0x12c0384⟩,
  ⟨"DRT_CU_TAU", 0x10f020, [], 0xffff, 0x0, 0x0, true, .kDrt, .num 0x1770⟩,
  ⟨"DRT_TGEN", 0x10f024, [], 0x0, 0x0, 0x0, false, .kDrt, .num 0x0⟩,
  ⟨"DRT_CNT0", 0x10f028, [], 0x0, 0x0, 0x0, false, .kDrt, .num 0x0⟩,
  ⟨"DRT_CNT1", 0x10f02c, [], 0x0, 0x0, 0x0, false, .kDrt, .num 0x0⟩]
/-- Rows of the base and tile register tables, part 4. -/
def baseRows3 : List RegRow := [
  ⟨"DRT_CMD", 0x10f030, [], 0x0, 0x0, 0x0, false, .kDrt, .num 0x0⟩,
  ⟨"DRT_CHAR_CFG", 0x10f040, [], 0xfffffff, 0x0, 0x0, false, .kDrt, .num 0x8001000⟩,
  ⟨"DRT_CHAR_MIN", 0x10f044, [], 0xffff, 0x0, 0x0, false, .kDrt, .num 0x100⟩,
  ⟨"DRT_CHAR_CNT0", 0x10f048, [], 0x0, 0x0, 0x0, false, .kDrt, .num 0x0⟩,
  ⟨"DRT_CHAR_CNT1", 0x10f04c, [], 0x0, 0x0, 0x0, false, .kDrt, .num 0x0⟩,
  ⟨"DRT_GAMMA", 0x10f400, [(0x10, 64)], 0xffffffff, 0x0, 0x0, true, .kDrt, .num 0x0⟩,
  ⟨"DRT_TNOW", 0x10f404, [(0x10, 64)], 0x0, 0x0, 0x0, false, .kDrt, .num 0x0⟩,
  ⟨"DRT_SLOPE", 0x10f408, [(0x10, 64)], 0x0, 0x0, 0x0, false, .kDrt, .num 0x0⟩,
  ⟨"DRT_RESP", 0x10f800, [(0x4, 356)], 0x0, 0x0, 0x0, false, .kDrt, .rRESP⟩,
  ⟨"TIM_CTRL", 0x110000, [], 0x7, 0x0, 0x0, false, .kTim, .num 0x2⟩,
  ⟨"TIM_STATUS", 0x110004, [], 0x0, 0x0, 0x1f00, false, .kTim, .num 0x0⟩,
  ⟨"TIM_NOW_NS", 0x110008, [], 0x0, 0x0, 0x0, false, .kTim, .num 0x0⟩,
  ⟨"TIM_NOW_SEC_LO", 0x11000c, [], 0x0, 0x0, 0x0, false, .kTim, .num 0x0⟩,
  ⟨"TIM_NOW_SEC_HI", 0x110010, [], 0x0, 0x0, 0x0, false, .kTim, .num 0x0⟩,
  ⟨"TIM_DCLK_LO", 0x110014, [], 0x0, 0x0, 0x0, false, .kTim, .num 0x0⟩,
  ⟨"TIM_DCLK_HI", 0x110018, [], 0x0, 0x0, 0x0, false, .kTim, .num 0x0⟩,
  ⟨"TIM_SEC_SET_LO", 0x11001c, [], 0xffffffff, 0x0, 0x0, false, .kTim, .num 0x0⟩,
  ⟨"TIM_SEC_SET_HI", 0x110020, [], 0x8000ffff, 0x0, 0x0, false, .kTim, .num 0x0⟩,
  ⟨"TIM_FREQ", 0x110024, [], 0xffffffff, 0x0, 0x0, false, .kTim, .num 0x0⟩,
  ⟨"TIM_STEP_THR", 0x110028, [], 0xffffff, 0x0, 0x0, true, .kTim, .num 0x3e8⟩,
  ⟨"TIM_SLEW", 0x11002c, [], 0x1fffffff, 0x0, 0x0, true, .kTim, .num 0x30186a0⟩,
  ⟨"TIM_PPS_ERR", 0x110030, [], 0x0, 0x0, 0x0, false, .kTim, .num 0x0⟩,
  ⟨"TIM_PPS_CAP_NS", 0x110034, [], 0x0, 0x0, 0x0, false, .kTim, .num 0x0⟩,
  ⟨"TIM_PPS_CAP_SEC", 0x110038, [], 0x0, 0x0, 0x0, false, .kTim, .num 0x0⟩,
  ⟨"TIM_CNT", 0x11003c, [], 0x0, 0x0, 0x0, false, .kTim, .num 0x0⟩,
  ⟨"TIM_DLY_PPS", 0x110040, [], 0xffffffff, 0x0, 0x0, true, .kTim, .num 0x0⟩,
  ⟨"TIM_DLY_TRIG", 0x110044, [(0x4, 4)], 0xffffffff, 0x0, 0x0, false, .kTim, .num 0x0⟩,
  ⟨"TIM_TOUT_CFG", 0x110100, [(0x20, 4)], 0x80000000, 0x63000000, 0x0, false, .kTout, .num 0x0⟩,
  ⟨"TIM_TOUT_SEC", 0x110104, [(0x20, 4)], 0x0, 0xffffffff, 0x0, false, .kTout, .num 0x0⟩,
  ⟨"TIM_TOUT_NS", 0x110108, [(0x20, 4)], 0x0, 0xffffffff, 0x0, false, .kTout, .num 0x0⟩,
  ⟨"TIM_TOUT_PER", 0x11010c, [(0x20, 4)], 0x0, 0xffffffff, 0x0, false, .kTout, .num 0x0⟩,
  ⟨"TIM_TOUT_WID", 0x110110, [(0x20, 4)], 0x0, 0xffffffff, 0x0, false, .kTout, .num 0x64⟩,
  ⟨"TIM_TOUT_ADV", 0x110114, [(0x20, 4)], 0x0, 0xffffffff, 0x0, false, .kTout, .num 0x0⟩,
  ⟨"TIM_TOUT_STAT", 0x110118, [(0x20, 4)], 0x0, 0x0, 0x3, false, .kTout, .num 0x0⟩,
  ⟨"TIM_PORT_DLY_IN", 0x112000, [(0x8, 512)], 0xffffffff, 0x0, 0x0, false, .kTim, .num 0x0⟩,
  ⟨"TIM_PORT_DLY_OUT", 0x112004, [(0x8, 512)], 0xffffffff, 0x0, 0x0, false, .kTim, .num 0x0⟩,
  ⟨"SCH_CTRL", 0x114000, [], 0x0, 0x0, 0x0, false, .kSch, .num 0x0⟩,
  ⟨"SCH_STATUS", 0x114004, [], 0x0, 0x0, 0x1f8, false, .kSch, .num 0x0⟩,
  ⟨"SCH_GUARD", 0x114008, [], 0xffffffff, 0x0, 0x0, true, .kSch, .num 0x9c4⟩,
  ⟨"SCH_P_BASE_SEC", 0x114010, [], 0x0, 0xffffffff, 0x0, false, .kSchp, .num 0x0⟩]
/-- Rows of the base and tile register tables, part 5. -/
def baseRows4 : List RegRow := [
  ⟨"SCH_P_BASE_NS", 0x114014, [], 0x0, 0xffffffff, 0x0, false, .kSchp, .num 0x0⟩,
  ⟨"SCH_P_COUNT", 0x114018, [], 0x0, 0x1ff, 0x0, false, .kSchp, .num 0x0⟩,
  ⟨"SCH_P_CYCLES", 0x11401c, [], 0x0, 0xffffffff, 0x0, false, .kSchp, .num 0x0⟩,
  ⟨"SCH_A_BASE_SEC", 0x114020, [], 0x0, 0x0, 0x0, false, .kSch, .num 0x0⟩,
  ⟨"SCH_A_BASE_NS", 0x114024, [], 0x0, 0x0, 0x0, false, .kSch, .num 0x0⟩,
  ⟨"SCH_A_CYCLE_NS", 0x114028, [], 0x0, 0x0, 0x0, false, .kSch, .num 0x0⟩,
  ⟨"SCH_POS", 0x11402c, [], 0x0, 0x0, 0x0, false, .kSch, .num 0x0⟩,
  ⟨"SCH_START_K_LO", 0x114030, [], 0x0, 0x0, 0x0, false, .kSch, .num 0x0⟩,
  ⟨"SCH_START_K_HI", 0x114034, [], 0x0, 0x0, 0x0, false, .kSch, .num 0x0⟩,
  ⟨"SCH_CYCLE_CNT", 0x114038, [], 0x0, 0x0, 0x0, false, .kSch, .num 0x0⟩,
  ⟨"SCH_SKIP0", 0x11403c, [], 0x0, 0x0, 0x0, false, .kSch, .num 0x0⟩,
  ⟨"SCH_SKIP1", 0x114040, [], 0x0, 0x0, 0x0, false, .kSch, .num 0x0⟩,
  ⟨"SCH_DEFER", 0x114044, [], 0x0, 0x0, 0x0, false, .kSch, .num 0x0⟩,
  ⟨"SCH_P_DUR", 0x114800, [(0x8, 256)], 0x0, 0xffffffff, 0x0, false, .kSchp, .num 0x0⟩,
  ⟨"SCH_P_SLOT", 0x114804, [(0x8, 256)], 0x0, 0x1ff, 0x0, false, .kSchp, .num 0x0⟩,
  ⟨"SCH_A_DUR", 0x115000, [(0x8, 256)], 0x0, 0x0, 0x0, false, .kSch, .num 0x0⟩,
  ⟨"SCH_A_SLOT", 0x115004, [(0x8, 256)], 0x0, 0x0, 0x0, false, .kSch, .num 0x0⟩,
  ⟨"CAL_CTRL", 0x116000, [], 0x3, 0x0, 0x0, false, .kCal, .num 0x1⟩,
  ⟨"CAL_STATUS", 0x116004, [], 0x0, 0x0, 0x7f8, false, .kCal, .num 0x0⟩,
  ⟨"CAL_GEN", 0x116008, [], 0x0, 0x0, 0x0, false, .kCal, .num 0x0⟩,
  ⟨"CAL_PEND_GEN", 0x11600c, [], 0x0, 0x0, 0x0, false, .kCal, .num 0x0⟩,
  ⟨"CAL_RETEMP", 0x116010, [], 0xffff, 0x0, 0x0, true, .kCal, .num 0x19⟩,
  ⟨"CAL_TSTAB", 0x116014, [], 0xffff, 0x0, 0x0, false, .kCal, .num 0x32⟩,
  ⟨"CAL_TOL0", 0x116018, [], 0xffffffff, 0x0, 0x0, false, .kCal, .num 0x30002⟩,
  ⟨"CAL_TOL1", 0x11601c, [], 0xffffffff, 0x0, 0x0, false, .kCal, .num 0x30010⟩,
  ⟨"CAL_TOL2", 0x116020, [], 0xffffffff, 0x0, 0x0, false, .kCal, .num 0x50010⟩,
  ⟨"CAL_DARK", 0x116024, [], 0xffffffff, 0x0, 0x0, false, .kCal, .num 0x14ec78⟩,
  ⟨"CAL_REF_V", 0x116028, [], 0x0, 0x0, 0x0, false, .kCal, .num 0x0⟩,
  ⟨"CAL_REF_R", 0x11602c, [], 0x0, 0x0, 0x0, false, .kCal, .num 0x0⟩,
  ⟨"CAL_GRID_LO", 0x116030, [], 0x0, 0x0, 0x0, false, .kCal, .num 0x0⟩,
  ⟨"CAL_GRID_HI", 0x116034, [], 0x0, 0x0, 0x0, false, .kCal, .num 0x0⟩,
  ⟨"CAL_KEPT", 0x116038, [], 0x0, 0x0, 0x0, false, .kCal, .num 0x0⟩,
  ⟨"CAL_DISAGREED", 0x11603c, [], 0x0, 0x0, 0x0, false, .kCal, .num 0x0⟩,
  ⟨"CAL_PRECONDS", 0x116040, [], 0x0, 0x0, 0x0, false, .kCal, .num 0x0⟩,
  ⟨"CAL_HIST", 0x116044, [], 0x0, 0x0, 0x0, false, .kCal, .num 0x0⟩,
  ⟨"CAL_CMD", 0x116048, [], 0x0, 0x0, 0x0, false, .kCal, .num 0x0⟩,
  ⟨"CAL_HASH", 0x116080, [(0x4, 16)], 0x0, 0x0, 0x0, false, .kCal, .num 0x0⟩,
  ⟨"CAL_DHASH", 0x1160c0, [(0x4, 16)], 0x0, 0x0, 0x0, false, .kCal, .num 0x0⟩,
  ⟨"CAL_DHASH_TGEN", 0x116100, [], 0x0, 0x0, 0x0, false, .kCal, .num 0x0⟩,
  ⟨"CAL_SKIPPED_REF", 0x116104, [], 0x0, 0x0, 0x0, false, .kCal, .num 0x0⟩]
/-- Rows of the base and tile register tables, part 6. -/
def baseRows5 : List RegRow := [
  ⟨"CAL_TILE", 0x116200, [(0x8, 64)], 0x0, 0x0, 0x0, false, .kCal, .num 0x0⟩,
  ⟨"CAL_TSTEP", 0x116204, [(0x8, 64)], 0x0, 0x0, 0x0, false, .kCal, .num 0x0⟩,
  ⟨"CAL_SEQ_STATUS", 0x116400, [], 0x0, 0x0, 0xc, false, .kCal, .num 0x0⟩,
  ⟨"CAL_SEQ_POS", 0x116404, [], 0x0, 0x0, 0x0, false, .kCal, .num 0x0⟩,
  ⟨"TKN_STATE", 0x118000, [], 0x0, 0x0, 0x0, false, .kTkn, .num 0x0⟩,
  ⟨"TKN_STATUS", 0x118004, [], 0x0, 0x0, 0x1ff, false, .kTkn, .num 0x0⟩,
  ⟨"TKN_CFG", 0x118008, [], 0x37f, 0x0, 0x0, true, .kTkn, .num 0x30a⟩,
  ⟨"TKN_CLAIM", 0x11800c, [], 0x0, 0x0, 0x0, false, .kTkn, .num 0x0⟩,
  ⟨"TKN_RENEW", 0x118010, [], 0x0, 0x0, 0x0, false, .kTkn, .num 0x0⟩,
  ⟨"TKN_RELEASE", 0x118014, [], 0x0, 0x0, 0x0, false, .kTkn, .num 0x0⟩,
  ⟨"TKN_RESUME", 0x118018, [], 0x0, 0x0, 0x0, false, .kTkn, .num 0x0⟩,
  ⟨"TKN_LEFT", 0x11801c, [], 0x0, 0x0, 0x0, false, .kTkn, .num 0x0⟩,
  ⟨"TKN_LAST", 0x118020, [], 0x0, 0x0, 0x0, false, .kTkn, .num 0x0⟩,
  ⟨"TKN_WTR", 0x118024, [], 0xffff, 0x0, 0x0, false, .kTkn, .num 0x12c⟩,
  ⟨"TKN_WTR_LEFT", 0x118028, [], 0x0, 0x0, 0x0, false, .kTkn, .num 0x0⟩,
  ⟨"TKN_REH_CTRL", 0x11802c, [], 0xffffff00, 0x0, 0x0, false, .kTkn, .num 0x2581800⟩,
  ⟨"TKN_REH_STATUS", 0x118030, [], 0x0, 0x0, 0x6, false, .kTkn, .num 0x0⟩,
  ⟨"TKN_REH_REPORT", 0x118034, [], 0x0, 0x0, 0x0, false, .kTkn, .num 0x0⟩,
  ⟨"TKN_IMG_CFG", 0x118038, [], 0x3ff, 0x0, 0x0, true, .kTkn, .num 0x32⟩,
  ⟨"TKN_IMG_GEN_LO", 0x11803c, [], 0x0, 0x0, 0x0, false, .kTkn, .num 0x0⟩,
  ⟨"TKN_IMG_GEN_HI", 0x118040, [], 0x0, 0x0, 0x0, false, .kTkn, .num 0x0⟩,
  ⟨"TKN_CNT0", 0x118044, [], 0x0, 0x0, 0x0, false, .kTkn, .num 0x0⟩,
  ⟨"TKN_CNT1", 0x118048, [], 0x0, 0x0, 0x0, false, .kTkn, .num 0x0⟩,
  ⟨"PWR_RST_CAUSE", 0x11a000, [], 0x0, 0x0, 0x300, false, .kPwr, .num 0x1⟩,
  ⟨"PWR_STRAP", 0x11a004, [], 0x0, 0x0, 0x0, false, .kPwr, .num 0x0⟩,
  ⟨"PWR_BOOT", 0x11a008, [], 0x0, 0x0, 0x0, false, .kPwr, .num 0x0⟩,
  ⟨"PWR_RST_CTRL", 0x11a00c, [], 0x0, 0x0, 0x0, false, .kPwr, .num 0x0⟩,
  ⟨"PWR_RAIL", 0x11a010, [], 0x0, 0x0, 0x0, false, .kPwr, .num 0x0⟩,
  ⟨"PWR_RAIL_LOST", 0x11a014, [], 0x0, 0x0, 0x7ff, false, .kPwr, .num 0x0⟩,
  ⟨"PWR_RST_CNT", 0x11a018, [], 0x0, 0x0, 0x0, false, .kPwr, .num 0x0⟩,
  ⟨"MEM_CTRL", 0x11c000, [], 0x7, 0x0, 0x0, false, .kMem, .num 0x5⟩,
  ⟨"MEM_STATUS", 0x11c004, [], 0x0, 0x0, 0xff, false, .kMem, .num 0x0⟩,
  ⟨"MEM_SCRUB", 0x11c008, [], 0xffff, 0x0, 0x0, true, .kMem, .num 0x18⟩,
  ⟨"MEM_CE_THR", 0x11c00c, [], 0xffffffff, 0x0, 0x0, true, .kMem, .num 0x180204⟩,
  ⟨"MEM_CE_CNT", 0x11c010, [(0x10, 2)], 0x0, 0x0, 0x0, false, .kMem, .num 0x0⟩,
  ⟨"MEM_UE_CNT", 0x11c014, [(0x10, 2)], 0x0, 0x0, 0x0, false, .kMem, .num 0x0⟩,
  ⟨"MEM_SPARED", 0x11c018, [(0x10, 2)], 0x0, 0x0, 0x0, false, .kMem, .num 0x0⟩,
  ⟨"MEM_SCRUB_POS", 0x11c01c, [(0x10, 2)], 0x0, 0x0, 0x0, false, .kMem, .num 0x0⟩,
  ⟨"MEM_ERR_ADDR_LO", 0x11c030, [], 0x0, 0x0, 0x0, false, .kMem, .num 0x0⟩,
  ⟨"MEM_ERR_ADDR_HI", 0x11c034, [], 0x0, 0x0, 0x0, false, .kMem, .num 0x0⟩]
/-- Rows of the base and tile register tables, part 7. -/
def baseRows6 : List RegRow := [
  ⟨"MEM_ERR_SYM", 0x11c038, [], 0x0, 0x0, 0x0, false, .kMem, .num 0x7f7f⟩,
  ⟨"MEM_CMD", 0x11c03c, [], 0x0, 0x0, 0x0, false, .kMem, .num 0x0⟩,
  ⟨"MEM_PROBE_LO", 0x11c040, [], 0xffffffc0, 0x0, 0x0, false, .kMem, .num 0x0⟩,
  ⟨"MEM_PROBE_HI", 0x11c044, [], 0xffff, 0x0, 0x0, false, .kMem, .num 0x0⟩,
  ⟨"MEM_PROBE_META", 0x11c048, [], 0x0, 0x0, 0x0, false, .kMem, .num 0x0⟩,
  ⟨"MEM_USER_BASE_LO", 0x11c050, [], 0x0, 0x0, 0x0, false, .kMem, .rUBLO⟩,
  ⟨"MEM_USER_BASE_HI", 0x11c054, [], 0x0, 0x0, 0x0, false, .kMem, .rUBHI⟩,
  ⟨"SP_RETMAP_A", 0x11c100, [], 0xffffffff, 0x0, 0x0, false, .kMem, .num 0xffffffff⟩,
  ⟨"SP_RETMAP_B", 0x11c104, [], 0xffffffff, 0x0, 0x0, false, .kMem, .num 0xffffffff⟩,
  ⟨"MX_STATUS", 0x11d000, [], 0x0, 0x0, 0xf, false, .kMx, .num 0x0⟩,
  ⟨"MX_DECERR_CNT", 0x11d004, [], 0x0, 0x0, 0x0, false, .kMx, .num 0x0⟩,
  ⟨"MX_DECERR_ADDR_LO", 0x11d008, [], 0x0, 0x0, 0x0, false, .kMx, .num 0x0⟩,
  ⟨"MX_DECERR_ADDR_HI", 0x11d00c, [], 0x0, 0x0, 0x0, false, .kMx, .num 0x0⟩,
  ⟨"MX_REFUSED_CNT", 0x11d010, [], 0x0, 0x0, 0x0, false, .kMx, .num 0x0⟩,
  ⟨"MX_REFUSED_ADDR_LO", 0x11d014, [], 0x0, 0x0, 0x0, false, .kMx, .num 0x0⟩,
  ⟨"MX_REFUSED_ADDR_HI", 0x11d018, [], 0x0, 0x0, 0x0, false, .kMx, .num 0x0⟩,
  ⟨"MX_OUT", 0x11d100, [(0x4, 12)], 0x0, 0x0, 0x0, false, .kMx, .num 0x0⟩,
  ⟨"FLT_CTRL", 0x11e000, [], 0x3, 0x0, 0x0, false, .kFlt, .num 0x2⟩,
  ⟨"FLT_STATUS", 0x11e004, [], 0x0, 0x0, 0x3f, false, .kFlt, .num 0x0⟩,
  ⟨"FLT_CMD", 0x11e008, [], 0x0, 0x0, 0x0, false, .kFlt, .num 0x0⟩,
  ⟨"FLT_SAFE", 0x11e00c, [], 0x0, 0x0, 0x0, false, .kFlt, .num 0x0⟩,
  ⟨"FLT_FIRST", 0x11e010, [], 0x0, 0x0, 0x0, false, .kFlt, .num 0x0⟩,
  ⟨"FLT_FIRST_NS", 0x11e014, [], 0x0, 0x0, 0x0, false, .kFlt, .num 0x0⟩,
  ⟨"FLT_FIRST_SEC", 0x11e018, [], 0x0, 0x0, 0x0, false, .kFlt, .num 0x0⟩,
  ⟨"FLT_FIRST_MERGE", 0x11e01c, [], 0x0, 0x0, 0x0, false, .kFlt, .num 0x0⟩,
  ⟨"FLT_FIRST_LAST_NS", 0x11e020, [], 0x0, 0x0, 0x0, false, .kFlt, .num 0x0⟩,
  ⟨"FLT_FIRST_LAST_SEC", 0x11e024, [], 0x0, 0x0, 0x0, false, .kFlt, .num 0x0⟩,
  ⟨"FLT_FIRST_SRC", 0x11e030, [(0x4, 4)], 0x0, 0x0, 0x0, false, .kFlt, .num 0x0⟩,
  ⟨"FLT_OPEN", 0x11e040, [(0x4, 4)], 0x0, 0x0, 0x0, false, .kFlt, .num 0x0⟩,
  ⟨"FLT_LOG_SEQ", 0x11e050, [], 0x0, 0x0, 0x0, false, .kFlt, .num 0x0⟩,
  ⟨"FLT_LOG_CNT", 0x11e054, [], 0x0, 0x0, 0x0, false, .kFlt, .num 0x0⟩,
  ⟨"FLT_LOG_WEAR", 0x11e058, [], 0x0, 0x0, 0x0, false, .kFlt, .num 0x0⟩,
  ⟨"FLT_SRC_CFG", 0x11e400, [(0x20, 64)], 0x330000ff, 0x0, 0x0, true, .kFlt, .rFLTCFG⟩,
  ⟨"FLT_SRC_WIN", 0x11e404, [(0x20, 64)], 0xffffffff, 0x0, 0x0, true, .kFlt, .rFLTWIN⟩,
  ⟨"FLT_SRC_STAT", 0x11e408, [(0x20, 64)], 0x0, 0x0, 0x0, false, .kFlt, .num 0x0⟩,
  ⟨"FLT_SRC_TOTAL", 0x11e40c, [(0x20, 64)], 0x0, 0x0, 0x0, false, .kFlt, .num 0x0⟩,
  ⟨"FLT_SRC_MERGES", 0x11e410, [(0x20, 64)], 0x0, 0x0, 0x0, false, .kFlt, .num 0x0⟩,
  ⟨"FLT_SRC_LAST", 0x11e414, [(0x20, 64)], 0x0, 0x0, 0x0, false, .kFlt, .num 0x0⟩,
  ⟨"FLT_SRC_CLR", 0x11e418, [(0x20, 64)], 0x0, 0x0, 0x0, false, .kFlt, .num 0x0⟩,
  ⟨"THM_CTRL", 0x120000, [], 0x131, 0x0, 0x0, true, .kThm, .num 0x11⟩]
/-- Rows of the base and tile register tables, part 8. -/
def baseRows7 : List RegRow := [
  ⟨"THM_STATUS", 0x120004, [], 0x0, 0x0, 0x7f, false, .kThm, .num 0x0⟩,
  ⟨"THM_LIMIT", 0x120008, [], 0xffff, 0x0, 0x0, true, .kThm, .num 0x7d6e69⟩,
  ⟨"THM_CMD", 0x12000c, [], 0x0, 0x0, 0x0, false, .kThm, .num 0x0⟩,
  ⟨"THM_DOMAIN", 0x120010, [(0x4, 3)], 0x0, 0x0, 0x0, false, .kThm, .num 0x0⟩,
  ⟨"THM_ROUND_LO", 0x120020, [], 0x0, 0x0, 0x0, false, .kThm, .num 0x0⟩,
  ⟨"THM_ROUND_HI", 0x120024, [], 0x0, 0x0, 0x0, false, .kThm, .num 0x0⟩,
  ⟨"THM_SUSPECT", 0x120028, [(0x4, 5)], 0x0, 0x0, 0x0, false, .kThm, .num 0x0⟩,
  ⟨"THM_PSUSPECT", 0x12003c, [(0x4, 4)], 0x0, 0x0, 0x0, false, .kThm, .num 0x0⟩,
  ⟨"THM_TILE", 0x120100, [(0x4, 64)], 0x0, 0x0, 0x0, false, .kThm, .num 0x0⟩,
  ⟨"THM_LEG", 0x121000, [(0x4, 6)], 0x0, 0x0, 0x0, false, .kThm, .num 0x0⟩,
  ⟨"HK_STATUS", 0x122000, [], 0x0, 0x0, 0xc, false, .kHk, .num 0x0⟩,
  ⟨"HK_INJ", 0x122004, [], 0xffff, 0x0, 0x0, false, .kHk, .num 0x0⟩,
  ⟨"HK_INJ_RES", 0x122008, [], 0x0, 0x0, 0x0, false, .kHk, .num 0x0⟩,
  ⟨"HK_INJ_G_LO", 0x12200c, [], 0x0, 0x0, 0x0, false, .kHk, .num 0x0⟩,
  ⟨"HK_INJ_G_HI", 0x122010, [], 0x0, 0x0, 0x0, false, .kHk, .num 0x0⟩,
  ⟨"HK_VALUE", 0x122400, [(0x4, 176)], 0x0, 0x0, 0x0, false, .kHk, .num 0x0⟩,
  ⟨"REC_CTRL", 0x124000, [], 0x103, 0x0, 0x0, true, .kRec, .num 0x101⟩,
  ⟨"REC_STATUS", 0x124004, [], 0x0, 0x0, 0xf1, false, .kRec, .num 0x0⟩,
  ⟨"REC_SIZE", 0x124008, [], 0x0, 0x7f, 0x0, false, .kRec, .rRECSIZE⟩,
  ⟨"REC_TRIG", 0x12400c, [], 0x30f, 0x0, 0x0, false, .kRec, .num 0x308⟩,
  ⟨"REC_POST", 0x124010, [], 0xffff, 0x0, 0x0, false, .kRec, .num 0x3e8⟩,
  ⟨"REC_CKPT", 0x124014, [], 0x3f, 0x0, 0x0, false, .kRec, .num 0xa⟩,
  ⟨"REC_CAP", 0x124018, [], 0xff, 0x0, 0x0, false, .kRec, .num 0x1⟩,
  ⟨"REC_WPTR", 0x12401c, [], 0x0, 0x0, 0x0, false, .kRec, .num 0x0⟩,
  ⟨"REC_BSEQ_LO", 0x124020, [], 0x0, 0x0, 0x0, false, .kRec, .num 0x0⟩,
  ⟨"REC_BSEQ_HI", 0x124024, [], 0x0, 0x0, 0x0, false, .kRec, .num 0x0⟩,
  ⟨"REC_FREEZE_G_LO", 0x124028, [], 0x0, 0x0, 0x0, false, .kRec, .num 0x0⟩,
  ⟨"REC_FREEZE_G_HI", 0x12402c, [], 0x0, 0x0, 0x0, false, .kRec, .num 0x0⟩,
  ⟨"REC_FILL", 0x124030, [], 0x0, 0x0, 0x0, false, .kRec, .num 0x0⟩,
  ⟨"REC_CNT", 0x124034, [], 0x0, 0x0, 0x0, false, .kRec, .num 0x0⟩,
  ⟨"REC_PULL_CTRL", 0x124040, [], 0xf01ffff, 0x0, 0x0, false, .kRec, .num 0x0⟩,
  ⟨"REC_PULL_DST_LO", 0x124044, [], 0xfffffff8, 0x0, 0x0, false, .kRec, .num 0x0⟩,
  ⟨"REC_PULL_DST_HI", 0x124048, [], 0xffffffff, 0x0, 0x0, false, .kRec, .num 0x0⟩,
  ⟨"REC_PULL_STATUS", 0x12404c, [], 0x0, 0x0, 0x60000000, false, .kRec, .num 0x0⟩,
  ⟨"REC_RP_CTRL", 0x124100, [], 0x3, 0x0, 0x0, false, .kRec, .num 0x2⟩,
  ⟨"REC_RP_STATUS", 0x124104, [], 0x0, 0x0, 0x0, false, .kRec, .num 0x0⟩,
  ⟨"REC_RP_FROM", 0x124108, [], 0x1ffff, 0x0, 0x0, false, .kRec, .num 0x0⟩,
  ⟨"REC_RP_FROM_OFF", 0x12410c, [], 0x1ffff, 0x0, 0x0, false, .kRec, .num 0x0⟩,
  ⟨"REC_RP_SLOTS_LO", 0x124110, [], 0xfffff000, 0x0, 0x0, false, .kRec, .num 0x0⟩,
  ⟨"REC_RP_SLOTS_HI", 0x124114, [], 0xffff, 0x0, 0x0, false, .kRec, .num 0x0⟩]
/-- Rows of the base and tile register tables, part 9. -/
def baseRows8 : List RegRow := [
  ⟨"REC_RP_G_LO", 0x124118, [], 0x0, 0x0, 0x0, false, .kRec, .num 0x0⟩,
  ⟨"REC_RP_G_HI", 0x12411c, [], 0x0, 0x0, 0x0, false, .kRec, .num 0x0⟩,
  ⟨"REC_RP_DIFF_G_LO", 0x124120, [], 0x0, 0x0, 0x0, false, .kRec, .num 0x0⟩,
  ⟨"REC_RP_DIFF_G_HI", 0x124124, [], 0x0, 0x0, 0x0, false, .kRec, .num 0x0⟩,
  ⟨"REC_RP_DIFF", 0x124128, [], 0x0, 0x0, 0x0, false, .kRec, .num 0x0⟩,
  ⟨"REC_RP_DIFF_VAL", 0x12412c, [], 0x0, 0x0, 0x0, false, .kRec, .num 0x0⟩,
  ⟨"REC_RP_DIFFS", 0x124130, [], 0x0, 0x0, 0x0, false, .kRec, .num 0x0⟩,
  ⟨"DRV_TCTRL", 0x800000, [(0x20000, 64)], 0x2, 0x1, 0x0, false, .kDrv, .num 0x0⟩,
  ⟨"DRV_STATUS", 0x800004, [(0x20000, 64)], 0x0, 0x0, 0x7f, false, .kDrv, .num 0x0⟩,
  ⟨"DRV_TCNT", 0x800008, [(0x20000, 64)], 0x0, 0x0, 0x0, false, .kDrv, .num 0x0⟩,
  ⟨"DRV_SPARE", 0x800010, [(0x20000, 64), (0x4, 12)], 0x800000ff, 0x0, 0x0, false, .kDrv, .num 0x0⟩,
  ⟨"DRV_CFG", 0x800400, [(0x20000, 64), (0x40, 240)], 0x0, 0x0, 0x0, false, .kDrv, .rDRVCFG⟩,
  ⟨"DRV_LIMIT", 0x800404, [(0x20000, 64), (0x40, 240)], 0x0, 0x0, 0x0, false, .kDrv, .num 0x0⟩,
  ⟨"DRV_ACTIVE", 0x800408, [(0x20000, 64), (0x40, 240)], 0x0, 0x0, 0x0, false, .kDrv, .num 0x0⟩,
  ⟨"DRV_NEXT", 0x80040c, [(0x20000, 64), (0x40, 240)], 0x0, 0x0, 0x0, false, .kDrv, .num 0x0⟩,
  ⟨"DRV_HOLD", 0x800410, [(0x20000, 64), (0x40, 240)], 0x0, 0x0, 0x0, false, .kDrv, .num 0x0⟩,
  ⟨"DRV_OUT", 0x800414, [(0x20000, 64), (0x40, 240)], 0x0, 0x0, 0x0, false, .kDrv, .num 0x0⟩,
  ⟨"DRV_SLEW", 0x800418, [(0x20000, 64), (0x40, 240)], 0xfff00ff, 0x0, 0x0, true, .kDrv, .num 0x400001⟩,
  ⟨"DRV_PE", 0x80041c, [(0x20000, 64), (0x40, 240)], 0xc000ffff, 0x0, 0x0, true, .kDrv, .num 0x0⟩,
  ⟨"DRV_BRZ", 0x800420, [(0x20000, 64), (0x40, 240)], 0x0, 0x0, 0x0, false, .kDrv, .num 0x3f0000⟩,
  ⟨"DRV_PHASE", 0x800424, [(0x20000, 64), (0x40, 240)], 0x0, 0x0, 0x0, false, .kDrv, .num 0x0⟩,
  ⟨"DRV_CORR", 0x800428, [(0x20000, 64), (0x40, 240)], 0x0, 0x0, 0x0, false, .kDrv, .num 0x40000000⟩,
  ⟨"DRV_DRT", 0x80042c, [(0x20000, 64), (0x40, 240)], 0x0, 0x0, 0x0, false, .kDrv, .num 0x0⟩,
  ⟨"DRV_QUEUE", 0x800430, [(0x20000, 64), (0x40, 240)], 0x0, 0x0, 0x0, false, .kDrv, .num 0x0⟩,
  ⟨"DRV_QSTAT", 0x800434, [(0x20000, 64), (0x40, 240)], 0x0, 0x0, 0xf00, false, .kDrv, .num 0x0⟩,
  ⟨"MON_TCTRL", 0x804000, [(0x20000, 64)], 0x0, 0x0, 0x0, false, .kMon, .num 0x0⟩,
  ⟨"MON_STATUS", 0x804004, [(0x20000, 64)], 0x0, 0x0, 0x3f9, false, .kMon, .num 0x0⟩,
  ⟨"MON_TCNT", 0x804008, [(0x20000, 64)], 0x0, 0x0, 0x0, false, .kMon, .num 0x0⟩,
  ⟨"MON_SPARE", 0x804010, [(0x20000, 64), (0x4, 4)], 0x800000ff, 0x0, 0x0, false, .kMon, .num 0x0⟩,
  ⟨"MON_INJ", 0x804020, [(0x20000, 64)], 0x807fffff, 0x0, 0x0, false, .kMon, .num 0x0⟩,
  ⟨"MON_CFG", 0x804400, [(0x20000, 64), (0x20, 96)], 0xf00, 0x0, 0x0, true, .kMon, .rMONCFG⟩,
  ⟨"MON_FAST", 0x804404, [(0x20000, 64), (0x20, 96)], 0x0, 0x0, 0x0, false, .kMon, .num 0x0⟩,
  ⟨"MON_FINE", 0x804408, [(0x20000, 64), (0x20, 96)], 0x0, 0x0, 0x0, false, .kMon, .num 0x0⟩,
  ⟨"MON_CORR0", 0x80440c, [(0x20000, 64), (0x20, 96)], 0x0, 0x0, 0x0, false, .kMon, .num 0x40000000⟩,
  ⟨"MON_CORR1", 0x804410, [(0x20000, 64), (0x20, 96)], 0x0, 0x0, 0x0, false, .kMon, .num 0x40000000⟩,
  ⟨"MON_CORR2", 0x804414, [(0x20000, 64), (0x20, 96)], 0x0, 0x0, 0x0, false, .kMon, .num 0x40000000⟩,
  ⟨"MON_CORR3", 0x804418, [(0x20000, 64), (0x20, 96)], 0x0, 0x0, 0x0, false, .kMon, .num 0x40000000⟩,
  ⟨"MON_CSTAT", 0x80441c, [(0x20000, 64), (0x20, 96)], 0x0, 0x0, 0x0, false, .kMon, .num 0x0⟩]
/-- Every row of the base and tile register tables. -/
def baseRows : List RegRow := baseRows0 ++ baseRows1 ++ baseRows2 ++ baseRows3 ++ baseRows4 ++ baseRows5 ++ baseRows6 ++ baseRows7 ++ baseRows8

/-- Rows of the unit register tables, part 1. -/
def unitRows0 : List RegRow := [
  ⟨"HL_ID", 0x0, [], 0x0, 0x0, 0x0, false, .kHl, .rHLID⟩,
  ⟨"HL_CTRL", 0x4, [], 0x3, 0x0, 0x0, false, .kHl, .num 0x2⟩,
  ⟨"HL_STATUS", 0x8, [], 0x0, 0x0, 0x1ff8, false, .kHl, .num 0x0⟩,
  ⟨"HL_LINK", 0xc, [], 0x0, 0x0, 0x0, false, .kHl, .num 0x0⟩,
  ⟨"HL_REFUSED", 0x10, [], 0x0, 0x0, 0x0, false, .kHl, .num 0x0⟩,
  ⟨"HL_CERR_CNT", 0x14, [], 0x0, 0x0, 0x0, false, .kHl, .num 0x0⟩,
  ⟨"HL_UERR_CNT", 0x18, [], 0x0, 0x0, 0x0, false, .kHl, .num 0x0⟩,
  ⟨"HL_LOST", 0x1c, [], 0x0, 0x0, 0x0, false, .kHl, .num 0x0⟩,
  ⟨"HL_RETRAIN", 0x20, [], 0x0, 0x0, 0x0, false, .kHl, .num 0x0⟩,
  ⟨"PWR_CU_SELF", 0x1000, [], 0x0, 0x0, 0x0, false, .kPwru, .num 0x0⟩,
  ⟨"RTE_SOLVE_STAT", 0x2000, [], 0x0, 0x0, 0x0, false, .kRteu, .num 0x0⟩,
  ⟨"RTE_SOLVE_EXT", 0x2004, [], 0x0, 0x0, 0x0, false, .kRteu, .num 0x0⟩,
  ⟨"RTE_SOLVE_NS", 0x2008, [], 0x0, 0x0, 0x0, false, .kRteu, .num 0x0⟩,
  ⟨"RTE_SOLVE_EPOCH", 0x200c, [], 0x0, 0x0, 0x0, false, .kRteu, .num 0x0⟩,
  ⟨"RTE_SOLVE_CNT", 0x2010, [], 0x0, 0x0, 0x0, false, .kRteu, .num 0x0⟩,
  ⟨"RTE_INFEAS_CNT", 0x2014, [], 0x0, 0x0, 0x0, false, .kRteu, .num 0x0⟩,
  ⟨"Q_POLL", 0x3000, [], 0x3fff, 0x0, 0x0, true, .kQ, .num 0xfa⟩,
  ⟨"Q_INFLIGHT", 0x3004, [], 0x0, 0x0, 0x0, false, .kQ, .num 0x0⟩,
  ⟨"Q_RTT", 0x3008, [], 0x0, 0x0, 0x0, false, .kQ, .num 0x0⟩,
  ⟨"Q_GRANTS", 0x300c, [], 0x0, 0x0, 0x0, false, .kQ, .num 0x0⟩,
  ⟨"Q_FN_WEIGHT", 0x3040, [(0x4, 16)], 0xff, 0x0, 0x0, true, .kQ, .num 0x10⟩,
  ⟨"Q_FN_QUOTA", 0x3080, [(0x4, 16)], 0x7fff, 0x0, 0x0, true, .kQ, .num 0x4000⟩,
  ⟨"SP_STATUS", 0x4000, [], 0x0, 0x0, 0xff, false, .kSp, .num 0x0⟩,
  ⟨"SP_CNT", 0x4004, [], 0x0, 0x0, 0x0, false, .kSp, .num 0x0⟩,
  ⟨"SP_CMD", 0x4008, [], 0x0, 0x0, 0x0, false, .kSp, .num 0x0⟩,
  ⟨"SP_RET_THR", 0x400c, [], 0xff, 0x0, 0x0, false, .kSp, .num 0x8⟩,
  ⟨"SP_BANK", 0x4100, [(0x4, 32)], 0xc0000f0f, 0x0, 0x0, false, .kSp, .num 0xf0f⟩,
  ⟨"DM_CTRL", 0x5000, [], 0x7, 0x0, 0x0, true, .kDm, .num 0x3⟩,
  ⟨"DM_STATUS", 0x5004, [], 0x0, 0x0, 0x1f, false, .kDm, .num 0x0⟩,
  ⟨"DM_ACTIVE", 0x5008, [], 0x0, 0x0, 0x0, false, .kDm, .num 0x0⟩,
  ⟨"DM_BUF", 0x500c, [], 0x0, 0x0, 0x0, false, .kDm, .num 0x0⟩,
  ⟨"DM_CNT", 0x5010, [], 0x0, 0x0, 0x0, false, .kDm, .num 0x0⟩,
  ⟨"DM_CFG", 0x5100, [(0x80, 16)], 0x10000, 0xff0000ff, 0x0, false, .kDmch, .rDMCFG⟩,
  ⟨"DM_CTL", 0x5104, [(0x80, 16)], 0x2, 0x0, 0x0, false, .kDmch, .num 0x0⟩,
  ⟨"DM_ST", 0x5108, [(0x80, 16)], 0x0, 0x0, 0xc6, false, .kDmch, .num 0x0⟩,
  ⟨"DM_ELEM", 0x510c, [(0x80, 16)], 0x0, 0xffff, 0x0, false, .kDmch, .num 0x0⟩,
  ⟨"DM_SRC_LO", 0x5110, [(0x80, 16)], 0x0, 0xffffffff, 0x0, false, .kDmch, .num 0x0⟩,
  ⟨"DM_SRC_HI", 0x5114, [(0x80, 16)], 0x0, 0xffffffff, 0x0, false, .kDmch, .num 0x0⟩,
  ⟨"DM_DST_LO", 0x5118, [(0x80, 16)], 0x0, 0xffffffff, 0x0, false, .kDmch, .num 0x0⟩,
  ⟨"DM_DST_HI", 0x511c, [(0x80, 16)], 0x0, 0xffffffff, 0x0, false, .kDmch, .num 0x0⟩]
/-- Rows of the unit register tables, part 2. -/
def unitRows1 : List RegRow := [
  ⟨"DM_LOOP0", 0x5120, [(0x80, 16)], 0x0, 0xffff, 0x0, false, .kDmch, .num 0x0⟩,
  ⟨"DM_LOOP1", 0x5124, [(0x80, 16)], 0x0, 0xffff, 0x0, false, .kDmch, .num 0x0⟩,
  ⟨"DM_LOOP2", 0x5128, [(0x80, 16)], 0x0, 0xffff, 0x0, false, .kDmch, .num 0x0⟩,
  ⟨"DM_SSTEP0", 0x5130, [(0x80, 16)], 0x0, 0xffffffff, 0x0, false, .kDmch, .num 0x0⟩,
  ⟨"DM_SSTEP1", 0x5134, [(0x80, 16)], 0x0, 0xffffffff, 0x0, false, .kDmch, .num 0x0⟩,
  ⟨"DM_SSTEP2", 0x5138, [(0x80, 16)], 0x0, 0xffffffff, 0x0, false, .kDmch, .num 0x0⟩,
  ⟨"DM_DSTEP0", 0x5140, [(0x80, 16)], 0x0, 0xffffffff, 0x0, false, .kDmch, .num 0x0⟩,
  ⟨"DM_DSTEP1", 0x5144, [(0x80, 16)], 0x0, 0xffffffff, 0x0, false, .kDmch, .num 0x0⟩,
  ⟨"DM_DSTEP2", 0x5148, [(0x80, 16)], 0x0, 0xffffffff, 0x0, false, .kDmch, .num 0x0⟩,
  ⟨"DM_OFF", 0x514c, [(0x80, 16)], 0x0, 0x0, 0x0, false, .kDmch, .num 0x0⟩,
  ⟨"DM_CUR_SRC_LO", 0x5150, [(0x80, 16)], 0x0, 0x0, 0x0, false, .kDmch, .num 0x0⟩,
  ⟨"DM_CUR_SRC_HI", 0x5154, [(0x80, 16)], 0x0, 0x0, 0x0, false, .kDmch, .num 0x0⟩,
  ⟨"DM_CUR_DST_LO", 0x5158, [(0x80, 16)], 0x0, 0x0, 0x0, false, .kDmch, .num 0x0⟩,
  ⟨"DM_CUR_DST_HI", 0x515c, [(0x80, 16)], 0x0, 0x0, 0x0, false, .kDmch, .num 0x0⟩,
  ⟨"DM_MOVED_LO", 0x5160, [(0x80, 16)], 0x0, 0x0, 0x0, false, .kDmch, .num 0x0⟩,
  ⟨"DM_MOVED_HI", 0x5164, [(0x80, 16)], 0x0, 0x0, 0x0, false, .kDmch, .num 0x0⟩,
  ⟨"DM_ERR_LO", 0x5168, [(0x80, 16)], 0x0, 0x0, 0x0, false, .kDmch, .num 0x0⟩,
  ⟨"DM_ERR_HI", 0x516c, [(0x80, 16)], 0x0, 0x0, 0x0, false, .kDmch, .num 0x0⟩,
  ⟨"DM_OWN", 0x5170, [(0x80, 16)], 0x0, 0x0, 0x0, false, .kDmch, .num 0x0⟩,
  ⟨"FLT_U_STATUS", 0x6000, [], 0x0, 0x0, 0x5, false, .kFltu, .num 0x0⟩,
  ⟨"FLT_U_SRC_CFG", 0x6400, [(0x20, 32)], 0x330000ff, 0x0, 0x0, true, .kFltu, .rFLTCFGU⟩,
  ⟨"FLT_U_SRC_WIN", 0x6404, [(0x20, 32)], 0xffffffff, 0x0, 0x0, true, .kFltu, .rFLTWINU⟩,
  ⟨"FLT_U_SRC_STAT", 0x6408, [(0x20, 32)], 0x0, 0x0, 0x0, false, .kFltu, .num 0x0⟩,
  ⟨"FLT_U_SRC_TOTAL", 0x640c, [(0x20, 32)], 0x0, 0x0, 0x0, false, .kFltu, .num 0x0⟩,
  ⟨"FLT_U_SRC_MERGES", 0x6410, [(0x20, 32)], 0x0, 0x0, 0x0, false, .kFltu, .num 0x0⟩,
  ⟨"FLT_U_SRC_LAST", 0x6414, [(0x20, 32)], 0x0, 0x0, 0x0, false, .kFltu, .num 0x0⟩,
  ⟨"FLT_U_SRC_CLR", 0x6418, [(0x20, 32)], 0x0, 0x0, 0x0, false, .kFltu, .num 0x0⟩,
  ⟨"SEC_STATUS", 0x7000, [], 0x0, 0x0, 0xff, false, .kSec, .num 0x0⟩,
  ⟨"SEC_CMD", 0x7004, [], 0x0, 0x0, 0x0, false, .kSec, .num 0x0⟩,
  ⟨"SEC_DEVID_LO", 0x7008, [], 0x0, 0x0, 0x0, false, .kSec, .rDEVLO⟩,
  ⟨"SEC_DEVID_HI", 0x700c, [], 0x0, 0x0, 0x0, false, .kSec, .rDEVHI⟩,
  ⟨"SEC_FUSE", 0x7010, [], 0x0, 0x0, 0x0, false, .kSec, .rFUSE⟩,
  ⟨"SEC_BOOT", 0x7014, [], 0x0, 0x0, 0x0, false, .kSec, .num 0x0⟩,
  ⟨"SEC_SCOPE", 0x7018, [], 0x0, 0x0, 0x0, false, .kSec, .num 0x0⟩,
  ⟨"SEC_MEAS", 0x7020, [(0x4, 16)], 0x0, 0x0, 0x0, false, .kSec, .num 0x0⟩,
  ⟨"SEC_NONCE", 0x7060, [(0x4, 8)], 0x0, 0x0, 0x0, false, .kSec, .num 0x0⟩,
  ⟨"SEC_CERT", 0x8000, [(0x4, 4096)], 0x0, 0x0, 0x0, false, .kSec, .rCERT⟩,
  ⟨"SEC_BUF", 0xc000, [(0x4, 2048)], 0x0, 0x0, 0x0, false, .kSec, .num 0x0⟩,
  ⟨"PMC_CTRL", 0x10000, [], 0x3, 0x0, 0x0, false, .kPmc, .num 0x1⟩,
  ⟨"PMC_STATUS", 0x10004, [], 0x0, 0x0, 0x1, false, .kPmc, .num 0x0⟩]
/-- Rows of the unit register tables, part 3. -/
def unitRows2 : List RegRow := [
  ⟨"PMC_FROZEN_CLK", 0x10008, [], 0x0, 0x0, 0x0, false, .kPmc, .num 0x0⟩,
  ⟨"PMC_OVF", 0x10010, [(0x4, 8)], 0x0, 0x0, 0xffffffff, false, .kPmc, .num 0x0⟩,
  ⟨"PMC_CNT", 0x10400, [(0x4, 256)], 0x0, 0xffffffff, 0x0, false, .kPmc, .num 0x0⟩,
  ⟨"PMC_EVT", 0x10800, [(0x4, 256)], 0x8000ffff, 0x0, 0x0, true, .kPmc, .rPMCEVT⟩,
  ⟨"PMC_WIN_CTRL", 0x11000, [], 0x80000000, 0x1fffff, 0x0, false, .kPmcw, .num 0x640⟩,
  ⟨"PMC_WIN_SEQ", 0x11004, [], 0x0, 0x0, 0x0, false, .kPmcw, .num 0x0⟩,
  ⟨"PMC_WIN_G_LO", 0x11008, [], 0x0, 0x0, 0x0, false, .kPmcw, .num 0x0⟩,
  ⟨"PMC_WIN_G_HI", 0x1100c, [], 0x0, 0x0, 0x0, false, .kPmcw, .num 0x0⟩,
  ⟨"PMC_WIN_RD_LO", 0x11100, [(0x10, 12)], 0x0, 0x0, 0x0, false, .kPmcw, .num 0x0⟩,
  ⟨"PMC_WIN_RD_HI", 0x11104, [(0x10, 12)], 0x0, 0x0, 0x0, false, .kPmcw, .num 0x0⟩,
  ⟨"PMC_WIN_WR_LO", 0x11108, [(0x10, 12)], 0x0, 0x0, 0x0, false, .kPmcw, .num 0x0⟩,
  ⟨"PMC_WIN_WR_HI", 0x1110c, [(0x10, 12)], 0x0, 0x0, 0x0, false, .kPmcw, .num 0x0⟩,
  ⟨"PMC_WIN_RX_LO", 0x111c0, [], 0x0, 0x0, 0x0, false, .kPmcw, .num 0x0⟩,
  ⟨"PMC_WIN_RX_HI", 0x111c4, [], 0x0, 0x0, 0x0, false, .kPmcw, .num 0x0⟩,
  ⟨"PMC_WIN_TX_LO", 0x111c8, [], 0x0, 0x0, 0x0, false, .kPmcw, .num 0x0⟩,
  ⟨"PMC_WIN_TX_HI", 0x111cc, [], 0x0, 0x0, 0x0, false, .kPmcw, .num 0x0⟩,
  ⟨"LOOP_CELL_CFG", 0x40000, [(0x20, 4864)], 0x33, 0x0, 0x0, true, .kCell, .num 0x0⟩,
  ⟨"LOOP_CELL_INT", 0x40004, [(0x20, 4864)], 0x0, 0x0, 0x0, false, .kCell, .num 0x0⟩,
  ⟨"LOOP_CELL_ERR", 0x40008, [(0x20, 4864)], 0x0, 0x0, 0x0, false, .kCell, .num 0x0⟩,
  ⟨"LOOP_CELL_HLTH", 0x4000c, [(0x20, 4864)], 0x0, 0x0, 0x0, false, .kCell, .num 0x0⟩,
  ⟨"LOOP_CELL_SAT", 0x40010, [(0x20, 4864)], 0x0, 0x0, 0x0, false, .kCell, .num 0x0⟩,
  ⟨"Q_CTRL", 0xc0000, [(0x4000, 16)], 0x1, 0x0, 0x0, false, .kQf, .num 0x0⟩,
  ⟨"Q_STATUS", 0xc0004, [(0x4000, 16)], 0x0, 0x0, 0xfe, false, .kQf, .num 0x0⟩,
  ⟨"Q_DB_LO", 0xc0008, [(0x4000, 16)], 0x0, 0xffffc000, 0x0, false, .kQf, .num 0x0⟩,
  ⟨"Q_DB_HI", 0xc000c, [(0x4000, 16)], 0x0, 0xffffffff, 0x0, false, .kQf, .num 0x0⟩,
  ⟨"Q_EQ_LO", 0xc0010, [(0x4000, 16)], 0x0, 0xfffff000, 0x0, false, .kQeq, .num 0x0⟩,
  ⟨"Q_EQ_HI", 0xc0014, [(0x4000, 16)], 0x0, 0xffffffff, 0x0, false, .kQeq, .num 0x0⟩,
  ⟨"Q_EQ_CFG", 0xc0018, [(0x4000, 16)], 0x80000000, 0x3f0f, 0x0, false, .kQeq, .num 0x104⟩,
  ⟨"Q_EQ_MOD", 0xc001c, [(0x4000, 16)], 0xfff00ff, 0x0, 0x0, true, .kQf, .num 0x1⟩,
  ⟨"Q_EQ_MASK", 0xc0020, [(0x4000, 16)], 0xffffffff, 0x0, 0x0, true, .kQf, .rEQMASK⟩,
  ⟨"Q_EQ_LOST", 0xc0024, [(0x4000, 16)], 0x0, 0x0, 0x0, false, .kQf, .num 0x0⟩,
  ⟨"Q_FN_INFLIGHT", 0xc0028, [(0x4000, 16)], 0x0, 0x0, 0x0, false, .kQf, .num 0x0⟩,
  ⟨"Q_SQ_LO", 0xc0400, [(0x4000, 16), (0x20, 64)], 0x0, 0xfffff000, 0x0, false, .kQsq, .num 0x0⟩,
  ⟨"Q_SQ_HI", 0xc0404, [(0x4000, 16), (0x20, 64)], 0x0, 0xffffffff, 0x0, false, .kQsq, .num 0x0⟩,
  ⟨"Q_SQ_CFG", 0xc0408, [(0x4000, 16), (0x20, 64)], 0x80ff0000, 0x3f00001f, 0x0, false, .kQsq, .num 0x10004⟩,
  ⟨"Q_SQ_STATUS", 0xc040c, [(0x4000, 16), (0x20, 64)], 0x0, 0x0, 0x28, false, .kQsq, .num 0x1⟩,
  ⟨"Q_SQ_CRATE", 0xc0410, [(0x4000, 16), (0x20, 64)], 0xffffff, 0x0, 0x0, true, .kQsq, .num 0x0⟩,
  ⟨"Q_SQ_GRATE", 0xc0414, [(0x4000, 16), (0x20, 64)], 0xffffff, 0x0, 0x0, true, .kQsq, .num 0x0⟩,
  ⟨"Q_SQ_BURST", 0xc0418, [(0x4000, 16), (0x20, 64)], 0xffffffff, 0x0, 0x0, true, .kQsq, .num 0x400004⟩,
  ⟨"Q_SQ_POLICED", 0xc041c, [(0x4000, 16), (0x20, 64)], 0x0, 0x0, 0x0, false, .kQsq, .num 0x0⟩]
/-- Rows of the unit register tables, part 4. -/
def unitRows3 : List RegRow := [
  ⟨"Q_CQ_LO", 0xc0c00, [(0x4000, 16), (0x20, 64)], 0x0, 0xfffff000, 0x0, false, .kQcq, .num 0x0⟩,
  ⟨"Q_CQ_HI", 0xc0c04, [(0x4000, 16), (0x20, 64)], 0x0, 0xffffffff, 0x0, false, .kQcq, .num 0x0⟩,
  ⟨"Q_CQ_CFG", 0xc0c08, [(0x4000, 16), (0x20, 64)], 0xa0000000, 0x40003f1f, 0x0, false, .kQcq, .num 0x104⟩,
  ⟨"Q_CQ_MOD", 0xc0c0c, [(0x4000, 16), (0x20, 64)], 0xfff00ff, 0x0, 0x0, true, .kQcq, .num 0x1⟩,
  ⟨"Q_CQ_STATUS", 0xc0c10, [(0x4000, 16), (0x20, 64)], 0x0, 0x0, 0x0, false, .kQcq, .num 0x10000⟩,
  ⟨"Q_TR_LO", 0xc1400, [(0x4000, 16), (0x20, 8)], 0x0, 0xfffff000, 0x0, false, .kQtr, .num 0x0⟩,
  ⟨"Q_TR_HI", 0xc1404, [(0x4000, 16), (0x20, 8)], 0x0, 0xffffffff, 0x0, false, .kQtr, .num 0x0⟩,
  ⟨"Q_TR_CFG", 0xc1408, [(0x4000, 16), (0x20, 8)], 0x80000000, 0x3f1f, 0x0, false, .kQtr, .num 0x108⟩,
  ⟨"Q_TR_MOD", 0xc140c, [(0x4000, 16), (0x20, 8)], 0xfff00ff, 0x0, 0x0, true, .kQtr, .num 0x1⟩,
  ⟨"Q_TR_STATUS", 0xc1410, [(0x4000, 16), (0x20, 8)], 0x0, 0x0, 0x0, false, .kQtr, .num 0x0⟩]
/-- Every row of the unit register tables. -/
def unitRows : List RegRow := unitRows0 ++ unitRows1 ++ unitRows2 ++ unitRows3

end Sys2Proof.Machine
end

