-- ==== Sys2Proof/Machine/ResetVals.lean ====
section
/-! DEFINITION. Finding a register's row, and the value each register holds after a cold reset (R11 and the register tables).
The few reset values that the spec states by a rule (R100, R155, R378, R517, R523, R586, R619) are computed here. -/
namespace Sys2Proof.Machine

/-- The indices of offset `d` from a row's base, outermost first, if the row has a register there. -/
def rowIndex : List (Nat × Nat) → Nat → Option (List Nat)
  | [], d => if d = 0 then some [] else none
  | (s, c) :: r, d =>
    if d / s < c then (rowIndex r (d % s)).map (fun l => (d / s) :: l)
    else match rowIndex r (d - (c - 1) * s) with
      | some l => some ((c - 1) :: l)
      | none => none

/-- The first row that has a register at `off`, with its indices. -/
def findRow : List RegRow → Nat → Option (RegRow × List Nat)
  | [], _ => none
  | r :: rs, off =>
    if off < r.base then findRow rs off
    else match rowIndex r.dims (off - r.base) with
      | some ix => some (r, ix)
      | none => findRow rs off

/-- The unit number of a unit key, or none for a base or tile key. -/
def keyUnit (k : Nat) : Option Cu :=
  if k < 0x1000000 then none else if k < 0x2000000 then some .a else some .b

/-- The row and indices of a register key. -/
def keyRow (k : Nat) : Option (RegRow × List Nat) :=
  match keyUnit k with
  | none => findRow baseRows k
  | some u => findRow unitRows (k - 0x1000000 * (1 + u.num))

/-- FLT_SRC_CFGs at reset (R523, R543): FIXED, LEVEL_SRC, REACTION, BASE and N of base source `s`. -/
def fltCfgReset (s : Nat) : Nat × Nat :=
  let mk (lvl base n react w : Nat) : Nat × Nat := (lvl * 2 ^ 30 + react * 2 ^ 28 + base * 2 ^ 24 + n, w)
  match s with
  | 0 | 1 | 2 | 3 | 4 | 5 | 6 | 7 => mk 1 2 1 1 0
  | 8 => mk 1 2 1 2 0
  | 9 => mk 1 1 255 1 1000
  | 10 => (2 ^ 31 + 3 * 2 ^ 28 + 2 * 2 ^ 24 + 1, 0)
  | 11 => mk 0 1 8 1 86400000
  | 12 => mk 0 2 3 1 3600000
  | 13 => mk 0 1 3 1 86400000
  | 14 => mk 0 0 64 1 3600000
  | 15 => mk 0 2 4 1 3600000
  | 16 => mk 0 1 8 1 86400000
  | 17 => mk 0 2 16 1 1000
  | 18 => mk 0 1 16 1 3600000
  | 19 => mk 0 1 8 1 60000
  | 20 => mk 0 1 32 1 60000
  | 21 => mk 0 1 64 1 1000
  | 22 => mk 0 2 1 1 0
  | 23 => mk 0 1 4 1 86400000
  | 24 => mk 0 2 1 1 0
  | 25 => mk 0 1 4 1 3600000
  | 26 => mk 0 0 255 0 1000
  | 27 => mk 0 2 2 1 86400000
  | _ => (0, 0)

/-- The same for local source `i` of a unit (R523). -/
def fltUnitCfgReset (i : Nat) : Nat × Nat :=
  let mk (lvl base n react w : Nat) : Nat × Nat := (lvl * 2 ^ 30 + react * 2 ^ 28 + base * 2 ^ 24 + n, w)
  match i with
  | 0 => mk 1 1 255 1 1000
  | 1 => mk 0 1 16 1 3600000
  | 2 | 3 => mk 0 2 1 1 0
  | 4 => mk 0 2 8 1 60000
  | 5 => mk 0 1 4 1 3600000
  | 6 => mk 0 2 2 1 86400000
  | 7 => mk 0 1 2 1 86400000
  | 8 => mk 0 1 16 1 60000
  | 9 => mk 0 1 16 1 1000
  | 10 => mk 0 1 8 1 60000
  | 11 => mk 0 1 8 1 86400000
  | _ => (0, 0)

/-- round(2³² × (2,000 + 100 t) / 1,600,000), the Breeze increment of tone `t` (R100). -/
def brzInc (t : Nat) : Nat := (2 ^ 32 * (2000 + 100 * t) * 2 + 1600000) / (2 * 1600000)

/-- The reset value of a row of the register tables at its indices, by part and unit. -/
def resetOf (p : Part) (u : Nat) (r : ResetVal) (ix : List Nat) : Nat :=
  match r with
  | .num v => v
  | .rINC => brzInc (ix.getD 0 0)
  | .rDRVCFG => if ix.getD 1 0 < 228 then 0x00FF00F0 else 0x80FF00F0
  | .rMONCFG => if ix.getD 1 0 < 92 then 0x00FF00F0 else 0x80FF00F0
  | .rEQMASK => if ix.getD 0 0 = 0 then 0xFFFFFFFF else 0
  | .rHLID => (match p with | .wl5128 => 0x51280000 | .wl2564 => 0x25640000) + 0x100 * u
  | .rFLTCFG => (fltCfgReset (ix.getD 0 0)).1
  | .rFLTWIN => (fltCfgReset (ix.getD 0 0)).2
  | .rFLTCFGU => (fltUnitCfgReset (ix.getD 0 0)).1
  | .rFLTWINU => (fltUnitCfgReset (ix.getD 0 0)).2
  | .rRECSIZE => match p with | .wl5128 => 0x60 | .wl2564 => 0x28
  | .rPMCEVT => match p with
      | .wl5128 => if ix.getD 0 0 % 2 = 0 then 0x80000001 else 1
      | .wl2564 => 1
  | .rDMCFG => match ix.getD 0 0 with | 14 => 0x20010020 | 15 => 0x10010020 | _ => 0x20
  | .rRESP =>
    let h (j : Nat) : Nat :=
      let k := j / 256
      if j % 256 < 200 then (Maths.response ([8000, 60000, 500000].getD k 0) (j % 256)).toNat else 0
    h (2 * ix.getD 0 0) + 65536 * h (2 * ix.getD 0 0 + 1)
  | .rSEED => 0
  | .rUBLO => 0
  | .rUBHI => match p with | .wl5128 => 0x1C | .wl2564 => 0x0E
  | .rDEVLO => 0
  | .rDEVHI => 0
  | .rFUSE => 0
  | .rCERT => 0

/-- The value of register `k` after a cold reset (R11). A key without a register reads zero (R341). -/
def regReset (p : Part) (k : Nat) : Word :=
  match keyRow k with
  | some (r, ix) => BitVec.ofNat 32 (resetOf p (match keyUnit k with | some .b => 1 | _ => 0) r.reset ix)
  | none => 0

end Sys2Proof.Machine
end

