-- ==== Sys2Proof/Machine/State.lean ====
section
/-! DEFINITION. The whole state of the block, its reset value, and the reasons a step may stop. -/
namespace Sys2Proof.Machine

/-- Reasons for a fault. No meaning of this model raises one: the spec gives every command an effect. -/
inductive Fault where
  /-- Raised by nobody: kept so that the type is inhabited. Safe. -/
  | none_
  deriving DecidableEq, Repr

/-- Reasons for a refusal. -/
inductive Refusal where
  /-- Raised by an arm of `exec` whose command has no meaning yet, by the command's mnemonic. Safe. -/
  | notModelled (mnemonic : String)
  deriving DecidableEq, Repr

/-- One control unit: its core and its host-link island (R334–R384). -/
structure UnitSt where
  core : Core
  linkUp : Bool
  perst : Bool
  /-- functions by number, an unlisted one as after reset -/
  fns : List (Nat × Fn)
  vtime : Nat
  flights : List Flight
  timed : List Timed
  /-- events raised by the unit (R416 ESEQ) -/
  eseq : Nat
  /-- messages sent, by function × 64 + vector -/
  msix : List (Nat × Nat)
  /-- host memory bytes the unit has written, by address (R352) -/
  host : List Host.Cell
  /-- counting clock up to which the CLOCK counters stand (R613) -/
  pmcAt : Nat
  /-- the present window is the first after EN (R618) -/
  winPartial : Bool
  sp : SpSt
  /-- data-mover channels that hold a transfer, by number -/
  dm : List (Nat × DmChan)
  sec : SecUnit
  deriving DecidableEq, Repr

/-- The state of the block. -/
structure State where
  /-- commands that are waiting, first in, first out -/
  pending : List Instr
  part : Part
  /-- the model's own counter of free values drawn (log entry 1) -/
  fresh : Nat
  /-- every register, by key; an unlisted key reads its reset value -/
  regs : List (Nat × Word)
  /-- high halves latched by a read of their low half (R299, R616), by key -/
  latch : List (Nat × Word)
  time : TimeSt
  fab : FabSt
  site : SiteSt
  drv : DrvSt
  mon : MonSt
  rte : RteSt
  gst : GstSt
  loop : LoopSt
  drt : DrtSt
  cal : CalSt
  sch : SchSt
  tkn : TknSt
  flt : FltSt
  pwr : PwrSt
  recd : RecSt
  mem : MemSt
  thm : ThmSt
  sec : SecSt
  /-- attestations waiting for their hash (R603) -/
  attests : List Attest
  ua : UnitSt
  ub : UnitSt
  deriving DecidableEq, Repr

namespace UnitSt
/-- A unit after a cold reset: core off, link down, no queues (R348, R455). -/
def reset : UnitSt :=
  { core := .off, linkUp := false, perst := true, fns := [], vtime := 0, flights := [], timed := [], eseq := 0,
    msix := [], host := [], pmcAt := 0, winPartial := false, sp := {}, dm := [], sec := {} }
end UnitSt

namespace State

/-- The machine right after a cold reset, POR_N still low (R450, R455): no clock runs, nothing is loaded, no unit is on. -/
def reset : State :=
  { pending := []
    part := .wl5128
    fresh := 0
    regs := []
    latch := []
    time := { on := false, clk := 0, sec := 0, ns := 0, frac := 0, ph := 0, phLeft := 0, g := 0, lastTick := 0,
              interval := 128, edge := none, goodEdges := 0, ppsSince := 0, lost := false }
    fab := { fdr := none, load := none, stored := none, marksDigest := [], parkVec := 0, parkImg := [], fallback := false,
             powered := false, downAt := none, stagesDown := 0 }
    site := { check := none, released := [] }
    drv := { chans := [], track := [], held := false, parked := false, relThimble := false, relGap := false }
    mon := { chans := [], sides := [], queues := [], inj := [], track := [], diag := none, fineAt := none, calSeen := false, turn := 0 }
    rte := { table := [], insA := [], insB := [], ageDue := 0 }
    gst := { slots := [], basteA := [], basteB := [], reqs := [], pins := [], pre := none, armed := none, verify := none, lull := none,
             activeVec := 0, activeImg := [], activeMap := [], pinLast := [] }
    loop := { cells := [], clsVals := [], outs := [], outAt := 0, squall := none, wraps := [], instAt := none, modeCmds := [] }
    drt := { coeff := [], rounds := [], cuSteps := [], coupling := none, hashing := none }
    cal := { store := [], live := [], pend := false, pendDigest := [], upd := [], hist := [], run := none, char := none, idleSince := none,
             monDue := false, everInForce := false, cycleDue := false }
    sch := { active := none, pend := none, stopAtEnd := false, stopCmds := [], skips := [], touts := [] }
    tkn := { leaseEnd := 0, graceEnd := 0, freeAt := 0, resvEnd := 0, releaser := .a, rehearsal := none,
             handoverArmed := false, rehDue := none, revertDue := none, wtrEnd := none, images := [], nextGen := 0,
             lastSave := 0, eventSave := false, resetAt := 0 }
    flt := { hist := [], callers := [], log := [], buf := [], seq := 0, wear := [], supTimes := [], supOwed := 0 }
    pwr := { por := true, testmode := false, ir := 0, t0 := 0, warm := none, relAt := 0, low := [],
             dramUp := false, tout := false }
    recd := { ring := [], open_ := [], used := 0, mode := 0, gap := false, lost := 0, bseq := 0, postTrig := none,
              lastCkpt := 0, ckptDue := false, cap := none, fastHist := [], capCount := 0, pull := none, pulled := 0,
              replay := false, rpAt := (0, 0), rpEnd := 0, rpWant := [], rpMade := [], rpGust := [] }
    mem := { dram := [], userFree := none, meta_ := [], rowCe := [], bankUe := [], spareRows := [], spareBanks := [], rowCopy := [], bankCopy := [], fuses := [], fused := [] }
    thm := { slot := 0, pic := [], off := [], doms := [], inj := none, ctl := 0x11, fA := 8, fB := 8 }
    sec := { vendorKey := [], ownerKey := [], diagVendor := [], diagOwner := [], ownerFlags := 0, floor := 0, fuseErr := false, fails := 0, lockUntil := 0,
             primaryA := 0, primaryB := 0, bankInvalid := 0, recSeq := 0, banks := [], staged := none, flash := none }
    attests := []
    ua := UnitSt.reset
    ub := UnitSt.reset }

end State

end Sys2Proof.Machine
end

