-- ==== Sys2Proof/Machine/Ops.lean ====
section
/-! DEFINITION. The named operations over the state that every meaning is written with: registers, free values, units, clocks
and time, host memory, MSI-X messages, event and completion records, the recorder and the event counters. -/
namespace Sys2Proof.Machine

/-- What every meaning answers. -/
abbrev Res := Host.Outcome State Fault Refusal

namespace State

/-! ### Registers (R11–R14) -/

/-- The value a register holds: as written last, or its reset value. -/
def reg (s : State) (k : Nat) : Word := Tab.get (regReset s.part k) k s.regs

/-- The register file with register `k` holding `v`. -/
def setReg (k : Nat) (v : Word) (s : State) : State := { s with regs := Tab.put (regReset s.part k) k v s.regs }

/-- Set the bits of a mask in a register (sticky bits, R11). -/
def orReg (k m : Nat) (s : State) : State := s.setReg k (s.reg k ||| BitVec.ofNat 32 m)

/-- Clear the bits of a mask in a register. -/
def clrReg (k m : Nat) (s : State) : State := s.setReg k (s.reg k &&& ~~~(BitVec.ofNat 32 m))

/-- Write the number `v` into bits `hi`:`lo` of a register. -/
def setField (k hi lo v : Nat) (s : State) : State := s.setReg k (putField (s.reg k) hi lo v)

/-- The number in bits `hi`:`lo` of a register. -/
def fld (s : State) (k hi lo : Nat) : Nat := field (s.reg k) hi lo

/-- Bit `i` of a register. -/
def rbit (s : State) (k i : Nat) : Bool := bit (s.reg k) i

/-- The number a register holds. -/
def rnat (s : State) (k : Nat) : Nat := (s.reg k).toNat

/-- Add `n` to a counter field that saturates. -/
def bump (k hi lo n : Nat) (s : State) : State :=
  s.setField k hi lo (satAdd (s.fld k hi lo) n (2 ^ (hi - lo + 1) - 1))

/-- Add one to a register that wraps. -/
def wrapInc (k : Nat) (s : State) : State := s.setReg k (s.reg k + 1)

/-- The 64-bit number of a pair of registers, low half first. -/
def rnat64 (s : State) (kLo kHi : Nat) : Nat := s.rnat kLo + 2 ^ 32 * s.rnat kHi

/-- Write a 64-bit number into a pair of registers. -/
def setReg64 (kLo kHi v : Nat) (s : State) : State := (s.setReg kLo (word v)).setReg kHi (word (v / 2 ^ 32))

/-- Return every register whose key satisfies `p` to its reset value. -/
def resetRegs (p : Nat → Bool) (s : State) : State := { s with regs := s.regs.filter (fun e => !p e.1) }

/-! ### Free values (log entry 1) -/

/-- A free value: the spec leaves it open. The counter moves on, so no two are the same one (log entry 1 DESIGN CHOICE). -/
def drawNat (s : State) : Nat × State := (Config.freeNat s.fresh, { s with fresh := s.fresh + 1 })

/-! ### Units and functions -/

/-- One unit's state. -/
def unit (s : State) (u : Cu) : UnitSt := match u with | .a => s.ua | .b => s.ub

/-- The state with one unit's part replaced. -/
def setUnit (u : Cu) (x : UnitSt) (s : State) : State := match u with | .a => { s with ua := x } | .b => { s with ub := x }

/-- A function of a unit. -/
def fn (s : State) (u : Cu) (f : Nat) : Fn := Tab.get {} f (s.unit u).fns

/-- The state with one function replaced. -/
def setFn (u : Cu) (f : Nat) (x : Fn) (s : State) : State :=
  s.setUnit u { s.unit u with fns := Tab.put {} f x (s.unit u).fns }

/-- An SQ, a CQ and a TR of a function. -/
def sq (s : State) (u : Cu) (f q : Nat) : Sq := Tab.get {} q (s.fn u f).sqs
def setSq (u : Cu) (f q : Nat) (x : Sq) (s : State) : State :=
  s.setFn u f { s.fn u f with sqs := Tab.put {} q x (s.fn u f).sqs }
def cq (s : State) (u : Cu) (f q : Nat) : Cq := Tab.get {} q (s.fn u f).cqs
def setCq (u : Cu) (f q : Nat) (x : Cq) (s : State) : State :=
  s.setFn u f { s.fn u f with cqs := Tab.put {} q x (s.fn u f).cqs }
def tr (s : State) (u : Cu) (f r : Nat) : Tr := Tab.get {} r (s.fn u f).trs
def setTr (u : Cu) (f r : Nat) (x : Tr) (s : State) : State :=
  s.setFn u f { s.fn u f with trs := Tab.put {} r x (s.fn u f).trs }

/-- The unit's core is off: only its host-link island runs (R334 ISLAND_ONLY). -/
def islandOnly (s : State) (u : Cu) : Bool := match (s.unit u).core with | .off => true | _ => false

/-! ### The token (R420, R446) -/

/-- TKN_STATE.STATE (R421): 0 START, 1 HELD, 2 LAPSED, 3 FREE, 4 RESERVED. -/
def tknState (s : State) : Nat := s.fld Reg.TKN_STATE 31 29

/-- The unit TKN_STATE.UNIT names. -/
def tknUnit (s : State) : Cu := Cu.ofBit (s.rbit Reg.TKN_STATE 16)

/-- The holder, if a unit holds the token. -/
def holder (s : State) : Option Cu := if s.tknState = 1 then some s.tknUnit else none

/-- Unit `u` holds the token (R420). -/
def holds (s : State) (u : Cu) : Bool := decide (s.holder = some u)

/-- The token generation GEN (R420). -/
def tgen (s : State) : Nat := s.fld Reg.TKN_STATE 15 0

/-- FLT_SAFE.STATE (R541): 0 none, 1 HOLD, 2 PARK, 3 drive down. -/
def safeState (s : State) : Nat := s.fld Reg.FLT_SAFE 1 0

/-- The hold of a lapse or a hand-over is in effect (R446 HOLD_GAP). -/
def gap (s : State) : Bool := s.rbit Reg.TKN_STATE 28

/-- A replay runs (R582). -/
def inReplay (s : State) : Bool := s.recd.replay

/-- Hold or PARK in effect. In a replay the datapaths follow the recorded SAFE events: the bench's own safe state acts on its pads only (R583). -/
def heldNow (s : State) : Bool := if s.inReplay then s.drv.held else decide (s.safeState ≠ 0) || s.gap

/-- Hold or PARK in effect, or no unit holds the token (R214). -/
def unsafeNow (s : State) : Bool := s.heldNow || s.holder.isNone

/-- FAB_CTRL.EN (R41): the fabric is driven. -/
def fabOn (s : State) : Bool := s.rbit Reg.FAB_CTRL 0

/-- FAB_STATUS.VALID (R42): a record is in force. -/
def fabValid (s : State) : Bool := s.rbit Reg.FAB_STATUS 0

/-! ### Clocks and device time (R270, R271) -/

/-- The drive-clock counter TIM_DCLK. -/
def clk (s : State) : Nat := s.time.clk

/-- Device time in nanoseconds, truncated (R271). -/
def now (s : State) : Nat := s.time.sec * 1000000000 + s.time.ns

/-- INC = INC_NOM + TIM_FREQ + ph (R270). -/
def incOf (freq ph : Int) : Nat := (0x4E2000000 + freq + ph).toNat

/-- TIM_FREQ, signed (R299). -/
def freq (s : State) : Int := sext 32 (s.rnat Reg.TIM_FREQ)

/-- `n` drive clocks pass: the counter and device time advance (R270, R271, R275) (log entry 79 DEDUCED). -/
def advance (n : Nat) (s : State) : State :=
  let t := s.time
  let n1 := min n t.phLeft
  let tot := t.frac + n1 * incOf s.freq t.ph + (n - n1) * incOf s.freq 0
  let ns := t.ns + tot / 2 ^ 32
  { s with time := { t with clk := t.clk + n, frac := tot % 2 ^ 32, ns := ns % 1000000000,
                            sec := (t.sec + ns / 1000000000) % 2 ^ 48, phLeft := t.phLeft - n1 } }

/-- The block idles for one drive clock, where the clock runs (log entry 40). -/
def idle (s : State) : State := if s.time.on then s.advance 1 else s

/-- The clock of the next update tick (R92, R132). -/
def nextTick (s : State) : Nat := s.time.lastTick + s.time.interval

/-- Drive clocks in a number of nanoseconds, the first clock at or after it (4.8828125 ns each). -/
def clksNs (n : Nat) : Nat := (n * 128 + 624) / 625

/-- Drive clocks in a number of microseconds, rounded up. -/
def clksUs (n : Nat) : Nat := (n * 1024 + 4) / 5

/-- Drive clocks in a number of milliseconds (204,800 each). -/
def clksMs (n : Nat) : Nat := n * 204800

/-- Drive clocks in a number of seconds. -/
def clksS (n : Nat) : Nat := n * 204800000

/-- Nanoseconds of device time that `n` drive clocks nominally take, rounded down. -/
def nsOfClks (n : Nat) : Nat := n * 625 / 128

/-- The full action time of a descriptor's or register's 32-bit seconds and nanoseconds: the 48-bit seconds nearest the
present ones with those low bits, a tie going to the later (R284). -/
def fullTime (s : State) (sec32 ns : Nat) : Nat :=
  let base := s.time.sec / 2 ^ 32
  let c := base * 2 ^ 32 + sec32
  let p := s.time.sec
  let up := c + 2 ^ 32
  let pick :=
    if c ≥ p then
      (if c - p > 2 ^ 31 ∧ base > 0 then c - 2 ^ 32 else c)
    else (if up - p ≤ p - c then up else c)
  (pick % 2 ^ 48) * 1000000000 + ns

/-! ### Host memory (R352) -/

/-- Write bytes to the host memory of a unit. -/
def hostWrite (u : Cu) (addr : Nat) (bs : List Byte) (s : State) : State :=
  let x := s.unit u
  s.setUnit u { x with host := (bs.foldl (fun (a : Nat × List Host.Cell) b => (a.1 + 1, Tab.set a.1 b a.2)) (addr, x.host)).2 }

/-! ### Event counters (R613, R614) -/

/-- Whether counter `n`'s event word selects `code` with `qual` (R614). -/
def pmcMatches (w : Word) (code qual : Nat) : Bool :=
  decide (field w 7 0 = code) && (decide (field w 15 8 = qual) || decide (field w 15 8 = 0xFF) || decide (code < 0x10) ||
    decide (code = 0x14) || decide (code = 0x15) || decide (0x29 ≤ code))

/-- Add `k` to counter `n` of unit `u`, wrapping into its chained partner or its overflow bit (R615). -/
def pmcAdd (u : Cu) (n k : Nat) (s : State) : State :=
  let lo := s.rnat (Reg.PMC_CNT u n)
  let s1 := s.setReg (Reg.PMC_CNT u n) (word (lo + k))
  let carry := (lo + k) / 2 ^ 32
  if carry = 0 then s1
  else if bit (s.reg (Reg.PMC_EVT u n)) 31 then
    let hi := s.rnat (Reg.PMC_CNT u (n + 1))
    let s2 := s1.setReg (Reg.PMC_CNT u (n + 1)) (word (hi + carry))
    if (hi + carry) / 2 ^ 32 = 0 then s2 else s2.orReg (Reg.PMC_OVF u ((n + 1) / 32)) (2 ^ ((n + 1) % 32))
  else s1.orReg (Reg.PMC_OVF u (n / 32)) (2 ^ (n % 32))

/-- The counters of unit `u` run: EN 1 and FREEZE 0 (R613). -/
def pmcOn (s : State) (u : Cu) : Bool := s.rbit (Reg.PMC_CTRL u) 0 && !s.rbit (Reg.PMC_CTRL u) 1

/-- Counters whose event register has been written: the only ones that can select an event other than CLOCK. -/
def pmcSelected (s : State) (u : Cu) (code qual : Nat) : List Nat :=
  (s.regs.filter (fun e => decide (Reg.PMC_EVT u 0 ≤ e.1) && decide (e.1 ≤ Reg.PMC_EVT u 255) && pmcMatches e.2 code qual)).map
    (fun e => (e.1 - Reg.PMC_EVT u 0) / 4)

/-- Whether counter `n` is the odd half of a chained pair: its own event is then ignored (R615). -/
def pmcChainedOdd (s : State) (u : Cu) (n : Nat) : Bool := decide (n % 2 = 1) && s.rbit (Reg.PMC_EVT u (n - 1)) 31

/-- `k` events of a code happen in unit `u` (R613). -/
def pmcEvent (u : Cu) (code qual k : Nat) (s : State) : State :=
  if s.pmcOn u then (s.pmcSelected u code qual).foldl (fun (s : State) n => if s.pmcChainedOdd u n then s else s.pmcAdd u n k) s else s

/-! ### MSI-X (R343, R376) -/

/-- Send vector `v` of function `f`: a masked vector, or a function in D3hot, keeps its pending bit. -/
def sendMsix (u : Cu) (f v : Nat) (s : State) : State :=
  let x := s.fn u f
  if x.msixFnMask || x.msixMask.testBit v || x.d3 || !(s.unit u).linkUp then
    s.setFn u f { x with msixPend := x.msixPend ||| 2 ^ v }
  else s.setUnit u { s.unit u with msix := Tab.put 0 (f * 64 + v) (Tab.get 0 (f * 64 + v) (s.unit u).msix + 1) (s.unit u).msix }

/-- A sticky bit of Q_STATUS or of an SQ status is set: vector 0 (R376). -/
def qSticky (u : Cu) (f k m : Nat) (s : State) : State := (s.orReg k m).sendMsix u f 0

/-- A ring's vector: 0 taken as 1 (R382). -/
def ringVector (w : Word) : Nat := if field w 13 8 = 0 then 1 else field w 13 8

/-- A ring's COUNT: 0 taken as 1 (R376). -/
def ringCount (w : Word) : Nat := if field w 7 0 = 0 then 1 else field w 7 0

/-! ### Records lost (R349, R347) -/

/-- A record is discarded: HL_LOST.RECORDS and RECORDS_LOST (R347, R349). -/
def loseRecord (u : Cu) (s : State) : State := (s.bump (Reg.HL_LOST u) 15 0 1).orReg (Reg.HL_STATUS u) 0x800

/-- A command is dropped: HL_LOST.COMMANDS (R349). -/
def loseCommand (u : Cu) (s : State) : State := s.bump (Reg.HL_LOST u) 31 16 1

/-! ### Events (R366, R416–R418) -/

/-- EVT_NS of a record that leaves now, and whether it is TIME_OLD (R280, R282). -/
def stamp (s : State) (evt : Nat) : Nat × Bool :=
  if s.now - evt ≥ 2 ^ 31 then (s.now % 2 ^ 32, true) else (evt % 2 ^ 32, false)

/-- The 32 bytes of an event record with its phase bit (R416). -/
def evBytes (s : State) (e : EvRec) (lost phase : Bool) : List Byte :=
  let st := s.stamp e.evt
  bytesOf 1 e.cls ++ bytesOf 1 e.typ ++ bytesOf 2 (b2n st.2 + 2 * b2n lost + 4 * (e.flags / 4)) ++ bytesOf 4 e.eseq ++
    bytesOf 4 st.1 ++ bytesOf 4 s.now ++ bytesOf 4 e.p0 ++ bytesOf 4 e.p1 ++ bytesOf 4 e.p2 ++
    bytesOf 4 (e.p3 % 2 ^ 31 + 2 ^ 31 * b2n phase)

/-- Write one event record into the event queue of a function, or drop it where the queue is full (R364, R366, R376). -/
def writeEq (u : Cu) (f : Nat) (e : EvRec) (s : State) : State :=
  let x := s.fn u f
  let cfg := s.reg (Reg.Q_EQ_CFG u f)
  let n := 2 ^ clampN (field cfg 3 0) 4 12
  if dist32 x.eq.tail x.eq.head ≥ n then
    ((s.setFn u f { x with eq := { x.eq with lostOwed := true } }).bump (Reg.Q_EQ_LOST u f) 31 0 1).qSticky u f
      (Reg.Q_STATUS u f) 0x40
  else
    let s1 := s.hostWrite u (s.rnat64 (Reg.Q_EQ_LO u f) (Reg.Q_EQ_HI u f) + 32 * (x.eq.tail % n))
      (s.evBytes e x.eq.lostOwed x.eq.phase)
    let s2 := s1.pmcEvent u 0x13 f 1
    let t := (x.eq.tail + 1) % 2 ^ 32
    let m := s.reg (Reg.Q_EQ_MOD u f)
    let send := decide (x.eq.pendCount + 1 ≥ ringCount m)
    let eq' : Eq' := { x.eq with tail := t, phase := if t % n = 0 then !x.eq.phase else x.eq.phase, lostOwed := false,
                                 pendCount := if send then 0 else x.eq.pendCount + 1,
                                 pendSince := if send then none else some (x.eq.pendSince.getD s.clk) }
    let s3 := s2.setFn u f { s2.fn u f with eq := eq' }
    if send then s3.sendMsix u f (ringVector cfg) else s3

/-- One event to one function: masked out, waiting in D3hot, lost with the link, or written (R347, R349, R366). -/
def eventToFn (u : Cu) (e : EvRec) (s : State) (f : Nat) : State :=
  if !(s.rbit (Reg.Q_EQ_CFG u f) 31) || !((s.rnat (Reg.Q_EQ_MASK u f)).testBit e.cls) then s
  else if !(s.unit u).linkUp then s.loseRecord u
  else
    let x := s.fn u f
    if x.d3 then
      if x.evWait.length < 256 then s.setFn u f { x with evWait := x.evWait ++ [e] } else s.loseRecord u
    else s.writeEq u f e

/-- A unit raises an event to its functions (R366). -/
def eventTo (u : Cu) (cls typ flags evt p0 p1 p2 p3 : Nat) (s : State) : State :=
  let x := s.unit u
  let e : EvRec := { cls, typ, flags, eseq := x.eseq, evt, p0 := p0 % 2 ^ 32, p1 := p1 % 2 ^ 32, p2 := p2 % 2 ^ 32, p3 := p3 % 2 ^ 31 }
  (List.range 16).foldl (eventToFn u e) (s.setUnit u { x with eseq := (x.eseq + 1) % 2 ^ 32 })

/-- An event about the fabric or the base die: to the token holder's functions only (R151, R366). A replay reproduces none of classes 1 to 7
(R581). -/
def event (cls typ flags evt p0 p1 p2 p3 : Nat) (s : State) : State :=
  match s.holder with
  | some u => if s.inReplay && decide (1 ≤ cls) && decide (cls ≤ 7) then s else s.eventTo u cls typ flags evt p0 p1 p2 p3
  | none => s

/-! ### Completions (R364, R365, R390–R393) -/

/-- The tag of a completion's command leaves the commands in flight (R368). -/
def landFlight (u : Cu) (f q tag : Nat) (s : State) : State :=
  let x := s.unit u
  s.setUnit u { x with flights := x.flights.filter (fun a => !(decide (a.func = f) && decide (a.sq = q) && decide (a.tag = tag))) }

/-- The command of a completion record leaves the commands in flight; a DUP_TAG refusal leaves the earlier command of that tag (R368). -/
def landRec (u : Cu) (f : Nat) (r : CqRec) (s : State) : State := if r.flags.testBit 1 then s else s.landFlight u f r.sq r.tag

/-- The 32 bytes of a completion record with its phase bit (R390). -/
def cqBytes (s : State) (f : Nat) (r : CqRec) (phase : Bool) : List Byte :=
  let st := s.stamp r.evt
  bytesOf 2 r.tag ++ bytesOf 1 r.status ++ bytesOf 1 f ++ bytesOf 1 r.sq ++ bytesOf 1 r.op ++
    bytesOf 2 (r.flags ||| b2n st.2) ++ bytesOf 4 st.1 ++ bytesOf 4 s.now ++ bytesOf 4 r.r0 ++ bytesOf 4 r.r1 ++
    bytesOf 4 r.r2 ++ bytesOf 4 (r.r3 % 2 ^ 31 + 2 ^ 31 * b2n phase)

/-- The number of entries of CQ `c` (R382). -/
def cqSize (s : State) (u : Cu) (f c : Nat) : Nat := 2 ^ clampN (s.fld (Reg.Q_CQ_CFG u f c) 4 0) 4 16

/-- CQ `c` is full: its tail is the queue size ahead of the host's head (R365). -/
def cqFull (s : State) (u : Cu) (f c : Nat) : Bool := decide (dist32 (s.cq u f c).tail (s.cq u f c).head ≥ s.cqSize u f c)

/-- Write one completion record into CQ `c`: ring entry, phase, interrupt; its command is no longer in flight (R364, R368, R376). -/
def writeCq (u : Cu) (f c : Nat) (r : CqRec) (s : State) : State :=
  let x := s.cq u f c
  let n := s.cqSize u f c
  let cfg := s.reg (Reg.Q_CQ_CFG u f c)
  let s1 := (s.hostWrite u (s.rnat64 (Reg.Q_CQ_LO u f c) (Reg.Q_CQ_HI u f c) + 32 * (x.tail % n)) (s.cqBytes f r x.phase)).pmcEvent u 0x12 f 1
  let t := (x.tail + 1) % 2 ^ 32
  let pends := r.intOn || bit cfg 29
  let send := pends && decide (x.pendCount + 1 ≥ ringCount (s.reg (Reg.Q_CQ_MOD u f c)))
  let x' : Cq := { x with tail := t, phase := if t % n = 0 then !x.phase else x.phase,
                          pendCount := if send then 0 else if pends then x.pendCount + 1 else x.pendCount,
                          pendSince := if send then none else if pends then some (x.pendSince.getD s.clk) else x.pendSince }
  let s2 := (s1.setCq u f c x').landRec u f r
  if send then s2.sendMsix u f (ringVector cfg) else s2

/-- The CQ that takes the completions of an SQ (R380). -/
def cqOf (s : State) (u : Cu) (f q : Nat) : Nat := s.fld (Reg.Q_SQ_CFG u f q) 29 24

/-- A completion of a replayed command, one that no queue of the bench has in flight (R583). -/
def replayed (s : State) (u : Cu) (f : Nat) (r : CqRec) : Bool :=
  s.inReplay && !(s.unit u).flights.any (fun a => decide (a.func = f) && decide (a.sq = r.sq) && decide (a.tag = r.tag))

/-- A completion record is ready: it is written, waits for space or for D0, or is discarded with the link or as a replayed command's (R347, R349,
R365, R583). -/
def postCq (u : Cu) (f : Nat) (r : CqRec) (s : State) : State :=
  let c := s.cqOf u f r.sq
  if s.replayed u f r then s
  else if !(s.unit u).linkUp then (s.loseRecord u).landRec u f r
  else if !(s.rbit (Reg.Q_CQ_CFG u f c) 31) then s.landRec u f r
  else if (s.fn u f).d3 && decide ((s.cq u f c).wait.length ≥ 256) then (s.loseRecord u).landRec u f r
  else if (s.fn u f).d3 || s.cqFull u f c || !(s.cq u f c).wait.isEmpty then
    s.setCq u f c { s.cq u f c with wait := (s.cq u f c).wait ++ [r] }
  else s.writeCq u f c r

/-- A command completes with a status, CFLAGS, the instant EVT and four result words (R390–R393). -/
def completeAt (c : Cmd) (evt status flags r0 r1 r2 r3 : Nat) (s : State) : State :=
  s.postCq c.unit c.func
    { sq := c.sq, tag := c.tag, status := status, op := c.op, flags := flags, intOn := c.intOnDone, evt := evt,
      r0 := r0, r1 := r1, r2 := r2, r3 := r3 }

/-- A command completes now (R281). -/
def complete (c : Cmd) (status flags r0 r1 r2 r3 : Nat) (s : State) : State := s.completeAt c s.now status flags r0 r1 r2 r3

/-- A command completes without having executed anything: its result words are zero (R392). -/
def refuse (c : Cmd) (status : Nat) (s : State) : State := s.complete c status 0 0 0 0 0

/-- A command that may be waiting on an operation completes, if there is one. -/
def completeOpt (c : Option Cmd) (status flags r0 r1 r2 r3 : Nat) (s : State) : State :=
  match c with
  | some c => s.complete c status flags r0 r1 r2 r3
  | none => s

/-! ### The recorder's open block (R568–R570) -/

/-- The recorder writes records: enabled, not frozen, and a holder to write them (R568, R576, R578). -/
def recording (s : State) : Bool :=
  s.rbit Reg.REC_CTRL 0 && !s.rbit Reg.REC_STATUS 2 && s.holder.isSome && s.pwr.dramUp

/-- Blocks in the ring: SIZE × 1,024, SIZE within R3 (R568, R586). -/
def ringBlocks (s : State) : Nat :=
  1024 * clampN (s.fld Reg.REC_SIZE 6 0) 1 (match s.part with | .wl5128 => 112 | .wl2564 => 48)

/-- Bytes a record takes: its 8-byte header and its payload in 8-byte units (R570). -/
def recLen (r : RecRec) : Nat := 8 + (r.payload.length + 7) / 8 * 8

/-- Close the open block: header last, then WPTR, BSEQ and FILL move on (R568, R578, R586). -/
def closeBlock (freeze : Bool) (s : State) : State :=
  let x := s.recd
  let w := s.fld Reg.REC_WPTR 16 0
  let b : Block :=
    { unit := s.tknUnit, mode := x.mode, bseq := x.bseq, gFirst := (x.open_.head?.map RecRec.g).getD s.time.g,
      gLast := (x.open_.getLast?.map RecRec.g).getD s.time.g, used := x.used, tgen := s.tgen, gap := x.gap,
      freeze := freeze, lost := x.lost, recs := x.open_ }
  let s1 : State := { s with recd := { x with ring := Tab.set w b x.ring, open_ := [], used := 64,
                                              mode := b2n (s.rbit Reg.REC_CTRL 1), gap := false, lost := 0, bseq := x.bseq + 1 } }
  ((s1.setField Reg.REC_WPTR 16 0 ((w + 1) % s.ringBlocks)).setReg64 Reg.REC_BSEQ_LO Reg.REC_BSEQ_HI x.bseq).setReg
    Reg.REC_FILL (word (min (s.rnat Reg.REC_FILL + 1) s.ringBlocks))

/-- Append a record to the open block, closing it first where the record does not fit (R568). -/
def recPut (r : RecRec) (s : State) : State :=
  let s1 := if s.recd.used + recLen r > 2 ^ 20 then s.closeBlock false else s
  { s1 with recd := { s1.recd with open_ := s1.recd.open_ ++ [r], used := s1.recd.used + recLen r } }

/-- The largest payload of one record: LEN is 16 bits of 8-byte units, header included (R570). -/
def recMax : Nat := 524272

/-- Append a payload over as many records as it takes, each but the last with CONT (R570); `n` bounds their number. -/
def recPieces (typ : Nat) : Nat → List Byte → State → State
  | 0, _, s => s
  | n + 1, l, s =>
    if l.length ≤ recMax then s.recPut { typ := typ, cont := false, g := s.time.g, payload := l }
    else recPieces typ n (l.drop recMax) (s.recPut { typ := typ, cont := true, g := s.time.g, payload := l.take recMax })

/-- What a record of the bench is compared as in a replay, as WHAT of REC_RP_DIFF (R574, R584, R586): DRIVE, REFINE, a device's HEALTH, Squall outcomes. -/
def madeWhat (typ : Nat) (p : List Byte) : Option Nat :=
  if typ = 0x02 then some 1
  else if typ ≠ 0x0A then none
  else match le p 0 2 with
    | 11 => some 3
    | 12 => if byteAt p 24 = 1 then some 4 else none
    | 10 => if byteAt p 8 = 2 then some 5 else none
    | _ => none

/-- Record `typ` with a payload, at the present grid index, where the recorder is writing (R570, R571). In a replay nothing is recorded, and what
R584 compares is kept. -/
def recAppend (typ : Nat) (payload : List Byte) (s : State) : State :=
  if s.inReplay then
    match madeWhat typ payload with
    | some w => { s with recd := { s.recd with rpMade := s.recd.rpMade ++ [(w, payload)] } }
    | none => s
  else if s.recording then recPieces typ (payload.length / recMax + 1) payload s else s

/-- An EVENT record of a subtype (R574) (log entry 76 DEDUCED). -/
def recEvent (sub : Nat) (payload : List Byte) (s : State) : State :=
  s.recAppend 0x0A (bytesOf 2 sub ++ bytesOf 6 0 ++ payload)

/-- The internal address of a register (R471): of the base, of the tile window, or of a unit's own set (log entry 194 DEDUCED). -/
def intAddr (k : Nat) : Nat :=
  if k < 0x800000 then 0x7000000000 + (k - 0x100000)
  else if k < 0x1000000 then 0x5010000000 + (k - 0x800000)
  else 0x6000000000 + k % 0x1000000

/-- A REGWRITE record: an accepted write by the holder (R571). -/
def recWrite (u : Cu) (k : Nat) (v : Word) (s : State) : State :=
  s.recAppend 0x05 (bytesOf 8 (intAddr k) ++ bytesOf 4 v.toNat ++ bytesOf 1 (6 + u.num) ++ bytesOf 3 0)

/-! ### Writes to base registers (R342, R423) -/

/-- A write from a unit that does not hold the token is dropped at the base (R342, R423). -/
def dropWrite (u : Cu) (s : State) : State :=
  ((s.orReg (Reg.HL_STATUS u) 0x20).bump (Reg.HL_REFUSED u) 31 0 1).bump Reg.TKN_CNT1 15 0 1

/-- A write of unit `u` to a base register: dropped for a non-holder, else recorded and carried out (R342, R571). -/
def baseWrite (u : Cu) (k : Nat) (v : Word) (f : State → State) (s : State) : State :=
  if s.holds u then f (s.recWrite u k v) else s.dropWrite u

/-- Keep bits `mask` of `v` and the other bits of the register. -/
def maskWrite (k mask : Nat) (v : Word) (s : State) : State :=
  s.setReg k ((s.reg k &&& ~~~(BitVec.ofNat 32 mask)) ||| (v &&& BitVec.ofNat 32 mask))

/-- Write a register's RW bits, and its RWL bits where the block is not enabled; a write that would change an RWL bit of an
enabled block sets CFG_IGNORED instead (R12). -/
def rwlWrite (k rw rwl : Nat) (enabled : Bool) (cfgKey cfgBit : Nat) (v : Word) (s : State) : State :=
  if enabled then
    let s1 := s.maskWrite k rw v
    if (s.reg k ^^^ v) &&& BitVec.ofNat 32 rwl = 0 then s1 else s1.orReg cfgKey cfgBit
  else s.maskWrite k (rw ||| rwl) v

end State
end Sys2Proof.Machine
end

