-- ==== Sys2Proof/Machine/Channels.lean ====
section
/-! DEFINITION. Drive channels: which channel serves an element (R32, R108–R110), and the datapath a channel evaluates (R93–R101). -/
namespace Sys2Proof.Machine

/-- A relieved primary, an OFF channel and a free spare drive nothing (R85, R91, R110). -/
def Chan.serves (ch : Nat) (c : Chan) : Bool :=
  decide (c.kind ≠ 15) && decide (c.role ≠ 0) && (decide (228 ≤ ch % 240) || c.partner.isNone)

/-- toward(r, t, s) of R94. -/
def toward (r t st : Nat) : Nat := if r < t then min (r + st) t else if t < r then max (r - min r st) t else r

/-- breeze(acc, AMP) of R100. -/
def breeze (acc : BitVec 32) (amp : Nat) : Int :=
  let a := acc.toNat
  let q := a / 2 ^ 30
  let i := a / 2 ^ 20 % 1024
  let v := if q % 2 = 1 then Maths.sineTab (1023 - i) else Maths.sineTab i
  let v := if q ≥ 2 then -v else v
  asr (v * (min amp 4096 : Nat) + 0x4000) 15

/-- STEP and RATE of DRV_SLEW (R119): RATE 0 means 256. -/
def Chan.step (c : Chan) : Nat := field c.slew 27 16
def Chan.rate (c : Chan) : Nat := let n := field c.slew 7 0; if n = 0 then 256 else n

/-- The calibration correction of the datapath (R93, R96). -/
def Chan.correct (c : Chan) (x : Nat) : Nat :=
  (clampI (asr ((x * c.gain : Nat) + 0x2000) 14 + c.offset) 0 65535).toNat

/-- The ramp step of one evaluation (R93, R94). -/
def Chan.ramp (c : Chan) : Chan :=
  if c.step = 0 then c
  else if c.cnt + 1 ≥ c.rate then { c with cnt := 0, r := toward c.r c.active c.step } else { c with cnt := c.cnt + 1 }

/-- The oldest queued code becomes active (R97). -/
def Chan.pop (c : Chan) : Chan :=
  match c.queue with
  | v :: q => { c with active := v, queue := q }
  | [] => c

/-- Evaluate a channel's datapath (R93): `tick` on an update tick, `gust` where active has just taken next. Answers the channel and whether
the clamp of R95 bit. -/
def Chan.eval (held tick gust : Bool) (clk : Nat) (c : Chan) : Chan × Bool :=
  let moves := tick && c.accOn && decide (c.tone < 48)
  let acc := if moves then c.acc + BitVec.ofNat 32 (brzInc c.tone) else c.acc
  let wrap := moves && decide (acc.toNat < c.acc.toNat)
  let c0 := { c with acc := acc }
  if held then ({ c0 with dac := c.holdD, chgClk := if c.dac = c.holdD then c.chgClk else clk }, false)
  else
    let c1 := if gust && decide (c.kind = 2) then { c0 with r := c0.active } else c0
    let c2 := if tick then (c1.pop).ramp else c1
    let c3 := if c2.step = 0 then { c2 with r := c2.active } else c2
    let c4 := if wrap then { c3 with gated := c3.brzEn, amp := c3.ampNext } else c3
    let v : Int := (c4.r : Int) + c4.drt + (if c4.gated then breeze c4.acc c4.amp else 0)
    let x := clampI v c4.codeMin c4.codeMax
    let d := c4.correct x.toNat
    ({ c4 with x := x.toNat, dac := d, chgClk := if d = c4.dac then c4.chgClk else clk }, decide (x ≠ v))

/-- The accumulator's start value (R101). -/
def brzStart (phMode : Bool) (cell : Nat) : BitVec 32 := if phMode then BitVec.ofNat 32 (cell * 0x9E3779B9) else 0

namespace State

/-- A drive channel, by its number tile × 240 + index. -/
def chan (s : State) (ch : Nat) : Chan := Tab.get {} ch s.drv.chans

/-- Replace a drive channel. -/
def setChan (ch : Nat) (c : Chan) (s : State) : State := { s with drv := { s.drv with chans := Tab.put {} ch c s.drv.chans } }

/-- The registers of a channel's tile and index (R117). -/
def drvTile (ch : Nat) : Nat := ch / 240
def drvIdx (ch : Nat) : Nat := ch % 240

/-- The geometry in force, for a Beneš record (FAB_GEOM). -/
def geo (s : State) : Benes.Geo := { n := s.fld Reg.FAB_GEOM 3 0, e := s.fld Reg.FAB_GEOM 15 8 }
def graph (s : State) : Bool := s.rbit Reg.FAB_GEOM 31
def nPorts (s : State) : Nat := s.fld Reg.FAB_GEOM 25 16
def nCells (s : State) : Nat := s.fld Reg.FAB_CELLS 15 0

/-- The FDR entry of an element (R30). -/
def elemEnt (s : State) (kind idx : Nat) : Option Elem :=
  match s.fab.fdr with
  | some f => f.elements.find? (fun e => decide (e.kind = kind) && decide (e.index = idx))
  | none => none

/-- The drive channel that serves an element now (R108, R110). -/
def drvOf (s : State) (kind idx : Nat) : Option Nat :=
  (s.drv.chans.find? (fun e => decide (e.2.kind = kind) && decide (e.2.elem = idx) && e.2.serves e.1)).map Prod.fst

/-- The tile of an element's pad: the tile of its FDR channel (R32). -/
def elemTile (s : State) (kind idx : Nat) : Nat :=
  match s.elemEnt kind idx with
  | some e => if kind ≤ 2 ∨ kind = 6 then e.chan / 240 else e.chan / 96
  | none => 0

/-- Apply a change to every channel of the given cells (R190). -/
def onCells (cells : Nat → Bool) (f : Chan → Chan) (s : State) : State :=
  { s with drv := { s.drv with chans := Tab.mapAll (fun ch c =>
      if c.serves ch && decide (c.kind ≤ 2) && cells c.elem then f c else c) s.drv.chans } }

/-- The mark of a cell (R50). -/
def mark (s : State) (c : Nat) : Nat := s.fld (Reg.FAB_HEALTH (c / 8)) (4 * (c % 8) + 2) (4 * (c % 8))
def pin (s : State) (c : Nat) : Bool := s.rbit (Reg.FAB_HEALTH (c / 8)) (4 * (c % 8) + 3)

/-- The constrained cells with their marks (R161). -/
def constrained (s : State) : List (Nat × Nat) :=
  ((List.range s.nCells).filter (fun c => decide (2 ≤ s.mark c) && decide (s.mark c ≤ 4))).map (fun c => (c, s.mark c))

/-- Tile temperature of the last housekeeping round, 0.01 °C (R548, R564). -/
def tileTemp (s : State) (t : Nat) : Int := sext 16 (s.rnat (Reg.THM_TILE t))

/-- The highest temperature reading of the three domains (R538). -/
def maxTemp (s : State) : Int :=
  max (sext 16 (s.rnat (Reg.THM_DOMAIN 0))) (max (sext 16 (s.rnat (Reg.THM_DOMAIN 1))) (sext 16 (s.rnat (Reg.THM_DOMAIN 2))))

/-- A clamp or a discard in a channel's tile: its QSTAT bit, the tile's sticky bit and count (R95, R97). -/
def noteClamp (ch : Nat) (s : State) : State :=
  ((s.orReg (Reg.DRV_QSTAT (drvTile ch) (drvIdx ch)) 0x200).orReg (Reg.DRV_STATUS (drvTile ch)) 4).bump (Reg.DRV_TCNT (drvTile ch)) 15 0 1

/-- Evaluate one channel and note a clamp. In a replay the pad's DAC keeps its code: unpowered, or held (R583). -/
def evalOne (tick gust : Bool) (ch : Nat) (s : State) : State :=
  let c := s.chan ch
  if c.serves ch then
    let r := c.eval s.drv.held tick gust s.clk
    let c1 : Chan := if s.inReplay then { r.1 with dac := c.dac, chgClk := c.chgClk } else r.1
    if r.2 then (s.setChan ch c1).noteClamp ch else s.setChan ch c1
  else s

/-- Evaluate every channel that satisfies a test (R93). -/
def evalWhere (tick gust : Bool) (p : Nat → Chan → Bool) (s : State) : State :=
  (s.drv.chans.filter (fun e => p e.1 e.2)).foldl (fun (s : State) e => s.evalOne tick gust e.1) s

end State
end Sys2Proof.Machine
end

