-- ==== Sys2Proof/Machine/Image.lean ====
section
/-! DEFINITION. Values of the calibration set in force at a temperature (R317), and drive images: from a cell-state vector (R186) and from the
park state (R37). -/
namespace Sys2Proof.Machine

/-- Linear interpolation between two knots (R317, R249): f = ⌊65,536 (t − Tj)/(Tk − Tj)⌋, v = vj + (((vk − vj) f) >> 16). -/
def lerp (tj vj tk vk t : Int) : Int := vj + asr ((vk - vj) * ((65536 * (t - tj)).fdiv (tk - tj))) 16

/-- The consecutive valid knots that bracket a temperature, as (T, value) pairs in slot order (R317). -/
def bracket {α : Type} (t : Int) : List (Int × α) → Option ((Int × α) × (Int × α))
  | a :: b :: r => if a.1 ≤ t ∧ t < b.1 then some (a, b) else bracket t (b :: r)
  | _ => none

/-- The knot of least, or of greatest, temperature. -/
def extremeKnot {α : Type} (least : Bool) : List (Int × α) → Option (Int × α)
  | [] => none
  | a :: r => match extremeKnot least r with
    | none => some a
    | some b => if (if least then b.1 < a.1 else a.1 < b.1) then some b else some a

/-- The knot, or the pair of knots, a quantity is taken from at a temperature (R317): outside the knots, the nearer outermost one. -/
def knotsAt {α : Type} (t : Int) (l : List (Int × α)) : Option ((Int × α) × (Int × α)) :=
  match bracket t l with
  | some p => some p
  | none => match extremeKnot true l, extremeKnot false l with
    | some a, some b => if t < a.1 then some (a, a) else some (b, b)
    | _, _ => none

/-- A number of a knot interpolated (R317). -/
def knotVal {α : Type} (f : α → Int) (t : Int) (p : (Int × α) × (Int × α)) : Int :=
  if p.1.1 = p.2.1 then f p.1.2 else lerp p.1.1 (f p.1.2) p.2.1 (f p.2.2) t

namespace State

/-- The live-store records of a tile in slot order (R316, R326). -/
def tileRecs (store : List (Nat × CalRec)) (tile : Nat) : List CalRec :=
  (List.range 9).filterMap (fun i => Tab.find (9 * tile + i) store)

/-- Temperature-stamped values of one quantity of a tile, T 0x8000 excluded (R326). -/
def knots (store : List (Nat × CalRec)) (tile : Nat) (f : CalRec → Option Knot) : List (Int × Knot) :=
  ((tileRecs store tile).filterMap f).filterMap (fun k => if k.t = -32768 then none else some (k.t, k))

/-- DRV_CORR of a drive channel at a temperature: 0x4000 and 0 where uncalibrated (R96, R317). -/
def drvCorr (store : List (Nat × CalRec)) (ch : Nat) (t : Int) : Nat × Int :=
  match knotsAt t (knots store (ch / 240) (fun r => Tab.find (ch % 240) r.drv)) with
  | some p => ((knotVal (fun k => (k.gain : Int)) t p).toNat, knotVal Knot.offset t p)
  | none => (0x4000, 0)

/-- MON_CORR of a monitor channel at a gain (R133, R317). -/
def monCorr (store : List (Nat × CalRec)) (ch gain : Nat) (t : Int) : Nat × Int :=
  match knotsAt t (knots store (ch / 96) (fun r => Tab.find (4 * (ch % 96) + gain) r.mon)) with
  | some p => ((knotVal (fun k => (k.gain : Int)) t p).toNat, knotVal Knot.offset t p)
  | none => (0x4000, 0)

/-- The cell entries of a cell that hold a value, with the temperature of that value: which = 0 bar, 1 cross, 2 ON (R326). -/
def cellKnots (store : List (Nat × CalRec)) (tile cell which : Nat) : List (Int × CellCal) :=
  ((tileRecs store tile).filterMap (fun r => Tab.find cell r.cells)).filterMap (fun c =>
    if c.valid.testBit which then
      some ((match which with | 0 => c.tBar | 1 => c.tCross | _ => c.tOn), c) else none)

/-- W of a trim (arm 0 or 1) of a cell in a state (R186, R317). -/
def workW (s : State) (cell arm : Nat) (cross : Bool) (t : Int) : Option Int :=
  let f (c : CellCal) : Int :=
    let w := if cross then c.wCross else c.wBar
    ((if arm = 0 then w.1 else w.2 : Nat) : Int)
  (knotsAt t (cellKnots s.cal.store (s.elemTile 0 cell) cell (b2n cross))).map (knotVal f t)

/-- ON of a cell's throw (R186, R317). -/
def workOn (s : State) (cell : Nat) (t : Int) : Option Int :=
  (knotsAt t (cellKnots s.cal.store (s.elemTile 0 cell) cell 2)).map (knotVal (fun c => (c.on : Int)) t)

/-- The active arm of a cell in a state (R216): as the set in force names it, taken from the knot at or below the temperature; before that
trim A in bar and trim B in cross. -/
def armOf (s : State) (cell : Nat) (cross : Bool) : Nat :=
  match knotsAt (s.tileTemp (s.elemTile 0 cell)) (cellKnots s.cal.store (s.elemTile 0 cell) cell (b2n cross)) with
  | some p => b2n (if cross then p.1.2.armCross else p.1.2.armBar)
  | none => b2n cross

/-- The codes of one cell for a state: trims A and B and throw (R186). -/
def cellCodes (s : State) (cell : Nat) (cross : Bool) : List Nat :=
  let t := s.tileTemp (s.elemTile 0 cell)
  let trim (arm : Nat) : Nat :=
    match s.elemEnt arm cell with
    | none => 0
    | some e => (clampI ((s.workW cell arm cross t).getD e.codePark) e.codeMin e.codeMax).toNat
  let throw : Nat :=
    match s.elemEnt 2 cell with
    | none => 0
    | some e => if cross != e.flags.testBit 0 then (clampI ((s.workOn cell t).getD e.codeMax) e.codeMin e.codeMax).toNat else e.codeMin
  [trim 0, trim 1, throw]

/-- The drive image of a vector (R26, R186), codes in the order 3c + kind. -/
def imageOf (s : State) (vec : Nat) : List Nat :=
  (List.range s.nCells).foldr (fun c acc => s.cellCodes c (vec.testBit c) ++ acc) []

/-- The park vector of the record in force, with whether its map failed (R36, R37). -/
def parkVecOf (s : State) : Nat × Bool :=
  match s.fab.fdr with
  | none => (0, false)
  | some f => match f.park with
    | .allBar => (0, false)
    | .vector v => (v % 2 ^ s.nCells, false)
    | .map out =>
      let r := Benes.solve s.geo s.constrained out
      if r.verdict = 0 then (r.vec, false) else (0, true)

/-- The keeper's park register of one channel: its code and the code after correction (R105, R531). -/
def parkReg (img : List Nat) (c : Chan) : Chan :=
  if c.kind ≤ 2 then { c with parkL := img.getD (3 * c.elem + c.kind) 0, parkD := c.correct (img.getD (3 * c.elem + c.kind) 0) } else c

/-- Rebuild the park image and the keeper's park registers (R37): PARK_FALLBACK where a park map newly fails (log entry 22). -/
def rebuildPark (s : State) : State :=
  if !s.fabValid then s
  else
    let v := s.parkVecOf
    let s1 : State := { s with fab := { s.fab with parkVec := v.1, fallback := v.2 } }
    let img := s1.imageOf v.1
    let s2 : State := { s1 with fab := { s1.fab with parkImg := img },
                                drv := { s1.drv with chans := Tab.mapAll (fun _ c => parkReg img c) s1.drv.chans } }
    if v.2 then s2.event 1 0x11 0 s2.now (s2.rnat Reg.FAB_EPOCH) 0 0 0 else s2

/-- The pairs (output, input) a park map of the record in force names, while it is the park state (R36, R37). -/
def parkPairs (s : State) : List (Nat × Nat) :=
  match s.fab.fdr with
  | some f => match f.park with
    | .map out => if s.fab.fallback then [] else (out.zip (List.range out.length)).filterMap (fun e => if e.1 = 0x3FF then none else some (e.2, e.1))
    | _ => []
  | none => []

/-- The park image is the one being driven: GST_ACTIVE reads 0xFFFE (R191) (log entry 83 DEDUCED). -/
def showPark (s : State) : State :=
  ({ s with gst := { s.gst with activeVec := s.fab.parkVec, activeImg := s.fab.parkImg, activeMap := s.parkPairs } }).setReg Reg.GST_ACTIVE 0xFFFE

/-- Nothing is driven: GST_ACTIVE reads slot 0xFFFF (R191). -/
def showOff (s : State) : State :=
  ({ s with gst := { s.gst with activeVec := 0, activeImg := [], activeMap := [] } }).setReg Reg.GST_ACTIVE 0xFFFFFFFF

end State
end Sys2Proof.Machine
end

