-- ==== Sys2Proof/Machine/Aborts.lean ====
section
/-! DEFINITION. What happens across blocks when a safe state is entered, the token leaves or a record changes: running checks, runs and
trajectories end, schedules stop, queues are disabled, and what a saved-state image or a checkpoint holds is gathered. -/
namespace Sys2Proof.Machine.State

/-! ### Runs that end (R84, R237, R262, R333) -/

/-- A running site check is aborted, and every pad released (R84). -/
def abortSite (cause : Nat) (s : State) : State :=
  match s.site.check with
  | none => s
  | some _ =>
    (({ s with site := { s.site with check := none } }).setField Reg.SITE_STATUS 9 8 cause |>.orReg Reg.SITE_STATUS 0x10).clrReg
      Reg.SITE_STATUS 1

/-- The tiles a CAL_RUN names: none named means every tile of the part (R407). -/
def runTiles (s : State) (c : Cmd) : List Nat :=
  (List.range s.part.tiles).filter (fun t => decide (c.q 16 = 0) || (c.q 16).testBit t)

/-- A calibration run ends early and keeps nothing (R333): OUTCOME 4, ABORTED. -/
def abortCal (s : State) : State :=
  match s.cal.run with
  | none => s
  | some r =>
    let s1 : State := { s with cal := { s.cal with run := none } }
    let s2 := (s.runTiles r.cmd).foldl (fun (s : State) t => (s.setField (Reg.CAL_TILE t) 31 28 4).clrReg (Reg.CAL_TILE t) 0x8000000) s1
    let s3 := ((s2.clrReg Reg.CAL_STATUS 0xF001).orReg Reg.CAL_STATUS 0x80).clrReg Reg.HK_STATUS 2
    s3.refuse r.cmd 0x0B

/-- A loop of a cell (R215). -/
def loopCell (s : State) (c : Nat) : LoopCell := Tab.get {} c s.loop.cells
def setLoopCell (c : Nat) (l : LoopCell) (s : State) : State := { s with loop := { s.loop with cells := Tab.put {} c l s.loop.cells } }

/-- A cell's state in the vector being driven (R191). -/
def cellState (s : State) (c : Nat) : Bool := s.gst.activeVec.testBit c

/-- The drive channel of a cell's active arm (R216). -/
def armChan (s : State) (c : Nat) : Option Nat := s.drvOf (s.armOf c (s.cellState c)) c

/-- Put a code into an element's queue, as the Loop Array does: a full queue discards it (R97). -/
def enqueue (ch code : Nat) (s : State) : State :=
  let c := s.chan ch
  if c.queue.length ≥ 16 then
    ((s.orReg (Reg.DRV_QSTAT (drvTile ch) (drvIdx ch)) 0x100).orReg (Reg.DRV_STATUS (drvTile ch)) 2).bump (Reg.DRV_TCNT (drvTile ch)) 31 16 1
  else s.setChan ch { c with queue := c.queue ++ [code] }

/-- Set DRV_BRZ of a cell's arms as R217 asks: TONE on both, AMP and EN on the active arm of an AUTO or SQUALL loop. -/
def setDither (c : Nat) (s : State) : State :=
  let l := s.loopCell c
  let on := decide (2 ≤ l.st.mode)
  let act := s.armOf c (s.cellState c)
  let amp := min (field (Tab.get (regReset s.part (Reg.LOOP_AMP l.cls)) (Reg.LOOP_AMP l.cls) s.loop.clsVals) 12 0) 4096
  [0, 1].foldl (fun (s : State) arm => match s.drvOf arm c with
    | none => s
    | some ch =>
      let x := s.chan ch
      s.setChan ch { x with brzEn := on && decide (arm = act), ampNext := if arm = act then amp else x.ampNext }) s

/-- A cell goes back from a run to a mode, with the preset of R228 at its next instant. -/
def restoreMode (c mode : Nat) (s : State) : State :=
  let l := s.loopCell c
  (s.setLoopCell c { l with st := { l.st with mode := mode, z := 0, dfilt := 0 }, n := 0, presetDue := true, fresh := true }).setDither c

/-- RESULT, Tu16 and A of the cells of a Squall run (R241). -/
def squallResults (cells : List SqCell) (s : State) : State :=
  (cells.zip (List.range cells.length)).foldl (fun (s : State) e =>
    s.setReg (Reg.LOOP_SQ_RES e.2) (word (e.1.result * 2 ^ 28 + min e.1.tu16 0xFFF * 2 ^ 16 + min e.1.amp 0xFFFF))) s

/-- One cell of a run that ends early: its base code is queued unless held, and its mode comes back (R237). -/
def squallRestore (s : State) (x : SqCell) : State :=
  let s1 : State := match s.armChan x.cell with | some ch => if s.drv.held then s else s.enqueue ch x.b | none => s
  s1.restoreMode x.cell x.prevMode

/-- A Squall run is aborted (R237): each cell writes its base code, returns to its mode and is preset. -/
def abortSquall (s : State) : State :=
  match s.loop.squall with
  | none => s
  | some q =>
    let cells := q.cells.map (fun x => if x.result = 0 then { x with result := 4 } else x)
    let s1 : State := { s with loop := { s.loop with squall := none } }
    let s2 : State := if q.started then cells.foldl squallRestore s1 else s1
    let s3 := ((s2.squallResults cells).clrReg Reg.LOOP_SQ_STATUS 0x1F0001).orReg Reg.LOOP_SQ_STATUS 4
    let s4 := s3.recEvent 10 (bytesOf 1 2 ++ (cells.map (fun x => bytesOf 2 x.cell ++ bytesOf 2 x.result)).foldr (· ++ ·) [])
    s4.completeOpt q.cmd 0x0B 0 0 0 0 0

/-- A characterisation run ends ABORTED: cells return to their modes, counts stand (R323, R333, R409). -/
def abortChar (s : State) : State :=
  let s1 : State := match s.cal.char with
    | none => s
    | some r =>
      let s1 : State := { s with cal := { s.cal with char := none } }
      let s2 := r.modes.foldl (fun (s : State) e => s.restoreMode e.1 e.2) s1
      ((((s2.clrReg Reg.CAL_SEQ_STATUS 1).orReg Reg.CAL_SEQ_STATUS 8).clrReg Reg.CAL_STATUS 0x800).clrReg Reg.HK_STATUS 1).refuse r.cmd 0x0B
  match s1.drt.coupling with
  | none => s1
  | some r =>
    let s2 : State := r.modes.foldl (fun (s : State) e => s.restoreMode e.1 e.2) { s1 with drt := { s1.drt with coupling := none } }
    ((((s2.clrReg Reg.DRT_STATUS 0x100).orReg Reg.DRT_STATUS 0x600).clrReg Reg.CAL_SEQ_STATUS 1).orReg Reg.CAL_SEQ_STATUS 8
      |>.clrReg Reg.CAL_STATUS 0x800).refuse r.cmd 0x0B

/-- Draught replay stops on this clock; no fold is made (R262). -/
def drtStop (s : State) : State :=
  let g := match s.gst.lull with
    | some l => { s.gst with lull := some { l with play := none } }
    | none => s.gst
  ({ s with gst := g, drv := { s.drv with chans := Tab.mapAll (fun _ c => { c with drt := 0 }) s.drv.chans } }).clrReg Reg.DRT_STATUS 0x800

/-! ### Boundaries (R206, R207) -/

/-- GST_LULL in µs, taken as 200 to 20,000 (R205). -/
def lullUs (s : State) : Nat := clampN (s.fld Reg.GST_LULL 14 0) 200 20000

/-- A preload or an armed slot that has a trigger to come, not one kept armed for a pin (R197). -/
def realReq (p : Option Preload) : Bool :=
  match p with
  | some x => (match x.req.src with | .keep _ => false | _ => true)
  | none => false

/-- A Gust is pending: accepted, preloading or armed (R108, R207). -/
def gustPending (s : State) : Bool := !s.gst.reqs.isEmpty || !s.gst.pins.isEmpty || realReq s.gst.pre || realReq s.gst.armed

/-- Open a null Lull (R207): GST_LULL long, changing nothing. -/
def openNull (s : State) : State :=
  let l : Lull := { d := s.clk, endClk := s.clk + clksUs s.lullUs, null := true, slot := 0xFFFF, seq := s.rnat Reg.GST_SEQ, len := s.lullUs,
                    play := none, played := none, point := 0, offs := [], lim := 0, iFold := [], iAt := [], counted := [], outs := [] }
  ({ s with gst := { s.gst with lull := some l } }).orReg Reg.GST_STATUS 0x300000

/-- A boundary is requested (R207): a null Lull opens where no Gust is pending and none runs; otherwise the Lull to come serves. -/
def requestBoundary (s : State) : State :=
  if s.fabOn && !s.gustPending && s.gst.lull.isNone then s.openNull else s

/-! ### Schedules (R291–R295) -/

/-- One WINDOW_SKIP event for each cause skipped in the cycle that ends (R293). -/
def flushSkips (s : State) : State :=
  let cyc := s.rnat Reg.SCH_CYCLE_CNT
  s.sch.skips.foldl (fun (s : State) e => s.event 6 0x62 0 e.2.2.2 e.1 e.2.1 e.2.2.1 cyc) { s with sch := { s.sch with skips := [] } }

/-- A preload for the schedule is abandoned (R291, R294). -/
def dropSchedPre (s : State) : State :=
  let isS (p : Option Preload) : Bool := match p with | some x => decide (x.req.src = .sched) | none => false
  let s1 : State := if isS s.gst.pre then ({ s with gst := { s.gst with pre := none } }).clrReg Reg.GST_STATUS 0x400000 else s
  if isS s1.gst.armed then ({ s1 with gst := { s1.gst with armed := none } }).clrReg Reg.GST_STATUS 0xFF800000 else s1

/-- The active list stops (R294): STOPPED and its cause, SCH_STOPPED, reservations released, waiting SCHED_CTRL completed (R399). -/
def schedStop (cause : Nat) (s : State) : State :=
  match s.sch.active with
  | none => s
  | some _ =>
    let s0 := (s.flushSkips).dropSchedPre
    let cmds := s0.sch.stopCmds
    let s1 : State := { s0 with sch := { s0.sch with active := none, stopAtEnd := false, stopCmds := [] } }
    let s2 := ((s1.clrReg Reg.SCH_STATUS 1).orReg Reg.SCH_STATUS 0x10).setField Reg.SCH_STATUS 19 16 cause
    let s3 := s2.event 6 0x61 0 s.now cause (s.rnat Reg.SCH_POS) (s.rnat Reg.SCH_CYCLE_CNT) 0
    cmds.foldl (fun (s : State) c => s.complete c 0 0 (s.rnat Reg.SCH_POS) (s.rnat Reg.SCH_CYCLE_CNT) cause 0) s3

/-- The start instant S and k for a base and a cycle at a time now (R290): the smallest k with base + k × cycle ≥ now + 64 µs. -/
def schedStart (base cycle now : Nat) : Nat × Nat :=
  let k := if base ≥ now + 64000 then 0 else if cycle = 0 then 0 else (now + 64000 - base + cycle - 1) / cycle
  (base + k * cycle, k)

/-- The cycle of a list, ns (R288). -/
def cycleOf (ents : List SchEnt) : Nat := ents.foldl (fun a e => a + e.dur) 0

/-- Show S and k of a list in the registers (R290). -/
def showStart (l : SchList) (s : State) : State :=
  ((s.setReg Reg.SCH_A_BASE_SEC (word (l.s / 1000000000))).setReg Reg.SCH_A_BASE_NS (word (l.s % 1000000000))).setReg64
    Reg.SCH_START_K_LO Reg.SCH_START_K_HI l.k

/-- SCH_STARTED (R418). -/
def startedEvent (l : SchList) (flags : Nat) (s : State) : State :=
  s.event 6 0x60 flags s.now l.k (l.k / 2 ^ 32) (l.s % 1000000000) (l.s / 1000000000)

/-- A step of device time: S is recomputed for the active list, which restarts there, and for an armed pending list (R295). -/
def schedRestep (s : State) : State :=
  let s1 : State := match s.sch.active with
    | none => s
    | some l =>
      let p := schedStart l.base (cycleOf l.ents) s.now
      let l' := { l with s := p.1, k := p.2, pos := 0, edge := p.1 }
      ((((({ s.dropSchedPre with sch := { s.sch with active := some l' } }).orReg Reg.SCH_STATUS 0x20).bump Reg.SCH_SKIP1 15 0 1).showStart
        l').startedEvent l' 4)
  match s1.sch.pend with
  | none => s1
  | some l =>
    let p := schedStart l.base (cycleOf l.ents) s1.now
    { s1 with sch := { s1.sch with pend := some { l with s := p.1, k := p.2, edge := p.1 } } }

/-! ### Loops in images and at a claim (R233, R433, R434) -/

/-- The LOOP section of an image (R433). -/
def cellSnapshot (s : State) : List (Nat × CellSt) := s.loop.cells.map (fun e => (e.1, e.2.st))

/-- A new holder restores the saved loops (R233, R434): AUTO cells take the integer part of I from DRV_HOLD.LOGICAL; without an image every
looped cell is MANUAL with its health figures at zero. z and n are cleared. -/
def restoreLoops (im : Option Image) (after : Bool) (s : State) : State :=
  if !after then s
  else
    s.loop.cells.foldl (fun (s : State) e =>
      let l := s.loopCell e.1
      if !l.hasLoop then s
      else
        let st : CellSt := match im with
          | some i => Tab.get {} e.1 i.cells
          | none => { mode := 1, light := l.st.light, i := l.st.i }
        let st := { st with mode := if st.mode = 0 then 1 else if st.mode = 3 then 2 else st.mode, z := 0 }
        let hold : Int := match s.armChan e.1 with | some ch => ((s.chan ch).holdL : Int) | none => 0
        let st := if st.mode = 2 then { st with i := hold * 65536 + st.i % 65536 } else st
        (s.setLoopCell e.1 { l with st := st, n := 0, presetDue := false, fresh := true, modeReq := none }).setDither e.1) s

/-- Every looped cell becomes MANUAL (R585). -/
def allManual (s : State) : State :=
  s.loop.cells.foldl (fun (s : State) e => if (s.loopCell e.1).hasLoop then s.restoreMode e.1 1 else s) s

/-! ### Slots (R185, R187) -/

/-- A slot of the shadow store (R183). -/
def slot (s : State) (i : Nat) : Slot := Tab.get {} i s.gst.slots
def setSlot (i : Nat) (x : Slot) (s : State) : State :=
  { s with gst := { s.gst with slots := Tab.put {} i x s.gst.slots } }

/-- Bastes in hand of a unit. -/
def bastes (s : State) (u : Cu) : List Baste := match u with | .a => s.gst.basteA | .b => s.gst.basteB
def setBastes (u : Cu) (l : List Baste) (s : State) : State :=
  match u with | .a => { s with gst := { s.gst with basteA := l } } | .b => { s with gst := { s.gst with basteB := l } }

/-- A unit's Bastes end: the slot being written is EMPTY and each completes with a status (R187, R419). -/
def endBastes (u : Cu) (status : Nat) (s : State) : State :=
  (s.bastes u).foldl (fun (s : State) b =>
    let s1 : State := match b.work with | some w => s.setSlot w.slot { bgen := (s.slot w.slot).bgen } | none => s
    s1.refuse b.cmd status) (s.setBastes u [])

/-- The token leaves during a Baste (R419): NOT_HOLDER. -/
def loseBastes (u : Cu) (s : State) : State := s.endBastes u 0x04

/-- Every slot is EMPTY (R185); a Baste that runs completes ABORTED (R187). -/
def emptySlots (s : State) : State :=
  let s1 := (s.endBastes .a 0x0B).endBastes .b 0x0B
  s1.gst.slots.foldl (fun (s : State) e => s.setSlot e.1 { bgen := e.2.bgen }) s1

/-! ### Commands a unit holds (R198, R287, R419) -/

/-- The command of a descriptor Gust of a unit. -/
def gustCmd (r : GustReq) : Option Cmd := match r.src with | .desc c => some c | _ => none

/-- A preload or armed slot of a dropped descriptor Gust is abandoned. -/
def dropDescPre (p : Cmd → Bool) (s : State) : State :=
  let hit (x : Option Preload) : Bool := match x with | some y => (match gustCmd y.req with | some c => p c | none => false) | none => false
  let s1 : State := if hit s.gst.pre then ({ s with gst := { s.gst with pre := none } }).clrReg Reg.GST_STATUS 0x400000 else s
  if hit s1.gst.armed then ({ s1 with gst := { s1.gst with armed := none } }).clrReg Reg.GST_STATUS 0xFF800000 else s1

/-- The commands of `u` that a test picks out of everything held or waiting leave; those listed complete ABORTED where `tell`. -/
def dropCmds (u : Cu) (p : Cmd → Bool) (tell : Bool) (s : State) : State :=
  let mine (c : Cmd) : Bool := decide (c.unit = u) && p c
  let mineO (c : Option Cmd) : Bool := match c with | some c => mine c | none => false
  let x := s.unit u
  let held := (x.timed.filter (fun t => mine t.cmd)).map Timed.cmd
  let gusts := (s.gst.reqs.filterMap gustCmd).filter mine
  let wraps := s.loop.wraps.filter (fun w => mine w.cmd)
  let modes := (s.loop.modeCmds.map Prod.fst).filter mine
  let stops := s.sch.stopCmds.filter mine
  let sp := (s.drv.track.filterMap (fun e => e.2.cmd)).filter mine ++ (s.mon.track.filterMap (fun e => e.2.cmd)).filter mine
  let touts := (s.sch.touts.filterMap (fun e => e.2.cmd)).filter mine
  let s1 := s.setUnit u { x with timed := x.timed.filter (fun t => !mine t.cmd) }
  let s2 : State := { s1 with
    gst := { s1.gst with reqs := s1.gst.reqs.filter (fun r => !mineO (gustCmd r)) }
    loop := { s1.loop with wraps := s1.loop.wraps.filter (fun w => !mine w.cmd),
                           modeCmds := s1.loop.modeCmds.filter (fun m => !mine m.1) }
    sch := { s1.sch with stopCmds := s1.sch.stopCmds.filter (fun c => !mine c),
                         touts := s1.sch.touts.map (fun e => (e.1, { e.2 with cmd := if mineO e.2.cmd then none else e.2.cmd })) }
    drv := { s1.drv with track := s1.drv.track.map (fun e => (e.1, { e.2 with cmd := if mineO e.2.cmd then none else e.2.cmd })) }
    mon := { s1.mon with track := s1.mon.track.map (fun e => (e.1, { e.2 with cmd := if mineO e.2.cmd then none else e.2.cmd })) } }
  let s3 := wraps.foldl (fun (s : State) w => if w.held then s.clrReg Reg.LOOP_CLS_HOLD (2 ^ w.cls) else s) (s2.dropDescPre mine)
  if tell then (held ++ gusts ++ wraps.map Wrap.cmd ++ modes ++ stops ++ sp ++ touts).foldl (fun (s : State) c => s.refuse c 0x0B) s3 else s3

/-- The token leaves a unit: what it holds is dropped and completes ABORTED (R198, R287, R419). -/
def dropHeld (u : Cu) (s : State) : State := s.dropCmds u (fun _ => true) true

/-- A function is reset: its held timed commands are dropped (R348, R350). -/
def dropHeldFn (u : Cu) (f : Nat) (s : State) : State := s.dropCmds u (fun c => decide (c.func = f)) false

/-! ### Result queues, pulls and counters -/

/-- Discard a queue's stored results and count them (R145). -/
def discardRq (q : Nat) (s : State) : State :=
  let x := Tab.get {} q s.mon.queues
  ({ s with mon := { s.mon with queues := Tab.erase q s.mon.queues } }).bump (Reg.MON_RQ_DROPS q) 31 0 x.store.length |>.setField
    (Reg.MON_RQ_STATUS q) 11 0 0

/-- Every result queue is disabled when the token changes hands (R145). -/
def disableResultQueues (s : State) : State :=
  (List.range 16).foldl (fun (s : State) q =>
    if s.rbit (Reg.MON_RQ_CTRL q) 31 then
      ((s.discardRq q).clrReg (Reg.MON_RQ_CTRL q) 0x80000000).orReg (Reg.MON_RQ_STATUS q) 0x40000
    else s) s

/-- A pull ends without DONE when the token moves (R579). -/
def endPull (s : State) : State :=
  match s.recd.pull with
  | none => s
  | some _ => ({ s with recd := { s.recd with pull := none } }).clrReg Reg.REC_PULL_STATUS 0x80000000

/-- Q_CTRL.CNT_CLR clears a function's counters (R379) (log entry 137 DEDUCED). -/
def clearFnCounts (u : Cu) (f : Nat) (s : State) : State :=
  (List.range 64).foldl (fun (s : State) q => s.setReg (Reg.Q_SQ_POLICED u f q) 0) (s.setReg (Reg.Q_EQ_LOST u f) 0)

/-! ### Recorder (R571, R575, R577, R578) -/

/-- Opcodes whose commands read host memory (R395, R398, R400, R405, R408, R409, R415). -/
def readsHost (c : Cmd) : Bool :=
  match c.op with
  | 0x02 | 0x05 | 0x0B | 0x0F => true
  | 0x07 => decide (c.b 4 ≤ 3)
  | 0x0C => decide (1 ≤ c.b 4)
  | 0x16 => decide (c.b 4 = 0)
  | _ => false

/-- A COMMAND record (R571): the descriptor, then every byte the command reads from host memory (log entry 193 DEDUCED). -/
def commandRec (c : Cmd) (bytes : List Byte) (s : State) : State :=
  if s.holds c.unit then s.recAppend 0x04 (bytesOf 1 c.unit.num ++ bytesOf 1 c.func ++ bytesOf 1 c.sq ++ bytesOf 5 0 ++ c.desc ++ bytes) else s

/-- The record of a grant; that of a command which reads host memory is written once those bytes are here. -/
def recCommand (c : Cmd) (s : State) : State := if readsHost c then s else s.commandRec c []
def recReads (c : Cmd) (d : HostData) (s : State) : State := s.commandRec c (match d with | .bytes l => l | .failed _ => [])

/-- Recording goes on in a new block, flagged GAP, with a CHECKPOINT first (R575, R577, R578). -/
def recRestart (s : State) : State := { s with recd := { s.recd with gap := true, ckptDue := true } }
def recResume (s : State) : State := s.recRestart

/-- Whether a register's block is among those a checkpoint carries (R575). -/
def ckptBlk (b : Blk) : Bool :=
  match b with
  | .kFab | .kSite | .kDrvw | .kDrv | .kMon | .kMonw | .kRq | .kRqmap | .kPort | .kGst | .kGstpin | .kLoop | .kDrt | .kCal | .kTim | .kTout
  | .kSch | .kSchp => true
  | _ => false

/-- Bytes of registers by key. -/
def regBytes (s : State) (ks : List Nat) : List Byte := ks.foldr (fun k acc => bytesOf 4 (s.rnat k) ++ acc) []

/-- Every key of a register row. -/
def rowKeys : List (Nat × Nat) → Nat → List Nat
  | [], b => [b]
  | (st, n) :: r, b => ((List.range n).map (fun i => rowKeys r (b + st * i))).foldr (· ++ ·) []

end Sys2Proof.Machine.State
end

