-- ==== Sys2Proof/Machine/Faults.lean ====
section
/-! DEFINITION. Hold, PARK and release (R99, R104–R106, R530–R534), the event log (R537–R540) and the fault collector:
classification, the first record, reactions and clearing (R522–R536). -/
namespace Sys2Proof.Machine.State

/-! ### The event log -/

/-- The rows of R538's UNITS byte (log entry 136 DEDUCED). -/
def logUnits (s : State) : Nat :=
  (match s.holder with | some .a => 2 | some .b => 3 | none => 0) + 4 * b2n (!s.islandOnly .a) + 8 * b2n (!s.islandOnly .b)

/-- A suppressible record is not written: counted for the next record and in FLT_LOG_CNT (R540, R541, R542). -/
def logSuppress (s : State) : State :=
  (({ s with flt := { s.flt with supOwed := min (s.flt.supOwed + 1) 0xFFFF } }).bump Reg.FLT_LOG_CNT 31 16 1).orReg Reg.FLT_STATUS 0x20

/-- Latch a log record in the buffer (R537, R540): kinds 1–3 are suppressible, 64 in any hour; a record of kinds 4–9 that finds the
buffer full replaces the newest suppressible record waiting there. -/
def logPut (kind cls react src total detail : Nat) (s : State) : State :=
  let f := s.flt
  let sup := decide (kind ≤ 3)
  let recent := f.supTimes.filter (fun t => decide (s.now < t + 3600000000000))
  let full := decide (f.buf.length ≥ 8)
  if sup && (full || decide (recent.length ≥ 64)) then s.logSuppress
  else
    let r : LogRec := { seq := f.seq, kind, cls, react, src, ns := s.time.ns, sec := s.time.sec, tgen := s.tgen, g := s.time.g,
                        total, suppressed := f.supOwed, units := s.logUnits, temp := s.maxTemp, detail }
    if full then
      match f.buf.reverse.find? (fun b => decide (b.kind ≤ 3)) with
      | some old =>
        let r' := { r with seq := old.seq, suppressed := min (old.suppressed + f.supOwed + 1) 0xFFFF }
        (({ s with flt := { f with buf := f.buf.map (fun (b : LogRec) => if b.seq = old.seq then r' else b), supOwed := 0 } }).bump
          Reg.FLT_LOG_CNT 31 16 1).orReg Reg.FLT_STATUS 0x20
      | none => { s with flt := { f with buf := f.buf.drop 1 ++ [r], seq := (f.seq + 1) % 2 ^ 32, supOwed := 0 } }
    else
      (({ s with flt := { f with buf := f.buf ++ [r], seq := (f.seq + 1) % 2 ^ 32, supOwed := 0,
                                 supTimes := if sup then s.now :: recent else recent } }).setReg Reg.FLT_LOG_SEQ (word (f.seq + 1))).bump
        Reg.FLT_LOG_CNT 15 0 1

/-! ### Recorder triggers (R576) -/

/-- The recorder freezes (R576): FREEZE record, block closed, FROZEN and FREEZE_DONE set, REC_FREEZE_G latched, REC_FROZEN raised
to the holder's unit. -/
def freeze (cause src trigG : Nat) (s : State) : State :=
  if s.rbit Reg.REC_STATUS 2 then s
  else
    let s1 := (s.recAppend 0x0C (bytesOf 1 cause ++ bytesOf 1 src ++ bytesOf 6 0 ++ bytesOf 8 trigG))
    let s2 : State := if s.recording then s1.closeBlock true else s1
    let s3 := ({ s2 with recd := { s2.recd with postTrig := none } }).orReg Reg.REC_STATUS 0x14
    let s4 := (s3.clrReg Reg.REC_STATUS 0x0A).setReg64 Reg.REC_FREEZE_G_LO Reg.REC_FREEZE_G_HI s.time.g
    match s.holder with
    | some u => s4.eventTo u 10 0xA0 0 s.now s.time.g (s.time.g / 2 ^ 32) (cause + 2 ^ 16 * src) 0
    | none => s4

/-- A trigger enabled in REC_TRIG starts the POST interval; one during POST or while frozen changes nothing (R576). -/
def recTrigger (bitNo cause src : Nat) (s : State) : State :=
  if s.rbit Reg.REC_TRIG bitNo && s.recording && s.recd.postTrig.isNone then
    ({ s with recd := { s.recd with postTrig := some (s.clk + clksMs (min (s.fld Reg.REC_POST 15 0) 10000), cause, src, s.time.g) } }).orReg
      Reg.REC_STATUS 0x08
  else s

/-! ### Hold and PARK of the channels (R99, R104, R105) -/

/-- Empty a channel's queue; FLUSHED if it held entries (R99). -/
def flushQueue (ch : Nat) (s : State) : State :=
  let c := s.chan ch
  if c.queue.isEmpty then s else (s.setChan ch { c with queue := [] }).orReg (Reg.DRV_QSTAT (ch / 240) (ch % 240)) 0x800

/-- Every channel's queue is emptied (R99). -/
def flushAll (s : State) : State := s.drv.chans.foldl (fun (s : State) e => s.flushQueue e.1) s

/-- What entering hold does to one channel (R104). -/
def holdChan (c : Chan) : Chan := { c with holdL := c.x, holdD := c.dac, pulse := none, gated := false }

/-- What a PARK does to one channel (R105): cell channels take their park register, auxiliary ones enter hold unless already held. -/
def parkChan (already : Bool) (c : Chan) : Chan :=
  if c.kind ≤ 2 then
    { c with active := c.parkL, next := c.parkL, holdL := c.parkL, holdD := c.parkD, dac := c.parkD, x := c.parkL, pulse := none, gated := false }
  else if already then c else holdChan c

/-- Loop outputs still to be applied are dropped (R220). -/
def dropOuts (s : State) : State := { s with loop := { s.loop with outs := [] } }

/-- Every datapath enters hold on one drive clock (R104). -/
def holdData (s : State) : State :=
  if s.drv.held then s
  else
    let s1 := s.flushAll
    ({ s1 with drv := { s1.drv with chans := Tab.mapAll (fun _ c => holdChan c) s1.drv.chans, held := true } }).dropOuts.drtStop

/-- Every cell channel takes its park register (R105). -/
def parkData (s : State) : State :=
  let s1 := s.flushAll
  ({ s1 with drv := { s1.drv with chans := Tab.mapAll (fun _ c => parkChan s.drv.held c) s1.drv.chans, held := true, parked := true } }).dropOuts.drtStop

/-- Hold and PARK of the bench's own in a replay act on its pads only (R583): a held DAC keeps its code, a parked one takes its park code. -/
def holdChans (s : State) : State := if s.inReplay then s else s.holdData
def parkChans (s : State) : State :=
  if s.inReplay then
    { s with drv := { s.drv with chans := Tab.mapAll (fun _ c => if c.kind ≤ 2 then { c with dac := c.parkD } else c) s.drv.chans } }
  else s.parkData

/-! ### Thimble (R530–R533) -/

/-- SAFE_STATE (R418): HOLD, PARK or released, the source and the cause. -/
def safeEvent (bits src cause : Nat) (s : State) : State := s.event 0 0x02 0 s.now bits (src + 2 ^ 16 * cause) 0 0

/-- The source FLT_SAFE names, as SAFE_STATE carries it: 0xFFFF for none (R418, R541). -/
def safeSrc (s : State) : Nat := if s.fld Reg.FLT_SAFE 23 16 = 255 then 0xFFFF else s.fld Reg.FLT_SAFE 23 16

/-- What every entry into HOLD or PARK brings elsewhere (R84, R99, R214, R234, R237, R262, R333). -/
def safeAborts (s : State) : State := if s.inReplay then s else (((s.abortSite 2).abortCal).abortChar).abortSquall

/-- Thimble HOLD (R530): nothing where a safe state already stands (R532). -/
def enterHold (src cause : Nat) (s : State) : State :=
  if s.safeState ≠ 0 then s
  else
    let s1 := (s.holdChans).setReg Reg.FLT_SAFE (word (1 + 16 * cause + 2 ^ 16 * (src % 256)))
    let s2 := (s1.safeAborts).safeEvent 1 src cause
    ((s2.logPut 2 0 2 src 0 1).recEvent 3 [1, 1]).recTrigger 8 2 (src % 256)

/-- Thimble PARK (R531): replaces a HOLD, leaves a PARK in effect (R532); the active schedule stops with cause PARK (R294) and
Draught replay stops (R262). -/
def enterPark (src cause : Nat) (event_ : Bool) (s : State) : State :=
  if s.safeState ≥ 2 then s
  else
    let s1 := (s.parkChans).setReg Reg.FLT_SAFE (word (2 + 16 * cause + 2 ^ 16 * (src % 256)))
    let s2 := ((if s.fabOn && !s.inReplay then s1.showPark else s1).safeAborts).schedStop 4
    let s3 : State := if event_ then s2.safeEvent 2 src cause else s2
    ((s3.logPut 2 0 3 src 0 2).recEvent 3 [2, 1]).recTrigger 8 2 (src % 256)

/-- The drive stages power down 100 µs after the park clock (R533). -/
def scheduleDown (s : State) : State := { s with fab := { s.fab with downAt := some (s.clk + 20480) } }

/-! ### Sources (R522–R525, R541–R544) -/

/-- The register of a source at an offset of the base or unit set (R541, R544). -/
def srcReg (src off : Nat) : Nat :=
  if src < 64 then 0x11E400 + off + 0x20 * src
  else unitKey (if src < 96 then .a else .b) (0x6400 + off + 0x20 * ((src - 64) % 32))

/-- Sources 28–63 and local indices 12–31 are reserved (R523). -/
def srcExists (src : Nat) : Bool :=
  if src < 64 then decide (src < 28) else decide (src < 128) && decide ((src - 64) % 32 < 12)

/-- N of a source, 0 taken as 1 (R543). -/
def srcN (s : State) (src : Nat) : Nat := let n := s.fld (srcReg src 0) 7 0; if n = 0 then 1 else n

/-- The class a source holds (R524). -/
def srcClass (s : State) (src : Nat) : Nat := s.fld (srcReg src 8) 18 16

/-- WIN of a report now: the reports in (t − W, t], all since the last clear for W = 0 (R524). -/
def srcWin (s : State) (src : Nat) (times : List Nat) : Nat :=
  let w := s.rnat (srcReg src 4)
  if w = 0 then times.length else (times.filter (fun t => decide (s.now < t + w * 1000000))).length

/-- Classify one report (R524): history, TOTAL, WIN, class; the record opens at ERROR and SEVERE (R525); a level source's LEVEL bit
is set. -/
def classify (src : Nat) (s : State) : State :=
  let times := (s.now :: Tab.get [] src s.flt.hist).take 255
  let win := s.srcWin src times
  let base := s.fld (srcReg src 0) 25 24
  let cls := if s.srcClass src = 3 ∨ s.srcN src ≤ win then 3 else base
  let s1 : State := { s with flt := { s.flt with hist := Tab.set src times s.flt.hist } }
  let s2 := (s1.setField (srcReg src 8) 18 16 cls).setField (srcReg src 8) 7 0 (min win 255)
  let s3 : State := if 2 ≤ cls then
      (s2.orReg (srcReg src 8) (2 ^ 31)).orReg (Reg.FLT_OPEN (src / 32)) (2 ^ (src % 32)) else s2
  let s4 : State := if s.rbit (srcReg src 0) 30 then s3.orReg (srcReg src 8) (2 ^ 30) else s3
  s4.bump (srcReg src 0xC) 31 0 1

/-- The first record is made from a source (R527). -/
def firstFrom (src : Nat) (s : State) : State :=
  let cls := s.srcClass src
  let s1 := s.setReg Reg.FLT_FIRST (word (2 ^ 31 + 2 ^ 20 * cls + 2 ^ 16 * cls + src))
  let s2 := (s1.setReg Reg.FLT_FIRST_NS (word s.time.ns)).setReg Reg.FLT_FIRST_SEC (word s.time.sec)
  s2.orReg (Reg.FLT_FIRST_SRC (src / 32)) (2 ^ (src % 32))

/-- A report at ERROR or SEVERE is merged into the valid first record (R528). -/
def mergeInto (src : Nat) (s : State) : State :=
  let s1 := (s.orReg (Reg.FLT_FIRST_SRC (src / 32)) (2 ^ (src % 32))).bump Reg.FLT_FIRST_MERGE 31 0 1
  let s2 := (s1.setReg Reg.FLT_FIRST_LAST_NS (word s.time.ns)).setReg Reg.FLT_FIRST_LAST_SEC (word s.time.sec)
  let s3 := s2.setField Reg.FLT_FIRST 22 20 (max (s.fld Reg.FLT_FIRST 22 20) (s.srcClass src))
  (s3.bump (srcReg src 0x10) 31 0 1).setReg (srcReg src 0x14) (word s.time.ns)

/-- Among the sources of one drive clock, the most severe, a tie to the lower number (R527). -/
def worst (s : State) : List Nat → Option Nat
  | [] => none
  | a :: r => match s.worst r with
    | none => some a
    | some b => if s.srcClass b > s.srcClass a ∨ (s.srcClass b = s.srcClass a ∧ b < a) then some b else some a

/-- The reports of one drive clock at ERROR or SEVERE make or merge into the first record (R527, R528). -/
def firstRecord (srcs : List Nat) (s : State) : State :=
  let hot := srcs.filter (fun a => decide (2 ≤ s.srcClass a))
  if s.rbit Reg.FLT_FIRST 31 then hot.foldl (fun (s : State) a => s.mergeInto a) s
  else match s.worst hot with
    | none => s
    | some w => (hot.erase w).foldl (fun (s : State) a => s.mergeInto a) (s.firstFrom w)

/-- A FAULT event (R418, R525): base sources to the holder, unit sources to that unit (R417). -/
def faultEvent (src react : Nat) (s : State) : State :=
  let p0 := src + 2 ^ 16 * s.srcClass src + 2 ^ 20 * react
  let p1 := s.rnat (srcReg src 0xC)
  let p2 := s.rnat (srcReg src 0x10)
  if src < 64 then s.event 0 0x01 0 s.now p0 p1 p2 0
  else s.eventTo (if src < 96 then .a else .b) 0 0x01 0 s.now p0 p1 p2 0

/-- The reaction a SEVERE source has: HOLD or PARK of a unit source acts only while that unit holds the token (R526); source 10's is
fixed (R523). -/
def reactionOf (s : State) (src : Nat) : Nat :=
  let r := if src = 10 then 3 else s.fld (srcReg src 0) 29 28
  if 2 ≤ r ∧ 64 ≤ src ∧ !s.holds (if src < 96 then .a else .b) then 1 else r

/-- Whether a report's source triggers the recorder: base sources and sources of the holder (R576). -/
def recSource (s : State) (src : Nat) : Bool := decide (src < 64) || s.holds (if src < 96 then .a else .b)

/-- A source calls a safe state: it is noted, so that RELEASE is refused while its record is open (R534). -/
def noteCaller (src : Nat) (s : State) : State :=
  if s.flt.callers.contains src then s else { s with flt := { s.flt with callers := src :: s.flt.callers } }

/-- The effect of one classified report (R525, R533, R537, R576). -/
def react (was : Nat) (r : FaultRep) (s : State) : State :=
  let src := r.src
  let cls := s.srcClass src
  let s0 : State := if s.recSource src then s.recTrigger cls 1 (src % 256) else s
  match cls with
  | 0 => if s.rbit Reg.FLT_CTRL 0 then s0.faultEvent src 0 else s0
  | 1 => if s.rbit Reg.FLT_CTRL 1 then s0.faultEvent src 0 else s0
  | 2 => s0.faultEvent src 0
  | _ =>
    let k := s.reactionOf src
    let s1 : State := if was = 3 then s0 else
      (s0.orReg Reg.FLT_STATUS 2).logPut 1 3 k src (s.rnat (srcReg src 0xC)) r.detail
    let s2 : State := if k = 0 then s1 else s1.faultEvent src k
    if src = 10 then
      (((s2.noteCaller src).enterPark src 4 true).clrReg Reg.FAB_CTRL 1).scheduleDown
    else if k = 2 then (s2.noteCaller src).enterHold src 1
    else if k = 3 then (s2.noteCaller src).enterPark src 1 true
    else s2

/-! ### Wait-to-restore stops on a fault of the preferred unit (R438) -/

/-- The preferred unit (R421, R454): CU-B when PREF_B was high. -/
def preferred (s : State) : Cu := Cu.ofBit (s.rbit Reg.TKN_CFG 16)

/-- RETRY of TKN_REH_CTRL in drive clocks (R438). -/
def retryClks (s : State) : Nat := clksS (s.fld Reg.TKN_REH_CTRL 31 16)

/-- Wait-to-restore stops, and the rehearsals of the preferred unit resume (R438). -/
def wtrStop (s : State) : State :=
  if s.tkn.wtrEnd.isSome then
    ({ s with tkn := { s.tkn with wtrEnd := none, revertDue := some (s.clk + s.retryClks) } }).clrReg Reg.TKN_STATE 0x00400000
  else s

/-- A source of the preferred unit. -/
def ofPreferred (s : State) (src : Nat) : Bool := decide (64 ≤ src) && decide ((if src < 96 then Cu.a else Cu.b) = s.preferred)

/-- The reports of one drive clock reach the collector (R522–R528): each is classified, the first record is made or merged into, and
every reaction is carried out; a PARK of the same clock replaces a HOLD (R532). -/
def report (rs : List FaultRep) (s : State) : State :=
  let live := rs.filter (fun r => srcExists r.src)
  let was := live.map (fun r => (s.srcClass r.src, r))
  let s1 := live.foldl (fun (s : State) r => s.classify r.src) s
  let s2 := s1.firstRecord ((live.map FaultRep.src).eraseDups)
  let s3 : State := was.foldl (fun (s : State) e => s.react e.1 e.2) s2
  if live.any (fun r => s.ofPreferred r.src) then s3.wtrStop else s3

/-- One report of a source with its detail. -/
def report1 (src detail : Nat) (s : State) : State := s.report [{ src := src, detail := detail }]

/-- The source number of local index `i` of a unit (R522). -/
def localSrc (u : Cu) (i : Nat) : Nat := 64 + 32 * u.num + i

/-- A level source's condition ends: its LEVEL bit clears (R522). -/
def levelEnd (src : Nat) (s : State) : State := s.clrReg (srcReg src 8) (2 ^ 30)

/-! ### ERR_N (R529) -/

/-- Any record of any source is open (R529, R541 FLT_OPEN). -/
def anyOpen (s : State) : Bool := (List.range 4).any (fun i => decide (s.reg (Reg.FLT_OPEN i) ≠ 0))

/-- ERR_N is driven low: the first record is valid or any record is open, once the collector runs (R455, R529). -/
def errLow (s : State) : Bool := s.rbit Reg.PWR_BOOT 0 && (s.rbit Reg.FLT_FIRST 31 || s.anyOpen)

/-! ### Clearing (R535, R536) -/

/-- Close a source's record (R535): open bit, window history, base class, MERGES; a level that still stands refuses. -/
def clearSource (src : Nat) (s : State) : State :=
  let s1 : State := { s with flt := { s.flt with hist := Tab.erase src s.flt.hist,
                                                 callers := s.flt.callers.filter (· ≠ src) } }
  let s2 := (s1.clrReg (srcReg src 8) (2 ^ 31)).clrReg (Reg.FLT_OPEN (src / 32)) (2 ^ (src % 32))
  let s3 := (s2.setField (srcReg src 8) 18 16 (s.fld (srcReg src 0) 25 24)).setField (srcReg src 8) 7 0 0
  (s3.setReg (srcReg src 0x10) 0).setReg (srcReg src 0x14) 0

/-- A source's level condition still stands (R535). -/
def levelOn (s : State) (src : Nat) : Bool := s.rbit (srcReg src 8) 30

/-- Clear the first record: FLT_FIRST invalid, its merges and sources zero (R535). -/
def clearFirst (s : State) : State :=
  (List.range 4).foldl (fun (s : State) i => s.setReg (Reg.FLT_FIRST_SRC i) 0)
    ([Reg.FLT_FIRST, Reg.FLT_FIRST_NS, Reg.FLT_FIRST_SEC, Reg.FLT_FIRST_MERGE, Reg.FLT_FIRST_LAST_NS, Reg.FLT_FIRST_LAST_SEC].foldl
      (fun s k => s.setReg k 0) s)

/-- The sources that a unit's 0xFFFE reaches (R412): from the holder every base source and its own, else its own only. -/
def clearReach (s : State) (u : Cu) : List Nat :=
  (if s.holds u then List.range 64 else []) ++ (List.range 32).map (fun i => localSrc u i)

/-- Clear every clearable record in a unit's reach, skipping levels still present (R412, R536). -/
def clearAll (u : Cu) (s : State) : State :=
  ((s.clearReach u).filter (fun a => s.rbit (srcReg a 8) 31 && !s.levelOn a)).foldl (fun (s : State) a => s.clearSource a) s

/-- Release Thimble's safe state: refused while a source that called it has an open record, or while the drive is powered down (R534);
else due on the next update tick (R106). -/
def thimbleRelease (s : State) : State :=
  if s.safeState = 0 then s
  else if s.safeState = 3 || s.flt.callers.any (fun a => s.rbit (srcReg a 8) 31) then s.orReg Reg.FLT_STATUS 4
  else { s with drv := { s.drv with relThimble := true } }

end Sys2Proof.Machine.State
end

