-- ==== Sys2Proof/Machine/Spares.lean ====
section
/-! DEFINITION. Spare substitution: requests, releases, tracking and the switch, for drive channels (R108–R112, R116) and for monitor
channels (R146, R147). An entry is named by whether it is a monitor entry, its tile and its number. -/
namespace Sys2Proof.Machine

/-- A spare entry: monitor or drive, tile, entry. -/
structure SpKey where
  mon : Bool
  tile : Nat
  j : Nat
  deriving DecidableEq, Repr

namespace State

/-- The entry's register, the tile's status register, the first spare index, and the entry's number in the tracking table. -/
def spReg (k : SpKey) : Nat := if k.mon then Reg.MON_SPARE k.tile k.j else Reg.DRV_SPARE k.tile k.j
def spStat (k : SpKey) : Nat := if k.mon then Reg.MON_STATUS k.tile else Reg.DRV_STATUS k.tile
def spFirst (k : SpKey) : Nat := if k.mon then 92 else 228
def spNum (k : SpKey) : Nat := if k.mon then 4 else 12
def spId (k : SpKey) : Nat := k.tile * 12 + k.j

/-- Sticky bits of the tile status: done, failed and refused (R115, R153). -/
def spDoneBit (k : SpKey) : Nat := if k.mon then 0x20 else 0x10
def spFailBit (k : SpKey) : Nat := if k.mon then 0x40 else 0x20
def spRefBit (k : SpKey) : Nat := if k.mon then 0x80 else 0x40

/-- A monitor channel, by its number tile × 96 + index. -/
def monCh (s : State) (ch : Nat) : Mon := Tab.get {} ch s.mon.chans
def setMon (ch : Nat) (m : Mon) (s : State) : State := { s with mon := { s.mon with chans := Tab.put {} ch m s.mon.chans } }

/-- A monitor channel serves an element: it has a role and is not relieved (R110). -/
def monServes (ch : Nat) (m : Mon) : Bool := decide (m.role ≠ 0) && (decide (92 ≤ ch % 96) || m.partner.isNone)

/-- The pad a channel's results name (R134): that of the primary a spare stands in for. -/
def padOf (ch : Nat) (m : Mon) : Nat := if 92 ≤ ch % 96 then (match m.partner with | some p => ch / 96 * 96 + p | none => ch) else ch

/-- The monitor channel that serves an element now. -/
def monOf (s : State) (kind idx : Nat) : Option Nat :=
  (s.mon.chans.find? (fun e => decide (e.2.kind = kind) && decide (e.2.elem = idx) && monServes e.1 e.2)).map Prod.fst

/-- The channel that serves an element, of either sort. -/
def servingOf (s : State) (kind idx : Nat) : Option Nat := if kind ≤ 2 ∨ kind = 6 then s.drvOf kind idx else s.monOf kind idx

/-- The Element Address of an element with its present channel (R8, R10). -/
def elemAddr (s : State) (kind idx : Nat) : Nat := kind * 2 ^ 29 + idx % 2 ^ 13 * 2 ^ 16 + ((s.servingOf kind idx).getD 0x3FFF) % 2 ^ 14

/-- The primary and the spare channel number of an entry. -/
def spWidth (k : SpKey) : Nat := if k.mon then 96 else 240
def spChan (k : SpKey) : Nat := k.tile * spWidth k + spFirst k + k.j
def spPrim (s : State) (k : SpKey) : Nat := k.tile * spWidth k + s.fld (spReg k) 7 0

/-- EN, PEND, IN_FORCE and READY of an entry (R116). -/
def spEn (s : State) (k : SpKey) : Bool := s.rbit (spReg k) 31
def spPend (s : State) (k : SpKey) : Bool := s.rbit (spReg k) 20
def spForce (s : State) (k : SpKey) : Bool := s.rbit (spReg k) 19
def spReady (s : State) (k : SpKey) : Bool := s.rbit (spReg k) 21

/-- Whether the channel a primary index names has a role. -/
def spNamed (s : State) (k : SpKey) (p : Nat) : Bool :=
  if k.mon then decide ((s.monCh (k.tile * 96 + p)).role ≠ 0) else decide ((s.chan (k.tile * 240 + p)).role ≠ 0)

/-- Another entry of the tile serves the primary or is asked to (R112). -/
def spTaken (s : State) (k : SpKey) (p : Nat) : Bool :=
  (List.range (spNum k)).any (fun j =>
    let o : SpKey := { k with j := j }
    decide (j ≠ k.j) && (s.spEn o || s.spPend o || s.spForce o) && decide (s.fld (spReg o) 7 0 = p))

/-- A spare may be asked to stand in for a primary (R112). -/
def spUsable (s : State) (k : SpKey) (p : Nat) : Bool :=
  decide (p < spFirst k) && s.spNamed k p && !s.spTaken k p && !s.rbit (spReg k) 22 && !s.rbit (spReg k) 23

/-- A write is discarded: SPARE_REFUSED; a SPARE_MAP completes INVALID (R112). -/
def spRefuse (k : SpKey) (cmd : Option Cmd) (s : State) : State := (s.orReg (spStat k) (spRefBit k)).completeOpt cmd 0x05 0 0 0 0 0

/-- Tracking of an entry of either sort: none, or its waiting command. -/
def spCmd (s : State) (k : SpKey) : Option Cmd × Bool :=
  if k.mon then (match Tab.find (spId k) s.mon.track with | some t => (t.cmd, t.late) | none => (none, false))
  else (match Tab.find (spId k) s.drv.track with | some t => (t.cmd, t.late) | none => (none, false))

/-- Start or end the tracking of an entry. -/
def spTrack (k : SpKey) (release : Bool) (cmd : Option Cmd) (late : Bool) (s : State) : State :=
  if k.mon then { s with mon := { s.mon with track := Tab.set (spId k) { release, ready := false, cmd, late, due := false } s.mon.track } }
  else { s with drv := { s.drv with track := Tab.set (spId k) { release, startG := none, ready := false, cmd, late } s.drv.track } }
def spUntrack (k : SpKey) (s : State) : State :=
  if k.mon then { s with mon := { s.mon with track := Tab.erase (spId k) s.mon.track } }
  else { s with drv := { s.drv with track := Tab.erase (spId k) s.drv.track } }

/-- The waiting SPARE_MAP completes: RES0 the Element Address after the change, RES1 and RES2 G of the switch (R404). -/
def spComplete (cmd : Option Cmd) (status g : Nat) (done : Bool) (s : State) : State :=
  match cmd with
  | none => s
  | some c => if done then s.complete c status 0 (s.elemAddr (c.w 16 / 2 ^ 29) (c.w 16 / 2 ^ 16 % 2 ^ 13)) g (g / 2 ^ 32) 0 else s.refuse c status

/-- Copy what an incoming channel takes from the serving one (R108): it keeps its own correction. -/
def copyChan (src dst : Chan) : Chan :=
  { dst with slew := src.slew, pe := src.pe, brzEn := src.brzEn, tone := src.tone, amp := src.amp, ampNext := src.ampNext, acc := src.acc,
             accOn := src.accOn, active := src.active, next := src.next, r := src.r, cnt := src.cnt }

/-- DRV_SLEW and DRV_PE of one drive channel are copied to another (R108). -/
def copyShape (a b : Nat) (s : State) : State :=
  (s.setReg (Reg.DRV_SLEW (b / 240) (b % 240)) (s.reg (Reg.DRV_SLEW (a / 240) (a % 240)))).setReg (Reg.DRV_PE (b / 240) (b % 240))
    (s.reg (Reg.DRV_PE (a / 240) (a % 240)))

/-- The incoming channel of an entry takes the serving one's state: at the request and, for a drive channel, on every tick since (R108, R146). -/
def spCopy (k : SpKey) (s : State) : State :=
  let sp := spChan k
  let pr := s.spPrim k
  let a := if s.spForce k then sp else pr
  let b := if s.spForce k then pr else sp
  if k.mon then
    let x := s.monCh a
    s.setMon b { s.monCh b with gain := x.gain, filt := x.filt, auto := x.auto, lowRun := x.lowRun }
  else (s.setChan b (copyChan (s.chan a) (s.chan b))).copyShape a b

/-- A request for an idle entry (R108): PEND, the copied state and the boundary. -/
def spBegin (k : SpKey) (release : Bool) (cmd : Option Cmd) (late : Bool) (s : State) : State :=
  (((s.orReg (spReg k) 0x100000).clrReg (spReg k) 0x200000).spTrack k release cmd late |>.spCopy k).requestBoundary

/-- A pending request or release is cancelled; a SPARE_MAP that waits completes ABORTED (R112). -/
def spCancel (k : SpKey) (s : State) : State :=
  let w := s.spCmd k
  ((s.clrReg (spReg k) 0x300000).spUntrack k).completeOpt w.1 0x0B 0 0 0 0 0

/-- Request that a spare stand in for primary index `p`: DRV_SPAREj or MON_SPAREj with EN 1 (R108, R112). -/
def spRequest (k : SpKey) (p : Nat) (cmd : Option Cmd) (late : Bool) (s : State) : State :=
  let same := decide (s.fld (spReg k) 7 0 = p)
  if s.spForce k && s.spPend k && !s.spEn k then
    if same then ((s.spCancel k).orReg (spReg k) (2 ^ 31)).spComplete cmd (if late then 1 else 0) 0 true else s.spRefuse k cmd
  else if s.spEn k then s.spRefuse k cmd
  else if !s.spUsable k p then s.spRefuse k cmd
  else (((s.setField (spReg k) 7 0 p).orReg (spReg k) (2 ^ 31))).spBegin k false cmd late

/-- DRV_SPAREj or MON_SPAREj with EN 0: release what is in force, cancel what is not (R108, R112). -/
def spRelease (k : SpKey) (p : Nat) (cmd : Option Cmd) (late : Bool) (s : State) : State :=
  if s.spForce k then
    if s.spPend k then s else (s.clrReg (spReg k) (2 ^ 31)).spBegin k true cmd late
  else if s.spPend k then ((s.spCancel k).clrReg (spReg k) (2 ^ 31)).spComplete cmd (if late then 1 else 0) 0 true
  else (s.setField (spReg k) 7 0 p).completeOpt cmd 0x05 0 0 0 0 0

/-- Tracking or the readiness check ends (R108, R112, R146). -/
def spTracked (k : SpKey) (agree : Bool) (s : State) : State :=
  if agree then s.orReg (spReg k) 0x200000
  else
    let w := s.spCmd k
    let s1 := ((s.clrReg (spReg k) 0x300000).spUntrack k).orReg (spStat k) (spFailBit k)
    let s2 : State := if s.spForce k then s1.orReg (spReg k) (2 ^ 31) else (s1.clrReg (spReg k) (2 ^ 31)).orReg (spReg k) 0x800000
    (s2.completeOpt w.1 0x0A 0 0 0 0 0).report1 23 (spChan k)

/-- The channels of a drive entry change over on one drive clock (R109, R110): the spare takes the element's place, or gives it back. -/
def drvSwitch (k : SpKey) (s : State) : State :=
  let sp := spChan k
  let pr := s.spPrim k
  let p := s.chan pr
  let x := s.chan sp
  let s := if s.spForce k then s.copyShape sp pr else s.copyShape pr sp
  if s.spForce k then
    (s.setChan pr { x with gain := p.gain, offset := p.offset, partner := none }).setChan sp
      { copyChan x {} with gain := x.gain, offset := x.offset }
  else
    (s.setChan sp { p with gain := x.gain, offset := x.offset, partner := some (pr % 240) }).setChan pr
      { p with active := 0, next := 0, holdL := 0, holdD := 0, dac := 0, x := 0, queue := [], partner := some (sp % 240) }

/-- The channels of a monitor entry change over; the counts of R136 run from this instant. -/
def monSwitch (k : SpKey) (s : State) : State :=
  let sp := spChan k
  let pr := s.spPrim k
  let p := s.monCh pr
  let x := s.monCh sp
  if s.spForce k then
    (s.setMon pr { x with partner := none, setFast := 3, setFine := 4, subst := true }).setMon sp { gain := x.gain, filt := x.filt, auto := x.auto }
  else
    (s.setMon sp { p with partner := some (pr % 96), setFast := 3, setFine := 4, subst := true }).setMon pr
      { p with fast := 0, fine := 0, partner := some (sp % 96) }

/-- The element a primary channel's pad carries. -/
def spElem (s : State) (k : SpKey) : Nat × Nat :=
  if k.mon then ((s.monCh (s.spPrim k)).kind, (s.monCh (s.spPrim k)).elem) else ((s.chan (s.spPrim k)).kind, (s.chan (s.spPrim k)).elem)

/-- A change comes into force (R109, R146): IN_FORCE, SPARE_DONE, the recorder's SUBST and the waiting SPARE_MAP. -/
def spSwitch (k : SpKey) (s : State) : State :=
  let w := s.spCmd k
  let e := s.spElem k
  let s1 := if k.mon then s.monSwitch k else s.drvSwitch k
  let s2 := ((s1.setReg (spReg k) ((s1.reg (spReg k) &&& 0xFFCFFFFF) ^^^ 0x80000)).spUntrack k).orReg (spStat k) (spDoneBit k)
  let s3 := s2.recEvent 2 (bytesOf 4 (s2.elemAddr e.1 e.2) ++ bytesOf 2 ((s2.servingOf e.1 e.2).getD 0x3FFF))
  let s4 : State := { s3 with tkn := { s3.tkn with eventSave := true } }
  s4.spComplete w.1 (if w.2 then 1 else 0) s.time.g true

/-- The entries being tracked. -/
def drvKeys (s : State) : List SpKey := s.drv.track.map (fun e => { mon := false, tile := e.1 / 12, j := e.1 % 12 })
def monKeys (s : State) : List SpKey := s.mon.track.map (fun e => { mon := true, tile := e.1 / 12, j := e.1 % 12 })

/-- A Lull ends on its own (R108, R112, R146): READY drive entries switch now, READY monitor entries fall due for the next fine-lane
instant; where some entry is PEND and not READY and no Gust is pending, a further null Lull opens. Nothing switches under hold. -/
def spBoundary (s : State) : State :=
  if s.heldNow || s.drv.held then s
  else
    let s1 : State := (s.drvKeys.filter (fun k => s.spReady k)).foldl (fun (s : State) k => s.spSwitch k) s
    let due := s1.monKeys.filter (fun k => s1.spReady k)
    let s2 : State := { s1 with mon := { s1.mon with track := s1.mon.track.map (fun e =>
      (e.1, { e.2 with due := e.2.due || due.contains { mon := true, tile := e.1 / 12, j := e.1 % 12 } })) } }
    if (s2.drvKeys ++ s2.monKeys).any (fun k => !s2.spReady k) then s2.requestBoundary else s2

/-- Monitor entries that fell due switch on a fine-lane instant (R146). -/
def spFine (s : State) : State :=
  if s.heldNow then s
  else ((s.mon.track.filter (fun e => e.2.due)).map (fun e => ({ mon := true, tile := e.1 / 12, j := e.1 % 12 } : SpKey))).foldl
    (fun (s : State) k => s.spSwitch k) s

/-- The fabric is disabled: PEND stays, READY reads 0 and tracking starts afresh when EN is next set (R111). -/
def spDisable (s : State) : State :=
  let s1 : State := (s.drvKeys ++ s.monKeys).foldl (fun (s : State) k => s.clrReg (spReg k) 0x200000) s
  { s1 with drv := { s1.drv with track := s1.drv.track.map (fun e => (e.1, { e.2 with startG := none })) },
            mon := { s1.mon with track := s1.mon.track.map (fun e => (e.1, { e.2 with due := false })) } }

/-- The spares that auxiliary elements reserve show AUX (R32, R116). -/
def spAux (f : Fdr) (s : State) : State :=
  let s1 : State := (List.range s.part.tiles).foldl (fun (s : State) t =>
    (List.range 12).foldl (fun (s : State) j => s.clrReg (Reg.DRV_SPARE t j) 0x400000)
      ((List.range 4).foldl (fun (s : State) j => s.clrReg (Reg.MON_SPARE t j) 0x400000) s)) s
  f.elements.foldl (fun (s : State) e =>
    if e.kind = 6 ∧ 228 ≤ e.chan % 240 then s.orReg (Reg.DRV_SPARE (e.chan / 240) (e.chan % 240 - 228)) 0x400000
    else if e.kind = 7 ∧ 92 ≤ e.chan % 96 then s.orReg (Reg.MON_SPARE (e.chan / 96) (e.chan % 96 - 92)) 0x400000
    else s) s1

/-- Entries in force stand in again after a record is accepted (R111): the spare takes the place of the primary's new element. -/
def spReapply (s : State) : State :=
  (List.range s.part.tiles).foldl (fun (s : State) t =>
    let s1 : State := (List.range 12).foldl (fun (s : State) j =>
      let k : SpKey := { mon := false, tile := t, j := j }
      if s.spForce k then
        let p := s.chan (s.spPrim k)
        let x := s.chan (spChan k)
        (s.setChan (spChan k) { p with gain := x.gain, offset := x.offset, partner := some (s.fld (spReg k) 7 0) }).setChan (s.spPrim k)
          { p with partner := some (228 + j) }
      else s) s
    (List.range 4).foldl (fun (s : State) j =>
      let k : SpKey := { mon := true, tile := t, j := j }
      if s.spForce k then
        let p := s.monCh (s.spPrim k)
        (s.setMon (spChan k) { p with partner := some (s.fld (spReg k) 7 0) }).setMon (s.spPrim k) { p with partner := some (92 + j) }
      else s) s1) s

end State
end Sys2Proof.Machine
end

