-- ==== Sys2Proof/Machine/CellRegs.lean ====
section
/-! DEFINITION. Registers that show typed state and that a checkpoint carries (R155, R213, R244, R245, R575). The cell registers of a control unit are
live on the holder; on the other unit they read as they stood when it lost the token. -/
namespace Sys2Proof.Machine.State

/-- LOOP_CELL_CFG of a cell; MODE and LIGHT as they were written last (R13, R245) (log entry 182 DEDUCED). -/
def cellCfgWord (s : State) (cell : Nat) : Word :=
  let l := s.loopCell cell
  let x := s.cellState cell
  word (2 ^ 17 * b2n l.st.sat + 2 ^ 16 * b2n l.st.dim + 2 ^ 15 * b2n x + 2 ^ 14 * s.armOf cell x + 256 * (l.cls % 16) +
    16 * (l.lightReq.getD l.st.light % 4) + l.modeReq.getD l.st.mode % 4)

/-- Register `i` of a cell, from LOOP_CELL_CFG to LOOP_CELL_SAT (R244). -/
def cellWord (s : State) (cell i : Nat) : Word :=
  let l := (s.loopCell cell).st
  match i with
  | 0 => s.cellCfgWord cell
  | 1 => word (low 32 l.i)
  | 2 => word (low 32 (s.loopCell cell).lastE)
  | 3 => word (2 ^ 28 * (l.strikes % 16) + 2 ^ 16 * (l.resid % 256) + 256 * (l.throw % 256) + l.effort % 256)
  | _ => word (l.satcnt % 65536)

/-- The unit keeps its cell registers as they stand at the loss of the token (R182) (log entry 181 DEDUCED). -/
def keepCells (u : Cu) (s : State) : State :=
  (List.range s.nCells).foldl (fun (s : State) c =>
    (List.range 5).foldl (fun (s : State) i => s.setReg (Reg.LOOP_CELL_CFG u c + 4 * i) (s.cellWord c i)) s) s

/-- SPARE, SUBST, STANDING and PARTNER of a channel's configuration word, by whether its index is a spare's (R118, R155). -/
def linkBits (spare : Bool) (partner : Option Nat) : Nat :=
  2 ^ 31 * b2n spare + 2 ^ 30 * b2n (!spare && partner.isSome) + 2 ^ 29 * b2n (spare && partner.isSome) + 2 ^ 16 * (partner.getD 0xFF)

/-- MON_CFG (R155); the settings read as they were written last. -/
def monCfgWord (s : State) (ch : Nat) : Word :=
  let m := s.monCh ch
  let set := m.req.getD (m.gain + 4 * b2n m.filt + 8 * b2n m.auto)
  word (linkBits (decide (92 ≤ ch % 96)) m.partner + 256 * set + 16 * m.kind + m.role)

/-- A slot is RESERVED: named by a timed or waiting descriptor Gust, or by the active schedule list (R195, R213, R291). -/
def slotReserved (s : State) (i : Nat) : Bool :=
  s.gst.reqs.any (fun r => decide (r.slot = i)) || (match s.sch.active with | some l => l.ents.any (fun e => decide (e.slot = i)) | none => false)

/-- GST_SLOTs (R213). -/
def slotWord (s : State) (i : Nat) : Word :=
  let x := s.slot i
  let armed := match s.gst.armed with | some p => decide (p.req.slot = i) | none => false
  let full := decide (x.st = 2)
  word (2 ^ 30 * x.st + 2 ^ 29 * b2n armed + 2 ^ 28 * b2n (s.slotReserved i) + 2 ^ 27 * b2n (full && decide (x.epoch ≠ s.rnat Reg.FAB_EPOCH)) +
    2 ^ 26 * b2n (full && decide (x.calset ≠ s.rnat Reg.CAL_GEN)) + 2 ^ 25 * b2n x.traj.isSome + x.bgen)

/-- The address and value pairs a checkpoint carries: every RW, RWL and RWS register of its blocks, and the holder's LOOP_CELL_CFG (R575). -/
def ckptPairs (s : State) : List Byte :=
  let ks := ((baseRows.filter (fun r => ckptBlk r.blk && decide (r.rw ||| r.rwl ≠ 0))).map (fun r => rowKeys r.dims r.base)).foldr (· ++ ·) []
  let val (k : Nat) : Word := match keyRow k with
    | some (r, [t, m]) => if r.name = "MON_CFG" then s.monCfgWord (96 * t + m) else s.reg k
    | _ => s.reg k
  let cells := (List.range s.nCells).map (fun c => (Reg.LOOP_CELL_CFG s.tknUnit c, s.cellCfgWord c))
  (ks.map (fun k => (k, val k)) ++ cells).foldr (fun e acc => bytesOf 8 (intAddr e.1) ++ bytesOf 4 e.2.toNat ++ bytesOf 4 0 ++ acc) []

/-- The payload of a CHECKPOINT (R575). -/
def ckptPayload (s : State) (gen : Nat) : List Byte :=
  bytesOf 8 s.time.g ++ bytesOf 8 gen ++ s.regBytes ((List.range 16).map Reg.FAB_HASH) ++ s.regBytes ((List.range 16).map Reg.CAL_HASH) ++
    s.regBytes [Reg.CAL_GEN, Reg.DRT_TGEN, Reg.FAB_EPOCH, Reg.GST_ACTIVE, Reg.GST_SEQ] ++
    ((List.range 256).flatMap (fun i => bytesOf 4 (s.slotWord i).toNat)) ++ s.ckptPairs

end Sys2Proof.Machine.State
end

