-- ==== Sys2Proof/Machine/Power.lean ====
section
/-! DEFINITION. The clock and the power of a control unit (R253, R556, R557): what its throttle level makes of its clock, and the power-state changes that
Draught and the recorder see. -/
namespace Sys2Proof.Machine.State

/-- A domain's thermal judgement (R554, R556). -/
def thmDom (s : State) (d : Nat) : ThmDom := Tab.get {} d s.thm.doms
def setThmDom (d : Nat) (x : ThmDom) (s : State) : State := { s with thm := { s.thm with doms := Tab.put {} d x s.thm.doms } }

/-- SKIP_STEP as the last round end took it, 0 taken as 1 (R564). -/
def skipStep (s : State) : Nat := max (s.thm.ctl / 16 % 4) 1

/-- MODE 1 SKIP is in force (R557, R564). -/
def skipMode (s : State) : Bool := s.thm.ctl.testBit 8

/-- The deepest throttle level of the mode in force (R557). -/
def deepest (s : State) : Nat := if s.skipMode then (6 + s.skipStep - 1) / s.skipStep else 2

/-- The clock of a level in eighths (R557). -/
def levelClock (s : State) (l : Nat) : Nat :=
  if l = 0 then 8
  else if s.skipMode then 8 - min (l * s.skipStep) 6
  else if l = 1 then 4 else 2

/-- A unit has too few valid diodes (R549, R566). -/
def noSensor (s : State) (u : Cu) : Bool := s.rbit Reg.THM_STATUS (8 + u.num)

/-- The level a domain shows: its own, or the deepest without sensors (R549, R565). -/
def shownLevel (s : State) (d : Nat) : Nat :=
  if (d = 1 ∧ s.noSensor .a) ∨ (d = 2 ∧ s.noSensor .b) then s.deepest else (s.thmDom d).level

/-- The clock a running unit is to take: the deeper of its own level and, with BASE_THR, the base domain's (R557) (log entry 158 DEDUCED). -/
def wantClock (s : State) (u : Cu) : Nat :=
  s.levelClock (max (s.shownLevel (1 + u.num)) (if s.thm.ctl.testBit 0 then s.shownLevel 0 else 0))

/-- The effective clock a unit runs at, in eighths; zero with its core off (R253). -/
def unitClock (s : State) (u : Cu) : Nat := if s.islandOnly u then 0 else match u with | .a => s.thm.fA | .b => s.thm.fB

/-- Power of a unit in mW (R253): P_IDLE + P_DYN × f / 8, zero when it is powered off. -/
def unitPower (s : State) (u : Cu) : Int :=
  if s.islandOnly u then 0
  else ((80 * s.fld Reg.DRT_CU_PWR 31 16 + 10 * s.fld Reg.DRT_CU_PWR 15 0 * s.unitClock u : Nat) : Int).fdiv 8

/-- A power-state change of a unit, from state `s0` to the present one, is noted for Draught (R253) and recorded as CLOCK (R574). -/
def noteClock (u : Cu) (s0 s : State) : State :=
  if s0.unitClock u = s.unitClock u then s
  else
    let dP := s.unitPower u - s0.unitPower u
    let step : CuStep := { unit := u, at_ := s.clk, dP := dP }
    ({ s with drt := { s.drt with cuSteps := s.drt.cuSteps ++ [step] } }).recEvent 8 [BitVec.ofNat 8 u.num, BitVec.ofNat 8 (s.unitClock u)]

/-- A unit's clock becomes the one its throttle level asks for. -/
def takeClock (u : Cu) (s : State) : State :=
  let f := s.wantClock u
  match u with
  | .a => { s with thm := { s.thm with fA := f } }
  | .b => { s with thm := { s.thm with fB := f } }

/-- Throttle changes take effect at a loop instant, before its updates begin (R557); in a replay the CLOCK records say when (R574). -/
def throttleInstant (s : State) : State :=
  if s.inReplay then s
  else
  let sa := (s.takeClock .a).noteClock .a s
  (sa.takeClock .b).noteClock .b sa

end Sys2Proof.Machine.State
end

