-- ==== Sys2Proof/Machine/Token.lean ====
section
/-! DEFINITION. The token arbiter (R420–R429, R441–R444), rehearsals and hand-overs (R435–R440) and saved-state images (R430–R434). -/
namespace Sys2Proof.Machine

namespace State

/-- TKN_CFG.LEASE in ms, 0 taken as 1 and above 100 as 100 (R424, R445). -/
def leaseMs (s : State) : Nat := clampN (s.fld Reg.TKN_CFG 6 0) 1 100

/-- PEER_FAIL of a unit (R446). -/
def peerFail (s : State) (u : Cu) : Bool := s.rbit Reg.TKN_STATE (26 + u.num)

/-- Set or clear PEER_FAIL of a unit. -/
def setPeerFail (u : Cu) (b : Bool) (s : State) : State := s.setReg Reg.TKN_STATE (putBit (s.reg Reg.TKN_STATE) (26 + u.num) b)

/-- The unit whose lease last lapsed (R446). -/
def lapsedUnit (s : State) : Cu := Cu.ofBit (s.rbit Reg.TKN_STATE 17)

/-- A refusal is recorded in TKN_LAST: cause, register and unit (R445). -/
def tknRefuse (cause reg : Nat) (u : Cu) (sticky : Nat) (s : State) : State :=
  (s.setReg Reg.TKN_LAST (word (cause + 256 * reg + 4096 * u.num))).orReg Reg.TKN_STATUS sticky

/-- Whether TKN_STATE permits a unit to claim (R421): START the preferred unit at once and the other 2 s after reset; FREE the unit that
did not lapse, and the lapsed one once PEER_FAIL stands for the other or 1 s after grace; RESERVED the successor for 100 ms, then the
releaser. -/
def mayClaim (s : State) (u : Cu) : Bool :=
  match s.tknState with
  | 0 => decide (u = s.preferred) || decide (s.clk ≥ s.tkn.resetAt + clksS 2)
  | 3 => decide (u ≠ s.lapsedUnit) || s.peerFail u.peer || decide (s.clk ≥ s.tkn.freeAt + clksS 1)
  | 4 => if s.clk < s.tkn.resvEnd then decide (u = s.tknUnit) else decide (u = s.tkn.releaser)
  | _ => false

/-- Raise a token event to a unit's functions (R418, R448). -/
def tokenEvent (toSt u : Cu) (typ pay1 : Nat) (s : State) : State := s.eventTo toSt 8 typ 0 s.now (u.num + 2 ^ 16 * s.tgen) pay1 0 0

/-- The cause TOKEN_CLAIMED carries (R448): 0 first claim, 1 after a lapse, 2 hand-over, 3 reclaim after HANDOVER_FAIL. -/
def claimCause (s : State) (u : Cu) : Nat :=
  match s.tknState with | 0 => 0 | 3 => 1 | _ => if u = s.tkn.releaser then 3 else 2

/-! ### Saved-state images (R430–R434) -/

/-- The digest registers FAB_HASH0–15. -/
def fabHash (s : State) : List Nat := (List.range 16).map (fun i => s.rnat (Reg.FAB_HASH i))

/-- The registers listed between two keys, with their values. -/
def regSpan (s : State) (a b : Nat) : List (Nat × Word) := s.regs.filter (fun e => decide (a ≤ e.1) && decide (e.1 ≤ b))

/-- The spare entries listed in any tile (R433 SPARE). -/
def spareRegs (s : State) : List (Nat × Word) :=
  s.regs.filter (fun e => decide (0x800000 ≤ e.1) && decide (e.1 < 0x1000000) &&
    ((decide (0x10 ≤ e.1 % 0x20000) && decide (e.1 % 0x20000 < 0x40)) ||
     (decide (0x4010 ≤ e.1 % 0x20000) && decide (e.1 % 0x20000 < 0x4020))))

/-- One generation of the image, as the state stands (R431–R433). -/
def snapshot (kind : Nat) (u : Cu) (s : State) : Image :=
  { kind, unit := u, gen := s.tkn.nextGen, tgen := s.tgen, g := s.time.g, sec := s.time.sec, ns := s.time.ns,
    epoch := s.rnat Reg.FAB_EPOCH, calGen := s.rnat Reg.CAL_GEN, active := s.rnat Reg.GST_ACTIVE, seq := s.rnat Reg.GST_SEQ,
    hash := s.fabHash, cells := s.cellSnapshot, health := s.regSpan (Reg.FAB_HEALTH 0) (Reg.FAB_HEALTH 607), spares := s.spareRegs,
    recSec := [s.rnat Reg.REC_CTRL, s.rnat Reg.REC_SIZE, s.rnat Reg.REC_TRIG, s.rnat Reg.REC_POST, s.rnat Reg.REC_CKPT,
            s.rnat Reg.REC_CAP, s.rnat Reg.REC_WPTR, s.recd.bseq, b2n (s.rbit Reg.REC_STATUS 2),
            s.rnat64 Reg.REC_FREEZE_G_LO Reg.REC_FREEZE_G_HI] }

/-- Image generation n lies in copy n mod 2, slot ⌊n/2⌋ mod 8,192 (R430); the key is copy × 8,192 + slot. -/
def imageSlot (n : Nat) : Nat := n % 2 * 8192 + n / 2 % 8192

/-- The holder saves one generation (R430, R431); every 64th generation of a copy is FULL. -/
def saveImage (kind : Nat) (s : State) : State :=
  let n := s.tkn.nextGen
  let k := if kind ≤ 1 ∧ n / 2 % 64 = 0 then 2 else kind
  let s1 : State := { s with tkn := { s.tkn with images := Tab.set (imageSlot n) (s.snapshot k s.tknUnit) s.tkn.images,
                                                 nextGen := n + 1, lastSave := s.clk, eventSave := if kind ≤ 1 then false else s.tkn.eventSave } }
  let s2 := s1.setReg64 Reg.TKN_IMG_GEN_LO Reg.TKN_IMG_GEN_HI n
  if s.recd.ckptDue || decide (s.time.g ≥ s.recd.lastCkpt + 1600000 * clampN (s.fld Reg.REC_CKPT 5 0) 1 60) then
    let s3 := s2.recAppend 0x0B (s.ckptPayload n)
    { s3 with recd := { s3.recd with lastCkpt := s.time.g, ckptDue := false } }
  else s2

/-- The image a new holder selects (R434): the highest generation whose digest of the record equals FAB_HASH. -/
def selectImage (s : State) : Option Image :=
  (s.tkn.images.map Prod.snd).foldl (fun best im =>
    if im.hash = s.fabHash then
      match best with
      | none => some im
      | some b => if im.gen > b.gen then some im else best
    else best) none

/-- Flags of TOKEN_CLAIMED: NO_IMAGE, OLD_IMAGE (more than 2 s of the grid), marks, epoch or spares that differ (R434, R448). -/
def imageFlags (s : State) : Nat :=
  match s.selectImage with
  | none => 0x100
  | some im =>
    (if s.time.g - im.g > 3200000 then 0x200 else 0) +
    (if im.epoch ≠ s.rnat Reg.FAB_EPOCH ∨ im.health ≠ s.regSpan (Reg.FAB_HEALTH 0) (Reg.FAB_HEALTH 607) ∨ im.spares ≠ s.spareRegs then 0x400 else 0)

/-! ### Claims, renewals and releases -/

/-- What happens everywhere when the token leaves a unit or changes hands (R84, R99, R145, R198, R237, R287, R333, R579, R419). -/
def tokenLeaves (u : Cu) (s : State) : State :=
  (((((((((s.abortSite 1).abortCal).abortChar).abortSquall).flushAll).dropHeld u).disableResultQueues).loseBastes u).endPull).keepCells u

/-! ### Cores (R334, R425, R450, R460) -/

/-- The unit's domain is in SHUTDOWN: it cannot be called (R558). -/
def unitShutdown (s : State) (u : Cu) : Bool := decide (s.fld (Reg.THM_DOMAIN (1 + u.num)) 31 30 = 3)

/-- A unit's VCORE is in range (R451, R457). -/
def vcoreOk (s : State) (u : Cu) : Bool := s.rbit Reg.PWR_RAIL (7 + u.num)

/-- The register that holds a unit's retirement map (R499). -/
def retMapReg (u : Cu) : Nat := match u with | .a => Reg.SP_RETMAP_A | .b => Reg.SP_RETMAP_B

/-- The detail word of an SP_RETIRE record: unit, bank and pool bank (R538). -/
def retDetail (u : Cu) (b pool : Nat) : Nat := u.num + 256 * b + 65536 * pool

/-- An empty retirement map is restored from the log's SP_RETIRE records of the unit, as its boot firmware does after a cold reset (R499) (log entry 148 DEDUCED). -/
def restoreRetMap (u : Cu) (s : State) : State :=
  if s.rnat (retMapReg u) = 0xFFFFFFFF then
    s.flt.log.foldl (fun (s : State) e =>
      let pool := e.2.detail / 65536 % 4
      if e.2.kind = 9 ∧ e.2.detail % 256 = u.num then
        s.setField (retMapReg u) (8 * pool + 7) (8 * pool) (e.2.detail / 256 % 256) else s) s
  else s

/-- The retired banks of a unit, from its map, as its core loads it at power-up (R499, R503). -/
def loadRetMap (u : Cu) (s : State) : State :=
  let s0 := s.restoreRetMap u
  let m := s0.rnat (retMapReg u)
  [0, 1, 2, 3].foldl (fun (s : State) k =>
    let b := m / 256 ^ k % 256
    if b < 32 then s.orReg (Reg.SP_BANK u b) 0x10000000 else s) s0

/-- Registers of a unit's solver and Loop Array, which keep what they held when it lost the token until its core is started cold (R181, R244). -/
def lastReg (u : Cu) (k : Nat) : Bool :=
  (decide (unitKey u 0x2000 ≤ k) && decide (k < unitKey u 0x3000)) || (decide (unitKey u 0x40000 ≤ k) && decide (k < unitKey u 0xC0000))

/-- Registers of a unit that its core holds: those, the scratchpads' and the data mover's (R450); the others lie on its island. -/
def coreReg (u : Cu) (k : Nat) : Bool := lastReg u k || (decide (unitKey u 0x4000 ≤ k) && decide (k < unitKey u 0x6000))

/-- A unit's core is switched on, unless it runs already (R427, R455, R457), its VCORE is low, or its domain is in SHUTDOWN (R558) (log entry 161 DEDUCED). -/
def switchOn (u : Cu) (s : State) : State :=
  match (s.unit u).core with
  | .off => if s.unitShutdown u || !s.vcoreOk u then s else
      let s1 := (s.resetRegs (lastReg u)).loadRetMap u
      (((s1.setUnit u { s1.unit u with core := .booting s.clk }).orReg Reg.PWR_BOOT (2 ^ (5 + u.num))).takeClock u).noteClock u s
  | _ => s

/-- A unit's core is powered down: only its island runs on (R334, R425, R428). -/
def switchOff (u : Cu) (s : State) : State :=
  ((s.setUnit u { s.unit u with core := .off }).clrReg Reg.PWR_BOOT (2 ^ (5 + u.num))).noteClock u s

/-- A scope closes: its bit, CLOSED and ACCESS (R609, R611, R418). -/
def closeScope (u : Cu) (s : State) (i : Nat) : State :=
  if s.rbit (Reg.SEC_SCOPE u) i then
    ((s.clrReg (Reg.SEC_SCOPE u) (2 ^ i)).orReg (Reg.SEC_STATUS u) 2).eventTo u 12 0xC0 0 s.now i 0 0 0
  else s

/-- Every scope of a unit closes (R609). -/
def closeScopes (u : Cu) (s : State) : State := [0, 1, 2, 3].foldl (closeScope u) s

/-- Commands of a unit in flight complete ABORTED, by its island (R460, R463); with `all` false those that have started. -/
def abortFlights (u : Cu) (all : Bool) (s : State) : State :=
  (s.unit u).flights.foldl (fun (s : State) a =>
    if all || a.started then s.refuse { unit := u, func := a.func, sq := a.sq, desc := a.desc } 0x0B else s) s

/-- What a core loses when it stops: transfers (results on their way count as drops, R145), scratchpads, a half-written activation, and its registers (R450, R612) (log entry 134 DEDUCED). -/
def dropCore (u : Cu) (s : State) : State :=
  let x := s.unit u
  let job : Option FlashJob := match s.sec.flash with
    | some (.activate c b n) => if c.unit = u then none else some (.activate c b n)
    | j => j
  let half : List (Nat × List Byte) := match s.sec.flash with
    | some (.activate c b _) => if c.unit = u then Tab.erase b s.sec.banks else s.sec.banks
    | _ => s.sec.banks
  let lose (s : State) (e : Nat × DmChan) : State :=
    match e.2.hw with
    | some r => if r.src = 1 then s.bump (Reg.MON_RQ_DROPS r.queue) 31 0 r.gs.length else s
    | none => s
  let s1 := (x.dm.foldl lose s).setUnit u { x with sp := {}, dm := [] }
  let s2 : State := { s1 with attests := s1.attests.filter (fun a => decide (a.cmd.unit ≠ u)), sec := { s1.sec with flash := job, banks := half },
                              rte := (match u with | .a => { s1.rte with insA := [] } | .b => { s1.rte with insB := [] }) }
  s2.resetRegs (fun k => coreReg u k && !lastReg u k)

/-- A unit powers its core down (R425, R441): what it still executes is aborted; only its island runs on. -/
def powerDown (u : Cu) (s : State) : State :=
  match (s.unit u).core with
  | .off => s
  | _ => ((((s.abortFlights u false).closeScopes u).dropCore u).switchOff u)

/-- An accepted claim (R421): holder, GEN, lease, OWN pin and TOKEN_CLAIMED on one base clock; then the image is restored and the CLAIM
save made (R431, R434, R233); the recorder resumes (R578). -/
def acceptClaim (u : Cu) (s : State) : State :=
  let was := s.tknState
  let cause := s.claimCause u
  let flags := s.imageFlags
  let gen := if s.tgen = 0xFFFF then 1 else s.tgen + 1
  let back := decide (was = 4) && decide (u = s.tkn.releaser)
  let st := (s.reg Reg.TKN_STATE &&& (if back then 0x1C420000 else 0x1C020000)) ||| word (2 ^ 29 + 2 ^ 16 * u.num + gen)
  let s1 := (s.setReg Reg.TKN_STATE st).setPeerFail u (s.peerFail u)
  let s2 : State := { s1 with tkn := { s1.tkn with leaseEnd := s.clk + clksMs s.leaseMs, handoverArmed := false,
                                                   rehearsal := (match s.tkn.rehearsal with
                                                     | some r => if r.unit = u then none else some r
                                                     | none => none),
                                                   wtrEnd := if back then s.tkn.wtrEnd else none,
                                                   revertDue := if u ≠ s.preferred ∧ !back then some (s.clk + clksS 60) else none } }
  let s3 : State := match was with
    | 3 => (s2.orReg Reg.TKN_STATUS 0x40).bump Reg.TKN_CNT0 31 16 1
    | 4 => if back then s2 else ((s2.orReg Reg.TKN_STATUS 0x80).bump Reg.TKN_CNT0 15 0 1).powerDown s.tkn.releaser
    | _ => s2
  let s4 := (s3.tokenEvent u u 0x80 (cause + flags)).restoreLoops s.selectImage (decide (was ≠ 0))
  let s5 := (s4.recEvent 9 ([1] ++ bytesOf 1 u.num ++ bytesOf 2 gen)).recResume
  s5.saveImage 4

/-- TKN_CLAIM (R421, R422): refused for UNIT, then STATE, then GEN. The writes arrive one after another, so the claim that comes first is
accepted and the other finds STATE HELD (log entry 20). -/
def claim (u : Cu) (v : Word) (s : State) : State :=
  if bit v 0 ≠ decide (u = .b) then s.tknRefuse 3 0 u 2
  else if !s.mayClaim u then s.tknRefuse 1 0 u 2
  else if field v 31 16 ≠ s.tgen then s.tknRefuse 2 0 u 2
  else s.acceptClaim u

/-- TKN_RENEW (R424, R425): refused for UNIT, LATE, STATE or GEN, else the expiry is LEASE from now. -/
def renew (u : Cu) (v : Word) (s : State) : State :=
  if bit v 0 ≠ decide (u = .b) then s.tknRefuse 3 1 u 4
  else if (s.holds u && decide (s.tkn.leaseEnd ≤ s.clk) && decide (field v 31 16 = s.tgen)) ||
      ((decide (s.tknState = 2) || decide (s.tknState = 3)) && decide (s.lapsedUnit = u) && decide (field v 31 16 = s.tgen)) then
    s.tknRefuse 5 1 u 4
  else if !s.holds u then s.tknRefuse 1 1 u 4
  else if field v 31 16 ≠ s.tgen then s.tknRefuse 2 1 u 4
  else { s with tkn := { s.tkn with leaseEnd := s.clk + clksMs s.leaseMs } }

/-- SUCC_READY (R446). -/
def succReady (s : State) : Bool := s.rbit Reg.TKN_STATE 23

/-- TKN_RELEASE (R442): refused for UNIT, STATE or GEN, else armed for the end of the next Lull that ends on its own; a null Lull opens
if no Gust is pending (R441, R207). -/
def release (u : Cu) (v : Word) (s : State) : State :=
  if bit v 0 ≠ decide (u = .b) then s.tknRefuse 3 2 u 8
  else if !s.holds u || !bit v 8 || !s.succReady then s.tknRefuse 1 2 u 8
  else if field v 31 16 ≠ s.tgen then s.tknRefuse 2 2 u 8
  else ({ s with tkn := { s.tkn with handoverArmed := true } }).requestBoundary

/-- The hold of a gap (R427, R441): the channels are held, HOLD_GAP set, the schedule runs on, SAFE recorded. -/
def enterGap (s : State) : State := ((s.holdChans).orReg Reg.TKN_STATE (2 ^ 28)).recEvent 3 [3, 1]

/-- A hand-over at the end of a Lull that ended on its own (R441): a COMMAND save, hold, STATE RESERVED for the successor for 100 ms, both OWN
pins low, TOKEN_RELEASED; the recorder closes its block (R578). -/
def handOver (s : State) : State :=
  match s.holder with
  | none => s
  | some u =>
    if !s.tkn.handoverArmed || !s.succReady then s
    else
      let s1 := ((s.saveImage 3).recEvent 9 ([3] ++ bytesOf 1 u.num ++ bytesOf 2 s.tgen))
      let s2 : State := if s1.recording then s1.closeBlock false else s1
      let s3 := (s2.tokenLeaves u).enterGap
      let st := (s3.reg Reg.TKN_STATE &&& 0x1C82FFFF) ||| word (4 * 2 ^ 29 + 2 ^ 16 * u.peer.num)
      let s4 := (s3.setReg Reg.TKN_STATE st).clrReg Reg.TKN_STATE 0x00400000
      let s5 : State := { s4 with tkn := { s4.tkn with resvEnd := s.clk + clksMs 100, releaser := u, handoverArmed := false, wtrEnd := none } }
      s5.tokenEvent u u 0x81 0

/-! ### Rehearsals and calls of a successor (R435–R440) -/

/-- thr(1) of THM_LIMIT in 0.01 °C, 60 to 105 °C and at most thr(2) (R554, R564). -/
def thr2 (s : State) : Nat := clampN (s.fld Reg.THM_LIMIT 15 8) 60 110
def thr1 (s : State) : Nat := min (clampN (s.fld Reg.THM_LIMIT 7 0) 60 105) s.thr2

/-- Any valid device diode stands at or above its warning threshold, or a unit has too few diodes (R435, R549). -/
def sensorWarm (s : State) : Bool :=
  (List.range 144).any (fun c =>
    let w := s.reg (Reg.HK_VALUE c)
    bit w 31 && !bit w 30 && decide (sext 20 w.toNat ≥ (100 * s.thr1 : Nat))) ||
  decide (s.fld Reg.THM_STATUS 9 8 ≠ 0)

/-- The holder is not the preferred unit and REVERT is set (R438). -/
def reverting (s : State) : Bool :=
  s.rbit Reg.TKN_CFG 8 && (match s.holder with | some u => decide (u ≠ s.preferred) | none => false)

/-- Wait-to-restore, 10 s at least, in drive clocks (R438, R445). -/
def wtrClks (s : State) : Nat := clksS (max 10 (s.fld Reg.TKN_WTR 15 0))

/-- Wait-to-restore starts at the first PASS of the preferred unit (R438) (log entry 121 DEDUCED). -/
def wtrStart (s : State) : State :=
  if s.tkn.wtrEnd.isSome then s
  else ({ s with tkn := { s.tkn with wtrEnd := some (s.clk + s.wtrClks), revertDue := none } }).orReg Reg.TKN_STATE 0x00400000

/-- A rehearsal, or a call that does not reach READY, ends with a RESULT and DETAIL (R437, R440): DONE, REHEARSAL_DONE, and a report of the
unit where it did not pass. -/
def rehearsalOver (r : Rehearsal) (result detail : Nat) (s : State) : State :=
  let s0 : State := { s with tkn := { s.tkn with rehearsal := none } }
  let s1 := (((s0.setField Reg.TKN_REH_STATUS 31 28 result).setField Reg.TKN_REH_STATUS 23 16 detail).clrReg Reg.TKN_REH_STATUS 1).orReg
    Reg.TKN_REH_STATUS 2
  let s2 := s1.orReg Reg.TKN_STATUS 0x10
  let s3 : State := match s2.holder with
    | some h => s2.tokenEvent h r.unit 0x83 (result + 256 * detail)
    | none => s2
  let s4 : State := if result = 1 then s3.setPeerFail r.unit false else s3.report1 27 (result + 256 * detail)
  if s4.reverting && decide (r.unit = s4.preferred) then (if result = 1 then s4.wtrStart else s4.wtrStop) else s4

/-- The end of a rehearsal powers the unit down to cold standby (R435). -/
def endRehearsal (result detail : Nat) (s : State) : State :=
  match s.tkn.rehearsal with
  | none => s
  | some r => (s.powerDown r.unit).rehearsalOver r result detail

/-- At a lapse the rehearsal ends ABORTED and the booted unit goes on to take over (R449). -/
def endRehearsalAtLapse (holder : Cu) (s : State) : State :=
  match s.tkn.rehearsal with
  | none => s
  | some r =>
    let s1 := s.rehearsalOver r 7 0
    s1.tokenEvent holder r.unit 0x83 7

/-- A start is refused (R435): a rehearsal is BUSY, a hand-over in progress, no holder, or a sensor at its warning threshold. -/
def rehRefused (s : State) : Bool :=
  s.tkn.rehearsal.isSome || s.tkn.handoverArmed || decide (s.tknState = 4) || s.holder.isNone || s.sensorWarm

/-- Start a rehearsal of a unit, or call it as a successor (R435, R439, R440). -/
def startRehearsal (u : Cu) (succ auto : Bool) (s : State) : State :=
  (({ s with tkn := { s.tkn with rehearsal := some { unit := u, start := s.clk, succ := succ, auto := auto } } }).orReg Reg.TKN_REH_STATUS 1).switchOn u

/-- The lease lapses (R426, R427): hold, STATE LAPSED, both OWN pins low, LEASE_LAPSED to both units, the other unit switched on; the
recorder's open block is lost and a lapse trigger freezes at once (R578). -/
def lapse (cause : Nat) (s : State) : State :=
  let u := s.tknUnit
  let s0 : State := if s.rbit Reg.REC_TRIG 9 then s.freeze 3 0xFF s.time.g else if s.recd.postTrig.isSome then s.freeze 3 0xFF s.time.g else s
  let s1 : State := { s0 with recd := { s0.recd with open_ := [], used := 64, gap := true, postTrig := none } }
  let s2 := (s1.tokenLeaves u).enterGap
  let st := (s2.reg Reg.TKN_STATE &&& 0x1C80FFFF) ||| word (2 * 2 ^ 29 + 2 ^ 17 * u.num)
  let s3 := (s2.setReg Reg.TKN_STATE st).orReg Reg.TKN_STATUS 0x20
  let s4 : State := { s3 with tkn := { s3.tkn with graceEnd := s.clk + clksMs (2 * s.leaseMs), handoverArmed := false, wtrEnd := none,
                                                   revertDue := none } }
  let s5 := (s4.bump Reg.TKN_CNT1 31 16 1).clrReg Reg.TKN_STATE 0x00400000
  let s6 := (s5.tokenEvent .a u 0x82 cause).tokenEvent .b u 0x82 cause
  ((s6.endRehearsalAtLapse u).switchOn u.peer).report1 12 cause

end State
end Sys2Proof.Machine
end

