-- ==== Sys2Proof/Machine/Units.lean ====
section
/-! DEFINITION. What a core that stops brings with it (R426, R428, R437, R440, R460, R461), and what a called unit that fails does. -/
namespace Sys2Proof.Machine.State

/-- A called unit has failed (R428, R461): PEER_FAIL, its core powered down, and after a lapse the lapsed unit's core switched on again (log entry 123 DEDUCED). -/
def failCall (u : Cu) (s : State) : State :=
  let s1 := (s.setPeerFail u true).powerDown u
  if s.tknState = 2 ∨ s.tknState = 3 then s1.switchOn s.lapsedUnit else s1

/-- A unit was called for a take-over, or after the preferred unit at START, and has not claimed (R428, R457). -/
def called (s : State) (u : Cu) : Bool :=
  match s.tknState with
  | 0 => s.rbit Reg.PWR_BOOT 7 && decide (u ≠ s.preferred)
  | 2 | 3 => decide (u ≠ s.lapsedUnit)
  | _ => false

/-- SUCC_READY clears: the successor has gone, and an armed hand-over with it (R440). -/
def dropSuccessor (s : State) : State :=
  ({ s with tkn := { s.tkn with handoverArmed := false } }).clrReg Reg.TKN_STATE 0x00800000

/-- A unit that is the READY successor of the holder (R439). -/
def isSuccessor (s : State) (u : Cu) : Bool :=
  s.succReady && (match s.holder with | some h => decide (u = h.peer) | none => false)

/-- A core stops: by a reset of the unit (cause 2), its thermal shutdown (cause 1) or its supply. A holder's lease lapses (R426); commands in flight
complete ABORTED (R460); a rehearsal ends, a successor is lost, a called unit fails (R428, R437) (log entry 122 DEDUCED). -/
def stopCore (u : Cu) (cause : Nat) (s : State) : State :=
  let wasOn := !s.islandOnly u
  let busy := !(s.unit u).dm.isEmpty || !(s.bastes u).isEmpty
  let booting := match (s.unit u).core with | .booting _ => true | _ => false
  let s1 : State := if s.holds u then s.lapse cause else s
  let s2 : State := if busy then s1.orReg Reg.MX_STATUS 8 else s1
  let s3 := (s2.abortFlights u true).powerDown u
  if !wasOn then s3
  else
    let reh := match s3.tkn.rehearsal with | some r => decide (r.unit = u) | none => false
    let s4 : State := if reh then s3.endRehearsal (if booting then 2 else 7) 0 else s3
    let s5 : State := if s4.isSuccessor u then s4.dropSuccessor else s4
    if s5.called u then s5.failCall u else s5

end Sys2Proof.Machine.State
end

