-- ==== Sys2Proof/Machine/Arbiter.lean ====
section
/-! DEFINITION. The rows of the token arbiter: claims, renewals, releases, rehearsals, lapses and image saves (R420–R449). -/
namespace Sys2Proof.Machine

namespace State

/-! ### Claims and renewals -/

/-- A write that a unit makes to an arbiter register both units may write is a REGWRITE where the holder's is accepted (R571). -/
def recIf (ok : Bool) (u : Cu) (k : Nat) (v : Word) (s : State) : State := if ok then s.recWrite u k v else s

/-- What a refused renewal brings (R425): the unit that has lost the token powers its core down and reports the loss; a holder whose lease ran out lapses
on this clock (log entry 114 DEDUCED). -/
def renewLost (u : Cu) (s : State) : State :=
  let s1 : State := if s.holds u then s.lapse 0 else s
  let reh := match s1.tkn.rehearsal with | some r => decide (r.unit = u) | none => false
  if s1.islandOnly u || reh || s1.isSuccessor u then s1
  else (s1.powerDown u).tokenEvent u u 0x82 0

/-- TKN_RENEW with what a refusal brings (R424, R425) (log entry 115 DEDUCED). -/
def renewWrite (u : Cu) (v : Word) (s : State) : State :=
  let before := s.fld Reg.TKN_STATUS 2 2
  let s1 := (s.clrReg Reg.TKN_STATUS 4).renew u v
  let refused := s1.rbit Reg.TKN_STATUS 2
  let cause := s1.fld Reg.TKN_LAST 3 0
  let s2 : State := if before = 1 then s1.orReg Reg.TKN_STATUS 4 else s1
  if refused then (if cause = 5 ∨ cause = 1 then s2.renewLost u else s2) else s2.recWrite u Reg.TKN_RENEW v

/-! ### Rehearsals and successors (R435–R440) -/

/-- A start or a call from the holder, or an automatic one: REFUSED in the cases of R435, and of R440 for a call (log entry 118 DEDUCED). -/
def rehTry (succ auto : Bool) (u : Cu) (s : State) : State :=
  if s.rehRefused || (succ && s.succReady) then s.orReg Reg.TKN_REH_STATUS 4 else s.startRehearsal u succ auto

/-- The successor is dismissed (R440): powered down, SUCC_READY cleared; a call not yet READY ends ABORTED (log entry 116 DEDUCED). -/
def dismiss (s : State) : State :=
  match s.holder with
  | none => s
  | some h =>
    if s.succReady then (s.dropSuccessor).powerDown h.peer
    else match s.tkn.rehearsal with
      | some r => if r.succ then s.endRehearsal 7 0 else s
      | none => s

/-- A write of TKN_REH_CTRL by the holder (R445): RETRY and PERIOD, then DISMISS, CALL and START in that order (log entry 119 DEDUCED). -/
def rehCtrlWrite (v : Word) (s : State) : State :=
  let s1 := s.maskWrite Reg.TKN_REH_CTRL 0xFFFFFF00 v
  let s2 : State := if bit v 2 then s1.dismiss else s1
  let other := match s2.holder with | some h => h.peer | none => .a
  let s3 : State := if bit v 1 then s2.rehTry true false other else s2
  if bit v 0 then s3.rehTry false false other else s3

/-- A called successor reports READY (R439): SUCC_READY, BUSY clear; one called when wait-to-restore ran out is handed over to at once (R441). -/
def succIsReady (r : Rehearsal) (s : State) : State :=
  let s1 := (({ s with tkn := { s.tkn with rehearsal := none } }).clrReg Reg.TKN_REH_STATUS 1).orReg Reg.TKN_STATE 0x00800000
  if r.auto then ({ s1 with tkn := { s1.tkn with handoverArmed := true } }).requestBoundary else s1

/-- TKN_REH_REPORT: accepted only from a rehearsing or successor unit (R445) (log entry 117 DEDUCED). -/
def rehReport (u : Cu) (v : Word) (s : State) : State :=
  let result := field v 31 28
  let detail := field v 23 16
  match s.tkn.rehearsal with
  | some r =>
    if r.unit ≠ u then s
    else if bit v 0 && r.succ then s.succIsReady r
    else if result = 0 then s
    else s.endRehearsal result detail
  | none =>
    if s.isSuccessor u && decide (result ≠ 0) && !bit v 0 then
      ((s.dropSuccessor).powerDown u).rehearsalOver { unit := u, start := s.clk, succ := true, auto := false } result detail
    else s

/-! ### Saves (R431) -/

/-- TKN_IMG_CFG.PERIOD in ms, within 10 and 1,000 (R445). -/
def imgPeriod (s : State) : Nat := clampN (s.fld Reg.TKN_IMG_CFG 9 0) 10 1000

/-- The hours PERIOD in drive clocks (R445) (log entry 120 DEDUCED). -/
def rehPeriod (s : State) : Nat := clksS (3600 * s.fld Reg.TKN_REH_CTRL 15 8)

/-! ### The called unit's boot (R594, R595, R428, R437) -/

/-- SVN and KEY of an image header (R593). -/
def hdrSvn (h : List Byte) : Nat := le h 8 4
def hdrKey (h : List Byte) : Nat := le h 6 1

/-- SEC_FUSE of both units shows the fuses (R589, R610). -/
def showFuses (s : State) : State :=
  let w := word (2 ^ 15 * b2n s.sec.fuseErr + 2 ^ 8 * (s.sec.ownerFlags % 16) + s.sec.floor % 128)
  (s.setReg (Reg.SEC_FUSE .a) w).setReg (Reg.SEC_FUSE .b) w

/-- The PRIMARY bank of a unit (R592). -/
def primary (s : State) (u : Cu) : Nat := match u with | .a => s.sec.primaryA | .b => s.sec.primaryB

/-- The ROM starts the image of bank `b` (R595): SEC_BOOT, SEC_MEAS, the core runs. -/
def bootImage (u : Cu) (b fail : Nat) (hdr : List Byte) (s : State) : State :=
  let m := Crypto.shake256 (fit 0x820 hdr)
  let p := s.primary u
  let w := 2 ^ 16 * (hdrSvn hdr % 128) + 2 ^ 12 * p + 2 ^ 8 * fail + 4 * (hdrKey hdr % 2) + 2 * b2n (decide (b ≠ p)) + b
  let s1 := s.setReg (Reg.SEC_BOOT u) (word w)
  let s2 := (List.range 16).foldl (fun (s : State) i => s.setReg (Reg.SEC_MEAS u i) (word (le m (4 * i) 4))) s1
  let x := s2.unit u
  let s3 := s2.setUnit u { x with core := .running, sec := { x.sec with running := hdr } }
  { s3 with sec := { s3.sec with banks := Tab.set b hdr s3.sec.banks } }

/-- A unit that was being booted fails (R428, R437, R595): its core is powered down; `result` is the rehearsal's code. -/
def bootFailed (u : Cu) (result : Nat) (s : State) : State :=
  let reh := match s.tkn.rehearsal with | some r => decide (r.unit = u) | none => false
  if reh then s.endRehearsal result 0 else if s.called u then s.failCall u else s.powerDown u

/-- A write of TKN_RESUME (R428): bit 0 releases the gap's hold on the next update tick. -/
def resumeWrite (v : Word) (s : State) : State :=
  if bit v 0 && s.gap then { s with drv := { s.drv with relGap := true } } else s

/-- A write of TKN_RELEASE (R442): recorded where it is accepted (log entry 124 DEDUCED). -/
def releaseWrite (u : Cu) (v : Word) (s : State) : State :=
  (s.recIf (s.holds u && decide (bit v 0 = decide (u = .b)) && bit v 8 && s.succReady && decide (field v 31 16 = s.tgen)) u Reg.TKN_RELEASE v).release u v

end State

open State

/-- TKN_CLAIM (R421, R422). -/
def execTknClaim (u : Cu) (v : Word) (s : State) : Res := .next (s.claim u v)

/-- TKN_RENEW (R424, R425). -/
def execTknRenew (u : Cu) (v : Word) (s : State) : Res := .next (s.renewWrite u v)

/-- TKN_RELEASE (R442). -/
def execTknRelease (u : Cu) (v : Word) (s : State) : Res :=
  .next (s.releaseWrite u v)

/-- TKN_RESUME (R428): bit 0 releases the gap's hold on the next update tick. -/
def execTknResume (u : Cu) (v : Word) (s : State) : Res :=
  .next (s.baseWrite u Reg.TKN_RESUME (putBit v 0 true) (fun s => s.resumeWrite (putBit v 0 true)))

/-- TKN_REH_START (R435): TKN_REH_CTRL with START. -/
def execTknRehStart (u : Cu) (v : Word) (s : State) : Res :=
  .next (s.baseWrite u Reg.TKN_REH_CTRL (v ||| 1) (fun s => s.rehCtrlWrite (v ||| 1)))

/-- TKN_REH_CALL (R440): TKN_REH_CTRL with CALL. -/
def execTknRehCall (u : Cu) (v : Word) (s : State) : Res :=
  .next (s.baseWrite u Reg.TKN_REH_CTRL (v ||| 2) (fun s => s.rehCtrlWrite (v ||| 2)))

/-- TKN_REH_DISMISS (R440): TKN_REH_CTRL with DISMISS. -/
def execTknRehDismiss (u : Cu) (v : Word) (s : State) : Res :=
  .next (s.baseWrite u Reg.TKN_REH_CTRL (v ||| 4) (fun s => s.rehCtrlWrite (v ||| 4)))

/-- TKN_REH_REPORT (R437, R439, R440). -/
def execTknRehReport (u : Cu) (v : Word) (s : State) : Res := .next (s.rehReport u v)

/-- LEASE_EXPIRY (R426, R427): the lease has run out, or the holder's core stops (cause 1 SHUTDOWN, 2 RESET). -/
def execLeaseExpiry (cause : Nat) (s : State) : Res :=
  match s.holder with
  | none => .next s
  | some u =>
    if cause = 1 ∨ cause = 2 then .next (s.stopCore u cause)
    else .next (if s.tkn.leaseEnd ≤ s.clk then s.lapse 0 else s)

/-- FIRMWARE_VERIFIED (R594, R595): the ROM has checked the banks; `bank` is the one it starts, `fail` the last failure code. -/
def execFirmwareVerified (u : Cu) (bank : Option Nat) (fail : Nat) (hdr : List Byte) (s : State) : Res :=
  match (s.unit u).core with
  | .booting _ =>
    match bank with
    | some b => .next (s.bootImage u (b % 2) (fail % 16) hdr)
    | none => .next ((s.setReg (Reg.SEC_BOOT u) (word (2 ^ 12 * s.primary u + 2 ^ 8 * (fail % 16)))).bootFailed u 3)
  | _ => .next s

/-- GRACE_END (R421): STATE becomes FREE. -/
def execGraceEnd (s : State) : Res :=
  .next (if s.tknState = 2 ∧ s.tkn.graceEnd ≤ s.clk then
    ({ s with tkn := { s.tkn with freeAt := s.tkn.graceEnd } }).setField Reg.TKN_STATE 31 29 3 else s)

/-- CLAIM_DEADLINE (R428): 1 s after grace the called unit has not claimed. -/
def execClaimDeadline (s : State) : Res :=
  let u := s.lapsedUnit.peer
  .next (if s.tknState = 3 ∧ s.tkn.freeAt + clksS 1 ≤ s.clk ∧ !s.peerFail u then s.failCall u else s)

/-- UNIT_BOOT_FAIL (R428, R437): no firmware runs within 150 ms (cause 0), or the core stops (cause 1 SHUTDOWN, 2 RESET). -/
def execUnitBootFail (u : Cu) (cause : Nat) (s : State) : Res :=
  if cause = 1 ∨ cause = 2 then .next (s.stopCore u cause)
  else match (s.unit u).core with
    | .booting t => .next (if t + clksMs 150 ≤ s.clk then s.bootFailed u 2 else s)
    | _ => .next s

/-- RESERVATION_EXPIRY (R443): the successor has not claimed within 100 ms. -/
def execReservationExpiry (s : State) : Res :=
  if s.tknState = 4 ∧ s.tkn.resvEnd ≤ s.clk ∧ s.tknUnit ≠ s.tkn.releaser then
    let s1 := (s.setReg Reg.TKN_STATE (putBit (s.reg Reg.TKN_STATE) 16 (decide (s.tkn.releaser = .b)))).orReg Reg.TKN_STATUS 0x100
    let s2 : State := if s.rbit Reg.TKN_CFG 8 && decide (s.tkn.releaser ≠ s.preferred) then s1.wtrStart else s1
    .next (s2.report1 13 0)
  else .next s

/-- IMAGE_SAVE_PERIODIC (R431). -/
def execImageSavePeriodic (s : State) : Res :=
  .next (if s.holder.isSome ∧ s.tkn.lastSave + clksMs s.imgPeriod ≤ s.clk then s.saveImage 0 else s)

/-- IMAGE_SAVE_EVENT (R431): due after a trigger, a mark or a substitution, 10 ms after the last save at the earliest. -/
def execImageSaveEvent (s : State) : Res :=
  .next (if s.holder.isSome ∧ s.tkn.eventSave ∧ s.tkn.lastSave + clksMs 10 ≤ s.clk then s.saveImage 1 else s)

/-- REHEARSAL_AUTO_DUE (R435): every PERIOD hours with REH_AUTO, counted from reset and then from the last one due. -/
def execRehearsalAutoDue (s : State) : Res :=
  let last := s.tkn.rehDue.getD s.tkn.resetAt
  match s.holder with
  | some h =>
    .next (if s.rbit Reg.TKN_CFG 9 ∧ s.rehPeriod ≠ 0 ∧ last + s.rehPeriod ≤ s.clk then
      ({ s with tkn := { s.tkn with rehDue := some s.clk } }).rehTry false false h.peer else s)
  | none => .next s

/-- REHEARSAL_TIMEOUT (R437): not done within 1 s. -/
def execRehearsalTimeout (s : State) : Res :=
  match s.tkn.rehearsal with
  | some r => .next (if !r.succ ∧ r.start + clksS 1 ≤ s.clk then s.endRehearsal 8 0 else s)
  | none => .next s

/-- REVERT_REHEARSAL_DUE (R438): 60 s after the claim, then every RETRY seconds until one passes. -/
def execRevertRehearsalDue (s : State) : Res :=
  match s.tkn.revertDue with
  | some t =>
    .next (if t ≤ s.clk ∧ s.reverting then
      ({ s with tkn := { s.tkn with revertDue := some (s.clk + s.retryClks) } }).rehTry false false s.preferred else s)
  | none => .next s

/-- WTR_EXPIRY (R439): the preferred unit is called as successor; a call that is refused stops the count and the retries resume. -/
def execWtrExpiry (s : State) : Res :=
  match s.tkn.wtrEnd with
  | some t =>
    if t ≤ s.clk ∧ s.reverting then
      if s.rehRefused || s.succReady then .next ((s.orReg Reg.TKN_REH_STATUS 4).wtrStop)
      else
        let s1 := ({ s with tkn := { s.tkn with wtrEnd := none } }).clrReg Reg.TKN_STATE 0x00400000
        .next (s1.startRehearsal s.preferred true true)
    else .next s
  | none => .next s

/-- SUCCESSOR_READY_TIMEOUT (R440): READY not written within 1 s. -/
def execSuccessorReadyTimeout (s : State) : Res :=
  match s.tkn.rehearsal with
  | some r => .next (if r.succ ∧ r.start + clksS 1 ≤ s.clk then s.endRehearsal 8 0 else s)
  | none => .next s

end Sys2Proof.Machine
end

