-- ==== Sys2Proof/Machine/CharSeq.lean ====
section
/-! DEFINITION. The table-mode sequencer (R323, R324): what a running table does on an update tick and at a result instant. -/
namespace Sys2Proof.Machine.State

/-- Entry `i` of a table, 16 bytes (R324). -/
def tabEnt (r : CharRun) (i : Nat) : List Byte := (r.table.drop (16 * i)).take 16
/-- Kind and index of an entry's Element Address. -/
def entKind (e : List Byte) : Nat := le e 0 4 / 2 ^ 29
def entIdx (e : List Byte) : Nat := le e 0 4 / 2 ^ 16 % 2 ^ 13
def setChar (r : CharRun) (s : State) : State :=
  ({ s with cal := { s.cal with char := some r } }).setReg Reg.CAL_SEQ_POS (word (min r.loops 0xFFFF * 2 ^ 16 + r.pos % 2 ^ 12))

/-- A step of a drive element: a throw's code goes to active, another's to its queue (R91, R324). -/
def seqDrive (kind idx code : Nat) (s : State) : State :=
  match s.drvOf kind idx with
  | none => s
  | some ch => if kind = 2 then s.setChan ch { s.chan ch with active := code } else s.enqueue ch code

/-- INJECT: the test current at a level starts, or with level 0 ends (R324); a tile whose DAC a run holds refuses it (R138). -/
def seqInject (idx level : Nat) (kind : Nat) (s : State) : State :=
  match s.monOf kind idx with
  | none => s
  | some ch =>
    let t := ch / 96
    let held : Bool := match s.cal.run with | some r => (s.runTiles r.cmd).contains t | none => false
    if held then s
    else if level = 0 then
      { s with mon := { s.mon with inj := s.mon.inj.map (fun e => if e.1 = t then (e.1, { e.2 with untilClk := some (e.2.untilClk.getD s.clk) }) else e) } }
    else
      let x : Inj := { index := ch % 96, fromClk := s.clk, untilClk := none }
      { s with mon := { s.mon with inj := Tab.set t x s.mon.inj } }

/-- What an entry does when it is executed (R324); SAMPLE begins to take results. -/
def seqDo (e : List Byte) (r : CharRun) (s : State) : State :=
  let v := le e 6 2
  match byteAt e 4 with
  | 0 => s.seqDrive (entKind e) (entIdx e) v
  | 1 => match s.monOf (entKind e) (entIdx e) with
    | some ch => s.setChar { r with samp := v, fast := (byteAt e 5).testBit 0, chan := ch }
    | none => s
  | 2 => match s.monOf (entKind e) (entIdx e) with
    | some ch => s.setMon ch { s.monCh ch with req := some (v % 4 + 4 * b2n (s.monCh ch).filt) }
    | none => s
  | 3 => s.seqInject (entIdx e) v (entKind e)
  | _ => s

/-- One update tick of a running table (R323, R324): the delay runs down, or the next execution is made; END loops the table. A table without an END
ends after its last entry. -/
def seqTick (s : State) : State :=
  match s.cal.char with
  | none => s
  | some r =>
    if r.kind ≠ 0 ∨ r.ended ≠ 0 ∨ r.samp ≠ 0 then s
    else if r.wait ≠ 0 then s.setChar { r with wait := r.wait - 1 }
    else
      let e := tabEnt r r.pos
      if e.length < 16 then s.setChar { r with ended := 1, loops := r.loops + 1 }
      else if byteAt e 4 = 0xFF then
        if le e 6 2 ≠ 0 ∧ r.loops + 1 ≥ le e 6 2 then s.setChar { r with loops := r.loops + 1, ended := 1 }
        else s.setChar { r with loops := r.loops + 1, pos := 0, rep := 0 }
      else
        let last := decide (r.rep + 1 ≥ le e 8 2)
        let r1 : CharRun := { r with pos := if last then r.pos + 1 else r.pos, rep := if last then 0 else r.rep + 1, wait := le e 10 2 }
        (s.setChar r1).seqDo e r1

/-- A result of the lane sampled goes to the host buffer (R134, R324): one that a DAC conflict delays is lost and the next carries GAP; a full
buffer ends the run (R409). -/
def seqSample (fine : Bool) (s : State) : State :=
  match s.cal.char with
  | none => s
  | some r =>
    if r.kind ≠ 0 ∨ r.ended ≠ 0 ∨ r.samp = 0 ∨ r.fast = fine then s
    else
      let held : Bool := match s.cal.run with | some q => (s.runTiles q.cmd).contains (r.chan / 96) | none => false
      if held then s.setChar { r with lost := r.lost + 1, gap := true }
      else if 16 * (r.count + 1) > r.cmd.w 40 then s.setChar { r with ended := 2, samp := 0 }
      else
        let m := s.monCh r.chan
        let fl := (if fine then m.fineFl else m.fastFl) + 8 * b2n r.gap
        let tag := padOf r.chan m % 2 ^ 13 + 2 ^ 13 * b2n fine + 2 ^ 14 * m.gain + 2 ^ 16 * fl
        let v := if fine then m.fine else m.fast
        (s.hostWrite r.cmd.unit (r.cmd.q 32 + 16 * r.count) (bytesOf 4 tag ++ bytesOf 4 (low 32 v) ++ bytesOf 8 s.time.g)).setChar
          { r with samp := r.samp - 1, count := r.count + 1, gap := false }

end Sys2Proof.Machine.State
end

