-- ==== Sys2Proof/Machine/CalOps.lean ====
section
/-! DEFINITION. The calibration store: the bytes of its records (R326, R327), their digest (R328), the history ring (R329), how a set becomes
pending (R319) and how a set or a correction update comes into force (R320–R322). -/
namespace Sys2Proof.Machine.State

/-- The bytes of one stored correction; an absent one holds zeros and T 0x8000 (R326). -/
def knotBytes (k : Option Knot) : List Byte :=
  match k with
  | some k => bytesOf 2 k.gain ++ bytesOf 2 (low 16 k.offset) ++ bytesOf 2 (low 16 k.t)
  | none => bytesOf 4 0 ++ bytesOf 2 0x8000

/-- The 20 bytes of a cell entry (R326). -/
def cellBytes (e : Nat × CellCal) : List Byte :=
  let c := e.2
  bytesOf 2 e.1 ++ bytesOf 2 c.wBar.1 ++ bytesOf 2 c.wBar.2 ++ bytesOf 2 c.wCross.1 ++ bytesOf 2 c.wCross.2 ++ bytesOf 2 c.on ++
    bytesOf 2 (low 16 c.tBar) ++ bytesOf 2 (low 16 c.tCross) ++ bytesOf 2 (low 16 c.tOn) ++ bytesOf 1 (b2n c.armBar + 2 * b2n c.armCross) ++
    bytesOf 1 c.valid

/-- An unused cell entry, and an unused port entry (R326). -/
def noCell : List Byte := bytesOf 12 0 ++ bytesOf 2 0x8000 ++ bytesOf 2 0x8000 ++ bytesOf 2 0x8000 ++ bytesOf 2 0
def noPort : List Byte := bytesOf 4 0 ++ bytesOf 2 0x8000 ++ bytesOf 2 0

/-- Join lists of bytes. -/
def catB (l : List (List Byte)) : List Byte := l.foldr (· ++ ·) []

/-- The record of a tile and slot as it lies in memory (R326, R327). -/
def recBytes (s : State) (tile slot : Nat) (r : CalRec) : List Byte :=
  let head := bytesOf 4 0x54434C43 ++ bytesOf 1 tile ++ bytesOf 1 slot ++ bytesOf 2 0 ++ bytesOf 4 (s.rnat (Reg.SEC_DEVID_LO .a)) ++
    bytesOf 4 (s.rnat (Reg.SEC_DEVID_HI .a)) ++ bytesOf 4 r.gen ++ bytesOf 8 r.g ++ bytesOf 4 r.sec ++ bytesOf 4 r.ns ++ bytesOf 4 r.refV ++ bytesOf 4 r.refR
  let body := catB ((List.range 6).map (fun i => knotBytes (Tab.find i r.dac) ++ bytesOf 2 0)) ++
    catB ((List.range 240).map (fun i => knotBytes (Tab.find i r.drv))) ++ catB ((List.range 384).map (fun i => knotBytes (Tab.find i r.mon))) ++
    fit 1520 (catB (r.cells.map cellBytes) ++ catB (List.replicate (76 - r.cells.length) noCell)) ++
    fit 128 (catB (r.ports.map (fun p => bytesOf 4 p.2.1 ++ bytesOf 2 (low 16 p.2.2) ++ bytesOf 2 p.1)) ++ catB (List.replicate (16 - r.ports.length) noPort)) ++
    List.replicate 2688 0
  let tail := List.replicate 16 (0 : Byte)
  head ++ bytesOf 4 (Crypto.crc32c (head ++ bytesOf 4 0 ++ tail ++ body)).toNat ++ tail ++ body

/-- A knot read back from its bytes. -/
def knotOf (b : List Byte) : Option Knot :=
  let t := sext 16 (le b 4 2)
  if t = -32768 then none else some { gain := le b 0 2, offset := sext 16 (le b 2 2), t := t }

/-- Indexed knots read back, `n` of them, `w` bytes apart. -/
def knotsOf (w : Nat) : Nat → Nat → List Byte → List (Nat × Knot)
  | 0, _, _ => []
  | n + 1, i, l => match knotOf l with
    | some k => (i, k) :: knotsOf w n (i + 1) (l.drop w)
    | none => knotsOf w n (i + 1) (l.drop w)

/-- Cell entries read back: an entry with no valid bit is unused. -/
def cellsOf : Nat → List Byte → List (Nat × CellCal)
  | 0, _ => []
  | n + 1, l =>
    if byteAt l 19 % 8 = 0 then cellsOf n (l.drop 20)
    else (le l 0 2, { wBar := (le l 2 2, le l 4 2), wCross := (le l 6 2, le l 8 2), on := le l 10 2, tBar := sext 16 (le l 12 2),
                      tCross := sext 16 (le l 14 2), tOn := sext 16 (le l 16 2), armBar := (byteAt l 18).testBit 0,
                      armCross := (byteAt l 18).testBit 1, valid := byteAt l 19 % 8 }) :: cellsOf n (l.drop 20)

/-- Port entries read back: T 0x8000 is unused. -/
def portsOf : Nat → List Byte → List (Nat × Nat × Int)
  | 0, _ => []
  | n + 1, l =>
    if le l 4 2 = 0x8000 then portsOf n (l.drop 8)
    else (le l 6 2, le l 0 4, sext 16 (le l 4 2)) :: portsOf n (l.drop 8)

/-- A record read back from its 8,192 bytes: its tile, slot and content, or nothing where MAGIC, CRC or the device identifier fails (R329). -/
def recOf (s : State) (b : List Byte) : Option (Nat × Nat × CalRec) :=
  let crc := le b 0x2C 4
  let zeroed := b.take 0x2C ++ bytesOf 4 0 ++ b.drop 0x30
  if le b 0 4 ≠ 0x54434C43 ∨ (Crypto.crc32c zeroed).toNat ≠ crc ∨ le b 8 4 ≠ s.rnat (Reg.SEC_DEVID_LO .a) ∨ le b 12 4 ≠ s.rnat (Reg.SEC_DEVID_HI .a) then none
  else some (byteAt b 4, byteAt b 5,
    { gen := le b 0x10 4, g := le b 0x14 8, sec := le b 0x1C 4, ns := le b 0x20 4, refV := le b 0x24 4, refR := le b 0x28 4,
      dac := knotsOf 8 6 0 (b.drop 0x40), drv := knotsOf 6 240 0 (b.drop 0x70), mon := knotsOf 6 384 0 (b.drop 0x610),
      cells := cellsOf 76 (b.drop 0xF10), ports := portsOf 16 (b.drop 0x1500) })

/-- SHAKE256 of the live store records of the part's tiles in offset order (R328) (log entry 77 DEDUCED). -/
def storeDigest (s : State) (store : List (Nat × CalRec)) : List Byte :=
  Crypto.shake256 (catB ((List.range (9 * s.part.tiles)).map (fun k => s.recBytes (k / 9) (k % 9) (Tab.get {} k store))))

/-- A replaced record is copied to the history ring at NEXT (R329). -/
def histPush (key : Nat) (r : CalRec) (s : State) : State :=
  let n := s.fld Reg.CAL_HIST 15 0
  let s1 := ({ s with cal := { s.cal with hist := Tab.set n (key, r) s.cal.hist } }).setField Reg.CAL_HIST 15 0 ((n + 1) % 49152)
  if n + 1 = 49152 then (s1.bump Reg.CAL_HIST 31 16 1).orReg Reg.CAL_STATUS 0x400 else s1


/-- The next generation: CAL_GEN + 1, skipping 0 (R319); a newer set replaces the pending one, whose generation advances. -/
def nextCalGen (s : State) : Nat :=
  let base := if s.rnat Reg.CAL_PEND_GEN = 0 then s.rnat Reg.CAL_GEN else s.rnat Reg.CAL_PEND_GEN
  if base + 1 = 2 ^ 32 then 1 else base + 1

/-- Records that replace others go to history; the new set is written, hashed and pending, and asks for a boundary (R319, R320, R328, R329). -/
def makePending (news : List (Nat × CalRec)) (s : State) : State :=
  let old := s.cal.live
  let gen := s.nextCalGen
  let s1 : State := news.foldl (fun (s : State) e => match Tab.find e.1 old with | some r => s.histPush e.1 r | none => s) s
  let store := news.foldl (fun l e => Tab.set e.1 e.2 l) old
  let s2 : State := { s1 with cal := { s1.cal with live := store, pend := true, pendDigest := s1.storeDigest store } }
  ((s2.setReg Reg.CAL_PEND_GEN (word gen)).orReg Reg.CAL_STATUS 2).requestBoundary

/-- A channel with the correction of a set at its tile's temperature, where one is to be taken (R96, R322);
the park register follows it, so that a PARK takes the correction in force (R105, R531). -/
def corrChan (store : List (Nat × CalRec)) (temp : Nat → Option Int) (ch : Nat) (c : Chan) : Chan :=
  match temp (ch / 240) with
  | some t =>
    let c1 : Chan := { c with gain := (drvCorr store ch t).1, offset := (drvCorr store ch t).2 }
    if c.kind ≤ 2 then { c1 with parkD := c1.correct c1.parkL } else c1
  | none => c

/-- Every channel of the tiles picked takes its correction at the tile's temperature (R322). -/
def takeDrvCorr (temp : Nat → Option Int) (s : State) : State :=
  { s with drv := { s.drv with chans := Tab.mapAll (corrChan s.cal.store temp) s.drv.chans } }

/-- T_IN_FORCE and SLOTS of the tiles picked (R331). -/
def noteTiles (temp : Nat → Option Int) (s : State) : State :=
  (List.range s.part.tiles).foldl (fun (s : State) t => match temp t with
    | some v => (s.setField (Reg.CAL_TILE t) 15 0 (low 16 v)).setField (Reg.CAL_TILE t) 24 16
        ((List.range 9).foldl (fun a i => a + if (Tab.find (9 * t + i) s.cal.store).isSome then 2 ^ i else 0) 0)
    | none => s) s

/-- The THROW figure of each cell: ON × 255 / CODE_MAX of its throw (R238). -/
def takeThrow (s : State) : State :=
  s.loop.cells.foldl (fun (s : State) e => match s.workOn e.1 (s.tileTemp (s.elemTile 0 e.1)), s.elemEnt 2 e.1 with
    | some on, some x => s.setLoopCell e.1 { s.loopCell e.1 with st := { (s.loopCell e.1).st with throw := min 255 (on.toNat * 255 / (max 1 x.codeMax)) } }
    | _, _ => s) s

/-- The knots of a port side's K (R322, R326). -/
def portKnots (s : State) (tile key : Nat) : List (Int × Nat) :=
  (tileRecs s.cal.store tile).filterMap (fun r => (r.ports.find? (fun p => decide (p.1 = key))).map (fun p => (p.2.2, p.2.1)))

/-- Stored K goes into MON_PORT_K (R322). -/
def takePortK (s : State) : State :=
  (List.range s.nPorts).foldl (fun (s : State) p =>
    let s1 : State := match knotsAt (s.tileTemp (s.elemTile 4 p)) (s.portKnots (s.elemTile 4 p) p) with
      | some k => s.setReg (Reg.MON_PORT_K p) (word (knotVal (fun (n : Nat) => (n : Int)) (s.tileTemp (s.elemTile 4 p)) k).toNat)
      | none => s
    match knotsAt (s.tileTemp (s.elemTile 5 p)) (s.portKnots (s.elemTile 5 p) (p + 2 ^ 15)) with
    | some k => s1.setReg (Reg.MON_PORT_K_OUT p) (word (knotVal (fun (n : Nat) => (n : Int)) (s.tileTemp (s.elemTile 5 p)) k).toNat)
    | none => s1) s

/-- A CORR event record: CAL_GEN and the tile mask (R574). -/
def corrRecord (mask : Nat) (s : State) : State := s.recEvent 4 (bytesOf 4 (s.rnat Reg.CAL_GEN) ++ bytesOf 8 mask)

/-- A correction update comes into force on an update tick (R321, R322); CAL_GEN stays. -/
def forceUpdates (s : State) : State :=
  if s.cal.upd.isEmpty then s
  else
    let temp (t : Nat) : Option Int := Tab.find t s.cal.upd
    let s1 := (s.takeDrvCorr temp).noteTiles temp
    let s2 : State := { s1 with cal := { s1.cal with upd := [], monDue := true } }
    (s2.clrReg Reg.CAL_STATUS 4).corrRecord (s.cal.upd.foldl (fun a e => a + 2 ^ e.1) 0)

/-- A pending set comes into force on an update tick (R322). -/
def forceSet (s : State) : State :=
  if !s.cal.pend then s
  else
    let dig := s.cal.pendDigest
    let s1 : State := { s with cal := { s.cal with store := s.cal.live, pend := false, upd := [], monDue := true, everInForce := true } }
    let temp (t : Nat) : Option Int := if t < s.part.tiles then some (s.tileTemp t) else none
    let s2 := ((s1.setReg Reg.CAL_GEN (s.reg Reg.CAL_PEND_GEN)).setReg Reg.CAL_PEND_GEN 0).setReg64 Reg.CAL_GRID_LO Reg.CAL_GRID_HI s.time.g
    let s3 := (s2.clrReg Reg.CAL_STATUS 6).orReg Reg.CAL_STATUS 0x100
    let s4 : State := (List.range 16).foldl (fun (s : State) i => s.setReg (Reg.CAL_HASH i) (word (le dig (4 * i) 4))) s3
    let s5 := (((((s4.takeDrvCorr temp).noteTiles temp).takeThrow).takePortK).rebuildPark).corrRecord (2 ^ s.part.tiles - 1)
    s5.event 7 0x70 0 s5.now (s5.rnat Reg.CAL_GEN) s.time.g (s.time.g / 2 ^ 32) 0

/-- A boundary of R320 on an update tick: a pending set, with its corrections, or else pending updates come into force. -/
def calBoundary (s : State) : State := if s.cal.pend then s.forceSet else s.forceUpdates

/-- Cell and port entries of every record are cleared, the old records going to history first (R330). -/
def clearCalCells (s : State) : State :=
  let strip (l : List (Nat × CalRec)) : List (Nat × CalRec) := Tab.mapAll (fun _ r => { r with cells := [], ports := [] }) l
  let s1 : State := s.cal.live.foldl (fun (s : State) e => s.histPush e.1 e.2) s
  { s1 with cal := { s1.cal with store := strip s1.cal.store, live := strip s1.cal.live } }

end Sys2Proof.Machine.State
end

