-- ==== Sys2Proof/Machine/Fdr.lean ====
section
/-! DEFINITION. Reading and checking a Fabric Description Record: the ordered checks 0x01–0x0D of R47, each with the offset of
the item that fails (log entry 10), and the fabric's wiring (R18–R20). -/
namespace Sys2Proof.Machine.FdrRead

/-- A check that fails with a code and an offset (R47). -/
def need (ok : Bool) (code off : Nat) : Except (Nat × Nat) Unit := if ok then .ok () else .error (code, off)

/-- A check of every item of a list, in order. -/
def needAll {α : Type} (l : List α) (f : α → Except (Nat × Nat) Unit) : Except (Nat × Nat) Unit :=
  match l with
  | [] => .ok ()
  | a :: r => match f a with | .ok _ => needAll r f | .error e => .error e

/-- Chunks of `n` bytes with their offsets from `off`: `k` of them. -/
def chunks (n : Nat) : Nat → Nat → List Byte → List (Nat × List Byte)
  | 0, _, _ => []
  | k + 1, off, l => (off, l.take n) :: chunks n k (off + n) (l.drop n)

/-- A directory entry (R29). -/
structure Dir where
  at_ : Nat
  typ : Nat
  ver : Nat
  off : Nat
  len : Nat
  count : Nat
  deriving DecidableEq, Repr

/-- The directory of a record (R29). -/
def directory (l : List Byte) (n : Nat) : List Dir :=
  (chunks 16 n 0x40 (l.drop 0x40)).map (fun e =>
    { at_ := e.1, typ := le e.2 0 2, ver := le e.2 2 2, off := le e.2 4 4, len := le e.2 8 4, count := le e.2 12 4 })

/-- The bytes of a section. -/
def secBytes (l : List Byte) (d : Dir) : List Byte := (l.drop d.off).take d.len

/-- The directory entry of a type. -/
def findSec (ds : List Dir) (t : Nat) : Option Dir := ds.find? (fun d => decide (d.typ = t))

/-- Cells and stages of a Beneš geometry (R18). -/
def stages (n e : Nat) : Nat := 2 * n - 1 + e
def benesCells (n e : Nat) : Nat := stages n e * 2 ^ (n - 1)

/-- The kinds and indices the ELEMENTS section holds, in order (R30). -/
def expected (cells ports auxD auxM : Nat) : List (Nat × Nat) :=
  let f (k n : Nat) := (List.range n).map (fun i => (k, i))
  f 0 cells ++ f 1 cells ++ f 2 cells ++ f 3 cells ++ f 4 ports ++ f 5 ports ++ f 6 auxD ++ f 7 auxM

/-- One ELEMENTS entry (R30). -/
def elemOf (b : List Byte) : Elem :=
  let a := le b 0 4
  { kind := a / 2 ^ 29, index := a / 2 ^ 16 % 2 ^ 13, chan := a % 2 ^ 14, role := byteAt b 4, range := byteAt b 5,
    codeMin := le b 6 2, codeMax := le b 8 2, codePark := le b 10 2, cls := byteAt b 12, tone := byteAt b 13,
    flags := byteAt b 14 }

/-- A drive kind, one that has codes (R8). -/
def driveKind (k : Nat) : Bool := decide (k ≤ 2) || decide (k = 6)

/-- Role and range agree with the kind (R31). -/
def roleOk (e : Elem) : Bool :=
  let cur := decide (e.range ≤ 2)
  let vol := decide (e.range = 4) || decide (e.range = 5)
  match e.kind with
  | 0 | 1 => (decide (e.role = 2) && cur) || (decide (e.role = 3) && vol)
  | 2 => (decide (e.role = 1) && cur) || (decide (e.role = 3) && vol)
  | 3 => decide (e.role = 8) && decide (e.range ≤ 3)
  | 4 | 5 => decide (e.role = 9) && decide (e.range ≤ 3)
  | 6 => (decide (e.role = 4) || decide (e.role = 3)) && (cur || vol)
  | _ => decide (e.role = 10) && decide (e.range ≤ 3)

/-- Code limits, class, tone and flags (R30, R31). -/
def limitsOk (e : Elem) (resv : Nat) : Bool :=
  decide (resv = 0) &&
  (if driveKind e.kind then
    decide (e.codeMin < e.codeMax) &&
    (if e.kind = 2 then decide (e.codePark = 0) else decide (e.codeMin ≤ e.codePark) && decide (e.codePark ≤ e.codeMax)) &&
    (decide (e.cls < 16) || decide (e.cls = 0xFF)) && (decide (e.tone < 48) || decide (e.tone = 0xFF)) &&
    decide (e.flags < 4) && (decide (e.kind = 2) || decide (e.flags % 2 = 0))
  else decide (e.codeMin = 0 ∧ e.codeMax = 0 ∧ e.codePark = 0 ∧ e.cls = 0xFF ∧ e.tone = 0xFF) && decide (e.flags % 2 = 0) &&
    decide (e.flags < 4))

/-- Tile and index of an element's primary channel (R5). -/
def tileOf (e : Elem) : Nat := if driveKind e.kind then e.chan / 240 else e.chan / 96
def idxOf (e : Elem) : Nat := if driveKind e.kind then e.chan % 240 else e.chan % 96

/-- A valid map: entries below N or dark, no input twice (R23). -/
def mapValid (n : Nat) (m : List Nat) : Bool :=
  m.all (fun x => decide (x < n) || decide (x = 0x3FF)) && decide ((m.filter (· ≠ 0x3FF)).Nodup)

/-- The 16-bit numbers of a byte string. -/
def halves : Nat → List Byte → List Nat
  | 0, _ => []
  | n + 1, l => le l 0 2 :: halves n (l.drop 2)

/-- Whether two byte ranges overlap. -/
def overlap (a b : Dir) : Bool := decide (a.off < b.off + b.len) && decide (b.off < a.off + a.len)

/-- Check 0x01 (R47): MAGIC, VERSION, reserved bytes, LENGTH, CRC (log entry 10 DEDUCED). -/
def check1 (l : List Byte) (len : Nat) : Except (Nat × Nat) Unit := do
  need (decide (64 ≤ l.length)) 1 0
  need (decide (le l 0 4 = 0x31524446)) 1 0
  need (decide (le l 4 2 = 0x0100)) 1 4
  need (decide (le l 0x1C 4 = 0)) 1 0x1C
  need (decide (le l 0x38 8 = 0)) 1 0x38
  need (decide (le l 0x16 2 < 2)) 1 0x16
  need (decide (le l 8 4 = len) && decide (len = l.length) && decide (len % 8 = 0) && decide (len ≤ 4194304)) 1 8
  need (decide ((Crypto.crc32c (l.take 12 ++ [0, 0, 0, 0] ++ l.drop 16)).toNat = le l 12 4)) 1 12

/-- Check 0x02 (R29, R47): the directory. -/
def check2 (l : List Byte) (ds : List Dir) : Except (Nat × Nat) Unit := do
  let n := le l 6 2
  need (decide (1 ≤ n) && decide (n ≤ 32)) 2 6
  need (decide (0x40 + 16 * n ≤ l.length)) 2 6
  needAll ds (fun d => do
    need ((decide (1 ≤ d.typ) && decide (d.typ ≤ 7)) || decide (0x8000 ≤ d.typ)) 2 d.at_
    need (decide (d.ver = 0x0100)) 2 d.at_
    need (decide (d.off % 8 = 0) && decide (0x40 + 16 * n ≤ d.off) && decide (d.off + d.len ≤ l.length)) 2 d.at_
    need (ds.all (fun e => decide (e.at_ ≥ d.at_) || (!decide (e.typ = d.typ) && !overlap e d))) 2 d.at_)
  need ((findSec ds 1).isSome && (findSec ds 4).isSome && (findSec ds 5).isSome) 2 0x40
  need (decide ((findSec ds 2).isSome = (le l 0x16 2).testBit 0)) 2 0x40

/-- Check 0x03 (R18, R21, R47): the geometry. -/
def check3 (l : List Byte) : Except (Nat × Nat) Unit := do
  let n := byteAt l 0x10
  let e := byteAt l 0x11
  let p := le l 0x12 2
  let c := le l 0x14 2
  if (le l 0x16 2).testBit 0 then do
    need (decide (n = 0)) 3 0x10
    need (decide (e = 0)) 3 0x11
    need (decide (2 ≤ p) && decide (p ≤ 512)) 3 0x12
    need (decide (c ≤ 4864)) 3 0x14
  else do
    need (decide (4 ≤ n) && decide (n ≤ 9)) 3 0x10
    need (decide (e = 0) || decide (e = 2)) 3 0x11
    need (decide (p = 2 ^ n)) 3 0x12
    need (decide (c = benesCells n e)) 3 0x14
  need (decide (le l 0x18 2 ≤ 1024)) 3 0x18
  need (decide (le l 0x1A 2 ≤ 1024)) 3 0x1A

/-- Check 0x04 (R3, R4, R39, R47): nothing beyond the part. -/
def check4 (p : Part) (l : List Byte) (els : List (Nat × List Byte)) (sense : List (Nat × List Byte)) :
    Except (Nat × Nat) Unit := do
  need (decide (byteAt l 0x10 ≤ p.maxOrder)) 4 0x10
  need (decide (le l 0x12 2 ≤ p.ports)) 4 0x12
  need (decide (le l 0x14 2 ≤ p.cells)) 4 0x14
  need (decide (le l 0x20 8 < 2 ^ p.tiles)) 4 0x20
  needAll els (fun e => need (decide (tileOf (elemOf e.2) < p.tiles)) 4 e.1)
  needAll sense (fun e => need (decide (byteAt e.2 0 < 2 * p.tiles) || decide (128 ≤ byteAt e.2 0)) 4 e.1)

/-- Check 0x05 (R30, R640, R47): ELEMENTS count, order, duplicates, missing elements. -/
def check5 (l : List Byte) (d : Dir) (els : List (Nat × List Byte)) : Except (Nat × Nat) Unit := do
  let ex := expected (le l 0x14 2) (le l 0x12 2) (le l 0x18 2) (le l 0x1A 2)
  need (decide (d.count = ex.length) && decide (d.len = 16 * d.count)) 5 d.at_
  needAll (els.zip ex) (fun e =>
    need (decide ((elemOf e.1.2).kind = e.2.1) && decide ((elemOf e.1.2).index = e.2.2)) 5 e.1.1)

/-- Check 0x06 (R31, R47): role, kind and range agreement; code limits. -/
def check6 (els : List (Nat × List Byte)) : Except (Nat × Nat) Unit :=
  needAll els (fun e => need (roleOk (elemOf e.2) && limitsOk (elemOf e.2) (byteAt e.2 15)) 6 e.1)

/-- Check 0x07 (R32, R47): placement. -/
def check7 (l : List Byte) (els : List (Nat × List Byte)) (sense : List (Nat × List Byte)) : Except (Nat × Nat) Unit := do
  let es := els.map (fun e => elemOf e.2)
  let tiles := le l 0x20 8
  needAll els (fun e =>
    let x := elemOf e.2
    let cellMate := es.find? (fun y => decide (y.kind = 0) && decide (y.index = x.index))
    do
      need (if x.kind ≤ 3 then (cellMate.map (fun y => decide (tileOf y = tileOf x))).getD true else true) 7 e.1
      need (if x.kind ≤ 2 then decide (idxOf x < 228) else if x.kind ≤ 5 then decide (idxOf x < 92) else true) 7 e.1
      need (decide ((es.filter (fun y => decide (y.chan = x.chan) && decide (driveKind y.kind = driveKind x.kind))).length = 1)) 7 e.1
      need (tiles.testBit (tileOf x)) 7 e.1)
  needAll sense (fun e => need (tiles.testBit (byteAt e.2 0 / 2)) 7 e.1)

/-- One link reference of a TOPOLOGY section (R38): well formed, and naming a lower cell than `below`. -/
def refOk (ports cells below r : Nat) : Bool :=
  if r ≥ 0x8000 then decide (r / 512 % 64 = 0) && decide (r % 512 < ports)
  else decide (r / 2 ^ 14 = 0) && decide (r / 2 < cells) && decide (r / 2 < below)

/-- Check 0x08 (R38, R640, R47). -/
def check8 (l : List Byte) (od : Option Dir) : Except (Nat × Nat) (List Nat) :=
  match od with
  | none => .ok []
  | some d => do
    let c := le l 0x14 2
    let p := le l 0x12 2
    need (decide (d.count = c) && decide (d.len = 4 * c + 2 * p)) 8 d.at_
    let refs := halves (2 * c + p) (secBytes l d)
    needAll ((List.range (2 * c + p)).zip refs) (fun e =>
      do
        need (refOk p c (if e.1 < 2 * c then e.1 / 2 else c) e.2) 8 (d.off + 2 * e.1)
        need (decide ((refs.take e.1).all (· ≠ e.2))) 8 (d.off + 2 * e.1))
    .ok refs

/-- One neighbourhood list (R34): offsets, count, cells. -/
def neighList (sec : List Byte) (off : Nat) : Option (List Nat) :=
  if off + 2 ≤ sec.length then
    let n := le (sec.drop off) 0 2
    if off + 2 + 2 * n ≤ sec.length then some (halves n (sec.drop (off + 2))) else none
  else none

/-- Check 0x09 (R34, R640, R47). -/
def check9 (l : List Byte) (d : Dir) : Except (Nat × Nat) (List (List Nat)) := do
  let c := le l 0x14 2
  let sec := secBytes l d
  need (decide (d.count = 3 * c) && decide (12 * c ≤ d.len)) 9 d.at_
  let offs := (List.range (3 * c)).map (fun a => le (sec.drop (4 * a)) 0 4)
  needAll ((List.range (3 * c)).zip offs) (fun e =>
    match neighList sec e.2 with
    | none => need false 9 (d.off + 4 * e.1)
    | some ns =>
      need (decide (1 ≤ ns.length) && decide (ns.length ≤ 64) && decide (ns.head? = some (e.1 / 3)) && decide ns.Nodup &&
        ns.all (fun x => decide (x < c)) && decide (12 * c ≤ e.2)) 9 (d.off + e.2))
  let ends := offs.map (fun o => o + 2 + 2 * le (sec.drop o) 0 2)
  need (decide (ends.foldl max (12 * c) = d.len)) 9 d.at_
  .ok (offs.map (fun o => (neighList sec o).getD []))

/-- The tone of a cell's trim A (R30), 0xFF for none. -/
def toneA (es : List Elem) (c : Nat) : Nat :=
  ((es.find? (fun e => decide (e.kind = 0) && decide (e.index = c))).map Elem.tone).getD 0xFF

/-- Check 0x0A (R33, R640, R47): mask and amplitudes. -/
def checkA (l : List Byte) (od : Option Dir) (els : List (Nat × List Byte)) (neigh : List (List Nat)) :
    Except (Nat × Nat) (Nat × List Nat) := do
  let es := els.map (fun e => elemOf e.2)
  match od with
  | none =>
    match els.find? (fun e => decide ((elemOf e.2).tone ≠ 0xFF)) with
    | some e => .error (0x0A, e.1)
    | none => .ok (0, List.replicate 16 0)
  | some d => do
    let sec := secBytes l d
    need (decide (d.count = 1) && decide (d.len = 40)) 0x0A d.at_
    let mask := le sec 0 8
    need (decide (mask < 2 ^ 48)) 0x0A d.off
    let amps := halves 16 (sec.drop 8)
    needAll ((List.range 16).zip amps) (fun a => need (decide (a.2 ≤ 4096)) 0x0A (d.off + 8 + 2 * a.1))
    needAll els (fun e =>
      let x := elemOf e.2
      if x.kind ≤ 1 then do
        need (decide (x.tone = toneA es x.index)) 0x0A e.1
        need (decide (x.tone = 0xFF) || mask.testBit x.tone) 0x0A e.1
        need (decide (x.kind = 1) || decide (x.tone = 0xFF) ||
          (((neigh.getD (3 * x.index) []).take 16).drop 1).all (fun c => decide (toneA es c ≠ x.tone))) 0x0A e.1
      else .ok ())
    .ok (mask, amps)

/-- Check 0x0B (R35, R640, R47). -/
def checkB (l : List Byte) (d : Dir) : Except (Nat × Nat) (List PortEnt) := do
  let p := le l 0x12 2
  need (decide (d.count = p) && decide (d.len = 8 * p)) 0x0B d.at_
  let cs := chunks 8 p d.off (secBytes l d)
  needAll cs (fun e => do
    need (decide (le e.2 4 2 < 8) && decide (le e.2 6 2 = 0)) 0x0B e.1
    need (!(le e.2 4 2).testBit 2 || cs.all (fun f => decide (f.1 ≥ e.1) || !(le f.2 4 2).testBit 2)) 0x0B e.1)
  .ok (cs.map (fun e => { inLabel := le e.2 0 2, outLabel := le e.2 2 2, flags := le e.2 4 2 }))

/-- Check 0x0C (R36, R640, R47). -/
def checkC (l : List Byte) (od : Option Dir) : Except (Nat × Nat) ParkSpec :=
  match od with
  | none => .ok .allBar
  | some d => do
    let sec := secBytes l d
    let p := le l 0x12 2
    let graph := (le l 0x16 2).testBit 0
    let mode := byteAt sec 0
    need (decide (d.count = 1) && decide (4 ≤ d.len)) 0x0C d.at_
    need (decide (mode ≤ 2) && !(decide (mode = 1) && graph) && zeroSlice sec 1 3) 0x0C d.off
    need (decide (d.len = match mode with | 0 => 4 | 1 => 4 + 2 * p | _ => 612)) 0x0C d.at_
    match mode with
    | 0 => .ok .allBar
    | 1 => do
      let m := halves p (sec.drop 4)
      need (mapValid p m) 0x0C (d.off + 4)
      .ok (.map m)
    | _ => .ok (.vector (leAll (sec.drop 4) % 2 ^ le l 0x14 2))

/-- Check 0x0D (R39, R640, R47). -/
def checkD (od : Option Dir) (sense : List (Nat × List Byte)) : Except (Nat × Nat) (List (Nat × Nat)) :=
  match od with
  | none => .ok []
  | some d => do
    need (decide (d.count ≤ 128) && decide (d.len = 4 * d.count)) 0x0D d.at_
    needAll sense (fun e =>
      need (decide (byteAt e.2 0 < 128) && decide (byteAt e.2 1 = 0)) 0x0D e.1)
    .ok (sense.map (fun e => (byteAt e.2 0, le e.2 2 2)))

/-- Terminated cell outputs: those no reference names (R38). -/
def terminated (cells : Nat) (refs : List Nat) : Nat :=
  if refs.isEmpty then 0 else 2 * cells - (refs.filter (fun r => decide (r < 0x8000))).length

/-- The ordered checks of R47: the record, or the code and offset of the first failure. -/
def check (p : Part) (l : List Byte) (len : Nat) : Except (Nat × Nat) Fdr := do
  check1 l len
  let ds := directory l (le l 6 2)
  check2 l ds
  check3 l
  match findSec ds 1, findSec ds 4, findSec ds 5 with
  | some de, some dn, some dp => do
    let els := chunks 16 (de.len / 16) de.off (secBytes l de)
    let sense := match findSec ds 7 with | none => [] | some d => chunks 4 (d.len / 4) d.off (secBytes l d)
    check4 p l els sense
    check5 l de els
    check6 els
    check7 l els sense
    let topo ← check8 l (findSec ds 2)
    let neigh ← check9 l dn
    let brz ← checkA l (findSec ds 3) els neigh
    let ports ← checkB l dp
    let park ← checkC l (findSec ds 6)
    let sn ← checkD (findSec ds 7) sense
    .ok { order := byteAt l 0x10, extra := byteAt l 0x11, graph := (le l 0x16 2).testBit 0, ports := le l 0x12 2,
          cells := le l 0x14 2, auxDrive := le l 0x18 2, auxMon := le l 0x1A 2, tiles := le l 0x20 8,
          elements := els.map (fun e => elemOf e.2), topo := topo, brzMask := brz.1, brzAmp := brz.2, neigh := neigh,
          portEnts := ports, park := park, sense := sn, terminated := terminated (le l 0x14 2) topo,
          digest := Crypto.shake256 l }
  | _, _, _ => .error (2, 0x40)

end Sys2Proof.Machine.FdrRead
end

