-- ==== Sys2Proof/Machine/Fabric.lean ====
section
/-! DEFINITION. The fabric block: loading a record (R44–R49), enabling and disabling the drive (R46, R533), health marks and the epoch
(R50–R57), and what an accepted record changes everywhere (R55, R101, R155, R175, R185, R215, R266, R330, R465). -/
namespace Sys2Proof.Machine

namespace State

/-! ### Health marks -/

/-- The outputs whose named path of the active map crosses a cell (R57). -/
def crossing (s : State) (cell : Nat) : List Nat :=
  if s.graph || !s.fabOn then []
  else (s.gst.activeMap.filter (fun e => (Benes.path s.geo s.gst.activeVec e.2).1.contains cell)).map Prod.fst

/-- A HEALTH event for one changed cell (R57, R418): raised for any change with EVT, and for a mark change on a named path (log entry 80 DESIGN CHOICE). -/
def healthEvent (device : Bool) (cell old new : Nat) (s : State) : State :=
  let hit := if old % 8 = new % 8 then [] else s.crossing cell
  if hit.isEmpty && !s.rbit Reg.FAB_HEALTH_CTRL 1 then s
  else
    let d := s.drawNat
    let first := match hit with | q :: _ => q | [] => d.1
    d.2.event 1 0x10 (if device then 16 else 0) s.now (cell % 8192 + 2 ^ 16 * (old % 8) + 2 ^ 20 * (new % 8) + 2 ^ 23 * (new / 8 % 2))
      (s.rnat Reg.FAB_EPOCH) (first % 1024 + 2 ^ 16 * (hit.length % 1024)) 0

/-- Every route-cache entry becomes invalid (R175). -/
def flushCache (s : State) : State :=
  let g := (s.fld Reg.RTE_CACHE_STATUS 31 16 + 1) % 2 ^ 16
  let s1 := s.setField Reg.RTE_CACHE_STATUS 31 16 g
  if g = 0 then (({ s1 with rte := { s1.rte with table := [] } }).clrReg Reg.RTE_CACHE_STATUS 1).orReg Reg.RTE_CACHE_STATUS 4 else s1

/-- The epoch moves on; at the wrap every cached route is invalid (R53, R54). -/
def bumpEpoch (s : State) : State :=
  let e := s.rnat Reg.FAB_EPOCH
  if e = 2 ^ 32 - 1 then ((s.setReg Reg.FAB_EPOCH 0).orReg Reg.FAB_STATUS 0x40).flushCache else s.setReg Reg.FAB_EPOCH (word (e + 1))

/-- A nibble of a health register. -/
def nibble (w : Word) (j : Nat) : Nat := field w (4 * j + 3) (4 * j)

/-- The word a write leaves in register `i`: nibbles of cells at or above CELLS read zero (R52). -/
def healthWord (s : State) (i : Nat) (v : Word) : Word :=
  (List.range 8).foldl (fun w j => if 8 * i + j < s.nCells then w ||| (v &&& maskOf (4 * j + 3) (4 * j)) else w) 0

/-- Health register `i` takes a word (R53, R57): nothing where no nibble changes; else one bump, the events, the recorder's HEALTH, the park
image anew (R37) and an event save (R431). -/
def healthPut (device : Bool) (i : Nat) (new : Word) (s : State) : State :=
  let old := s.reg (Reg.FAB_HEALTH i)
  if old = new then s
  else
    let s1 := (s.setReg (Reg.FAB_HEALTH i) new).bumpEpoch
    let s2 : State := (List.range 8).foldl (fun (s : State) j =>
      if nibble old j = nibble new j then s else s.healthEvent device (8 * i + j) (nibble old j) (nibble new j)) s1
    let s3 := s2.recEvent 12 (bytesOf 4 (Reg.FAB_HEALTH i) ++ bytesOf 4 old.toNat ++ bytesOf 4 new.toNat ++ bytesOf 4 (s2.rnat Reg.FAB_EPOCH) ++
      bytesOf 1 (b2n device))
    let s4 := s3.rebuildPark
    { s4 with tkn := { s4.tkn with eventSave := true } }

/-- The host writes FAB_HEALTHi: a reserved MARK in a nibble of a cell below CELLS discards the write (R51, R52). -/
def healthWrite (i : Nat) (v : Word) (s : State) : State :=
  if (List.range 8).any (fun j => decide (8 * i + j < s.nCells) && decide (5 ≤ nibble v j % 8)) then s.orReg Reg.FAB_STATUS 8
  else s.healthPut false i (s.healthWord i v)

/-- The device raises the marks of cells in one marking action (R51, R53): AUTO 1 and PIN 0 only; one bump for the whole action. -/
def deviceMark (marks : List (Nat × Nat)) (s : State) : State :=
  if !s.rbit Reg.FAB_HEALTH_CTRL 0 then s
  else
    let act := marks.filter (fun e => decide (e.1 < s.nCells) && !s.pin e.1 && decide (s.mark e.1 < e.2))
    if act.isEmpty then s
    else
      let s1 : State := act.foldl (fun (s : State) e => s.setField (Reg.FAB_HEALTH (e.1 / 8)) (4 * (e.1 % 8) + 2) (4 * (e.1 % 8)) e.2) s
      let s2 := s1.bumpEpoch
      let s3 : State := act.foldl (fun (t : State) e =>
        (t.healthEvent true e.1 (s.mark e.1) e.2).recEvent 12 (bytesOf 4 (Reg.FAB_HEALTH (e.1 / 8)) ++ bytesOf 4 (s.rnat (Reg.FAB_HEALTH (e.1 / 8))) ++
          bytesOf 4 (t.rnat (Reg.FAB_HEALTH (e.1 / 8))) ++ bytesOf 4 (t.rnat Reg.FAB_EPOCH) ++ bytesOf 1 1)) s2
      let s4 := s3.rebuildPark
      { s4 with tkn := { s4.tkn with eventSave := true } }

/-! ### An accepted record -/

/-- The drive channel an element uses, set as its entry says (R30, R101, R117); queue, ramp and hold are as they stand. -/
def chanFrom (old : Chan) (e : Elem) : Chan :=
  { old with kind := e.kind, role := e.role, range := e.range, codeMin := e.codeMin, codeMax := e.codeMax, elem := e.index,
             tone := if e.kind ≤ 1 then (if e.tone < 48 then e.tone else 0x3F) else 0x3F, partner := none }

/-- Every channel as the record names it; the others are OFF (R31, R155). -/
def loadChans (f : Fdr) (s : State) : State :=
  let blank : List (Nat × Chan) := Tab.mapAll (fun _ c => { c with kind := 15, role := 0, range := 0, codeMin := 0, codeMax := 0, partner := none,
                                                                   tone := 0x3F, queue := [] }) s.drv.chans
  let blankM : List (Nat × Mon) := Tab.mapAll (fun _ m => { m with kind := 15, role := 0, partner := none, fast := 0, fine := 0 }) s.mon.chans
  let ch := f.elements.foldl (fun l e => if e.kind ≤ 2 ∨ e.kind = 6 then Tab.set e.chan (chanFrom (Tab.get {} e.chan l) e) l else l) blank
  let mo := f.elements.foldl (fun l e => if e.kind ≤ 2 ∨ e.kind = 6 then l
    else Tab.set e.chan { (Tab.get {} e.chan l : Mon) with kind := e.kind, role := e.role, elem := e.index, gain := e.range % 4 } l) blankM
  { s with drv := { s.drv with chans := ch }, mon := { s.mon with chans := mo } }

/-- A cell of the record has a loop (R215). -/
def cellHasLoop (f : Fdr) (c : Nat) : Bool :=
  match f.elements.find? (fun e => decide (e.kind = 0) && decide (e.index = c)), f.elements.find? (fun e => decide (e.kind = 1) && decide (e.index = c)) with
  | some a, some b => decide (a.tone < 48) && decide (b.tone < 48) && !a.flags.testBit 1 && !b.flags.testBit 1
  | _, _ => false

/-- Every cell with a loop enters MANUAL with its class and an integrator to be preset; the others are OFF (R215, R229) (log entry 78 DEDUCED). -/
def loadLoops (f : Fdr) (s : State) : State :=
  let cls (c : Nat) : Nat := match f.elements.find? (fun e => decide (e.kind = 0) && decide (e.index = c)) with | some e => e.cls % 16 | none => 0
  let cells := (List.range f.cells).filter (cellHasLoop f)
  let tab := cells.map (fun c =>
    let l := s.loopCell c
    (c, { l with hasLoop := true, cls := cls c, n := 0, modeReq := none, presetDue := true, fresh := true,
                 st := { l.st with mode := 1, z := 0, dfilt := 0, sat := false } }))
  { s with loop := { s.loop with cells := tab, outs := [] } }

/-- LOOP_AMP of each class takes the record's amplitude (R243). -/
def loadAmps (f : Fdr) (s : State) : State :=
  (List.range 16).foldl (fun (s : State) i =>
    let k := Reg.LOOP_AMP i
    let v := word (f.brzAmp.getD i 0)
    let s1 := s.setReg k v
    { s1 with loop := { s1.loop with clsVals := Tab.put (regReset s.part k) k v s1.loop.clsVals } }) s

/-- A record with another digest than the one the marks were kept under (R55, R175, R185, R266, R330). -/
def otherDigest (s : State) : State :=
  let s1 := (s.resetRegs (fun k => decide (Reg.FAB_HEALTH 0 ≤ k) && decide (k ≤ Reg.FAB_HEALTH 607))).bumpEpoch
  (((s1.flushCache).emptySlots).clrReg Reg.DRT_STATUS 2).clearCalCells

/-- The recorder takes its state from an image's RECORDER section, then steps over the valid blocks that follow (R578). -/
def restoreRec (im : Image) (s : State) : State :=
  let v (i : Nat) : Nat := im.recSec.getD i 0
  let s1 : State := ((List.range 6).zip [Reg.REC_CTRL, Reg.REC_SIZE, Reg.REC_TRIG, Reg.REC_POST, Reg.REC_CKPT, Reg.REC_CAP]).foldl
    (fun (s : State) e => s.setReg e.2 (word (v e.1))) s
  let frozen := decide (v 8 = 1)
  let s2 : State := if frozen then (s1.orReg Reg.REC_STATUS 4).setReg64 Reg.REC_FREEZE_G_LO Reg.REC_FREEZE_G_HI (v 9) else s1
  let n := s2.ringBlocks
  let p := (s2.recd.ring).foldl (fun (a : Nat × Nat) _ =>
    match Tab.find a.1 s2.recd.ring with
    | some b => if b.bseq = a.2 then ((a.1 + 1) % n, a.2 + 1) else a
    | none => a) (v 6, v 7)
  let s3 : State := { s2 with recd := { s2.recd with bseq := p.2, gap := true, ckptDue := true } }
  (s3.setReg Reg.REC_WPTR (word p.1)).setReg64 Reg.REC_BSEQ_LO Reg.REC_BSEQ_HI (p.2 - 1)

/-- The restore after a device warm reset (R465), the record's digest being that of the stored copy (log entry 125 DEDUCED). -/
def restore (s : State) : State :=
  let pending (s : State) : State := s.makePending []
  match s.selectImage with
  | none => ((pending s).orReg Reg.PWR_BOOT 0x400).clrReg Reg.PWR_BOOT 0x100
  | some im =>
    let s1 := (s.resetRegs (fun k => decide (Reg.FAB_HEALTH 0 ≤ k) && decide (k ≤ Reg.FAB_HEALTH 607))).setReg Reg.FAB_EPOCH (word im.epoch)
    let s2 : State := im.health.foldl (fun (s : State) e => s.setReg e.1 e.2) s1
    let s3 : State := if im.spares ≠ s.spareRegs then s2.orReg Reg.PWR_BOOT 0x800 else s2
    let s4 : State := s3.loop.cells.foldl (fun (s : State) e =>
      let c : CellSt := Tab.get {} e.1 im.cells
      let l := s.loopCell e.1
      s.setLoopCell e.1 { l with st := { l.st with m := c.m, satcnt := c.satcnt, effortRun := c.effortRun, residRun := c.residRun, effort := c.effort,
                                                   resid := c.resid, throw := c.throw, strikes := c.strikes, mode := 1 } }) s3
    ((pending (s4.restoreRec im)).orReg Reg.PWR_BOOT 0x200).clrReg Reg.PWR_BOOT 0x100

/-- A record is accepted (R48): digest, copies, marks and everything that follows the record change together, and VALID is set last. -/
def acceptFdr (f : Fdr) (bytes : List Byte) (s : State) : State :=
  let other := decide (s.fab.marksDigest ≠ f.digest)
  let s0 : State := { s with fab := { s.fab with fdr := some f, stored := some { bytes := bytes, digest := f.digest }, marksDigest := f.digest } }
  let s1 : State := (List.range 16).foldl (fun (s : State) i => s.setReg (Reg.FAB_HASH i) (word (le f.digest (4 * i) 4))) s0
  let s2 := (((s1.setReg Reg.FAB_GEOM (word (2 ^ 31 * b2n f.graph + 2 ^ 16 * f.ports + 2 ^ 8 * f.extra + f.order))).setReg Reg.FAB_CELLS
    (word (2 ^ 16 * (if f.graph then 0 else FdrRead.stages f.order f.extra) + f.cells))).setField Reg.FAB_STATUS 31 16 f.terminated).setReg
      Reg.FAB_ERR_CODE 0 |>.setReg Reg.FAB_ERR_OFFSET 0
  let s3 := (((s2.loadChans f).loadLoops f).loadAmps f)
  let s4 := (s3.spAux f).spReapply
  let s5 : State := if other then s4.otherDigest else s4
  let s6 : State := if s5.rbit Reg.PWR_BOOT 8 then (if other then s5.clrReg Reg.PWR_BOOT 0x100 else s5.restore) else s5
  let temp (t : Nat) : Option Int := if s6.cal.everInForce ∧ t < s6.part.tiles then some (s6.tileTemp t) else none
  let s7 := ((s6.takeDrvCorr temp).orReg Reg.FAB_STATUS 1).rebuildPark
  let s8 : State := { s7 with cal := { s7.cal with monDue := true } }
  ((s8.clrReg Reg.FAB_STATUS 2).orReg Reg.FAB_STATUS 0x10).recEvent 16 (f.digest.take 8 ++ bytesOf 4 (s8.rnat Reg.FAB_GEOM))

/-- A load ends refused with a code and an offset (R47): VALID, the record in force and the marks are as they were. -/
def loadFail (code off : Nat) (s : State) : State :=
  (((s.setReg Reg.FAB_ERR_CODE (word code)).setReg Reg.FAB_ERR_OFFSET (word off)).orReg Reg.FAB_STATUS 0x20).clrReg Reg.FAB_STATUS 2

/-- A load ends (R44, R47, R49): `d` is what the read of host memory gave; the stored copy is the device's own. -/
def loadEnd (d : HostData) (s : State) : State :=
  match s.fab.load with
  | none => s
  | some l =>
    if l.waitDown then s
    else
      let s0 : State := { s with fab := { s.fab with load := none } }
      let judge (b : List Byte) (len : Nat) : State :=
        match FdrRead.check s.part b len with
        | .ok f => s0.acceptFdr f b
        | .error e => s0.loadFail e.1 e.2
      match d with
      | .failed off => s0.loadFail 0x0E off
      | .bytes b =>
        if l.stored then
          match s.fab.stored with
          | none => s0.loadFail 1 0
          | some c => if Crypto.shake256 c.bytes = c.digest then judge c.bytes c.bytes.length else s0.loadFail 1 0
        else judge (fit l.len b) l.len

/-! ### Enabling and disabling -/

/-- The accumulators start at their start values and run from the first tick on (R101). -/
def startBreeze (s : State) : State :=
  { s with drv := { s.drv with chans := Tab.mapAll (fun ch c =>
      { c with acc := brzStart (s.rbit (Reg.DRV_TCTRL (ch / 240)) 0) c.elem, accOn := true, gated := false }) s.drv.chans } }

/-- Every channel that serves is driven at its park code, an auxiliary one at CODE_PARK (R37, R46, R191). -/
def drivePark (s : State) : State :=
  let aux (c : Chan) : Nat := match s.elemEnt c.kind c.elem with | some e => e.codePark | none => 0
  let start (ch : Nat) (c : Chan) : Chan :=
    if c.serves ch then
      let v := if c.kind ≤ 2 then s.fab.parkImg.getD (3 * c.elem + c.kind) 0 else aux c
      { c with active := v, next := v, r := v, cnt := 0, x := v, dac := c.correct v, chgClk := s.clk, drt := 0, queue := [] }
    else c
  { s with drv := { s.drv with chans := Tab.mapAll start s.drv.chans, held := false, parked := false, relThimble := false } }

/-- FAB_CTRL.EN from 0 to 1 (R46): refused while VALID is 0 or a load runs; ignored while the base domain is in SHUTDOWN (R559); else the drive
powers up at the park image, a running site check is aborted (R84), a drive-down state of FLT_SAFE ends with SAFE_STATE, and pending
spare entries track afresh (R111). -/
def fabEnable (s : State) : State :=
  if s.fld (Reg.THM_DOMAIN 0) 31 30 = 3 then s.orReg Reg.THM_STATUS 0x20
  else if !s.fabValid || s.rbit Reg.FAB_STATUS 1 then s.orReg Reg.FAB_STATUS 4
  else
    let s1 := (s.abortSite 0).orReg Reg.FAB_CTRL 1
    let s2 : State := { s1 with fab := { s1.fab with powered := true, downAt := none, stagesDown := 0 } }
    let s3 := ((s2.drivePark).startBreeze).showPark
    let down := decide (s.safeState = 3)
    let s4 : State := if down then
      ((({ s3 with flt := { s3.flt with callers := [] } }).setReg Reg.FLT_SAFE 0).safeEvent 0x100 s.safeSrc (s.fld Reg.FLT_SAFE 7 4)).logPut 3 0 0 s.safeSrc 0 0
      else s3
    let s5 : State := if s.gap then { s4 with drv := { s4.drv with chans := Tab.mapAll (fun _ c => { c with holdL := c.x, holdD := c.dac }) s4.drv.chans, held := true } } else s4
    if (s5.drvKeys ++ s5.monKeys).isEmpty then s5 else s5.requestBoundary

/-- FAB_CTRL.EN cleared (R46, R533): Thimble PARK with cause 2, then the drive powers down 100 µs later. -/
def fabDisable (s : State) : State :=
  let s1 := ((s.enterPark 0xFFFF 2 true).clrReg Reg.FAB_CTRL 1).scheduleDown
  (s1.showOff).spDisable

/-- FAB_CTRL.LOAD (R44, R45): judged against EN as the write left it. -/
def fabLoad (s : State) : State :=
  if s.fabOn || s.rbit Reg.FAB_STATUS 1 then s.orReg Reg.FAB_STATUS 8
  else
    ({ s with fab := { s.fab with load := some { stored := s.rbit Reg.FAB_CTRL 2, addr := s.rnat64 Reg.FAB_SRC_LO Reg.FAB_SRC_HI,
                                                 len := s.rnat Reg.FAB_LEN, waitDown := s.fab.downAt.isSome, startClk := s.clk } } }).orReg Reg.FAB_STATUS 2

/-- A write of FAB_CTRL by the holder (R41, R45): SRC is locked while EN is 1; EN first, then LOAD. -/
def fabCtrl (v : Word) (s : State) : State :=
  let s1 : State := if s.fabOn then (if bit v 2 = s.rbit Reg.FAB_CTRL 2 then s else s.orReg Reg.FAB_STATUS 8)
    else s.setReg Reg.FAB_CTRL (putBit (s.reg Reg.FAB_CTRL) 2 (bit v 2))
  let s2 : State := if bit v 0 && !s.fabOn then s1.fabEnable else if !bit v 0 && s.fabOn then s1.fabDisable else s1
  if bit v 1 then s2.fabLoad else s2

/-- The drive stages power down (R533): every pad as unpowered; FLT_SAFE shows it while a PARK stands. -/
def driveDown (s : State) : State :=
  let s1 : State := { s with fab := { s.fab with powered := false, downAt := none },
                             drv := { s.drv with chans := Tab.mapAll (fun _ c => { c with accOn := false }) s.drv.chans } }
  s1.setField Reg.FLT_SAFE 1 0 3

end State

open State

/-- FAB_LOAD (R44, R45). -/
def execFabLoad (u : Cu) (v : Word) (s : State) : Res := .next (s.baseWrite u Reg.FAB_CTRL (v ||| 2) (fun s => s.fabCtrl (v ||| 2)))

/-- FAB_LOAD_DEFERRED_READ (R45): the read of a load that waited begins once the drive is powered down. -/
def execFabLoadDeferredRead (s : State) : Res :=
  match s.fab.load with
  | some l => if l.waitDown && !s.fab.powered then .next { s with fab := { s.fab with load := some { l with waitDown := false } } } else .next s
  | none => .next s

/-- FAB_LOAD_END (R47, R48). -/
def execFabLoadEnd (d : HostData) (s : State) : Res := .next (s.loadEnd d)

/-- FAB_ENABLE (R46). -/
def execFabEnable (u : Cu) (v : Word) (s : State) : Res := .next (s.baseWrite u Reg.FAB_CTRL (v ||| 1) (fun s => s.fabCtrl (v ||| 1)))

/-- FAB_DISABLE (R46). -/
def execFabDisable (u : Cu) (v : Word) (s : State) : Res :=
  .next (s.baseWrite u Reg.FAB_CTRL (v &&& 0xFFFFFFFE) (fun s => s.fabCtrl (v &&& 0xFFFFFFFE)))

/-- HEALTH_MARK_WRITE (R51–R53). -/
def execHealthMarkWrite (u : Cu) (i : Nat) (v : Word) (s : State) : Res :=
  if i < 608 then .next (s.baseWrite u (Reg.FAB_HEALTH i) v (fun s => s.healthWrite i v)) else .next s

end Sys2Proof.Machine
end

