-- ==== Sys2Proof/Machine/Link.lean ====
section
/-! DEFINITION. The host link (R334–R356): resets of a unit's endpoint, link state, power states, errors. -/
namespace Sys2Proof.Machine

namespace State

/-- The queue registers of function `f` of a unit lie in its 16 KiB (R340). -/
def inFn (u : Cu) (f : Nat) (k : Nat) : Bool :=
  decide (unitKey u (0xC0000 + 0x4000 * f) ≤ k) && decide (k < unitKey u (0xC0000 + 0x4000 * (f + 1)))

/-- The queue-engine unit registers Q_POLL–Q_FN_QUOTA of a unit (R378). -/
def inQUnit (u : Cu) (k : Nat) : Bool := decide (unitKey u 0x3000 ≤ k) && decide (k < unitKey u 0x4000)

/-- Records that wait in function `f`, completions and events, are discarded (R349). -/
def discardWaiting (u : Cu) (f : Nat) (s : State) : State :=
  let n := (s.fn u f).evWait.length + ((s.fn u f).cqs.map (fun e => e.2.wait.length)).foldl (· + ·) 0
  if n = 0 then s else (s.bump (Reg.HL_LOST u) 15 0 n).orReg (Reg.HL_STATUS u) 0x800

/-- One function loses its queue-engine state and its held timed commands; executing commands run on, their completions to be
discarded (R348, R349). -/
def resetFn (u : Cu) (s : State) (f : Nat) : State :=
  let s1 := (s.discardWaiting u f).dropHeldFn u f
  let s2 := s1.setUnit u { s1.unit u with fns := Tab.erase f (s1.unit u).fns,
                                          flights := (s1.unit u).flights.filter (fun a => !decide (a.func = f)) }
  s2.resetRegs (inFn u f)

/-- The reset of R348: every function of the unit and its queue engine; HL_ counters, the core, the token and the base are untouched. -/
def resetFns (u : Cu) (s : State) : State :=
  let s1 := (List.range 16).foldl (resetFn u) s
  (s1.setUnit u { s1.unit u with vtime := 0 }).resetRegs (inQUnit u)

/-- The link goes down: HL_LINK and LINK_UP read as down (R354, R355). -/
def dropLink (u : Cu) (s : State) : State :=
  ((s.setUnit u { s.unit u with linkUp := false }).setReg (Reg.HL_LINK u) 0).clrReg (Reg.HL_STATUS u) 1

/-- A loss of link from L0: LINK_DOWN, the count of link downs, the reset of R348, and with LINK_FLT a fault report (R345, R353). -/
def linkLost (u : Cu) (s : State) : State :=
  if (s.unit u).linkUp then
    let s1 := ((s.dropLink u).orReg (Reg.HL_STATUS u) 0x40).bump (Reg.HL_RETRAIN u) 31 16 1
    let s2 := s1.resetFns u
    if s.rbit (Reg.HL_CTRL u) 0 then s2.report1 (localSrc u 5) 0 else s2
  else s

/-- HL_LINK for a rate and width in force (R355). -/
def hlLink (rate width : Nat) (reversed l0p flit : Bool) : Nat :=
  2 ^ 15 + 2 ^ 14 * b2n reversed + 2 ^ 13 * b2n l0p + 2 ^ 12 * b2n flit + 16 * width + rate

/-- A rate or width below 128 GT/s ×16 (R336). -/
def degraded (rate width : Nat) : Bool := decide (rate < 7) || decide (width < 16)

/-- The link is in L0 at a rate and width: HL_LINK; DEGRADED and LINK_DEGRADED below 128 GT/s ×16 (R336, R418). -/
def linkAt (u : Cu) (rate width : Nat) (reversed l0p flit : Bool) (s : State) : State :=
  let w := hlLink rate width reversed l0p flit
  let s1 := s.setReg (Reg.HL_LINK u) (word w)
  if degraded rate width then (s1.orReg (Reg.HL_STATUS u) 0x1000).eventTo u 11 0xB0 0 s.now w 0 0 0 else s1

/-- Rates and widths the endpoint supports (R335, R355). -/
def linkOk (rate width : Nat) : Bool := decide (1 ≤ rate) && decide (rate ≤ 7) && [1, 4, 8, 16].contains width

/-- Write the waiting records of a function in order after the return to D0, or as space appears (R347, R365). -/
def drainCq (u : Cu) (f c : Nat) (s : State) : State :=
  (s.cq u f c).wait.foldl (fun (s : State) r =>
    if (s.fn u f).d3 || s.cqFull u f c then s
    else (s.setCq u f c { s.cq u f c with wait := (s.cq u f c).wait.drop 1 }).writeCq u f c r) s

/-- Write waiting events (R347). -/
def drainEq (u : Cu) (f : Nat) (s : State) : State :=
  let ev := (s.fn u f).evWait
  ev.foldl (fun (s : State) e => s.writeEq u f e) (s.setFn u f { s.fn u f with evWait := [] })

/-- Pending MSI-X bits that are no longer masked are sent (R343). -/
def drainMsix (u : Cu) (f : Nat) (s : State) : State :=
  let x := s.fn u f
  (List.range 64).foldl (fun (s : State) v =>
    if x.msixPend.testBit v then
      (s.setFn u f { s.fn u f with msixPend := (s.fn u f).msixPend &&& (2 ^ 64 - 1 - 2 ^ v) }).sendMsix u f v else s) s

/-- A write of HL_CTRL (R353): ERR_FLT and LINK_FLT; CNT_CLR clears the counters at 0x10–0x1C. -/
def hlCtrl (u : Cu) (v : Word) (s : State) : State :=
  let s1 := s.maskWrite (Reg.HL_CTRL u) 3 v
  if bit v 31 then
    [Reg.HL_REFUSED u, Reg.HL_CERR_CNT u, Reg.HL_UERR_CNT u, Reg.HL_LOST u].foldl (fun (s : State) k => s.setReg k 0) s1
  else s1

end State

open State

/-- PERST_ASSERT (R348–R350). PERST_N asserted: the endpoint is held in reset, the link down. -/
def execPerstAssert (u : Cu) (s : State) : Res :=
  let up := (s.unit u).linkUp
  let s1 := (s.dropLink u).setUnit u { (s.dropLink u).unit u with perst := true }
  let s2 := (s1.orReg (Reg.HL_STATUS u) (0x80 + if up then 0x40 else 0)).bump (Reg.HL_RETRAIN u) 31 16 (b2n up)
  let s3 := s2.resetFns u
  .next (if up && s.rbit (Reg.HL_CTRL u) 0 then s3.report1 (localSrc u 5) 0 else s3)

/-- PERST_RELEASE (R350). Link training begins; LINK_UP ends it. -/
def execPerstRelease (u : Cu) (s : State) : Res := .next (s.setUnit u { s.unit u with perst := false })

/-- HOT_RESET (R348, R354): as PERST, with the endpoint left able to train. -/
def execHotReset (u : Cu) (s : State) : Res :=
  let s1 := (s.dropLink u).orReg (Reg.HL_STATUS u) 0x80
  .next (s1.resetFns u)

/-- LINK_DOWN (R345, R348, R349). -/
def execLinkDown (u : Cu) (s : State) : Res := .next (s.linkLost u)

/-- FLR_PF (R350): as R348 for every function with the link kept. -/
def execFlrPf (u : Cu) (s : State) : Res := .next ((s.resetFns u).orReg (Reg.HL_STATUS u) 0x100)

/-- FLR_VF (R350): that VF's queues and held commands only. -/
def execFlrVf (u : Cu) (f : Nat) (s : State) : Res :=
  .next (if 1 ≤ f ∧ f ≤ 15 then (State.resetFn u s f).orReg (Reg.HL_STATUS u) 0x100 else s)

/-- LINK_UP (R336, R354, R355): training ends in L0. -/
def execLinkUp (u : Cu) (rate width : Nat) (reversed l0p flit : Bool) (s : State) : Res :=
  if (s.unit u).perst || (s.unit u).linkUp || !linkOk rate width then .next s
  else
    let s1 := (s.setUnit u { s.unit u with linkUp := true }).orReg (Reg.HL_STATUS u) 1
    .next (s1.linkAt u rate width reversed l0p flit)

/-- LINK_RETRAIN (R336, R353): a recovery; DEGRADED where it ended below 128 GT/s ×16. -/
def execLinkRetrain (u : Cu) (rate width : Nat) (reversed l0p flit : Bool) (s : State) : Res :=
  if !(s.unit u).linkUp || !linkOk rate width then .next s
  else .next ((s.bump (Reg.HL_RETRAIN u) 15 0 1).linkAt u rate width reversed l0p flit)

/-- D3HOT_ENTRY (R347): polling stops, records wait. -/
def execD3hotEntry (u : Cu) (f : Nat) (s : State) : Res :=
  .next (if f < 16 then (s.setFn u f { s.fn u f with d3 := true }).clrReg (Reg.Q_STATUS u f) 1 else s)

/-- D3HOT_EXIT (R347): waiting records are written in order. -/
def execD3hotExit (u : Cu) (f : Nat) (s : State) : Res :=
  if f < 16 then
    let s1 := s.setFn u f { s.fn u f with d3 := false }
    let s2 : State := if s1.rbit (Reg.Q_CTRL u f) 0 && !(s1.fn u f).halted then s1.orReg (Reg.Q_STATUS u f) 1 else s1
    let s3 := ((s2.fn u f).cqs.map Prod.fst).foldl (fun (s : State) c => s.drainCq u f c) s2
    .next ((s3.drainEq u f).drainMsix u f)
  else .next s

/-- LINK_ERROR (R345, R354): counted, flagged, and with ERR_FLT an uncorrectable one is reported. -/
def execLinkError (u : Cu) (uncorrectable : Bool) (s : State) : Res :=
  if uncorrectable then
    let s1 := (s.bump (Reg.HL_UERR_CNT u) 31 0 1).orReg (Reg.HL_STATUS u) 0x200
    .next (if s.rbit (Reg.HL_CTRL u) 1 then s1.report1 (localSrc u 4) 0 else s1)
  else .next ((s.bump (Reg.HL_CERR_CNT u) 31 0 1).orReg (Reg.HL_STATUS u) 0x400)

/-- HL_COUNT_CLEAR (R353): HL_CTRL.CNT_CLR clears the counters at 0x10–0x1C; the other bits are written as usual. -/
def execHlCountClear (u : Cu) (v : Word) (s : State) : Res :=
  .next (s.hlCtrl u (putBit v 31 true))

end Sys2Proof.Machine
end

