-- ==== Sys2Proof/Machine/Queue.lean ====
section
/-! DEFINITION. The queue engine (R357–R384): doorbells, descriptor fetch, arbitration, policing, order, completion and interrupts. -/
namespace Sys2Proof.Machine

namespace State

/-- Entries of an SQ (R380), an EQ and a TR (R379). -/
def sqSize (s : State) (u : Cu) (f q : Nat) : Nat := 2 ^ clampN (s.fld (Reg.Q_SQ_CFG u f q) 4 0) 4 16
def eqSize (s : State) (u : Cu) (f : Nat) : Nat := 2 ^ clampN (s.fld (Reg.Q_EQ_CFG u f) 3 0) 4 12
def trSize (s : State) (u : Cu) (f r : Nat) : Nat := 2 ^ clampN (s.fld (Reg.Q_TR_CFG u f r) 4 0) 8 20

/-- A slot VALUE that breaks R360 is ignored: DB_ERR and vector 0. -/
def dbErr (u : Cu) (f : Nat) (s : State) : State := s.qSticky u f (Reg.Q_STATUS u f) 0x10

/-- Take the VALUE of queue `q`'s slot (R360, R362): an SQ tail at most the size ahead of the head; a consumer head that neither moves back
nor passes the device's tail. -/
def takeSlot (u : Cu) (f q v : Nat) (s : State) : State :=
  if q < 64 then
    let x := s.sq u f q
    if !s.rbit (Reg.Q_SQ_CFG u f q) 31 then s
    else if dist32 v x.head ≤ s.sqSize u f q ∧ dist32 x.tail x.head ≤ dist32 v x.head then s.setSq u f q { x with tail := v }
    else s.dbErr u f
  else if q < 128 then
    let c := q - 64
    let x := s.cq u f c
    if !s.rbit (Reg.Q_CQ_CFG u f c) 31 then s
    else if dist32 v x.head ≤ dist32 x.tail x.head then (s.setCq u f c { x with head := v }).drainCq u f c else s.dbErr u f
  else if q = 128 then
    let x := s.fn u f
    if !s.rbit (Reg.Q_EQ_CFG u f) 31 then s
    else if dist32 v x.eq.head ≤ dist32 x.eq.tail x.eq.head then s.setFn u f { x with eq := { x.eq with head := v } } else s.dbErr u f
  else if q < 137 then
    let r := q - 129
    let x := s.tr u f r
    if !s.rbit (Reg.Q_TR_CFG u f r) 31 then s
    else if dist32 v x.head ≤ dist32 x.tail x.head then
      let s1 := s.setTr u f r { x with head := v }
      if dist32 x.tail v < s.trSize u f r then s1.clrReg (Reg.Q_TR_STATUS u f r) 0x10000 else s1
    else s.dbErr u f
  else s

/-- The host read round trip: last and largest, saturating (R378 Q_RTT). -/
def noteRtt (u : Cu) (ns : Nat) (s : State) : State :=
  let n := min ns 0xFFFF
  s.setReg (Reg.Q_RTT u) (word (n + 2 ^ 16 * max n (s.fld (Reg.Q_RTT u) 31 16)))

/-- The function is polled: EN, D0, not halted (R362, R377). -/
def polled (s : State) (u : Cu) (f : Nat) : Bool :=
  s.rbit (Reg.Q_CTRL u f) 0 && !(s.fn u f).d3 && !(s.fn u f).halted && (s.unit u).linkUp

/-- One poll of one function (R362): acknowledge the summary, take every queue whose bit flipped, ascending. -/
def pollFn (u : Cu) (s : State) (e : Nat × PollData) : State :=
  let f := e.1
  if !s.polled u f then s
  else
    let x := s.fn u f
    let d := x.copy ^^^ e.2.summary
    let s0 := (s.pmcEvent u 0x14 f 1).setFn u f { x with pollFails := 0 }
    if d % 2 ^ 137 = 0 then s0
    else
      let s1 := (s0.pmcEvent u 0x15 f 1).hostWrite u (s.rnat64 (Reg.Q_DB_LO u f) (Reg.Q_DB_HI u f) + 0x40) (bytesOf 64 e.2.summary)
      let s2 := s1.setFn u f { s1.fn u f with copy := e.2.summary }
      (List.range 137).foldl (fun (s : State) q =>
        if d.testBit q then
          match e.2.slots.find? (fun p => decide (p.1 = q)) with
          | some p => s.takeSlot u f q p.2
          | none => s
        else s) s2

/-- A queue's tail may be fetched: enabled, not stopped, holding descriptors not yet fetched (R363, R380, R381). -/
def fetchable (s : State) (u : Cu) (f q : Nat) : Nat :=
  if s.rbit (Reg.Q_SQ_CFG u f q) 31 && !s.rbit (Reg.Q_SQ_STATUS u f q) 4 && s.polled u f then
    min 8 (dist32 (s.sq u f q).tail (s.sq u f q).head) else 0

/-- A command of the function's SQ is in flight, or its completion is not written (R368, R370). -/
def sqBusy (s : State) (u : Cu) (f q : Nat) : Bool := (s.unit u).flights.any (fun a => decide (a.func = f) && decide (a.sq = q))

/-- The queue waits on a fence or a chain (R370, R371): its next descriptor carries FENCE while earlier commands are in flight, or the
command a chain binds it to is still in flight. -/
def blocked (s : State) (u : Cu) (f q : Nat) : Bool :=
  let x := s.sq u f q
  match x.fetched with
  | [] => false
  | d :: _ => ((byteAt d 1).testBit 1 && s.sqBusy u f q) ||
    (match x.chainTag with
     | some t => (s.unit u).flights.any (fun a => decide (a.func = f) && decide (a.sq = q) && decide (a.tag = t))
     | none => false)

/-- Commands in flight of a function, and its quota (R368, R378). -/
def fnFlights (s : State) (u : Cu) (f : Nat) : Nat := ((s.unit u).flights.filter (fun a => decide (a.func = f))).length
def quota (s : State) (u : Cu) (f : Nat) : Nat := clampN (s.fld (Reg.Q_FN_QUOTA u f) 14 0) 1 16384

/-- An SQ is eligible for arbitration (R374). -/
def sqEligible (s : State) (u : Cu) (f q : Nat) : Bool :=
  s.rbit (Reg.Q_SQ_CFG u f q) 31 && !(s.sq u f q).fetched.isEmpty && !s.blocked u f q &&
    !s.cqFull u f (s.cqOf u f q) && decide (s.fnFlights u f < s.quota u f)

/-- DELTA of a weight, 0 taken as 1 (R374). -/
def delta (w : Nat) : Nat := 2 ^ 20 / (if w = 0 then 1 else w)

/-- The later of two 32-bit tags by signed difference (R374). -/
def tagMax (a b : Nat) : Nat := if sext 32 (a + 2 ^ 32 - b) ≥ 0 then a else b

/-- `a` is before `b` by signed difference (R374). -/
def tagLt (a b : Nat) : Bool := decide (sext 32 (a + 2 ^ 32 - b) < 0)

/-- on_active for an SQ that has just become eligible; one that has stopped being eligible forgets it (R374). -/
def refreshSq (u : Cu) (f : Nat) (s : State) (q : Nat) : State :=
  let x := s.sq u f q
  let e := s.sqEligible u f q
  if e == x.eligible then s
  else if e then
    let st := tagMax x.finTag (s.fn u f).vtime
    s.setSq u f q { x with eligible := true, startTag := st,
                           finTag := (st + delta (s.fld (Reg.Q_SQ_CFG u f q) 23 16)) % 2 ^ 32 }
  else s.setSq u f q { x with eligible := false }

/-- on_active for a function (R374). -/
def refreshFn (u : Cu) (s : State) (f : Nat) : State :=
  let s1 := ((s.fn u f).sqs.map Prod.fst).foldl (refreshSq u f) s
  let x := s1.fn u f
  let e := x.sqs.any (fun q => q.2.eligible)
  if e == x.eligible then s1
  else if e then
    let st := tagMax x.finTag (s1.unit u).vtime
    s1.setFn u f { x with eligible := true, startTag := st,
                          finTag := (st + delta (s1.fld (Reg.Q_FN_WEIGHT u f) 7 0)) % 2 ^ 32 }
  else s1.setFn u f { x with eligible := false }

/-- Every function's and SQ's eligibility is brought up to date (R374). -/
def refreshAll (u : Cu) (s : State) : State := ((s.unit u).fns.map Prod.fst).foldl (refreshFn u) s

/-- The member with the least finish tag, ties to the lower number (R374). -/
def leastTag : List (Nat × Nat) → Option Nat
  | [] => none
  | (m, f) :: r =>
    match leastTag r with
    | none => some m
    | some n => match r.find? (fun e => decide (e.1 = n)) with
      | some e => if tagLt e.2 f then some n else some m
      | none => some m

/-- The function and the SQ the next grant goes to (R374). -/
def grantee (s : State) (u : Cu) : Option (Nat × Nat) :=
  match leastTag (((s.unit u).fns.filter (fun e => e.2.eligible)).map (fun e => (e.1, e.2.finTag))) with
  | none => none
  | some f =>
    match leastTag (((s.fn u f).sqs.filter (fun e => e.2.eligible)).map (fun e => (e.1, e.2.finTag))) with
    | none => none
    | some q => some (f, q)

/-- V and the tags move on at both levels after a grant to (f, q) (R374). -/
def chargeTags (u : Cu) (f q : Nat) (s : State) : State :=
  let y := s.sq u f q
  let x := s.fn u f
  let un := s.unit u
  let s1 := s.setUnit u { un with vtime := tagMax un.vtime x.startTag }
  let s2 := s1.setFn u f { s1.fn u f with vtime := tagMax x.vtime y.startTag, startTag := x.finTag,
                                          finTag := (x.finTag + delta (s.fld (Reg.Q_FN_WEIGHT u f) 7 0)) % 2 ^ 32 }
  s2.setSq u f q { s2.sq u f q with startTag := y.finTag,
                                    finTag := (y.finTag + delta (s.fld (Reg.Q_SQ_CFG u f q) 23 16)) % 2 ^ 32 }

/-- The command bucket and the Gust bucket of an SQ hold what a descriptor needs (R375). -/
def policeOk (s : State) (u : Cu) (f q : Nat) (gust : Bool) : Bool :=
  (decide (s.fld (Reg.Q_SQ_CRATE u f q) 23 0 = 0) || decide (1000000 ≤ (s.sq u f q).cBucket)) &&
  (!gust || decide (s.fld (Reg.Q_SQ_GRATE u f q) 23 0 = 0) || decide (1000000 ≤ (s.sq u f q).gBucket))

/-- Take the amounts a descriptor needs from the buckets that are on (R375). -/
def chargeBuckets (u : Cu) (f q : Nat) (gust : Bool) (s : State) : State :=
  let x := s.sq u f q
  s.setSq u f q { x with cBucket := if s.fld (Reg.Q_SQ_CRATE u f q) 23 0 = 0 then x.cBucket else x.cBucket - 1000000,
                         gBucket := if gust ∧ s.fld (Reg.Q_SQ_GRATE u f q) 23 0 ≠ 0 then x.gBucket - 1000000 else x.gBucket }

/-- A descriptor completes POLICED (R375, R379, R381). -/
def policed (c : Cmd) (s : State) : State :=
  let k := Reg.Q_SQ_POLICED c.unit c.func c.sq
  let s1 : State := if c.op = 0x03 then s.bump k 31 16 1 else s.bump k 15 0 1
  let s2 := (s1.qSticky c.unit c.func (Reg.Q_SQ_STATUS c.unit c.func c.sq) 8).pmcEvent c.unit 0x11 c.func 1
  s2.refuse c 0x03

/-- The tag is already in flight in the function (R368). -/
def tagBusy (s : State) (c : Cmd) : Bool := (s.unit c.unit).flights.any (fun a => decide (a.func = c.func) && decide (a.tag = c.tag))

/-- Put a command in flight (R368). -/
def fly (c : Cmd) (started : Bool) (s : State) : State :=
  let x := s.unit c.unit
  s.setUnit c.unit { x with flights := x.flights ++ [{ func := c.func, sq := c.sq, tag := c.tag, desc := c.desc, started := started }] }

/-- Chain bookkeeping at the start of a descriptor (R371): the bound command, the length, whether the chain is broken. -/
def chainStep (c : Cmd) (s : State) : State :=
  let x := s.sq c.unit c.func c.sq
  s.setSq c.unit c.func c.sq { x with chainTag := if c.chain then some c.tag else none,
                                      chainLen := if c.chain then x.chainLen + 1 else 0,
                                      chainBroken := c.chain && x.chainBroken }

/-- The generic checks 3 to 5 of R387: the status and CFLAGS of the first that fails. -/
def descCheck (c : Cmd) (s : State) : Option (Nat × Nat) :=
  if !check3 c.desc then some (0x05, 0)
  else if s.islandOnly c.unit && decide (c.op ≠ 0x01) then (if needsToken c.desc then some (0x04, 4) else some (0x11, 4))
  else if needsToken c.desc && !s.holds c.unit then some (0x04, 0)
  else none

/-- Accept one descriptor (R368, R371, R375, R387): tag, policing, chain, then in flight and waiting to start. A COMMAND record is written
(R571). -/
def acceptDesc (c : Cmd) (s : State) : State :=
  let broken := (s.sq c.unit c.func c.sq).chainBroken
  let long := decide ((s.sq c.unit c.func c.sq).chainLen ≥ 64)
  let s0 := (s.recCommand c).chainStep c
  if c.h 2 ≥ 2 ^ 14 then (s0.fly c true).refuse c 0x05
  else if s.tagBusy c then
    (s0.orReg (Reg.Q_STATUS c.unit c.func) 0x80).complete c 0x05 2 0 0 0 0
  else if broken then (s0.fly c true).refuse c 0x0B
  else if long then (s0.fly c true).refuse c 0x05
  else if !s.policeOk c.unit c.func c.sq (decide (c.op = 0x03)) then (s0.fly c true).policed c
  else
    let s1 := s0.chargeBuckets c.unit c.func c.sq (decide (c.op = 0x03))
    match s.descCheck c with
    | some (st, fl) => (s1.fly c true).complete c st fl 0 0 0 0
    | none => s1.fly c false

/-- A unit-wide limit of R368 is reached: arbitration pauses. -/
def unitFull (s : State) (u : Cu) : Bool := decide ((s.unit u).flights.length ≥ 16384)

/-- The sticky QUOTA bit when a function reaches its quota (R383). -/
def noteQuota (u : Cu) (f : Nat) (s : State) : State :=
  if s.fnFlights u f ≥ s.quota u f then s.qSticky u f (Reg.Q_STATUS u f) 8 else s

/-- One level of a bucket after a refill (R375) (log entry 82 DESIGN CHOICE). -/
def refill (level rate burst : Nat) : Nat := min (level + 5 * rate) ((if burst = 0 then 1 else burst) * 1000000)

/-- Full buckets at enable (R375). -/
def fullBucket (burst : Nat) : Nat := (if burst = 0 then 1 else burst) * 1000000

/-- A write of Q_CTRL (R362, R377, R379): EN from 0 to 1 ends a halt; cleared, it stops polling; CNT_CLR. -/
def qCtrl (u : Cu) (f : Nat) (v : Word) (s : State) : State :=
  let was := s.rbit (Reg.Q_CTRL u f) 0
  let s1 := s.setReg (Reg.Q_CTRL u f) (v &&& 1)
  let s2 : State :=
    if !bit v 0 then s1.clrReg (Reg.Q_STATUS u f) 1
    else
      let t : State := if was then s1
        else (s1.setFn u f { s1.fn u f with halted := false, pollFails := 0 }).clrReg (Reg.Q_STATUS u f) 0x100
      if (t.fn u f).d3 || (t.fn u f).halted then t else t.orReg (Reg.Q_STATUS u f) 1
  if bit v 31 then s2.clearFnCounts u f else s2

/-- A write of Q_SQ_CFG (R12, R380, R384): EN set takes head and tail from the slot's VALUE and is ignored with CFG_IGNORED while the named CQ is
not enabled; EN cleared stops fetching, and accepted commands run to their end (log entry 81 DEDUCED). -/
def sqCfgWrite (u : Cu) (f q : Nat) (v : Word) (slot : Nat) (s : State) : State :=
  let k := Reg.Q_SQ_CFG u f q
  let was := s.rbit k 31
  let s1 := s.rwlWrite k 0x00FF0000 0x3F00001F was (Reg.Q_STATUS u f) 4 v
  let s2 : State :=
    if !bit v 31 then ((s1.clrReg k 0x80000000).setSq u f q { s1.sq u f q with fetched := [] })
    else if was then s1
    else if !s.rbit (Reg.Q_CQ_CFG u f (s1.cqOf u f q)) 31 then s1.orReg (Reg.Q_STATUS u f) 4
    else
      let b := s.reg (Reg.Q_SQ_BURST u f q)
      ((s1.orReg k 0x80000000).clrReg (Reg.Q_SQ_STATUS u f q) 0x10).setSq u f q
        { head := slot % 2 ^ 32, tail := slot % 2 ^ 32, cBucket := fullBucket (field b 31 16), gBucket := fullBucket (field b 15 0) }
  s2.refreshAll u

/-- An enabled SQ of the function names the CQ, or records wait for it (R382). -/
def cqInUse (s : State) (u : Cu) (f c : Nat) : Bool :=
  (List.range 64).any (fun q => s.rbit (Reg.Q_SQ_CFG u f q) 31 && decide (s.cqOf u f q = c)) || !(s.cq u f c).wait.isEmpty

/-- A write of Q_CQ_CFG (R12, R382): EN set starts at tail 0 and phase 1; EN cleared is ignored with CFG_IGNORED while the CQ is in use. -/
def cqCfgWrite (u : Cu) (f c : Nat) (v : Word) (s : State) : State :=
  let k := Reg.Q_CQ_CFG u f c
  let was := s.rbit k 31
  if was && !bit v 31 && s.cqInUse u f c then
    (s.rwlWrite k 0x20000000 0x40003F1F true (Reg.Q_STATUS u f) 4 v).orReg (Reg.Q_STATUS u f) 4
  else
    let s1 := s.rwlWrite k 0xA0000000 0x40003F1F was (Reg.Q_STATUS u f) 4 v
    if !was && bit v 31 then s1.setCq u f c {} else s1

/-- A write of Q_EQ_CFG (R12, R364, R379): EN set starts the event queue at tail 0 and phase 1. -/
def eqCfgWrite (u : Cu) (f : Nat) (v : Word) (s : State) : State :=
  let k := Reg.Q_EQ_CFG u f
  let was := s.rbit k 31
  let s1 := s.rwlWrite k 0x80000000 0x3F0F was (Reg.Q_STATUS u f) 4 v
  if !was && bit v 31 then s1.setFn u f { s1.fn u f with eq := {} } else s1

/-- A write of Q_TR_CFG (R12, R379): EN set starts the telemetry ring at tail 0. -/
def trCfgWrite (u : Cu) (f r : Nat) (v : Word) (s : State) : State :=
  let k := Reg.Q_TR_CFG u f r
  let was := s.rbit k 31
  let s1 := s.rwlWrite k 0x80000000 0x3F1F was (Reg.Q_STATUS u f) 4 v
  if !was && bit v 31 then (s1.setTr u f r {}).setReg (Reg.Q_TR_STATUS u f r) 0 else s1

end State

open State

/-- QUEUE_POLL (R362, R363): the summary line of each function given, and the slots then read, with the round trip. -/
def execQueuePoll (u : Cu) (p : List (Nat × PollData)) (rtt : Nat) (s : State) : Res :=
  .next ((p.foldl (State.pollFn u) (s.noteRtt u rtt)).refreshAll u)

/-- DESCRIPTOR_FETCH (R363, R359): up to 8 descriptors are fetched and the SQ head word follows. -/
def execDescriptorFetch (u : Cu) (f q : Nat) (ds : List (List Byte)) (rtt : Nat) (s : State) : Res :=
  let n := s.fetchable u f q
  let x := s.sq u f q
  let got := ds.take n
  let hd := (x.head + got.length) % 2 ^ 32
  if got.isEmpty then .next s
  else
    let s1 := (s.noteRtt u rtt).setSq u f q { x with head := hd, fetched := x.fetched ++ got.map (fit 64), fetchFails := 0 }
    .next ((s1.hostWrite u (s.rnat64 (Reg.Q_DB_LO u f) (Reg.Q_DB_HI u f) + 0x3200 + 4 * q) (bytesOf 4 hd)).refreshAll u)

/-- ARBITRATION_GRANT (R374, R387): the descriptor of the grantee is accepted. -/
def execArbitrationGrant (u : Cu) (s : State) : Res :=
  let s0 := s.refreshAll u
  if s0.unitFull u then .next s0
  else
    match s0.grantee u with
    | none => .next s0
    | some (f, q) =>
      match (s0.sq u f q).fetched with
      | [] => .next s0
      | d :: rest =>
        let s1 := (s0.setSq u f q { s0.sq u f q with fetched := rest }).chargeTags u f q
        let s2 := ((s1.wrapInc (Reg.Q_GRANTS u)).pmcEvent u 0x10 f 1).acceptDesc { unit := u, func := f, sq := q, desc := d }
        .next ((s2.noteQuota u f).refreshAll u)

/-- BUCKET_REFILL (R375): every 1,024 drive clocks the levels of every enabled SQ rise by 5 × RATE, in both units. -/
def execBucketRefill (s : State) : Res :=
  .next ([Cu.a, Cu.b].foldl (fun (s : State) u =>
    (s.unit u).fns.foldl (fun (s : State) fe =>
      fe.2.sqs.foldl (fun (s : State) qe =>
        s.setSq u fe.1 qe.1 { s.sq u fe.1 qe.1 with
          cBucket := refill qe.2.cBucket (s.fld (Reg.Q_SQ_CRATE u fe.1 qe.1) 23 0) (s.fld (Reg.Q_SQ_BURST u fe.1 qe.1) 31 16),
          gBucket := refill qe.2.gBucket (s.fld (Reg.Q_SQ_GRATE u fe.1 qe.1) 23 0) (s.fld (Reg.Q_SQ_BURST u fe.1 qe.1) 15 0) }) s) s) s)

/-- COMPLETION_POST (R365): the host's head of CQ `c` is taken and waiting records are written as space appears. -/
def execCompletionPost (u : Cu) (f c head : Nat) (s : State) : Res :=
  .next ((s.takeSlot u f (64 + c) head).refreshAll u)

/-- RING_INTERRUPT_TIMER (R376): TIME µs after the first pending entry of CQ (64–127), EQ (128) or TR (129–136) the vector is sent. -/
def execRingInterruptTimer (u : Cu) (f q : Nat) (s : State) : Res :=
  let due (since : Option Nat) (m : Word) : Bool :=
    match since with | some t => decide (field m 27 16 ≠ 0) && decide (s.clk ≥ t + clksUs (field m 27 16)) | none => false
  if 64 ≤ q ∧ q < 128 then
    let x := s.cq u f (q - 64)
    .next (if due x.pendSince (s.reg (Reg.Q_CQ_MOD u f (q - 64))) then
      (s.setCq u f (q - 64) { x with pendCount := 0, pendSince := none }).sendMsix u f (ringVector (s.reg (Reg.Q_CQ_CFG u f (q - 64)))) else s)
  else if q = 128 then
    let x := s.fn u f
    .next (if due x.eq.pendSince (s.reg (Reg.Q_EQ_MOD u f)) then
      (s.setFn u f { x with eq := { x.eq with pendCount := 0, pendSince := none } }).sendMsix u f (ringVector (s.reg (Reg.Q_EQ_CFG u f))) else s)
  else if 129 ≤ q ∧ q < 137 then
    let x := s.tr u f (q - 129)
    .next (if due x.pendSince (s.reg (Reg.Q_TR_MOD u f (q - 129))) then
      (s.setTr u f (q - 129) { x with pendCount := 0, pendSince := none }).sendMsix u f (ringVector (s.reg (Reg.Q_TR_CFG u f (q - 129)))) else s)
  else .next s

/-- HOST_READ_FAIL (R346, R377, R47): a poll is counted, eight on end halting the function; a descriptor read is retried once, a second failure
stopping the SQ; a failed read of a record being loaded ends the load with code 0x0E. -/
def execHostReadFail (u : Cu) (w : ReadFor) (s : State) : Res :=
  match w with
  | .poll f =>
    let x := s.fn u f
    if x.pollFails + 1 ≥ 8 then
      let s1 := s.setFn u f { x with pollFails := 0, halted := true }
      .next (((s1.clrReg (Reg.Q_STATUS u f) 1).qSticky u f (Reg.Q_STATUS u f) 0x120).report1 (localSrc u 10) f)
    else .next (s.setFn u f { x with pollFails := x.pollFails + 1 })
  | .descriptor f q =>
    let x := s.sq u f q
    if x.fetchFails ≥ 1 then
      let s1 := (s.setSq u f q { x with fetchFails := 0 }).orReg (Reg.Q_SQ_STATUS u f q) 0x30
      .next ((s1.qSticky u f (Reg.Q_STATUS u f) 2).report1 (localSrc u 10) (f * 64 + q))
    else .next (s.setSq u f q { x with fetchFails := x.fetchFails + 1 })
  | .load off => .next (s.loadEnd (.failed off))

/-- FUNCTION_ENABLE (R362, R377, R379): Q_CTRL.EN set. -/
def execFunctionEnable (u : Cu) (f : Nat) (v : Word) (s : State) : Res := .next (s.qCtrl u f (putBit v 0 true))

/-- FUNCTION_DISABLE (R377): Q_CTRL.EN cleared stops polling. -/
def execFunctionDisable (u : Cu) (f : Nat) (v : Word) (s : State) : Res := .next (s.qCtrl u f (putBit v 0 false))

/-- Q_COUNT_CLEAR (R379): Q_CTRL.CNT_CLR; EN is written as the value carries it. -/
def execQCountClear (u : Cu) (f : Nat) (v : Word) (s : State) : Res := .next (s.qCtrl u f (putBit v 31 true))

/-- SQ_ENABLE (R380): Q_SQ_CFG with EN, and the VALUE of its slot. -/
def execSqEnable (u : Cu) (f q : Nat) (v : Word) (slot : Nat) (s : State) : Res := .next (s.sqCfgWrite u f q (putBit v 31 true) slot)

/-- SQ_DISABLE (R380, R384): Q_SQ_CFG without EN. -/
def execSqDisable (u : Cu) (f q : Nat) (v : Word) (s : State) : Res := .next (s.sqCfgWrite u f q (putBit v 31 false) 0)

/-- CQ_ENABLE (R382): Q_CQ_CFG with EN. -/
def execCqEnable (u : Cu) (f c : Nat) (v : Word) (s : State) : Res := .next (s.cqCfgWrite u f c (putBit v 31 true))

/-- CQ_DISABLE (R382): Q_CQ_CFG without EN. -/
def execCqDisable (u : Cu) (f c : Nat) (v : Word) (s : State) : Res := .next (s.cqCfgWrite u f c (putBit v 31 false))

/-- EQ_ENABLE (R364, R379): Q_EQ_CFG with EN. -/
def execEqEnable (u : Cu) (f : Nat) (v : Word) (s : State) : Res := .next (s.eqCfgWrite u f (putBit v 31 true))

/-- TR_ENABLE (R379): Q_TR_CFG with EN. -/
def execTrEnable (u : Cu) (f r : Nat) (v : Word) (s : State) : Res := .next (s.trCfgWrite u f r (putBit v 31 true))

end Sys2Proof.Machine
end

