-- ==== Sys2Proof/Machine/Commands.lean ====
section
/-! DEFINITION. What every descriptor row shares: how an accepted descriptor starts (R368, R387), and how a timed command is held until its
action time (R284–R287). -/
namespace Sys2Proof.Machine.State

/-- The descriptor waits in flight, accepted but not started (log entry 210 DESIGN CHOICE). -/
def waiting (s : State) (c : Cmd) : Bool :=
  (s.unit c.unit).flights.any (fun a => decide (a.func = c.func) && decide (a.sq = c.sq) && decide (a.desc = c.desc) && !a.started)

/-- Mark it started. -/
def startFlight (c : Cmd) (s : State) : State :=
  let x := s.unit c.unit
  s.setUnit c.unit { x with flights := x.flights.map (fun a =>
    if a.func = c.func ∧ a.sq = c.sq ∧ a.desc = c.desc then { a with started := true } else a) }

/-- Run a descriptor of opcode `op`: it is accepted first if no grant has done so, then started; checks 3 to 5 are judged again, since the
token may have left since the grant (R387, R388); `body` makes checks 6 and 7 and has the effect. -/
def runDesc (c : Cmd) (op : Nat) (body : State → State) (s : State) : State :=
  let s1 : State := if s.waiting c then s else s.acceptDesc c
  if s1.waiting c then
    let s2 := s1.startFlight c
    match s2.descCheck c with
    | some (st, fl) => s2.complete c st fl 0 0 0 0
    | none => if c.op = op then body s2 else s2.refuse c 0x05
  else s1

/-- Hold a timed command, or perform it at once for TIME zero or a time passed; `perform late` has the effect (R285–R287). -/
def timed (c : Cmd) (perform : Bool → State → State) (s : State) : State :=
  let due := s.fullTime (c.w 8) (c.w 12)
  if c.isNow then perform false s
  else if due < s.now then (if c.lateExec then perform true s else s.refuse c 0x02)
  else if due = s.now then perform false s
  else if (s.unit c.unit).timed.length ≥ 256 then s.refuse c 0x11
  else s.setUnit c.unit { s.unit c.unit with timed := (s.unit c.unit).timed ++ [{ cmd := c, op := c.op, due := due, late := false }] }

/-- The status of a timed command that did what it was asked: LATE_EXECUTED when it was late, else OK (R286, R393). -/
def okStatus (late : Bool) : Nat := if late then 1 else 0

end Sys2Proof.Machine.State
end

