-- ==== Sys2Proof/Machine/LoopOps.lean ====
section
/-! DEFINITION. The arithmetic of the element loops: demodulation (R221), the light trace (R223), the error (R224), the control law (R225), the
health figures (R238) and the marks they call for (R239), and what release and Gusts do to a loop (R222, R229). -/
namespace Sys2Proof.Machine

/-- The coefficients of a class in force (R243). -/
structure ClsVals where
  kp : Int
  ki : Int
  kd : Int
  delay : Nat
  lullSh : Nat
  demodSh : Nat
  dfSh : Nat
  sh : Nat
  amp : Nat
  floor : Int
  dimDb : Nat
  hlth0 : Word
  hlth1 : Word
  residFs : Nat
  deriving DecidableEq, Repr

namespace State

/-- A class register in force (R230). -/
def clsReg (s : State) (k : Nat) : Word := Tab.get (regReset s.part k) k s.loop.clsVals

/-- The class values in force (R243). -/
def clsVals (s : State) (n : Nat) : ClsVals :=
  let sh := s.clsReg (Reg.LOOP_SHAPE n)
  let li := s.clsReg (Reg.LOOP_LIGHT n)
  { kp := sext 32 (s.clsReg (Reg.LOOP_KP n)).toNat, ki := sext 32 (s.clsReg (Reg.LOOP_KI n)).toNat, kd := sext 32 (s.clsReg (Reg.LOOP_KD n)).toNat,
    delay := field sh 31 24, lullSh := field sh 19 16, demodSh := field sh 14 12, dfSh := field sh 10 8, sh := field sh 4 0,
    amp := min (field (s.clsReg (Reg.LOOP_AMP n)) 12 0) 4096, floor := sext 16 (field li 31 16), dimDb := field li 15 0,
    hlth0 := s.clsReg (Reg.LOOP_HLTH0 n), hlth1 := s.clsReg (Reg.LOOP_HLTH1 n), residFs := field (s.clsReg (Reg.LOOP_RESID_FS n)) 23 0 }

/-- The reference of the demodulator: the R100 table at full amplitude, DELAY ticks back (R221). -/
def demodRef (acc : BitVec 32) (tone delay : Nat) : Int :=
  let a := (acc - BitVec.ofNat 32 (delay * brzInc tone)).toNat
  let q := a / 2 ^ 30
  let i := a / 2 ^ 20 % 1024
  let v := if q % 2 = 1 then Maths.sineTab (1023 - i) else Maths.sineTab i
  if q ≥ 2 then -v else v

/-- One usable tap result enters the demodulator of a cell (R221). -/
def demodCell (cell : Nat) (value : Int) (s : State) : State :=
  let l := s.loopCell cell
  if !l.hasLoop then s
  else match s.armChan cell with
    | none => s
    | some ch =>
      let c := s.chan ch
      if !c.gated then s
      else
        let v := s.clsVals l.cls
        let prod := asr (value * demodRef c.acc c.tone v.delay) 15
        s.setLoopCell cell { l with st := { l.st with z := sext 32 (low 32 (l.st.z + asr (prod - l.st.z) v.demodSh)) }, n := l.n + 1 }

/-- The output link of stage `i` that feeds input link `l` of stage `i` + 1: the inverse of the wiring (R19, R20). -/
def unwire (g : Benes.Geo) (i l : Nat) : Nat :=
  if g.e = 2 ∧ i = 0 then Benes.wireIn g.ports l
  else if g.e = 2 ∧ i = 1 then Benes.wireOut g.ports l
  else
    let t := i - g.e
    if t + 1 < g.n then Benes.wireIn (g.ports / 2 ^ t) l else Benes.wireOut (g.ports / 2 ^ (2 * g.n - 3 - t)) l

/-- The fabric input port that feeds input link `l` of stage `i` (R223). -/
def backPort (g : Benes.Geo) (vec : Nat) : Nat → Nat → Nat
  | 0, l => l
  | i + 1, l => backPort g vec i (Benes.through g vec i (unwire g i l))

/-- The same in graph mode, from a link reference (R38): at most CELLS cells back. -/
def backRef (topo : List Nat) (vec : Nat) : Nat → Nat → Nat
  | 0, r => r % 512
  | n + 1, r =>
    if r ≥ 0x8000 then r % 512
    else
      let c := r / 2
      backRef topo vec n (topo.getD (2 * c + (if vec.testBit c then 1 - r % 2 else r % 2)) 0x8000)

/-- The port that feeds input `i` of a cell under the active vector (R223). -/
def feedPort (s : State) (cell i : Nat) : Nat :=
  if s.graph then
    match s.fab.fdr with
    | some f => backRef f.topo s.gst.activeVec f.cells (f.topo.getD (2 * cell + i) 0x8000)
    | none => 0
  else
    let g := s.geo
    let st := cell / g.half
    backPort g s.gst.activeVec st (2 * (cell % g.half) + i)

/-- POWER of an input port, absent in loss of light or at 0x8000 (R223). -/
def portLight (s : State) (p : Nat) : Option Int :=
  let w := s.reg (Reg.MON_PORT_PWR p)
  if bit w 16 ∨ field w 15 0 = 0x8000 then none else some (sext 16 (field w 15 0))

/-- s_light of a cell, none for DIM (R223) (log entry 213 DESIGN CHOICE). -/
def cellLight (s : State) (cell : Nat) : Option Int :=
  let l := s.loopCell cell
  match l.st.light with
  | 1 => some 1
  | 2 => some (-1)
  | 3 => none
  | _ =>
    let v := s.clsVals l.cls
    let weak (p : Option Int) : Bool := match p with | none => true | some x => decide (x < v.floor)
    let a := s.portLight (s.feedPort cell 0)
    let b := s.portLight (s.feedPort cell 1)
    if weak a && weak b then none
    else match a, b with
      | some x, some y => if (x - y).natAbs < v.dimDb then none else if y < x then some 1 else if x < y then some (-1) else some (if Config.lightTie x then 1 else -1)
      | some _, none => some 1
      | none, some _ => some (-1)
      | none, none => none

/-- The control law of one AUTO loop at a loop instant (R225): the new state, the code, and whether it saturates. -/
def loopLaw (v : ClsVals) (st : CellSt) (e : Int) (fresh inLull : Bool) (codeMin codeMax : Nat) : CellSt × Nat × Bool :=
  let sc (k : Int) : Int := if inLull then asr k v.lullSh else k
  let p := asr (sc v.kp * e) v.sh
  let ep := if fresh then e else st.ePrev
  let df := st.dfilt + asr (asr (sc v.kd * (e - ep)) v.sh - st.dfilt) v.dfSh
  let it := st.i + asr (sc v.ki * e) v.sh
  let lo : Int := ((codeMin + v.amp : Nat) : Int) * 65536
  let hi : Int := ((codeMax : Int) - (v.amp : Int)) * 65536
  let x := it + p + df
  let above := decide (x > hi)
  let under := !above && decide (x < lo)
  let out := if above then hi else if under then lo else x
  let i := if above then (if e ≤ 0 then it else st.i) else if under then (if 0 ≤ e then it else st.i) else it
  ({ st with i := clampI i lo hi, dfilt := df, ePrev := e, sat := above || under }, (asr (out + 0x8000) 16).toNat % 65536, above || under)

/-- The health figures of a counted instant of an AUTO cell (R238, R239) (log entries 73 DEDUCED, 212 DESIGN CHOICE). -/
def loopHealth (v : ClsVals) (st : CellSt) (e : Int) (code : Nat) (sat held : Bool) (codeMin codeMax : Nat) : CellSt :=
  let eff := min 255 ((code - codeMin) * 255 / max 1 (codeMax - codeMin))
  let m := (((st.m : Int) + asr ((e.natAbs : Int) - (st.m : Int)) 8).toNat) % 2 ^ 32
  let res := if v.residFs = 0 then Config.residAtZero m % 256 else min 255 (m * 255 / v.residFs)
  { st with effort := eff, m := m, resid := res,
            satcnt := if held then st.satcnt else if sat then min 0xFFFF (st.satcnt + 1) else 0,
            effortRun := if field v.hlth0 7 0 ≤ eff then min 0xFFFF (st.effortRun + 1) else 0,
            residRun := if field v.hlth0 15 8 ≤ res then min 0xFFFF (st.residRun + 1) else 0 }

/-- The mark a cell's figures call for: 0, WATCH or AVOID (R239). -/
def loopMark (v : ClsVals) (st : CellSt) : Nat :=
  let avoid := (decide (field v.hlth1 15 0 ≤ st.satcnt) && decide (st.satcnt ≠ 0)) || decide (1024 ≤ st.residRun) ||
    (decide (field v.hlth0 27 24 ≤ st.strikes) && decide (st.strikes ≠ 0))
  let watch := decide (1024 ≤ st.effortRun) || decide (field v.hlth0 23 16 ≤ st.throw) || decide (1 ≤ st.strikes)
  if avoid then 2 else if watch then 1 else 0

/-- Preset of a cell's integrator to a code in whole LSB (R228, R229): dfilt, z and n clear, e_prev from the next error. -/
def presetCell (cell code : Nat) (s : State) : State :=
  let l := s.loopCell cell
  if !l.hasLoop then s
  else s.setLoopCell cell { l with st := { l.st with i := (code : Int) * 65536, dfilt := 0, z := 0 }, n := 0, fresh := true, presetDue := false }

/-- Release from hold or PARK presets every looped cell to its active arm's DRV_HOLD.LOGICAL (R106, R229). -/
def presetHeld (s : State) : State :=
  s.loop.cells.foldl (fun (s : State) e => match s.armChan e.1 with
    | some ch => s.presetCell e.1 (s.chan ch).holdL
    | none => s) s

/-- Loops compute: LOOP_CTRL.EN with the fabric driven, a holder and no safe state (R234) (log entry 184 DEDUCED). -/
def loopsRun (s : State) : Bool := s.rbit Reg.LOOP_CTRL 0 && s.fabOn && !s.heldNow && s.holder.isSome && !s.drv.held

/-- PERIOD, a value out of range taken as 320 (R218, R241). -/
def loopPeriod (s : State) : Nat := let p := s.fld Reg.LOOP_CTRL 26 16; if 80 ≤ p ∧ p ≤ 1600 then p else 320

end State
end Sys2Proof.Machine
end

