-- ==== Sys2Proof/Machine/Monitor.lean ====
section
/-! DEFINITION. Monitor channels and Selvedge monitors (R123–R157): both lanes' results and flags, the fine-lane instant, port judging, result
queues, gain and filter changes, test currents, diagnosis and grid alignment. -/
namespace Sys2Proof.Machine

/-- A corrected result of a pad: gain, FLAGS without GAP, value. -/
structure MonOut where
  gain : Nat
  flags : Nat
  value : Int
  deriving DecidableEq, Repr

namespace State

/-- MON_CORRg of a channel (R154): GAIN and OFFSET. -/
def corrKey (ch g : Nat) : Nat := Reg.MON_CORR0 (ch / 96) (ch % 96) + 4 * g
def monGain (s : State) (ch g : Nat) : Int := (s.fld (corrKey ch g) 31 16 : Nat)
def monOffset (s : State) (ch g : Nat) : Int := sext 16 (s.fld (corrKey ch g) 15 0)

/-- Clamp a code to `n` bits in two's complement and say whether it was outside (R124). -/
def codeClamp (n : Nat) (v : Int) : Int × Bool :=
  let c := clampI v (-(2 ^ (n - 1))) (2 ^ (n - 1) - 1)
  (c, decide (c ≠ v))

/-- The corrected fast-lane code and OVER (R124, R133). -/
def fastCode (s : State) (ch : Nat) (m : Mon) (r : MonRaw) : Int × Bool :=
  let a := codeClamp 16 r.raw
  let b := codeClamp 16 (asr (a.1 * s.monGain ch m.gain + 0x2000) 14 + asr (s.monOffset ch m.gain + 8) 4)
  (b.1, a.2 || b.2 || r.beyond)

/-- The corrected fine-lane code and OVER (R124, R133). -/
def fineCode (s : State) (ch : Nat) (m : Mon) (r : MonRaw) : Int × Bool :=
  let a := codeClamp 24 r.raw
  let b := codeClamp 24 (asr (a.1 * s.monGain ch m.gain + 0x2000) 14 + 16 * s.monOffset ch m.gain)
  (b.1, a.2 || b.2 || r.beyond)

/-- The reading of a channel the bench gives: a channel it does not list reads code 0 (log entry 30). -/
def rawOf (raw : List (Nat × MonRaw)) (ch : Nat) : MonRaw :=
  match raw.find? (fun e => decide (e.1 = ch)) with | some e => e.2 | none => { raw := 0, beyond := false, inject := false }

/-- A manual injection flowed into a pad during the last `w` drive clocks (R135, R139). -/
def injected (s : State) (pad w : Nat) : Bool :=
  match Tab.find (pad / 96) s.mon.inj with
  | some i => decide (i.index = pad % 96) && decide (i.fromClk < s.clk) &&
      (match i.untilClk with | none => true | some t => decide (s.clk < t + w))
  | none => false

/-- LOS of a port side that a pad serves (R135). -/
def losBit (s : State) (m : Mon) : Bool :=
  if m.kind = 4 then s.rbit (Reg.MON_PORT_PWR m.elem) 16 else if m.kind = 5 then s.rbit (Reg.MON_PORT_PWR_OUT m.elem) 16 else false

/-- The flags a result carries apart from GAP and LOS (R135) (log entry 55 DEDUCED). -/
def monFlags (s : State) (settling above inject subst : Bool) : Nat :=
  b2n settling + 2 * b2n above + 4 * b2n inject + 16 * b2n subst + 64 * b2n (decide (s.safeState ≠ 0) || s.holder.isNone) + 128 * b2n (!s.mon.calSeen)

/-- OVER is noted in the tile (R152, R153). -/
def noteOver (ch : Nat) (above : Bool) (s : State) : State :=
  if above then (s.orReg (Reg.MON_STATUS (ch / 96)) 8).bump (Reg.MON_TCNT (ch / 96)) 31 16 1 else s

/-- One channel's fast-lane result (R126, R133, R135). -/
def fastOne (raw : List (Nat × MonRaw)) (s : State) (ch : Nat) : State :=
  let m := s.monCh ch
  if !monServes ch m then s
  else
    let r := rawOf raw ch
    let c := s.fastCode ch m r
    let settling := decide (m.setFast ≠ 0)
    let fl := s.monFlags settling c.2 (r.inject || s.injected (padOf ch m) 256) (settling && m.subst) + 32 * b2n (s.losBit m)
    (s.setMon ch { m with fast := c.1, fastFl := fl, setFast := m.setFast - 1 }).noteOver ch c.2

/-- Every channel's fast-lane result of an instant (R130). -/
def fastAll (raw : List (Nat × MonRaw)) (s : State) : State := (s.mon.chans.map Prod.fst).foldl (fastOne raw) s

/-- A channel's fine-lane result with its flags (R133, R135), LOS left for the judgement. -/
def finePut (ch : Nat) (m : Mon) (value : Int) (above inject : Bool) (s : State) : State :=
  let settling := decide (m.setFine ≠ 0)
  let w := 128 * (if m.filt then 161 else 129)
  let fl := s.monFlags settling above (inject || s.injected (padOf ch m) w) (settling && m.subst)
  (s.setMon ch { m with fine := value, fineFl := fl, setFine := m.setFine - 1, subst := m.subst && decide (1 < m.setFine) }).noteOver ch above

/-- One channel's fine-lane result from its converter (R127, R133). -/
def fineOne (raw : List (Nat × MonRaw)) (s : State) (ch : Nat) : State :=
  let m := s.monCh ch
  if !monServes ch m then s
  else
    let r := rawOf raw ch
    let c := s.fineCode ch m r
    s.finePut ch m c.1 c.2 r.inject

/-! ### Result queues (R142–R145) -/

/-- The present results of the channels that serve, by pad: fine or fast lane. -/
def results (s : State) (lane : Bool) : List (Nat × MonOut) :=
  (s.mon.chans.filter (fun e => monServes e.1 e.2)).foldl (fun l e =>
    Tab.set (padOf e.1 e.2) { gain := e.2.gain, flags := if lane then e.2.fineFl else e.2.fastFl, value := if lane then e.2.fine else e.2.fast } l) []

/-- DECIM, 0 taken as 1,024, and WM, within 1 to 2,048 (R156) (log entry 59 DEDUCED). -/
def rqDecim (s : State) (q : Nat) : Nat := let d := s.fld (Reg.MON_RQ_CTRL q) 25 16; if d = 0 then 1024 else d
def rqWm (s : State) (q : Nat) : Nat := clampN (s.fld (Reg.MON_RQ_WM q) 11 0) 1 2048

/-- A queue. -/
def rq (s : State) (q : Nat) : RQ := Tab.get {} q s.mon.queues
def setRq (q : Nat) (x : RQ) (s : State) : State :=
  ({ s with mon := { s.mon with queues := Tab.put {} q x s.mon.queues } }).setField (Reg.MON_RQ_STATUS q) 11 0 x.store.length

/-- A pad is in a queue's map (R142). -/
def rqMapped (s : State) (q pad : Nat) : Bool := s.rbit (Reg.MON_RQ_MAP q (pad / 32)) (pad % 32)

/-- One result finds a queue (R142, R144): stored with GAP where one is owed, or dropped. -/
def rqStore (q : Nat) (lane : Bool) (pad : Nat) (o : MonOut) (s : State) : State :=
  let x := s.rq q
  if x.store.length ≥ 2048 then
    ((s.setRq q { x with gapOwed := true }).bump (Reg.MON_RQ_DROPS q) 31 0 1)
  else
    let tag := pad % 2 ^ 13 + 2 ^ 13 * b2n lane + 2 ^ 14 * o.gain + 2 ^ 16 * (o.flags + 8 * b2n x.gapOwed)
    let s1 := s.setRq q { x with store := x.store ++ [{ tag := tag, value := o.value, g := s.time.g, at_ := s.clk }], gapOwed := false }
    if x.gapOwed then s1.orReg (Reg.MON_RQ_STATUS q) 0x20000 else s1

/-- A queue whose level has reached WM asks its channel to move (R144). -/
def rqAsk (q : Nat) (s : State) : State :=
  let x := s.rq q
  if s.rqWm q ≤ x.store.length ∧ !x.asked then s.setRq q { x with asked := true } else s

/-- One instant of a lane passes an enabled queue (R142). -/
def rqInstant (lane : Bool) (outs : List (Nat × MonOut)) (s : State) (q : Nat) : State :=
  if !s.rbit (Reg.MON_RQ_CTRL q) 31 || s.rbit (Reg.MON_RQ_CTRL q) 30 != lane then s
  else
    let x := s.rq q
    let n := (x.count + 1) % s.rqDecim q
    let s1 := s.setRq q { x with count := n }
    if n ≠ 0 then s1
    else (outs.foldl (fun (s : State) (o : Nat × MonOut) => if s.rqMapped q o.1 then rqStore q lane o.1 o.2 s else s) s1).rqAsk q

/-- An instant's results reach the sixteen queues. -/
def rqAll (lane : Bool) (s : State) : State :=
  if (List.range 16).any (fun q => s.rbit (Reg.MON_RQ_CTRL q) 31) then
    let outs := s.results lane
    (List.range 16).foldl (rqInstant lane outs) s
  else s

/-- Results per second of a queue (R143): selected pads × lane rate / DECIM. -/
def rqRate (s : State) (q : Nat) : Nat :=
  let pads := ((List.range 6144).filter (fun p => s.rqMapped q p)).length
  pads * (if s.rbit (Reg.MON_RQ_CTRL q) 30 then 50000 else 1600000) / s.rqDecim q

/-- The combined rate of the other enabled queues and this one stays within 409.6 million a second (R143). -/
def rqFits (s : State) (q : Nat) : Bool :=
  decide ((List.range 16).foldl (fun a i => if i = q ∨ s.rbit (Reg.MON_RQ_CTRL i) 31 then a + s.rqRate i else a) 0 ≤ 409600000)

/-- A queue's EN is set (R143, R156): from empty, with its drops cleared. -/
def rqEnable (q : Nat) (s : State) : State :=
  if s.rbit (Reg.MON_RQ_CTRL q) 31 then s
  else if !s.rqFits q then s.orReg (Reg.MON_RQ_STATUS q) 0x10000
  else ((s.orReg (Reg.MON_RQ_CTRL q) 0x80000000).setReg (Reg.MON_RQ_DROPS q) 0).setRq q {}

/-- A queue's EN is cleared (R145). -/
def rqDisable (q : Nat) (s : State) : State :=
  if s.rbit (Reg.MON_RQ_CTRL q) 31 then (s.discardRq q).clrReg (Reg.MON_RQ_CTRL q) 0x80000000 else s

/-- A write of MON_RQ_CTRLq (R12, R156): the RWL fields first, then EN. -/
def rqCtrl (q : Nat) (v : Word) (s : State) : State :=
  let k := Reg.MON_RQ_CTRL q
  let s1 := s.rwlWrite k 0 0x43FF0F07 (s.rbit k 31) (Reg.MON_RQ_STATUS q) 0x80000 v
  if bit v 31 then s1.rqEnable q else s1.rqDisable q

/-! ### Ports (R148–R151) -/

/-- The registers of a port side. -/
def sideCfg (p : Nat) (out : Bool) : Nat := if out then Reg.MON_PORT_CFG_OUT p else Reg.MON_PORT_CFG p
def sideDwell (p : Nat) (out : Bool) : Nat := if out then Reg.MON_PORT_DWELL_OUT p else Reg.MON_PORT_DWELL p
def sideK (p : Nat) (out : Bool) : Nat := if out then Reg.MON_PORT_K_OUT p else Reg.MON_PORT_K p
def sidePwr (p : Nat) (out : Bool) : Nat := if out then Reg.MON_PORT_PWR_OUT p else Reg.MON_PORT_PWR p
def sideNo (p : Nat) (out : Bool) : Nat := 2 * p + b2n out
def side (s : State) (p : Nat) (out : Bool) : Side := Tab.get {} (sideNo p out) s.mon.sides
def setSide (p : Nat) (out : Bool) (x : Side) (s : State) : State := { s with mon := { s.mon with sides := Tab.put {} (sideNo p out) x s.mon.sides } }

/-- POWER in 0.01 dBm (R148): I × K / 2²⁴ mW, I = VALUE × 10^GAIN µA above the lane's full-scale code; zero or less, or below −327.67 dBm,
is −32,768. The error the spec allows is a free value within ±1 (log entry 4). -/
def powerOf (value : Int) (gain k fullBits : Nat) : Int :=
  let num := value.toNat * 10 ^ gain * k
  if num = 0 then -32768
  else
    let x := Maths.log1000 num (2 ^ (fullBits + 24))
    if x < -32767 then -32768 else clampI (x + ((Config.powErr value gain k % 3 : Nat) : Int) - 1) (-32767) 32767

/-- The input port the active map or, in graph mode, the drive image feeds an output from (R24, R38, R149). -/
def feederOf (s : State) (out : Nat) : Option Nat :=
  if s.graph then
    match s.fab.fdr with
    | some f => some (backRef f.topo s.gst.activeVec f.cells (f.topo.getD (2 * f.cells + out) 0x8000))
    | none => none
  else (s.gst.activeMap.find? (fun e => decide (e.1 = out))).map Prod.snd

/-- A side may be judged apart from its result's flags (R149). -/
def sideOpen (s : State) (p : Nat) (out : Bool) : Bool :=
  let unused := match s.fab.fdr with | some f => ((f.portEnts.getD p { inLabel := 0, outLabel := 0, flags := 0 }).flags).testBit (b2n out) | none => true
  let inLull := match s.gst.lull with | some l => l.outs.contains p | none => false
  s.rbit (sideCfg p out) 31 && s.fabValid && !unused && (!out || s.graph || ((s.feederOf p).isSome && !inLull))

/-- The FDR label of a port side (R35). -/
def sideLabel (s : State) (p : Nat) (out : Bool) : Nat :=
  match s.fab.fdr with
  | some f => (fun (e : PortEnt) => if out then e.outLabel else e.inLabel) (f.portEnts.getD p { inLabel := 0, outLabel := 0, flags := 0 })
  | none => 0

/-- EVT of a port event (R281): the instant less the group delay of the filter, less or plus the port's compensation (log entry 52 DEDUCED). -/
def portEvt (s : State) (p : Nat) (out filt : Bool) : Nat :=
  let dly := if out then sext 32 (s.rnat (Reg.TIM_PORT_DLY_OUT p)) else -(sext 32 (s.rnat (Reg.TIM_PORT_DLY_IN p)))
  (((s.now * 1000 : Nat) : Int) - (if filt then 50312500 else 40312500) + dly).toNat / 1000

/-- Loss of light of a side changes (R150, R151): counts clear, and an event unless it came from its input. -/
def setLos (p : Nat) (out on cause : Bool) (m : Mon) (pad : Nat) (pw : Int) (s : State) : State :=
  let quiet := cause || s.rbit (sidePwr p out) 17
  let s1 := (s.setReg (sidePwr p out) (putBit (putBit (s.reg (sidePwr p out)) 16 on) 17 (on && cause))).setSide p out {}
  if quiet then s1
  else s1.event 2 (if on then 0x20 else 0x21) 0 (s.portEvt p out m.filt) (p % 1024 + 2 ^ 15 * b2n out + 2 ^ 16 * s.sideLabel p out)
    (pad % 2 ^ 13 + 2 ^ 16 * low 16 pw) 0 0

/-- A judged result moves a side's counts and its loss of light (R150) (log entry 54 DEDUCED). -/
def judgeSide (p : Nat) (out : Bool) (m : Mon) (pad : Nat) (pw : Int) (s : State) : State :=
  let cfg := s.reg (sideCfg p out)
  let dw := s.reg (sideDwell p out)
  let x := s.side p out
  let thr := sext 16 (field cfg 15 0)
  if s.rbit (sidePwr p out) 16 then
    let n := if pw ≥ thr + (field cfg 25 16 : Nat) then x.off + 1 else 0
    if n ≥ max 1 (field dw 31 16) then s.setLos p out false false m pad pw else s.setSide p out { x with off := n }
  else
    let n := if pw < thr then x.on + 1 else 0
    let s1 := s.setSide p out { x with on := n }
    if n < max 1 (field dw 15 0) then s1
    else
      match (if out then s.feederOf p else none) with
      | some i =>
        if s.rbit (sidePwr i false) 16 then s1.setLos p out true true m pad pw
        else if (s.side i false).on ≠ 0 then s1
        else s1.setLos p out true false m pad pw
      | none => s1.setLos p out true false m pad pw

/-- One port side at a fine-lane instant: POWER, then judgement (R148, R149). -/
def portSide (out : Bool) (s : State) (p : Nat) : State :=
  match s.monOf (4 + b2n out) p with
  | none => s
  | some ch =>
    let m := s.monCh ch
    let pw := powerOf m.fine m.gain (s.rnat (sideK p out)) 23
    let judged := s.sideOpen p out && decide (m.fineFl &&& 0x45 = 0)
    let s1 := (s.setField (sidePwr p out) 15 0 (low 16 pw)).setField (sidePwr p out) 18 18 (b2n judged)
    if judged then s1.judgeSide p out m (padOf ch m) pw else s1

/-- Every port side, inputs before outputs (R150). -/
def portsAll (s : State) : State :=
  (List.range s.nPorts).foldl (portSide true) ((List.range s.nPorts).foldl (portSide false) s)

/-- LOS enters the flags of the Selvedge results as it stands after the judgement (R135). -/
def stampLos (s : State) : State :=
  let one (ch : Nat) (m : Mon) : Mon := if (m.kind = 4 ∨ m.kind = 5) ∧ monServes ch m = true then { m with fineFl := m.fineFl + 32 * b2n (s.losBit m) } else m
  { s with mon := { s.mon with chans := Tab.mapAll one s.mon.chans } }

/-! ### Changes of gain and filter (R136, R137) -/

/-- Autorange on one fine result (R137): the step it decides, and the run of low results. -/
def autoStep (m : Mon) : Mon :=
  if !m.auto ∨ ¬(m.role = 9 ∨ m.role = 10) then { m with step := 0, lowRun := 0 }
  else if m.fineFl.testBit 0 then { m with step := 0 }
  else if m.fineFl.testBit 1 ∨ 9 * 2 ^ 23 ≤ 10 * m.fine.natAbs then { m with step := 1, lowRun := 0 }
  else if 100 * m.fine.natAbs < 8 * 2 ^ 23 then
    (if m.lowRun + 1 ≥ 16 then { m with step := -1, lowRun := 0 } else { m with step := 0, lowRun := m.lowRun + 1 })
  else { m with step := 0, lowRun := 0 }

/-- What comes into force for a channel after a fine-lane instant (R136, R155): a write of MON_CFG and an autorange step together. -/
def takeCfg (s : State) (ch : Nat) : State :=
  let m := s.monCh ch
  let want : Nat := match m.req with
    | some r => if r.testBit 3 then (clampI ((m.gain : Int) + m.step) 0 3).toNat else r % 4
    | none => (clampI ((m.gain : Int) + m.step) 0 3).toNat
  let filt : Bool := match m.req with | some r => r.testBit 2 | none => m.filt
  let auto : Bool := match m.req with | some r => r.testBit 3 | none => m.auto
  let stepped := decide (m.step ≠ 0) && decide (want ≠ m.gain) && (match m.req with | some r => r.testBit 3 | none => true)
  let dg := decide (want ≠ m.gain)
  let df := filt != m.filt
  if !dg && !df then (if m.req.isNone && decide (m.step = 0) then s else s.setMon ch { m with req := none, auto := auto, step := 0 })
  else
    let m1 : Mon := { m with gain := want, filt := filt, auto := auto, req := none, step := 0, setFast := if dg then 3 else m.setFast,
                             setFine := if df then 5 else 4, subst := false }
    let s1 := (s.setMon ch m1).recEvent 1 (bytesOf 2 (padOf ch m) ++ bytesOf 1 want ++ bytesOf 1 (b2n filt))
    if stepped then s1.bump (Reg.MON_TCNT (ch / 96)) 15 0 1 else s1

/-- The corrections of every monitor channel come from the set in force (R317, R322) at each tile's T_IN_FORCE. -/
def takeMonCorr (s : State) : State :=
  let one (s : State) (ch : Nat) : State :=
    let t := sext 16 (s.fld (Reg.CAL_TILE (ch / 96)) 15 0)
    (List.range 4).foldl (fun (s : State) g =>
      let c := monCorr s.cal.store ch g t
      s.setReg (corrKey ch g) (word (c.1 % 2 ^ 16 * 2 ^ 16 + low 16 c.2))) s
  let s1 : State := (List.range (96 * s.part.tiles)).foldl one s
  { s1 with cal := { s1.cal with monDue := false }, mon := { s1.mon with calSeen := s1.mon.calSeen || s1.cal.everInForce } }

/-- The recorder's FINE record (R571, R572): mode 0 only. -/
def recFine (s : State) : State :=
  if s.recd.mode ≠ 0 then s
  else
    let o := s.results true
    s.recAppend 0x01 (bytesOf 2 o.length ++ bytesOf 6 0 ++ (o.map (fun e => bytesOf 3 (low 24 e.2.value))).foldr (· ++ ·) [])

/-- Usable tap results enter the demodulators (R221). -/
def tapsIn (s : State) : State :=
  (s.mon.chans.filter (fun e => decide (e.2.kind = 3) && monServes e.1 e.2 && decide (e.2.fineFl &&& 0x47 = 0))).foldl
    (fun (s : State) e => s.demodCell e.2.elem e.2.fine) s

/-- Manual injections: the start is recorded at the instant it begins, and one that ended long enough ago is forgotten (R139, R574). -/
def injInstant (s : State) : State :=
  let s1 : State := s.mon.inj.foldl (fun (s : State) (e : Nat × Inj) =>
    if s.clk ≤ e.2.fromClk ∧ e.2.fromClk ≤ s.clk + 4 then
      s.recEvent 13 (bytesOf 1 e.1 ++ bytesOf 1 e.2.index ++ bytesOf 2 (s.fld (Reg.MON_INJ e.1) 15 0)) else s) s
  { s1 with mon := { s1.mon with inj := s1.mon.inj.filter (fun e => match e.2.untilClk with | some t => decide (s.clk < t + 161 * 128) | none => true) } }

/-- What every fine-lane instant does first: the correction set is taken, each channel has its result by `one`, port sides are judged (R130, R133,
R148–R151, R322). -/
def fineWith (one : State → Nat → State) (s : State) : State :=
  let s0 : State := { s with mon := { s.mon with fineAt := some s.time.g } }
  let s1 : State := if s0.cal.monDue then s0.takeMonCorr else s0
  let s2 := (((s1.mon.chans.map Prod.fst).foldl one s1).setReg Reg.MON_GPHASE (word (s.now % 20000)))
  (s2.portsAll).stampLos

/-- A fine-lane instant (R130, R133–R137, R146, R148–R151, R221, R322). -/
def fineInstant (raw : List (Nat × MonRaw)) (s : State) : State :=
  let s3 := s.fineWith (fineOne raw)
  let s4 := (((s3.rqAll true).seqSample true).recFine).tapsIn
  let s5 : State := { s4 with mon := { s4.mon with chans := Tab.mapAll (fun ch m => if monServes ch m then autoStep m else m) s4.mon.chans } }
  (((s5.mon.chans.map Prod.fst).foldl takeCfg s5).spFine).injInstant

/-! ### Writes -/

/-- A write of MON_CFG (R137, R155): the fields taken wait for the next fine-lane instant (log entry 56 DEDUCED). -/
def monCfgWrite (ch : Nat) (v : Word) (s : State) : State :=
  let m := s.monCh ch
  let cur := m.req.getD (m.gain + 4 * b2n m.filt + 8 * b2n m.auto)
  let tap := decide (m.role = 8)
  let auto := bit v 11 && !tap
  let keepGain := auto && decide (field v 9 8 ≠ cur % 4)
  let want := (if keepGain then cur % 4 else field v 9 8) + 4 * field v 10 10 + 8 * b2n auto
  let s1 := s.setMon ch { m with req := some want }
  if keepGain || (bit v 11 && tap) then s1.orReg (Reg.MON_STATUS (ch / 96)) 0x10 else s1

/-- The user of a tile's calibration DAC (R138, R153) (log entry 57 DEDUCED). -/
def dacUser (s : State) (t : Nat) : Nat :=
  let cal := match s.cal.run with | some r => (s.runTiles r.cmd).contains t | none => false
  let ready := s.mon.track.any (fun e => decide (e.1 / 12 = t) && !e.2.ready)
  if cal then 1 else if ready || s.mon.diag.isSome then 2 else if s.rbit (Reg.MON_INJ t) 31 then 3 else 0

/-- A manual injection ends (R138, R139): by its EN, or pre-empted by a calibration. -/
def injEnd (t : Nat) (s : State) : State :=
  let s1 : State := match Tab.find t s.mon.inj with
    | some i => if i.untilClk.isSome then s
        else ({ s with mon := { s.mon with inj := Tab.set t { i with untilClk := some s.clk } s.mon.inj } }).recEvent 13
          (bytesOf 1 t ++ bytesOf 1 i.index ++ bytesOf 2 0)
    | none => s
  s1.clrReg (Reg.MON_INJ t) 0x80000000

/-- A calibration takes a tile's DAC (R138). -/
def injPreempt (t : Nat) (s : State) : State :=
  if s.rbit (Reg.MON_INJ t) 31 then (s.injEnd t).orReg (Reg.MON_STATUS t) 0x200 else s

/-- The clock of the first fine-lane instant after the present clock (R131). -/
def nextFineClk (s : State) : Nat := s.nextTick + 128 * ((31 + 32 - s.time.g % 32) % 32)

/-- A write of MON_INJ (R138, R139). -/
def injWrite (t : Nat) (v : Word) (s : State) : State :=
  if bit v 31 then
    if s.dacUser t ≠ 0 then s.orReg (Reg.MON_STATUS t) 0x100
    else
      let s1 := s.setReg (Reg.MON_INJ t) (v &&& 0x807FFFFF)
      { s1 with mon := { s1.mon with inj := Tab.set t { index := field v 22 16, fromClk := s.nextFineClk + 4, untilClk := none } s1.mon.inj } }
  else (s.injEnd t).setReg (Reg.MON_INJ t) (v &&& 0x007FFFFF)

/-! ### Diagnosis (R140, R141) -/

/-- Codes 2 to 6 of R141 that one gain's measurement meets, lowest first; 9 where the response passes and the spec names no result for the
noise measured (log entry 58 DESIGN CHOICE). -/
def diagCode (d : DiagRes) : Nat :=
  let r := (2 * d.s1 - (d.s0 + d.s2)).natAbs
  let signed := 2 * d.s1 - (d.s0 + d.s2)
  let full := 16 * 2 ^ 22
  if signed * 10 < (full : Nat) then 2
  else if d.stuck then 3
  else if signed * 100 < (95 * full : Nat) ∨ r * 100 > 105 * full then 4
  else if d.noise = 2 then 5
  else if (d.s0 - d.s2).natAbs * 100 > 8 * 2 ^ 23 ∨ d.s0 * 10 > (4 * 8 * 2 ^ 23 : Nat) then 6
  else if d.noise = 1 then 9
  else 1

/-- The channels a diagnosis covers (R140, R157): all, or spares not standing in, tracking or READY, and channels that are OFF. -/
def diagCovers (s : State) (mode ch : Nat) : Bool :=
  if mode = 0 then true
  else
    let m := s.monCh ch
    let spare := decide (92 ≤ ch % 96)
    let k : SpKey := { mon := true, tile := ch / 96, j := ch % 96 - 92 }
    if spare then !s.spForce k && !s.spPend k && !s.spReady k && decide (m.role = 0) else decide (m.role = 0)

/-- The result of one channel (R141): the lowest failing code, the gains that failed, BAD of a spare. -/
def diagPut (ch : Nat) (ds : List DiagRes) (s : State) : State :=
  let bad := ds.filter (fun d => decide (2 ≤ diagCode d) && decide (diagCode d ≤ 6))
  let open_ := ds.any (fun d => decide (diagCode d = 9))
  let d := s.drawNat
  let code := match bad with
    | [] => if open_ then d.1 % 16 else 1
    | x :: r => r.foldl (fun a y => min a (diagCode y)) (diagCode x)
  let s0 : State := if bad.isEmpty && open_ then d.2 else s
  let gains := bad.foldl (fun a y => a ||| 2 ^ (y.gain % 4)) 0
  let s1 := s0.setReg (Reg.MON_CSTAT (ch / 96) (ch % 96)) (word (16 * gains + code))
  let s2 : State := if 92 ≤ ch % 96 then
      (if 2 ≤ code ∧ code ≤ 5 then s1.orReg (Reg.MON_SPARE (ch / 96) (ch % 96 - 92)) 0x800000
       else if code = 1 then s1.clrReg (Reg.MON_SPARE (ch / 96) (ch % 96 - 92)) 0x800000 else s1) else s1
  if 2 ≤ code ∧ code ≤ 6 then s2.bump Reg.MON_DIAG_STATUS 31 16 1 else s2

/-- A diagnosis starts, or is refused (R140). -/
def diagStart (v : Word) (s : State) : State :=
  let s1 := s.maskWrite Reg.MON_DIAG_CTRL 4 v
  let mode := field v 2 2
  if s.mon.diag.isSome || (decide (mode = 0) && s.fabOn) then s1.orReg Reg.MON_DIAG_STATUS 8
  else (({ s1 with mon := { s1.mon with diag := some mode } }).setField Reg.MON_DIAG_STATUS 31 16 0).orReg Reg.MON_DIAG_STATUS 1

/-- A running diagnosis stops (R157). -/
def diagStop (s : State) : State :=
  if s.mon.diag.isNone then s
  else (({ s with mon := { s.mon with diag := none } }).clrReg Reg.MON_DIAG_STATUS 1).orReg Reg.MON_DIAG_STATUS 4

/-- A write of MON_DIAG_CTRL: STOP, then START. -/
def diagCtrl (v : Word) (s : State) : State :=
  let s1 : State := if bit v 1 then s.diagStop else s
  if bit v 0 then s1.diagStart v else s1.maskWrite Reg.MON_DIAG_CTRL 4 v

/-- A write of a port side's CFG or DWELL (R156): its counts are zeroed. -/
def portWrite (p : Nat) (out dwell : Bool) (v : Word) (s : State) : State :=
  let s1 := if dwell then s.setReg (sideDwell p out) v else s.maskWrite (sideCfg p out) 0x83FFFFFF v
  s1.setSide p out {}

/-- MON_GCTRL.ALIGN (R132). -/
def alignRequest (s : State) : State := if s.fabOn then s.orReg Reg.MON_GSTAT 4 else s.orReg Reg.MON_GSTAT 2

/-- The shift of the grid, in drive clocks, that puts its fine-lane instants on multiples of 20,000 ns of device time (R132): the next
interval is lengthened, or shortened where less than one interval is enough (log entry 31). -/
def alignShift (s : State) : Int :=
  let t := s.now + nsOfClks (s.nextFineClk - s.clk)
  let d := clksNs ((20000 - t % 20000) % 20000) % 4096
  if 4096 - d < 128 then (d : Int) - 4096 else d

end State

open State

/-- FINE_LANE_INSTANT (R130): on a grid index that is a multiple of 32, once. -/
def execFineLaneInstant (raw : List (Nat × MonRaw)) (s : State) : Res :=
  .next (if s.time.on && !s.inReplay && decide (s.time.g % 32 = 0) && decide (s.mon.fineAt ≠ some s.time.g) then s.fineInstant raw else s)

/-- RESULT_QUEUE_AGE_EXPIRY (R144): the oldest result has waited AGE µs. -/
def execResultQueueAgeExpiry (q : Nat) (s : State) : Res :=
  let x := s.rq q
  let age := s.fld (Reg.MON_RQ_WM q) 27 16
  match x.store with
  | r :: _ => .next (if q < 16 ∧ age ≠ 0 ∧ r.at_ + clksUs age ≤ s.clk ∧ !x.asked then s.setRq q { x with asked := true } else s)
  | [] => .next s

/-- MON_CFG_WRITE (R137). -/
def execMonCfgWrite (u : Cu) (ch : Nat) (v : Word) (s : State) : Res :=
  if ch < 96 * s.part.tiles then .next (s.baseWrite u (Reg.MON_CFG (ch / 96) (ch % 96)) v (fun s => s.monCfgWrite ch v)) else .next s

/-- MON_GRID_ALIGN_REQUEST (R132). -/
def execMonGridAlignRequest (u : Cu) (v : Word) (s : State) : Res :=
  .next (s.baseWrite u Reg.MON_GCTRL (v ||| 1) State.alignRequest)

/-- GRID_ALIGN (R132): at the first drive clock of a device-time second, while PPS disciplines device time and ALIGN_PEND stands. -/
def execGridAlign (s : State) : Res :=
  let due := s.rbit Reg.MON_GSTAT 1 && s.time.on && decide (s.time.ns * 2 ^ 32 + s.time.frac < incOf s.freq (if s.time.phLeft = 0 then 0 else s.time.ph)) &&
    decide (s.fld Reg.TIM_STATUS 2 0 = 2)
  if !due then .next s
  else
    let d := s.alignShift
    let s1 : State := { s with time := { s.time with interval := ((s.time.interval : Int) + d).toNat } }
    .next (((s1.clrReg Reg.MON_GSTAT 2).orReg Reg.MON_GSTAT 1).setField Reg.MON_GSTAT 31 25 (low 7 ((s.fld Reg.MON_GSTAT 31 25 : Nat) + d)))

/-- MON_INJECT_START (R138, R139). -/
def execMonInjectStart (u : Cu) (tile : Nat) (v : Word) (s : State) : Res :=
  if tile < s.part.tiles then .next (s.baseWrite u (Reg.MON_INJ tile) (v ||| 0x80000000) (fun s => s.injWrite tile (v ||| 0x80000000))) else .next s

/-- MON_INJECT_STOP (R139). -/
def execMonInjectStop (u : Cu) (tile : Nat) (v : Word) (s : State) : Res :=
  if tile < s.part.tiles then .next (s.baseWrite u (Reg.MON_INJ tile) (v &&& 0x7FFFFFFF) (fun s => s.injWrite tile (v &&& 0x7FFFFFFF))) else .next s

/-- MON_DIAG_START (R140). -/
def execMonDiagStart (u : Cu) (v : Word) (s : State) : Res :=
  .next (s.baseWrite u Reg.MON_DIAG_CTRL (v ||| 1) (fun s => s.diagCtrl (v ||| 1)))

/-- MON_DIAG_STOP (R157). -/
def execMonDiagStop (u : Cu) (v : Word) (s : State) : Res :=
  .next (s.baseWrite u Reg.MON_DIAG_CTRL (v ||| 2) (fun s => s.diagCtrl (v ||| 2)))

/-- MON_DIAG_DONE (R141). -/
def execMonDiagDone (res : List (Nat × List DiagRes)) (s : State) : Res :=
  match s.mon.diag with
  | none => .next s
  | some mode =>
    let one (t : State) (ch : Nat) : State :=
      if s.diagCovers mode ch then (match res.find? (fun e => decide (e.1 = ch)) with | some e => t.diagPut ch e.2 | none => t)
      else t.setReg (Reg.MON_CSTAT (ch / 96) (ch % 96)) 7
    let s1 : State := (List.range (96 * s.part.tiles)).foldl one s
    .next ((({ s1 with mon := { s1.mon with diag := none } }).clrReg Reg.MON_DIAG_STATUS 1).orReg Reg.MON_DIAG_STATUS 2)

/-- MON_COUNT_CLEAR (R152). -/
def execMonCountClear (u : Cu) (tile : Nat) (v : Word) (s : State) : Res :=
  if tile < s.part.tiles then .next (s.baseWrite u (Reg.MON_TCTRL tile) (v ||| 1) (fun s => s.setReg (Reg.MON_TCNT tile) 0)) else .next s

/-- RESULT_QUEUE_ENABLE (R143). -/
def execResultQueueEnable (u : Cu) (q : Nat) (v : Word) (s : State) : Res :=
  if q < 16 then .next (s.baseWrite u (Reg.MON_RQ_CTRL q) (v ||| 0x80000000) (fun s => s.rqCtrl q (v ||| 0x80000000))) else .next s

/-- RESULT_QUEUE_DISABLE (R145). -/
def execResultQueueDisable (u : Cu) (q : Nat) (v : Word) (s : State) : Res :=
  if q < 16 then .next (s.baseWrite u (Reg.MON_RQ_CTRL q) (v &&& 0x7FFFFFFF) (fun s => s.rqCtrl q (v &&& 0x7FFFFFFF))) else .next s

/-- MON_SPARE_REQUEST (R146). -/
def execMonSpareRequest (u : Cu) (tile j : Nat) (v : Word) (s : State) : Res :=
  if tile < s.part.tiles ∧ j < 4 then
    .next (s.baseWrite u (Reg.MON_SPARE tile j) (v ||| 0x80000000) (fun s => s.spRequest { mon := true, tile := tile, j := j } (field v 7 0) none false))
  else .next s

/-- MON_SPARE_RELEASE (R146). -/
def execMonSpareRelease (u : Cu) (tile j : Nat) (v : Word) (s : State) : Res :=
  if tile < s.part.tiles ∧ j < 4 then
    .next (s.baseWrite u (Reg.MON_SPARE tile j) (v &&& 0x7FFFFFFF) (fun s => s.spRelease { mon := true, tile := tile, j := j } (field v 7 0) none false))
  else .next s

/-- MON_SPARE_READINESS_DONE (R146): the injection check of the incoming channel ends, while the entry is PEND and not READY, the fabric is
driven (R111) and the DAC is not with a calibration (R138). -/
def execMonSpareReadinessDone (tile j : Nat) (agree : Bool) (s : State) : Res :=
  let k : SpKey := { mon := true, tile := tile, j := j }
  if tile < s.part.tiles && decide (j < 4) && s.spPend k && !s.spReady k && s.fabOn && decide (s.dacUser tile ≠ 1) then
    let s1 := s.spTracked k agree
    .next (if agree then { s1 with mon := { s1.mon with track := s1.mon.track.map (fun e => if e.1 = spId k then (e.1, { e.2 with ready := true }) else e) } } else s1)
  else .next s

/-- MON_PORT_CFG_WRITE (R156). -/
def execMonPortCfgWrite (u : Cu) (port : Nat) (out dwell : Bool) (v : Word) (s : State) : Res :=
  if port < s.part.ports then
    .next (s.baseWrite u (if dwell then State.sideDwell port out else State.sideCfg port out) v (fun s => s.portWrite port out dwell v))
  else .next s

end Sys2Proof.Machine
end

