-- ==== Sys2Proof/Machine/Drive.lean ====
section
/-! DEFINITION. The update tick and the drive channels' commands (R89, R92–R120, R428, R531, R534): releases of hold, calibration boundaries,
tracking, evaluation, compliance, the keeper's parity and the fast lane. -/
namespace Sys2Proof.Machine

namespace State

/-- The next update tick is reached: the drive clocks up to it pass and the grid index moves on (R92, R130). -/
def tickOn (s : State) : State :=
  let t := s.nextTick
  let s1 : State := if s.clk < t then s.advance (t - s.clk) else s
  { s1 with time := { s1.time with g := s1.time.g + 1, lastTick := t, interval := 128 } }

/-! ### Release of hold (R106, R428, R534) -/

/-- Every channel resumes from DRV_HOLD.LOGICAL (R106). -/
def unhold (s : State) : State :=
  let one (ch : Nat) (c : Chan) : Chan := if c.serves ch then { c with r := c.holdL, cnt := 0 } else c
  { s with drv := { s.drv with chans := Tab.mapAll one s.drv.chans, held := false, parked := false } }

/-- Thimble's safe state ends (R534): FLT_SAFE clears, SAFE_STATE, the log's record, the recorder's SAFE. -/
def endSafe (s : State) : State :=
  let was := s.safeState
  let s1 : State := { s with flt := { s.flt with callers := [] }, drv := { s.drv with relThimble := false } }
  (((s1.setReg Reg.FLT_SAFE 0).safeEvent 0x100 s.safeSrc (s.fld Reg.FLT_SAFE 7 4)).logPut 3 0 0 s.safeSrc 0 was).recEvent 3 [if was = 1 then 1 else 2, 0]

/-- The hold of a gap ends (R428). -/
def endGap (s : State) : State :=
  (({ s with drv := { s.drv with relGap := false } }).clrReg Reg.TKN_STATE (2 ^ 28)).recEvent 3 [3, 0]

/-- Releases that fall due on an update tick: the channels resume once neither Thimble nor a gap holds them (R106, R229, R532). -/
def releases (s : State) : State :=
  if !s.drv.relThimble && !s.drv.relGap then s
  else
    let th := s.drv.relThimble && decide (s.safeState ≠ 0)
    let s1 : State := if th then s.endSafe else { s with drv := { s.drv with relThimble := false } }
    let s2 : State := if s1.drv.relGap && s1.gap then s1.endGap else { s1 with drv := { s1.drv with relGap := false } }
    if s2.heldNow then s2 else if th then (s2.presetHeld).unhold else s2.unhold

/-! ### Boundaries and tracking -/

/-- The update tick is a boundary of R320: the drive is off, or an idle period was declared and no Lull and no preload runs. -/
def calTick (s : State) : State :=
  let idle := s.cal.idleSince.isSome && s.gst.lull.isNone && s.gst.pre.isNone
  if !s.fabOn || idle then ({ s with cal := { s.cal with idleSince := none, cycleDue := false } }).calBoundary
  else if s.cal.cycleDue then
    let s1 : State := { s with cal := { s.cal with cycleDue := false } }
    if s.rbit Reg.CAL_CTRL 1 then s1.forceUpdates else s1
  else s

/-- Drive entries that track: the 64 ticks begin, and the incoming channel follows the serving one (R108, R111). -/
def trackTick (s : State) : State :=
  if !s.fabOn || s.drv.track.isEmpty then s
  else
    let start (t : SpareTrack) : SpareTrack := { t with startG := some (t.startG.getD s.time.g) }
    let s1 : State := { s with drv := { s.drv with track := s.drv.track.map (fun e => (e.1, start e.2)) } }
    s1.drvKeys.foldl (fun (s : State) k => s.spCopy k) s1

/-- DRV_SLEW and DRV_PE as written come into force (R94, R119). -/
def takeShape (s : State) : State :=
  let one (ch : Nat) (c : Chan) : Chan :=
    { c with slew := s.reg (Reg.DRV_SLEW (ch / 240) (ch % 240)), pe := s.reg (Reg.DRV_PE (ch / 240) (ch % 240)) }
  { s with drv := { s.drv with chans := Tab.mapAll one s.drv.chans } }

/-! ### Compliance and parity (R89, R531) -/

/-- The channels whose headroom counts on a tick (R89): no pulse runs, and the DAC code last changed 100 ns ago or more. `before` is the state
at the tick before the channels were evaluated. -/
def complies (before : State) (ch : Nat) : Bool :=
  let c := before.chan ch
  c.serves ch && before.fab.powered && !before.fab.stagesDown.testBit (if c.kind = 2 then 0 else 1) && c.pulse.isNone && decide (c.chgClk + 21 ≤ before.clk)

/-- Channels in compliance set their flags; the tiles that ask for it report them (R89). -/
def noteCompliance (chs : List Nat) (s : State) : State × List FaultRep :=
  let s1 : State := chs.foldl (fun (s : State) ch => (s.orReg (Reg.DRV_QSTAT (ch / 240) (ch % 240)) 0x400).orReg (Reg.DRV_STATUS (ch / 240)) 8) s
  (s1, (chs.filter (fun ch => s.rbit (Reg.DRV_TCTRL (ch / 240)) 1)).map (fun ch => { src := 21, detail := ch }))

/-! ### Fast captures (R573) -/

/-- The fast results of the Selvedge pads of an instant. -/
def edgeFast (s : State) : List (Nat × Int) :=
  (s.mon.chans.filter (fun e => (decide (e.2.kind = 4) || decide (e.2.kind = 5)) && monServes e.1 e.2)).foldl
    (fun l e => Tab.set (padOf e.1 e.2) e.2.fast l) []

/-- The FASTCAP record of a capture whose last instant has come. -/
def capRecord (d gd : Nat) (pads : List Nat) (s : State) : State :=
  let insts := s.recd.fastHist.filter (fun e => decide (gd ≤ e.1 + 16) && decide (e.1 ≤ gd + 85))
  let first := match insts with | e :: _ => e.1 | [] => gd
  let vals := insts.map (fun e => (pads.map (fun p => bytesOf 2 (low 16 (Tab.get 0 p e.2)))).foldr (· ++ ·) [])
  s.recAppend 0x09 (bytesOf 8 d ++ bytesOf 8 first ++ bytesOf 2 insts.length ++ bytesOf 2 pads.length ++ bytesOf 4 0 ++
    (pads.map (bytesOf 2)).foldr (· ++ ·) [] ++ vals.foldr (· ++ ·) [])

/-- Captures on a tick: the results of the last 102 instants are kept while CAP_EN is set. -/
def capTick (s : State) : State :=
  if !s.rbit Reg.REC_CTRL 8 && s.recd.cap.isNone then { s with recd := { s.recd with fastHist := [] } }
  else
    let h := s.recd.fastHist ++ [(s.time.g, s.edgeFast)]
    let s1 : State := { s with recd := { s.recd with fastHist := h.drop (h.length - 102) } }
    match s1.recd.cap with
    | some (d, gd, pads) => if gd + 85 ≤ s1.time.g then ({ s1 with recd := { s1.recd with cap := none } }).capRecord d gd pads else s1
    | none => s1

/-! ### The tick -/

/-- One update tick (R92, R93, R126, R130): `fast` are the converters' codes, `low` the channels whose headroom is below 50 mV, `parity` the
channels whose keeper parity fails. -/
def tick (fast : List (Nat × MonRaw)) (low parity : List Nat) (s : State) : State :=
  let s1 := ((((s.tickOn).releases).calTick).trackTick).takeShape
  let chs := low.filter (fun ch => s1.complies ch)
  let s2 : State := if s1.fab.powered then s1.evalWhere true false (fun _ _ => true) else s1
  let c := s2.noteCompliance chs
  let s3 := ((((c.1.fastAll fast).rqAll false).seqSample false).seqTick).capTick
  let reps := c.2 ++ parity.map (fun ch => ({ src := 24, detail := ch } : FaultRep))
  if reps.isEmpty then s3 else s3.report reps

/-! ### Queues, slew and counts -/

/-- R91 names the host as a writer of a channel's queue now (R98). -/
def hostMayQueue (s : State) (ch : Nat) : Bool :=
  let c := s.chan ch
  s.fabOn && c.serves ch && (decide (c.kind = 6) || (decide (c.kind ≤ 1) && decide ((s.loopCell c.elem).st.mode < 2)))

/-- A host write of DRV_QUEUE (R97, R98) (log entry 51 DEDUCED). -/
def queueWrite (ch : Nat) (v : Word) (s : State) : State :=
  if bit v 31 then s.setChan ch { s.chan ch with queue := [] }
  else if s.hostMayQueue ch then s.enqueue ch (field v 15 0)
  else s.orReg (Reg.DRV_STATUS (ch / 240)) 2

/-- A host write of DRV_SLEW (R94, R110): the counter clears; a relieved primary discards it. -/
def slewWrite (ch : Nat) (v : Word) (s : State) : State :=
  let c := s.chan ch
  if ch % 240 < 228 ∧ c.partner.isSome then s
  else (s.setChan ch { c with cnt := 0 }).maskWrite (Reg.DRV_SLEW (ch / 240) (ch % 240)) 0x0FFF00FF v

end State

open State

/-- DRV_QUEUE_WRITE (R97, R98). -/
def execDrvQueueWrite (u : Cu) (ch : Nat) (v : Word) (s : State) : Res :=
  if ch < 240 * s.part.tiles then
    .next (s.baseWrite u (Reg.DRV_QUEUE (ch / 240) (ch % 240)) (v &&& 0x7FFFFFFF) (fun s => s.queueWrite ch (v &&& 0x7FFFFFFF)))
  else .next s

/-- DRV_QUEUE_FLUSH (R98). -/
def execDrvQueueFlush (u : Cu) (ch : Nat) (v : Word) (s : State) : Res :=
  if ch < 240 * s.part.tiles then
    .next (s.baseWrite u (Reg.DRV_QUEUE (ch / 240) (ch % 240)) (v ||| 0x80000000) (fun s => s.queueWrite ch (v ||| 0x80000000)))
  else .next s

/-- DRV_SLEW_WRITE (R94). -/
def execDrvSlewWrite (u : Cu) (ch : Nat) (v : Word) (s : State) : Res :=
  if ch < 240 * s.part.tiles then
    .next (s.baseWrite u (Reg.DRV_SLEW (ch / 240) (ch % 240)) v (fun s => s.slewWrite ch v))
  else .next s

/-- A write of DRV_TCTRL (R12, R114): CNT_CLR clears DRV_TCNT; PH_MODE is locked while the fabric is driven. -/
def State.tctrlWrite (tile : Nat) (v : Word) (s : State) : State :=
  let s1 := s.rwlWrite (Reg.DRV_TCTRL tile) 2 1 s.fabOn (Reg.DRV_STATUS tile) 1 v
  if bit v 2 then s1.setReg (Reg.DRV_TCNT tile) 0 else s1

/-- DRV_COUNT_CLEAR (R114). -/
def execDrvCountClear (u : Cu) (tile : Nat) (v : Word) (s : State) : Res :=
  if tile < s.part.tiles then .next (s.baseWrite u (Reg.DRV_TCTRL tile) (v ||| 4) (fun s => s.tctrlWrite tile (v ||| 4))) else .next s

/-- PRE_EMPHASIS_END (R102): WIDTH periods of the 819.2 MHz clock have passed, four to a drive clock. -/
def execPreEmphasisEnd (ch : Nat) (s : State) : Res :=
  let c := s.chan ch
  match c.pulse with
  | some p => .next (if 4 * p.startClk + p.width ≤ 4 * s.clk then s.setChan ch { c with pulse := none } else s)
  | none => .next s

/-- DRV_SPARE_REQUEST (R108, R112). -/
def execDrvSpareRequest (u : Cu) (tile j : Nat) (v : Word) (s : State) : Res :=
  if tile < s.part.tiles ∧ j < 12 then
    .next (s.baseWrite u (Reg.DRV_SPARE tile j) (v ||| 0x80000000) (fun s => s.spRequest { mon := false, tile := tile, j := j } (field v 7 0) none false))
  else .next s

/-- DRV_SPARE_RELEASE (R108, R112). -/
def execDrvSpareRelease (u : Cu) (tile j : Nat) (v : Word) (s : State) : Res :=
  if tile < s.part.tiles ∧ j < 12 then
    .next (s.baseWrite u (Reg.DRV_SPARE tile j) (v &&& 0x7FFFFFFF) (fun s => s.spRelease { mon := false, tile := tile, j := j } (field v 7 0) none false))
  else .next s

/-- DRV_SPARE_TRACKING_DONE (R108): after 64 update ticks of tracking. -/
def execDrvSpareTrackingDone (tile j : Nat) (agree : Bool) (s : State) : Res :=
  let k : SpKey := { mon := false, tile := tile, j := j }
  match Tab.find (spId k) s.drv.track with
  | some t => .next (match t.startG with
      | some g => if s.fabOn && s.spPend k && !s.spReady k && decide (g + 64 ≤ s.time.g) && decide (tile < s.part.tiles) && decide (j < 12) then s.spTracked k agree else s
      | none => s)
  | none => .next s

end Sys2Proof.Machine
end

