-- ==== Sys2Proof/Machine/Loop.lean ====
section
/-! DEFINITION. Loop instants, modes, classes and Squall (R215–R245, R401, R402). -/
namespace Sys2Proof.Machine

namespace State

/-! ### Classes (R230–R232) -/

/-- Offsets of the coefficient registers of a class, ascending (R243). -/
def clsOffs : List Nat := [0x00, 0x04, 0x08, 0x0C, 0x10, 0x14, 0x18, 0x1C, 0x20]

/-- The bits of a coefficient register that a field uses (R243). -/
def clsMask (off : Nat) : Nat :=
  match off with
  | 0x00 | 0x04 | 0x08 | 0x14 | 0x1C => 0xFFFFFFFF
  | 0x0C => 0xFF0F771F
  | 0x10 => 0x00001FFF
  | 0x18 => 0x0FFFFFFF
  | 0x20 => 0x00FFFFFF
  | _ => 0

/-- The key of class `n`'s register at an offset. -/
def clsKey (n off : Nat) : Nat := Reg.LOOP_KP n + off

/-- Every class register written since the last instant takes effect (R230), with its CLASS record. -/
def takeClasses (s : State) : State :=
  (List.range 16).foldl (fun (s : State) n =>
    clsOffs.foldl (fun (s : State) off =>
      let k := clsKey n off
      if s.clsReg k = s.reg k then s
      else ({ s with loop := { s.loop with clsVals := Tab.put (regReset s.part k) k (s.reg k) s.loop.clsVals } }).recEvent 5
        (bytesOf 1 n ++ bytesOf 1 off ++ bytesOf 4 (s.rnat k))) s) s

/-- Cells of classes whose LOOP_AMP changed have DRV_BRZ.AMP written anew (R217). -/
def ditherClasses (before : State) (s : State) : State :=
  s.loop.cells.foldl (fun (s : State) e =>
    if before.clsReg (Reg.LOOP_AMP e.2.cls) = s.clsReg (Reg.LOOP_AMP e.2.cls) then s else s.setDither e.1) s

/-- LOOP_CLS_STAT takes LOOP_CLS_HOLD (R231). -/
def takeHolds (s : State) : State :=
  let h := s.reg Reg.LOOP_CLS_HOLD &&& 0xFFFF
  if h = s.reg Reg.LOOP_CLS_STAT then s else (s.setReg Reg.LOOP_CLS_STAT h).recEvent 6 (bytesOf 2 h.toNat)

/-- Class `n` is held in force (R231). -/
def clsHeld (s : State) (n : Nat) : Bool := s.rbit Reg.LOOP_CLS_STAT n

/-- The nine words of a LOOP_SET go into the registers of its class (R232, R401). -/
def writeSet (c : Cmd) (s : State) : State :=
  (clsOffs.zip (List.range 9)).foldl (fun (s : State) e => s.setReg (clsKey (c.b 4) e.1) (word (c.w (16 + 4 * e.2)))) s

/-- A LOOP_SET whose operands are refused: CLASS above 15, AMP above 4,096, or a reserved bit set (R401). -/
def setBad (c : Cmd) : Bool :=
  decide (15 < c.b 4) || decide (4096 < c.w 32) ||
  (clsOffs.zip (List.range 9)).any (fun e => decide ((word (c.w (16 + 4 * e.2)) &&& ~~~(BitVec.ofNat 32 (clsMask e.1))) ≠ 0))

/-- A LOOP_SET acts (R232, R401): with HOLD_WRAP, and no hold of the host's, the hold is asked for first. -/
def loopSetAct (c : Cmd) (late : Bool) (s : State) : State :=
  let n := c.b 4
  let wrap := (c.b 5).testBit 0 && !s.rbit Reg.LOOP_CLS_HOLD n
  let w : Wrap := { cmd := c, cls := n, late := late, stage := if wrap then 0 else 2, held := wrap }
  let s1 : State := { s with loop := { s.loop with wraps := s.loop.wraps ++ [w] } }
  if wrap then s1.orReg Reg.LOOP_CLS_HOLD (2 ^ n) else s1.writeSet c

/-- One waiting LOOP_SET at a loop instant (R231, R232): hold in force, then the registers are written and the release asked for; at the
instant of the release it completes. -/
def wrapStep (s : State) (w : Wrap) : State :=
  if w.stage = 0 then
    if s.clsHeld w.cls then
      let s1 := (s.writeSet w.cmd).clrReg Reg.LOOP_CLS_HOLD (2 ^ w.cls)
      { s1 with loop := { s1.loop with wraps := s1.loop.wraps.map (fun x => if x = w then { w with stage := 2, held := false } else x) } }
    else s
  else
    let s1 : State := { s with loop := { s.loop with wraps := s.loop.wraps.filter (fun x => decide (x ≠ w)) } }
    s1.complete w.cmd (okStatus w.late) 0 s.time.g (s.time.g / 2 ^ 32) 0 0

/-! ### Modes (R222, R227, R228) -/

/-- A cell of a Squall run that leaves it early gets a result (R236). -/
def squallMark (cell result : Nat) (s : State) : State :=
  match s.loop.squall with
  | none => s
  | some q => { s with loop := { s.loop with squall := some { q with cells := q.cells.map (fun x =>
      if x.cell = cell ∧ x.result = 0 then { x with result := result } else x) } } }

/-- A cell's present active code: that of its active arm. -/
def armCode (s : State) (cell : Nat) : Nat := match s.armChan cell with | some ch => (s.chan ch).active | none => 0

/-- A cell takes a mode at a loop instant (R227, R228); one that is in SQUALL leaves its run (log entry 32). -/
def takeMode (cell mode : Nat) (s : State) : State :=
  let l := s.loopCell cell
  if l.st.mode = mode then s
  else
    let s1 : State := if l.st.mode = 3 then s.squallMark cell 4 else s
    let s2 := s1.setLoopCell cell { l with st := { l.st with mode := mode } }
    let s3 : State := if mode = 2 then s2.presetCell cell (s2.armCode cell) else s2
    s3.setDither cell

/-- A cell's waiting requests take effect at a loop instant: mode, light override, preset (R227–R229). -/
def takeCell (s : State) (cell : Nat) : State :=
  let l := s.loopCell cell
  if !l.hasLoop then s
  else
    let l1 : LoopCell := { l with modeReq := none, lightReq := none, st := { l.st with light := l.lightReq.getD l.st.light } }
    let s1 : State := if l1 = l then s else s.setLoopCell cell l1
    let s2 : State := if l.presetDue then s1.presetCell cell (s1.armCode cell) else s1
    match l.modeReq with
    | some m => s2.takeMode cell m
    | none => s2

/-- The cells a LOOP_MODE names (R402). -/
def modeCells (c : Cmd) : List Nat := (List.range (c.h 18)).map (fun i => c.h 16 + i)

/-- Whether a cell of a LOOP_MODE's range is affected. -/
def modePicks (s : State) (c : Cmd) (cell : Nat) : Bool :=
  (s.loopCell cell).hasLoop && (!(c.b 5).testBit 7 || decide ((s.loopCell cell).cls = c.b 5 % 16))

/-- LOOP_MODE MANUAL or AUTO acts (R402): requests for the next loop instant, at which it completes. -/
def modeAct (mode : Nat) (c : Cmd) (late : Bool) (s : State) : State :=
  if c.h 16 + c.h 18 > s.nCells then s.refuse c 0x05
  else
    let s1 : State := (modeCells c).foldl (fun (s : State) i =>
      if s.modePicks c i then s.setLoopCell i { s.loopCell i with modeReq := some mode } else s) s
    { s1 with loop := { s1.loop with modeCmds := s1.loop.modeCmds ++ [(c, late)] } }

/-- A waiting LOOP_MODE completes at a loop instant (R402). -/
def modeDone (s : State) (e : Cmd × Bool) : State :=
  let cells := modeCells e.1
  s.complete e.1 (okStatus e.2) 0 (cells.filter (fun i => s.modePicks e.1 i)).length
    (cells.filter (fun i => !(s.loopCell i).hasLoop)).length s.time.g 0

/-! ### Squall (R235–R237) -/

/-- A Squall run may start (R235). -/
def squallOk (cls h : Nat) (cells : List Nat) (s : State) : Bool :=
  s.loop.squall.isNone && decide (h ≠ 0) && decide (h ≤ 4095) && s.fabOn && s.rbit Reg.LOOP_CTRL 0 && decide (cls < 16) &&
  cells.all (fun c => (s.loopCell c).hasLoop && decide ((s.loopCell c).cls = cls))

/-- A run starts (R235): BUSY, results cleared, the START recorded. -/
def squallBegin (cls h : Nat) (cells : List Nat) (cmd : Option Cmd) (s : State) : State :=
  let mk (c : Nat) : SqCell := { cell := c, prevMode := 1, b := 0, level := 0, inst := 0, rises := [], lo := 0, hi := 0, result := 0, tu16 := 0, amp := 0 }
  let s1 : State := { s with loop := { s.loop with squall := some { cls := cls, h := h, cells := cells.map mk, started := false, cmd := cmd, late := false } } }
  let s2 : State := (List.range 16).foldl (fun (s : State) j => s.setReg (Reg.LOOP_SQ_RES j) 0) s1
  ((s2.orReg Reg.LOOP_SQ_STATUS 1).clrReg Reg.LOOP_SQ_STATUS 0x1F0000).recEvent 10
    (bytesOf 1 1 ++ bytesOf 2 h ++ (cells.map (bytesOf 2)).foldr (· ++ ·) [])

/-- One named cell enters SQUALL at the instant that begins the run (R222, R235). -/
def squallEnter (s : State) (x : SqCell) : State :=
  let l := s.loopCell x.cell
  (s.setLoopCell x.cell { l with st := { l.st with mode := 3, z := 0 }, n := 0 }).setDither x.cell

/-- The run begins at a loop instant. -/
def squallStartRun (s : State) : State :=
  match s.loop.squall with
  | some q =>
    if q.started then s
    else
      let cells := q.cells.map (fun x => { x with b := s.armCode x.cell, prevMode := (s.loopCell x.cell).st.mode })
      let s1 : State := { s with loop := { s.loop with squall := some { q with cells := cells, started := true } } }
      cells.foldl squallEnter s1
  | none => s

/-- One relay step of a cell (R235, R236): the new level, and the measurement while it runs. -/
def relay (h eps : Nat) (e : Option Int) (dim : Bool) (x : SqCell) : SqCell :=
  let i := x.inst + 1
  let x1 : SqCell := { x with inst := i }
  let x2 : SqCell := match e with
    | none => if dim ∧ x.result = 0 then { x1 with result := 3 } else x1
    | some e =>
      let level : Int := if e > (eps : Int) then (h : Int) else if e < -(eps : Int) then -(h : Int) else x.level
      let rise := decide (x.level = -(h : Int)) && decide (level = (h : Int)) && decide (h ≠ 0)
      let rises := if rise && decide (x.rises.length < 7) then x.rises ++ [i] else x.rises
      let fin := decide (x.rises.length = 6) && decide (rises.length = 7)
      let meas := decide (3 ≤ rises.length) && !fin && decide (x.rises.length < 7)
      let first := decide (rises.length = 3) && rise
      let lo := if meas then (if first then e else min x.lo e) else x.lo
      let hi := if meas then (if first then e else max x.hi e) else x.hi
      let x3 : SqCell := { x1 with level := level, rises := rises, lo := lo, hi := hi }
      if fin ∧ x.result = 0 then
        { x3 with result := 1, tu16 := 4 * (rises.getD 6 0 - rises.getD 2 0), amp := ((hi - lo) / 2).toNat }
      else x3
  if x2.result = 0 ∧ 400 ≤ i then { x2 with result := 2 } else x2

/-- The proposal of a run (R236): KPc and KIc of each OK cell, the lower median of each, none below three cells. -/
def median (l : List Int) : Int := (l.mergeSort (fun a b => decide (a ≤ b))).getD ((l.length - 1) / 2) 0
def kpOf (h sh : Nat) (x : SqCell) : Int := ((h * 37549 * 2 ^ sh + x.amp / 2) / max 1 x.amp : Nat)
def kiOf (h sh : Nat) (x : SqCell) : Int := (kpOf h sh x * 96 + (5 * x.tu16 / 2 : Nat)) / ((max 1 (5 * x.tu16) : Nat) : Int)

/-- A run ends with DONE (R236, R237). -/
def squallFinish (q : Squall) (s : State) : State :=
  let sh := (s.clsVals q.cls).sh
  let ok := q.cells.filter (fun x => decide (x.result = 1))
  let prop := decide (3 ≤ ok.length)
  let kp := if prop then median (ok.map (kpOf q.h sh)) else 0
  let ki := if prop then median (ok.map (kiOf q.h sh)) else 0
  let s1 : State := { s with loop := { s.loop with squall := none } }
  let s2 : State := q.cells.foldl squallRestore s1
  let s3 := ((s2.squallResults q.cells).setReg Reg.LOOP_SQ_PROP_KP (word (low 32 kp))).setReg Reg.LOOP_SQ_PROP_KI (word (low 32 ki))
  let s4 := ((s3.clrReg Reg.LOOP_SQ_STATUS 0x1F0001).orReg Reg.LOOP_SQ_STATUS (2 + (if prop then 0 else 0x10))).setField Reg.LOOP_SQ_STATUS 20 16 ok.length
  let s5 := s4.recEvent 10 (bytesOf 1 2 ++ (q.cells.map (fun x => bytesOf 2 x.cell ++ bytesOf 2 x.result)).foldr (· ++ ·) [])
  s5.completeOpt q.cmd 0 0 (ok.length + 256 * b2n (!prop)) (low 32 kp) (low 32 ki) 0

/-- A write of LOOP_SQ_CTRL (R235, R237): the fields, STOP, then START. -/
def squallCtrl (v : Word) (s : State) : State :=
  let s1 := s.maskWrite Reg.LOOP_SQ_CTRL 0x0FFF0FF0 v
  let s2 : State := if bit v 1 then s1.abortSquall else s1
  if !bit v 0 then s2
  else
    let cells := (List.range (field v 7 4 + 1)).map (fun j => s2.fld (Reg.LOOP_SQ_CELL j) 12 0)
    if !s2.squallOk (field v 11 8) (field v 27 16) cells then s2.orReg Reg.LOOP_SQ_STATUS 8
    else
      let s3 := s2.squallBegin (field v 11 8) (field v 27 16) cells none
      if s.heldNow then s3.abortSquall else s3

/-- LOOP_MODE SQUALL acts (R402) (log entry 74 DEDUCED). -/
def squallAct (c : Cmd) (late : Bool) (s : State) : State :=
  let n := c.b 48
  let cells := (List.range n).map (fun j => c.h (16 + 2 * j))
  if s.loop.squall.isSome then s.refuse c 0x11
  else if n < 1 ∨ 16 < n ∨ cells.any (fun x => decide (s.nCells ≤ x)) ∨ !s.squallOk (c.b 5) (c.h 6) cells then s.refuse c 0x05
  else if s.unsafeNow then s.refuse c 0x0F
  else
    let s1 := s.squallBegin (c.b 5) (c.h 6) cells (some c)
    match s1.loop.squall with
    | some q => { s1 with loop := { s1.loop with squall := some { q with late := late } } }
    | none => s1

/-! ### The loop instant (R218, R224, R225, R238–R240) -/

/-- What a cell brings to a loop instant: the error, none where nothing was usable or the cell is DIM (R224). -/
def cellError (s : State) (cell : Nat) : Option Int × Bool :=
  let l := s.loopCell cell
  match s.cellLight cell with
  | none => (none, true)
  | some sl => if l.n = 0 then (none, false) else (some ((if s.cellState cell then -1 else 1) * sl * l.st.z), false)

/-- A Gust's Lull, not a null one, runs (R225 in_lull). -/
def inLull (s : State) : Bool := match s.gst.lull with | some l => !l.null | none => false

/-- A loop instant that an AUTO cell counted within a Lull (R267). -/
def countLull (cell : Nat) (s : State) : State :=
  match s.gst.lull with
  | some l => { s with gst := { s.gst with lull := some { l with counted := Tab.put 0 cell (Tab.get 0 cell l.counted + 1) l.counted } } }
  | none => s

/-- One AUTO cell at a loop instant (R225, R238). -/
def autoCell (s : State) (cell : Nat) : State :=
  let l := s.loopCell cell
  let er := s.cellError cell
  match er.1, s.armChan cell with
  | some e, some ch =>
    let c := s.chan ch
    let v := s.clsVals l.cls
    let held := s.clsHeld l.cls
    let r := loopLaw v l.st e l.fresh s.inLull c.codeMin c.codeMax
    let base : CellSt := if held then { l.st with dim := false } else { r.1 with dim := false }
    let st := loopHealth v base e r.2.1 r.2.2 held c.codeMin c.codeMax
    let s1 := (s.countLull cell).setLoopCell cell { l with st := st, lastE := e, fresh := l.fresh && held, n := 0, satRep := l.satRep && decide (st.satcnt ≠ 0) }
    if held then s1
    else { s1 with loop := { s1.loop with outs := s1.loop.outs ++ [{ cell := cell, arm := s.armOf cell (s.cellState cell), code := r.2.1 }] } }
  | _, _ => s.setLoopCell cell { l with st := { l.st with dim := er.2 }, n := 0 }

/-- The relay of every cell of a run at a loop instant (R235). -/
def squallInstant (s : State) : State :=
  match s.loop.squall with
  | none => s
  | some q =>
    if !q.started then s
    else
      let eps := s.fld Reg.LOOP_SQ_EPS 23 0
      let one (acc : List SqCell × List LoopOut) (x : SqCell) : List SqCell × List LoopOut :=
        let er := s.cellError x.cell
        let y := relay q.h eps er.1 er.2 x
        let out : LoopOut := { cell := x.cell, arm := s.armOf x.cell (s.cellState x.cell), code := (clampI ((y.b : Int) + y.level) 0 65535).toNat }
        (acc.1 ++ [y], if er.1.isSome ∧ (s.loopCell x.cell).st.mode = 3 then acc.2 ++ [out] else acc.2)
      let r := q.cells.foldl one ([], [])
      let s1 : State := { s with loop := { s.loop with squall := some { q with cells := r.1 }, outs := s.loop.outs ++ r.2 } }
      q.cells.foldl (fun (s : State) x =>
        let l := s.loopCell x.cell
        let er := s1.cellError x.cell
        if l.st.mode = 3 then s.setLoopCell x.cell { l with n := 0, lastE := er.1.getD l.lastE, st := { l.st with dim := er.2 } } else s) s1

/-- The marks the cells' figures call for, in one marking action (R239). -/
def markCells (s : State) : State :=
  let want := (s.loop.cells.filter (fun e => e.2.hasLoop)).map (fun e => (e.1, loopMark (s.clsVals e.2.cls) e.2.st))
  let s1 := s.deviceMark (want.filter (fun e => decide (s.mark e.1 < e.2)))
  if s1.reg Reg.FAB_EPOCH = s.reg Reg.FAB_EPOCH then s1 else (s1.orReg Reg.LOOP_STATUS 0x20).bump Reg.LOOP_CNT 15 0 1

/-- Cells whose SATCNT has reached SAT_FLT are reported once in a run (R240). -/
def satReports (s : State) : State :=
  let hit := s.loop.cells.filter (fun e => e.2.hasLoop && !e.2.satRep && decide (e.2.st.satcnt ≠ 0) &&
    decide (field (s.clsVals e.2.cls).hlth1 31 16 ≤ e.2.st.satcnt))
  if hit.isEmpty then s
  else
    let s1 : State := hit.foldl (fun (s : State) e => s.setLoopCell e.1 { s.loopCell e.1 with satRep := true }) s
    (s1.orReg Reg.LOOP_STATUS 0x10).report (hit.map (fun e => { src := 20, detail := e.1 }))

/-- The recorder's DRIVE record (R571): x of each element in image order, kinds 0 and 1 only in mode 1. -/
def recDrive (s : State) : State :=
  let kinds := if s.recd.mode = 0 then [0, 1, 2] else [0, 1]
  let x (k c : Nat) : List Byte := bytesOf 2 (match s.drvOf k c with | some ch => (s.chan ch).x | none => 0)
  let body := ((List.range s.nCells).map (fun c => (kinds.map (fun k => x k c)).foldr (· ++ ·) [])).foldr (· ++ ·) []
  s.recAppend 0x02 (bytesOf 2 (kinds.length * s.nCells) ++ bytesOf 6 0 ++ body)

/-- What takes effect at every loop instant whether or not the loops run: class registers, holds, modes, waiting commands (R227–R232). -/
def instantChanges (s : State) : State :=
  let s1 := ((s.takeClasses).takeHolds)
  let s2 := s1.ditherClasses s
  let s3 : State := (s2.loop.cells.map Prod.fst).foldl takeCell s2
  let s4 := s3.squallStartRun
  let s5 : State := s4.loop.wraps.foldl wrapStep s4
  s5.loop.modeCmds.foldl modeDone { s5 with loop := { s5.loop with modeCmds := [] } }

/-- A loop instant (R218) (log entry 72 DEDUCED). -/
def loopInstant (s : State) : State :=
  let s0 : State := { s with loop := { s.loop with instAt := some s.time.g } }
  let s1 := ((s0.throttleInstant).instantChanges).recDrive
  if !s1.loopsRun then s1
  else
    let s2 := s1.wrapInc Reg.LOOP_INST
    let s3 : State := match s2.holder with | some u => s2.pmcEvent u 0x05 0 1 | none => s2
    let s4 : State := { s3 with loop := { s3.loop with outs := [], outAt := s3.time.g + 40 } }
    let auto := (s4.loop.cells.filter (fun e => e.2.hasLoop && decide (e.2.st.mode = 2))).map Prod.fst
    let s5 := (auto.foldl autoCell s4).squallInstant
    (s5.markCells).satReports

/-- An instant whose updates do not end in time (R219): as though it had not occurred. -/
def loopOverrun (s : State) : State :=
  let s0 : State := { s with loop := { s.loop with instAt := some s.time.g } }
  let s1 := (((s0.throttleInstant).orReg Reg.LOOP_STATUS 8).bump Reg.LOOP_CNT 31 16 1).recEvent 7 []
  match s1.holder with
  | some u => (s1.pmcEvent u 0x06 0 1).report1 (localSrc u 9) 0
  | none => s1

/-- The outputs of the last instant enter the active arms' queues (R218, R220). -/
def applyOutputs (s : State) : State :=
  let outs := s.loop.outs
  let s1 : State := { s with loop := { s.loop with outs := [] } }
  if s.heldNow || s.drv.held || !s.fabOn then s1
  else outs.foldl (fun (s : State) o => match s.drvOf o.arm o.cell with | some ch => s.enqueue ch o.code | none => s) s1

/-- A write of LOOP_CELL_CFG (R227, R245): the holder's cell takes its mode and light override at the next loop instant; a
write from a unit without the token is refused. -/
def cellCfgWrite (u : Cu) (cell : Nat) (v : Word) (s : State) : State :=
  if !s.holds u then s.dropWrite u
  else
    let l := s.loopCell cell
    if !l.hasLoop then s
    else
      let m := field v 1 0
      let l1 : LoopCell := { l with modeReq := if m = 1 ∨ m = 2 then some m else l.modeReq, lightReq := some (field v 5 4),
                                    st := { l.st with strikes := if bit v 31 then 0 else l.st.strikes } }
      (s.recWrite u (Reg.LOOP_CELL_CFG u cell) v).setLoopCell cell l1

end State

open State

/-- LOOP_INSTANT (R218, R219, R225): on a grid index that is a multiple of PERIOD, once. -/
def execLoopInstant (overrun : Bool) (s : State) : Res :=
  .next (if s.time.on && decide (s.time.g % s.loopPeriod = 0) && decide (s.loop.instAt ≠ some s.time.g) then
    (if overrun && s.loopsRun && !s.inReplay then s.loopOverrun else s.loopInstant) else s)

/-- LOOP_OUTPUT_APPLY (R218): given between update ticks L + 39 and L + 40, so that the codes become active on the latter. -/
def execLoopOutputApply (s : State) : Res :=
  .next (if !s.loop.outs.isEmpty && decide (s.loop.outAt ≤ s.time.g + 1) then s.applyOutputs else s)

/-- LOOP_MODE_MANUAL (R227, R402). -/
def execLoopModeManual (c : Cmd) (s : State) : Res :=
  .next (s.runDesc c 0x09 (fun s =>
    if c.b 4 ≠ 1 ∨ c.h 16 + c.h 18 > s.nCells then s.refuse c 0x05 else s.timed c (fun late s => s.modeAct 1 c late)))

/-- LOOP_MODE_AUTO (R228, R402). -/
def execLoopModeAuto (c : Cmd) (s : State) : Res :=
  .next (s.runDesc c 0x09 (fun s =>
    if c.b 4 ≠ 2 ∨ c.h 16 + c.h 18 > s.nCells then s.refuse c 0x05 else s.timed c (fun late s => s.modeAct 2 c late)))

/-- LOOP_CELL_MODE_WRITE (R227). -/
def execLoopCellModeWrite (u : Cu) (cell : Nat) (v : Word) (s : State) : Res :=
  if cell < 4864 then .next (s.cellCfgWrite u cell v) else .next s

/-- CLR_STRIKE (R245). -/
def execClrStrike (u : Cu) (cell : Nat) (v : Word) (s : State) : Res :=
  if cell < 4864 then .next (s.cellCfgWrite u cell (v ||| 0x80000000)) else .next s

/-- LOOP_CLS_HOLD_WRITE (R231). -/
def execLoopClsHoldWrite (u : Cu) (v : Word) (s : State) : Res :=
  .next (s.baseWrite u Reg.LOOP_CLS_HOLD v (fun s => s.setReg Reg.LOOP_CLS_HOLD (v &&& 0xFFFF)))

/-- LOOP_CLASS_WRITE (R230): the register waits for the next loop instant. -/
def execLoopClassWrite (u : Cu) (cls off : Nat) (v : Word) (s : State) : Res :=
  if cls < 16 ∧ State.clsOffs.contains off then
    .next (s.baseWrite u (State.clsKey cls off) v (fun s => s.setReg (State.clsKey cls off) (v &&& BitVec.ofNat 32 (State.clsMask off))))
  else .next s

/-- LOOP_SET (R232, R401). -/
def execLoopSet (c : Cmd) (s : State) : Res :=
  .next (s.runDesc c 0x08 (fun s => if State.setBad c then s.refuse c 0x05 else s.timed c (fun late s => s.loopSetAct c late)))

/-- SQUALL_START (R235, R402). -/
def execSquallStart (via : Via) (s : State) : Res :=
  match via with
  | .reg u v => .next (s.baseWrite u Reg.LOOP_SQ_CTRL (v ||| 1) (fun s => s.squallCtrl (v ||| 1)))
  | .desc c => .next (s.runDesc c 0x09 (fun s =>
      if c.b 4 ≠ 3 then s.refuse c 0x05 else s.timed c (fun late s => s.squallAct c late)))

/-- SQUALL_STOP (R237). -/
def execSquallStop (u : Cu) (v : Word) (s : State) : Res :=
  .next (s.baseWrite u Reg.LOOP_SQ_CTRL (v ||| 2) (fun s => s.squallCtrl (v ||| 2)))

/-- SQUALL_END (R236): every cell of the run has its result. -/
def execSquallEnd (s : State) : Res :=
  match s.loop.squall with
  | some q => .next (if q.started && q.cells.all (fun x => decide (x.result ≠ 0)) then s.squallFinish q else s)
  | none => .next s

/-- LOOP_COUNT_CLEAR (R241). -/
def execLoopCountClear (u : Cu) (v : Word) (s : State) : Res :=
  .next (s.baseWrite u Reg.LOOP_CMD (v ||| 1) (fun s => s.setReg Reg.LOOP_CNT 0))

end Sys2Proof.Machine
end

