-- ==== Sys2Proof/Machine/Draught.lean ====
section
/-! DEFINITION. Draught (R246–R269): the trajectory a Baste computes, the tile temperatures a preload forms, replay and fold during the Lull,
refinement at its end, and the table's commands. -/
namespace Sys2Proof.Machine

/-- A source of a trajectory (R246): actuator 3c + kind, Δu and delay in points (R252). -/
structure DrtSource where
  act : Nat
  du : Int
  delay : Nat

/-- What one source contributes to one arm (R251): cell, point delay, Δu times the coefficient of each class, and the source for R267. -/
structure DrtTerm where
  cell : Nat
  delay : Nat
  w : List Int
  src : Nat × Nat × Int

namespace State

/-! ### The coupling model (R246–R250) -/

/-- The drive measure u of a code of an actuator (R246). -/
def drtU (s : State) (act code : Nat) : Int :=
  match s.elemEnt (act % 3) (act / 3) with
  | some e => if e.role = 1 then (code : Int) else (code * code / 65536 : Nat)
  | none => (code * code / 65536 : Nat)

/-- The calibration temperatures of the table, 0.01 °C (R248). -/
def drtTemps : List Int := [-4000, -2000, 0, 2000, 4000, 5500, 7000, 8500, 10000]

/-- The index of a coefficient in the table, in 16-bit units (R248). -/
def drtIndex (src t j m k : Nat) : Nat := 3456 * src + ((t * 64 + j) * 2 + m) * 3 + k
def drtCoeff (s : State) (i : Nat) : Int := Tab.get 0 i s.drt.coeff
def setCoeff (i : Nat) (v : Int) (s : State) : State := { s with drt := { s.drt with coeff := Tab.put 0 i v s.drt.coeff } }

/-- The largest temperature index whose temperature is at most t, from a list of candidates. -/
def drtBelow (t : Int) : List Nat → Nat
  | [] => 0
  | j :: r => if drtTemps.getD j 0 ≤ t then drtBelow' t j r else drtBelow t r
where
  drtBelow' (t : Int) (best : Nat) : List Nat → Nat
    | [] => best
    | j :: r => if drtTemps.getD j 0 ≤ t then drtBelow' t j r else drtBelow' t best r

/-- A coefficient interpolated in the source's tile temperature (R249). -/
def drtA (s : State) (src j m k : Nat) (t : Int) : Int :=
  let a (i : Nat) : Int := s.drtCoeff (drtIndex src i j m k)
  if t < -4000 then a 0
  else if 10000 ≤ t then a 8
  else
    let i := drtBelow t (List.range 9)
    lerp (drtTemps.getD i 0) (a i) (drtTemps.getD (i + 1) 0) (a (i + 1)) t

/-- The temperature index nearest a temperature (R267). -/
def drtNearest (t : Int) : Nat :=
  (List.range 9).foldl (fun (best : Nat) i => if (drtTemps.getD i 0 - t).natAbs < (drtTemps.getD best 0 - t).natAbs then i else best) 0

/-- W_k[i] as DRT_RESP holds it (R250, R268). -/
def drtW (s : State) (k i : Nat) : Int := (s.fld (Reg.DRT_RESP (128 * k + i / 2)) (16 * (i % 2) + 15) (16 * (i % 2)) : Nat)

/-- Refill W_k (R250) (log entry 100 DEDUCED). -/
def drtFill (k : Nat) (s : State) : State :=
  let tau := 100 * max 1 (s.fld (Reg.DRT_TAU0 + 4 * k) 15 0)
  (List.range 100).foldl (fun (s : State) j => s.setReg (Reg.DRT_RESP (128 * k + j))
    (word ((Maths.response tau (2 * j)).toNat + 65536 * (Maths.response tau (2 * j + 1)).toNat))) s

/-- DRT_LIMIT (R268). -/
def drtLimit (s : State) : Nat := s.fld Reg.DRT_LIMIT 13 0

/-! ### Computing a trajectory (R251–R257) -/

/-- The delay of a trim source (R252). -/
def drtDelay (s : State) (act old new : Nat) : Nat :=
  if 2 ≤ act % 3 then 0
  else match s.drvOf (act % 3) (act / 3) with
    | none => 0
    | some ch =>
      let c := s.chan ch
      let d := if old ≤ new then new - old else old - new
      if c.step = 0 then 0 else min 199 ((d + c.step - 1) / c.step * c.rate / 32)

/-- The sources of a transition (R246). -/
def drtSources (s : State) (old new : List Nat) : List DrtSource :=
  (List.range (3 * s.nCells)).filterMap (fun a =>
    let x := old.getD a 0
    let y := new.getD a 0
    if x = y then none else some { act := a, du := s.drtU a y - s.drtU a x, delay := s.drtDelay a x y })

/-- The list of an actuator (R34). -/
def drtList (s : State) (act : Nat) : List Nat := match s.fab.fdr with | some f => f.neigh.getD act [] | none => []

/-- What a source contributes (R247, R251). -/
def drtTerms (s : State) (vec : Nat) (x : DrtSource) : List DrtTerm :=
  let t := s.tileTemp (s.elemTile (x.act % 3) (x.act / 3))
  let l := s.drtList x.act
  (l.zip (List.range l.length)).map (fun e =>
    let m := s.armOf e.1 (vec.testBit e.1)
    { cell := e.1, delay := x.delay, w := [0, 1, 2].map (fun k => s.drtA x.act e.2 m k t * x.du), src := (x.act, e.2, x.du) })

/-- The unclamped point i of an arm: (v + 2³⁰) >> 31 (R251). -/
def drtRaw (s : State) (terms : List DrtTerm) (i : Nat) : Int :=
  let v : Int := terms.foldl (fun (a : Int) x =>
    if x.delay ≤ i then a + x.w.getD 0 0 * s.drtW 0 (i - x.delay) + x.w.getD 1 0 * s.drtW 1 (i - x.delay) + x.w.getD 2 0 * s.drtW 2 (i - x.delay) else a) 0
  asr (v + 0x40000000) 31

/-- The source of the largest class 2 contribution, ties to the lower one (R267). -/
def drtTop (terms : List DrtTerm) : Option (Nat × Nat × Int) :=
  (terms.foldl (fun (b : Option DrtTerm) x => match b with
    | none => some x
    | some y => if (x.w.getD 2 0).natAbs > (y.w.getD 2 0).natAbs then some x else some y) none).map DrtTerm.src

/-- The tile slope S of a changed cell's arm (R252). -/
def drtSlope (s : State) (cell arm : Nat) (cross : Bool) : Int :=
  let tile := s.elemTile 0 cell
  match knotsAt (s.tileTemp tile) (cellKnots s.cal.store tile cell (b2n cross)) with
  | some (a, b) =>
    let f (c : CellCal) : Int :=
      let w := if cross then c.wCross else c.wBar
      ((if arm = 0 then w.1 else w.2 : Nat) : Int)
    if a.1 = b.1 then 0 else ((f b.2 - f a.2) * 100).tdiv (b.1 - a.1)
  | none => 0

/-- One arm of a trajectory, with how many of its points were limited. -/
def drtArm (s : State) (old new : Nat) (terms : List DrtTerm) (cell : Nat) : Arm × Nat :=
  let mine := terms.filter (fun x => decide (x.cell = cell))
  let cross := new.testBit cell
  let arm := s.armOf cell cross
  let changed := old.testBit cell != cross
  let raw := (List.range 200).map (fun i => s.drtRaw mine i)
  let lim : Int := (s.drtLimit : Int)
  let pts := raw.map (fun v => clampI v (-lim) lim)
  ({ cell := cell, arm := arm, changed := changed, slope := if changed then s.drtSlope cell arm cross else 0,
     peak := pts.foldl (fun m v => max m v.natAbs) 0, pts := pts, top := drtTop mine }, (raw.filter (fun v => decide (clampI v (-lim) lim ≠ v))).length)

/-- An arm has a non-zero point or slope (R254). -/
def armLive (a : Arm) : Bool := decide (a.peak ≠ 0) || decide (a.slope ≠ 0)

/-- The arms a record keeps, sorted by cell, and how many it leaves out (R254) (log entry 70 DEDUCED). -/
def drtKeep (arms : List Arm) : List Arm × Nat :=
  if arms.length ≤ 2048 then (arms, 0)
  else
    let hot := arms.filter armLive
    let rank := hot.mergeSort (fun a b => decide (b.peak < a.peak) || (decide (a.peak = b.peak) && decide (a.cell ≤ b.cell)))
    ((rank.take 2048).mergeSort (fun a b => decide (a.cell ≤ b.cell)), hot.length - 2048)

/-- The tile temperatures a Baste uses, 2⁻¹⁶ °C (R252). -/
def tilesFine (s : State) : List Int :=
  (List.range 64).map (fun t => if t < s.part.tiles then (s.tileTemp t * 65536).fdiv 100 else 0)

/-- The trajectory from one image to another (R246–R257). -/
def drtCompute (slot bgen oSlot oBgen : Nat) (old new : List Nat) (oldVec newVec : Nat) (half : Bool) (s : State) : Traj × State :=
  let src := s.drtSources old new
  let terms := src.flatMap (fun x => s.drtTerms newVec x)
  let cells := (List.range s.nCells).filter (fun c => terms.any (fun x => decide (x.cell = c)) || (oldVec.testBit c != newVec.testBit c))
  let all := cells.map (fun c => s.drtArm oldVec newVec terms c)
  let keep := drtKeep (all.map Prod.fst)
  let clipped := all.foldl (fun n x => n + x.2) 0
  let tr : Traj := { dropped := keep.2, clipped := min clipped 0xFFFF, sources := src.length, tgen := s.rnat Reg.DRT_TGEN, originSlot := oSlot, originBgen := oBgen,
                     slot := slot, bgen := bgen, tBaste := s.tilesFine, arms := keep.1, half := half }
  let s1 : State := if clipped = 0 then s else (s.bump Reg.DRT_CNT0 31 16 clipped).orReg Reg.DRT_STATUS 0x20
  let s2 : State := if keep.2 = 0 then s1 else (s1.bump Reg.DRT_CNT0 15 0 keep.2).orReg Reg.DRT_STATUS 0x40
  (tr, s2)

/-- DRT_LEN and DRT_ADDR of a record (R256, R257, R475). -/
def trajLen (t : Traj) : Nat := 320 + 408 * ((t.arms.length + 31) / 32 * 32)
def trajAddr (t : Traj) : Nat := 0x40000000 + 0x200000 * t.slot + 0x100000 * b2n t.half

/-! ### Tile temperatures at a preload (R253) -/

/-- The ambient slope of a tile over its last four rounds, 2⁻¹⁶ °C per s; zero until there are four (log entry 98 DEDUCED). -/
def tileSlope (s : State) (t : Nat) : Int :=
  let r := s.drt.rounds.drop (s.drt.rounds.length - 4)
  match r with
  | [a, _, _, b] => if a.1 < b.1 then ((b.2.getD t 0 - a.2.getD t 0) * 65536 * 204800000).fdiv (100 * ((b.1 - a.1 : Nat) : Int)) else 0
  | _ => 0

/-- T_now of a tile; a zero τ_cu leaves the self-heating term open (log entry 35 DEDUCED). -/
def tileNow (s : State) (t : Nat) (open_ : Int) : Int :=
  let base : Nat × Int := match s.drt.rounds.getLast? with | some r => (r.1, r.2.getD t 0) | none => (s.clk, s.tileTemp t)
  let tau := s.fld Reg.DRT_CU_TAU 15 0
  let self : Int := s.drt.cuSteps.foldl (fun (a : Int) (x : CuStep) =>
    let g := match x.unit with | .a => sext 16 (s.fld (Reg.DRT_GAMMA t) 15 0) | .b => sext 16 (s.fld (Reg.DRT_GAMMA t) 31 16)
    if tau = 0 then a + (if g * x.dP = 0 then 0 else open_) else a + (g * x.dP * 65536 * ((s.clk - x.at_ : Nat) : Int)).fdiv (1000000 * ((tau * 204800 : Nat) : Int))) 0
  (base.2 * 65536).fdiv 100 + (s.tileSlope t * ((s.clk - base.1 : Nat) : Int)).fdiv 204800000 + self

/-- The preload forms T_now of every tile and shows it (R253, R268) (log entry 99 DESIGN CHOICE). -/
def formTnow (s : State) : List Int × State :=
  let d : Nat × State := if s.fld Reg.DRT_CU_TAU 15 0 = 0 then s.drawNat else (0, s)
  let l := (List.range 64).map (fun t => if t < s.part.tiles then s.tileNow t (sext 32 d.1) else 0)
  (l, (List.range s.part.tiles).foldl (fun (x : State) t =>
    (x.setReg (Reg.DRT_TNOW t) (word (low 32 (l.getD t 0)))).setReg (Reg.DRT_SLOPE t) (word (low 32 (s.tileSlope t)))) d.2)

/-! ### Replay and fold (R259–R262) -/

/-- off of each arm (R259). -/
def drtOffs (s : State) (tr : Traj) (tnow : List Int) : List Int :=
  tr.arms.map (fun a =>
    let tile := s.elemTile a.arm a.cell
    if s.rbit Reg.DRT_CTRL 1 then asr (a.slope * (tnow.getD tile 0 - tr.tBaste.getD tile 0)) 16 else 0)

/-- Set drt of a cell's arm and evaluate its channel (R93, R205). -/
def setDrt (cell arm : Nat) (v : Int) (s : State) : State :=
  match s.drvOf arm cell with
  | some ch => (s.setChan ch { s.chan ch with drt := v }).evalOne false false ch
  | none => s

/-- Point `i` of every arm of the trajectory (R205, R259); limited points are counted. -/
def drtApply (l : Lull) (i : Nat) (s : State) : State :=
  match l.play with
  | none => s
  | some tr =>
    let lim : Int := (l.lim : Int)
    (tr.arms.zip l.offs).foldl (fun (s : State) (e : Arm × Int) =>
      let v := e.1.pts.getD i 0 + e.2
      let c := clampI v (-lim) lim
      let s1 : State := if c = v then s else (s.bump Reg.DRT_CNT0 31 16 1).orReg Reg.DRT_STATUS 0x20
      s1.setDrt e.1.cell e.1.arm c) s

/-- The fold of one arm's drt into its channel and its loop (R260): active, r, the queue, a computed output and the integer part of I. -/
def foldArm (cell arm : Nat) (s : State) : State :=
  match s.drvOf arm cell with
  | none => s
  | some ch =>
    let c := s.chan ch
    let v := c.drt
    let add (x : Nat) : Nat := (clampI ((x : Int) + v) c.codeMin c.codeMax).toNat
    let s1 := s.setChan ch { c with active := add c.active, r := add c.r, queue := c.queue.map add, drt := 0 }
    let outs := s1.loop.outs.map (fun (o : LoopOut) => if o.cell = cell ∧ o.arm = arm then { o with code := add o.code } else o)
    let s2 : State := { s1 with loop := { s1.loop with outs := outs } }
    let l := s2.loopCell cell
    let s3 : State :=
      if l.hasLoop ∧ l.st.mode = 2 ∧ s2.armChan cell = some ch then
        s2.setLoopCell cell { l with st := { l.st with i := clampI (asr l.st.i 16 + v) c.codeMin c.codeMax * 65536 + l.st.i % 65536 } }
      else s2
    s3.evalOne false false ch

/-- The integer part of I of a cell, where its loop is AUTO. -/
def autoI (s : State) (cell : Nat) : Option Int :=
  if (s.loopCell cell).hasLoop ∧ (s.loopCell cell).st.mode = 2 then some (asr (s.loopCell cell).st.i 16) else none

/-- drt returns to zero for the arms picked: folded in where FOLD is 1, dropped otherwise; replay ends (R260, R261). -/
def drtFinish (pick : Nat → Bool) (s : State) : State :=
  match s.gst.lull with
  | none => s
  | some l => match l.play with
    | none => s
    | some tr =>
      let fold := s.rbit Reg.DRT_CTRL 2
      let before := tr.arms.filterMap (fun a => (s.autoI a.cell).map (fun v => (a.cell, v)))
      let s1 : State := tr.arms.foldl (fun (s : State) (a : Arm) => if fold && pick a.cell then s.foldArm a.cell a.arm else s.setDrt a.cell a.arm 0) s
      ({ s1 with gst := { s1.gst with lull := some { l with play := none, iFold := if fold then before else [] } } }).clrReg Reg.DRT_STATUS 0x800

/-! ### Refinement (R267) -/

/-- One arm's refinement at the end of its Lull: ρ is what the loop moved I by, the fold left out. -/
def refineArm (l : Lull) (s : State) (a : Arm) : State × Bool :=
  let lc := s.loopCell a.cell
  if !lc.hasLoop || decide (lc.st.mode ≠ 2) || lc.st.dim || decide (Tab.get 0 a.cell l.counted < 4) then (s, false)
  else match a.top, Tab.find a.cell l.iAt with
    | some (src, j, du), some i0 =>
      let i1 := (Tab.find a.cell l.iFold).getD (asr lc.st.i 16)
      let sh := s.fld Reg.DRT_REFINE 4 0
      let st : Int := (s.fld Reg.DRT_REFINE 31 16 : Nat)
      let d := clampI (asr (((i1 - i0) * 65536).tdiv du) sh) (-st) st
      let t := drtNearest (s.tileTemp (s.elemTile (src % 3) (src / 3)))
      let k := drtIndex src t j a.arm 2
      let old := s.drtCoeff k
      let new := clampI (old + d) (-32767) 32767
      if new = old then (s, false)
      else
        let s1 := (s.setCoeff k new).bump Reg.DRT_CNT1 31 16 1
        (s1.recEvent 11 (bytesOf 2 src ++ bytesOf 1 j ++ bytesOf 1 a.arm ++ bytesOf 1 2 ++ bytesOf 1 t ++ bytesOf 2 (low 16 old) ++ bytesOf 2 (low 16 new) ++
          bytesOf 2 0 ++ bytesOf 4 (s.rnat Reg.DRT_TGEN + 1)), true)
    | _, _ => (s, false)

/-- A Lull that ended on its own refines the table (R267); while the table is being hashed nothing is refined, and the Lull is counted (R328) (log entry 97 DEDUCED). -/
def refine (l : Lull) (tr : Traj) (s : State) : State :=
  if !s.rbit Reg.DRT_CTRL 3 || l.null then s
  else if s.drt.hashing.isSome then s.bump Reg.CAL_SKIPPED_REF 31 0 1
  else
    let r : State × Bool := tr.arms.foldl (fun (x : State × Bool) (a : Arm) => let y := refineArm l x.1 a; (y.1, x.2 || y.2)) (s, false)
    if r.2 then (r.1.wrapInc Reg.DRT_TGEN).orReg Reg.DRT_STATUS 0x80 else r.1

/-- DRT_CMD (R266, R268). -/
def drtCmd (v : Word) (s : State) : State :=
  let s1 : State := if bit v 0 then (s.setReg Reg.DRT_CNT0 0).setReg Reg.DRT_CNT1 0 else s
  let s2 : State := if bit v 1 then (s1.wrapInc Reg.DRT_TGEN).orReg Reg.DRT_STATUS 2 else s1
  if bit v 2 then s2.clrReg Reg.DRT_STATUS 2 else s2

/-- A write of DRT_TAUk (R12, R250, R268): the response table is refilled; locked while TABLE_VALID is 1. -/
def tauWrite (k : Nat) (v : Word) (s : State) : State :=
  let s1 := s.rwlWrite (Reg.DRT_TAU0 + 4 * k) 0 0xFFFF (s.rbit Reg.DRT_STATUS 1) Reg.DRT_STATUS 1 v
  if s.rbit Reg.DRT_STATUS 1 then s1 else s1.drtFill k

end State

open State

/-- DRAUGHT_POINT (R205, R263): the next point at its drive clock; a poisoned row holds the point before it. -/
def execDraughtPoint (poison : Bool) (s : State) : Res :=
  match s.gst.lull with
  | none => .next s
  | some l =>
    if l.play.isNone || decide (l.point ≥ 199) || decide (s.clk < l.d + 2048 * (l.point + 1)) then .next s
    else
      let l1 : Lull := { l with point := l.point + 1 }
      let s1 : State := { s with gst := { s.gst with lull := some l1 } }
      if poison then .next (((s1.orReg Reg.DRT_STATUS 8).bump Reg.DRT_CNT1 15 0 1).report1 15 (trajAddr (l.play.getD { dropped := 0, clipped := 0, sources := 0, tgen := 0, originSlot := 0, originBgen := 0, slot := l.slot, bgen := 0, tBaste := [], arms := [], half := false })))
      else .next (s1.drtApply l1 l1.point)

/-- DRAUGHT_END (R205, R260): drt returns to zero 409,600 clocks after the trigger, or at the Lull end if that comes first. -/
def execDraughtEnd (s : State) : Res :=
  match s.gst.lull with
  | some l => .next (if l.play.isSome && (decide (l.d + 409600 ≤ s.clk) || decide (l.endClk ≤ s.clk)) then s.drtFinish (fun _ => true) else s)
  | none => .next s

/-- DRT_TAU_WRITE (R250, R268): the response table is refilled; locked while TABLE_VALID is 1. -/
def execDrtTauWrite (u : Cu) (k : Nat) (v : Word) (s : State) : Res :=
  if k < 3 then .next (s.baseWrite u (Reg.DRT_TAU0 + 4 * k) v (fun s => s.tauWrite k v)) else .next s

/-- DRT_COMMIT (R266). -/
def execDrtCommit (u : Cu) (v : Word) (s : State) : Res :=
  .next (s.baseWrite u Reg.DRT_CMD (v ||| 2) (fun s => s.drtCmd (v ||| 2)))

/-- DRT_INVALIDATE (R266). -/
def execDrtInvalidate (u : Cu) (v : Word) (s : State) : Res :=
  .next (s.baseWrite u Reg.DRT_CMD (v ||| 4) (fun s => s.drtCmd (v ||| 4)))

/-- DRT_COUNT_CLEAR (R268). -/
def execDrtCountClear (u : Cu) (v : Word) (s : State) : Res :=
  .next (s.baseWrite u Reg.DRT_CMD (v ||| 1) (fun s => s.drtCmd (v ||| 1)))

end Sys2Proof.Machine
end

