-- ==== Sys2Proof/Machine/Route.lean ====
section
/-! DEFINITION. Routes and the route cache (R158–R182): lookup, solve, insert, aging, rehash, flush and the ROUTE_CACHE command (R400). -/
namespace Sys2Proof.Machine

/-- A way that a read found bad, as the operand of a lookup lists it: bits 1:0 the way, bits 6:2 the failing 64-byte chunk, bit 7 set for a
poisoned word and clear for parity, bit 8 set for the bucket of the old seed. -/
def badWay (x : Nat) : Nat := x % 4
def badChunk (x : Nat) : Nat := x / 4 % 32
def badPoison (x : Nat) : Bool := x.testBit 7
def badOld (x : Nat) : Bool := x.testBit 8

/-- A host address an opcode requires is non-zero and a multiple of 8 (R386). -/
def hostAddrOk (a : Nat) : Bool := decide (a ≠ 0) && decide (a % 8 = 0)

/-- A wide-form map read back from its bytes (R23). -/
def wideMap (l : List Byte) : List Nat := (List.range (l.length / 2)).map (fun q => le l (2 * q) 2)

namespace State

/-! ### The table (R168–R172) -/

def rteGen (s : State) : Nat := s.fld Reg.RTE_CACHE_STATUS 31 16
def rteSgen (s : State) : Bool := s.rbit Reg.RTE_CACHE_STATUS 7
def rteBusy (s : State) : Bool := s.rbit Reg.RTE_CACHE_STATUS 1

/-- Lookups are counted and inserts are made: EN 1 and READY 1 (R167, R177). -/
def rteUsable (s : State) : Bool := s.rbit Reg.RTE_CACHE_CTRL 0 && s.rbit Reg.RTE_CACHE_STATUS 0

/-- H of R171 under the present seed, or under the old one. -/
def rteHash (s : State) (old : Bool) (epoch ports : Nat) (map : List Byte) : Nat :=
  let seed := if old then s.rnat64 Reg.RTE_SEED_OLD_LO Reg.RTE_SEED_OLD_HI else s.rnat64 Reg.RTE_SEED_LO Reg.RTE_SEED_HI
  le (Crypto.shake256 (bytesOf 8 seed ++ bytesOf 4 epoch ++ bytesOf 2 ports ++ map)) 0 8

/-- An entry is valid: listed, and of the present flush generation (R172, R173). -/
def rteLive (s : State) (key : Nat) : Option RteEntry :=
  match Tab.find key s.rte.table with
  | some e => if e.flushGen = s.rteGen then some e else none
  | none => none

/-- RTE_VALID (R179). -/
def rteValid (s : State) : Nat := (s.rte.table.filter (fun e => decide (e.2.flushGen = s.rteGen))).length

/-- The entry at `key` answers a lookup of hash `h` (R172). -/
def rteMatches (s : State) (old : Bool) (h epoch ports : Nat) (map : List Byte) (key : Nat) : Bool :=
  match s.rteLive key with
  | some e => decide (e.sgen = (s.rteSgen ^^ old)) && decide (e.hash = h) && decide (e.epoch = epoch) && decide (e.ports = ports) && decide (e.map = map)
  | none => false

/-- The lowest way of a bucket that is not valid (R173). -/
def rteFree (s : State) (bucket : Nat) : Option Nat := ([0, 1, 2, 3].find? (fun w => (s.rteLive (4 * bucket + w)).isNone)).map (fun w => 4 * bucket + w)

/-- A way that failed parity, or came back poisoned, is invalidated, counted and reported (R172). -/
def rteBad (key chunk : Nat) (poison : Bool) (s : State) : State :=
  let last := key / 4 % 2 ^ 18 + 2 ^ 20 * (key % 4) + 2 ^ 24 * (chunk % 32)
  let s1 : State := { s with rte := { s.rte with table := Tab.erase key s.rte.table } }
  let s2 := ((s1.bump Reg.RTE_PARITY_MISS 31 0 1).setReg Reg.RTE_PARITY_LAST (word last)).orReg Reg.RTE_CACHE_STATUS 0x20
  (s2.event 3 0x30 0 s2.now last 0 0 0).report1 (if poison then 15 else 18) (key / 4)

/-- The buckets a lookup searches: that of the present seed and, while a rehash runs, that of the old one, each with its hash (R176). -/
def rteSearch (s : State) (epoch ports : Nat) (map : List Byte) : List (Bool × Nat) :=
  (false, s.rteHash false epoch ports map) :: (if s.rteBusy then [(true, s.rteHash true epoch ports map)] else [])

/-- What a lookup gives: the key and entry of a hit, and whether the matching way failed (R172). -/
structure Looked where
  hit : Option (Nat × RteEntry)
  failed : Bool

/-- A lookup under an epoch (R172): failing ways are invalidated, then the ways are searched in order. A failure in chunk 1 or above is met
only where the way is read whole, that is where its header matches (log entry 34 DEDUCED). -/
def rteLookup (u : Cu) (epoch ports : Nat) (map : List Byte) (bad : List Nat) (s : State) : Looked × State :=
  if !s.rteUsable then ({ hit := none, failed := false }, s)
  else
    let ks := s.rteSearch epoch ports map
    let hitAt (s : State) : Option (Bool × Nat × Nat) :=
      (ks.flatMap (fun k => [0, 1, 2, 3].map (fun w => (k.1, k.2, 4 * (k.2 % 2 ^ 18) + w)))).find?
        (fun k => s.rteMatches k.1 k.2.1 epoch ports map k.2.2)
    let r : Bool × State := bad.foldl (fun (a : Bool × State) x =>
      match ks.find? (fun k => k.1 == badOld x) with
      | none => a
      | some k =>
        let key := 4 * (k.2 % 2 ^ 18) + badWay x
        let mine := a.2.rteMatches k.1 k.2 epoch ports map key
        if badChunk x ≥ 20 ∨ (badChunk x ≠ 0 ∧ !mine) then a else (a.1 || mine, a.2.rteBad key (badChunk x) (badPoison x))) (false, s)
    let s1 := r.2.bump Reg.RTE_LOOKUPS 31 0 1
    match hitAt s1 with
    | some k =>
      match s1.rteLive k.2.2 with
      | some e =>
        let s2 : State := { s1 with rte := { s1.rte with table := Tab.set k.2.2 { e with age := 0 } s1.rte.table } }
        ({ hit := some (k.2.2, e), failed := r.1 }, (s2.bump Reg.RTE_HITS 31 0 1).pmcEvent u 0x08 0 1)
      | none => ({ hit := none, failed := r.1 }, s1.pmcEvent u 0x09 0 1)
    | none => ({ hit := none, failed := r.1 }, s1.pmcEvent u 0x09 0 1)

/-! ### Solver registers (R181, R182) -/

/-- RTE_SOLVE_STAT of a result (R182), as completions carry it (R400). -/
def statOf (r : RteResult) : Nat :=
  r.verdict * 2 ^ 28 + b2n r.hit * 2 ^ 27 + b2n r.detour * 2 ^ 26 + b2n (decide (r.shift ≠ 0)) * 2 ^ 25 + min r.constrained 511 * 2 ^ 16 + min r.steps 0x4000

/-- RTE_SOLVE_EXT of a result (R181). -/
def extOf (r : RteResult) : Nat := r.cand % 1024 * 2 ^ 16 + r.shift % 512

/-- A solve or a lookup completes (R182): the solver registers are written, RTE_SOLVE_CNT counts. Its duration is a free value (log entry 1) (log entry 64 DESIGN CHOICE). -/
def noteSolve (u : Cu) (stat ext epoch : Nat) (s : State) : State :=
  let d := s.drawNat
  ((((d.2.setReg (Reg.RTE_SOLVE_STAT u) (word stat)).setReg (Reg.RTE_SOLVE_EXT u) (word ext)).setReg (Reg.RTE_SOLVE_NS u) (word d.1)).setReg
    (Reg.RTE_SOLVE_EPOCH u) (word epoch)).wrapInc (Reg.RTE_SOLVE_CNT u)

/-! ### Lookup, solve and the insert to come (R167, R173) -/

/-- Inserts that wait in a unit. -/
def inserts (s : State) (u : Cu) : List RteInsert := match u with | .a => s.rte.insA | .b => s.rte.insB
def setInserts (u : Cu) (l : List RteInsert) (s : State) : State :=
  match u with | .a => { s with rte := { s.rte with insA := l } } | .b => { s with rte := { s.rte with insB := l } }

/-- A route as a command gets it: the result, whether the bucket had no room, and the entry hit or the way that the insert will take. -/
structure Routed where
  res : RteResult
  full : Bool
  key : Option Nat
  failed : Bool

/-- What a hit gives (R182). -/
def hitResult (s : State) (e : RteEntry) (epoch : Nat) : RteResult :=
  { verdict := 0, vec := e.vec, shift := e.shift, cand := e.cand, steps := e.steps, detour := e.detour, hit := true,
    constrained := s.constrained.length, epoch := epoch }

/-- What a solve gives (R158). -/
def solveResult (s : State) (map : List Nat) : RteResult :=
  let v := Benes.solve s.geo s.constrained map
  { verdict := v.verdict, vec := v.vec, shift := v.shift, cand := v.cand, steps := v.steps, detour := v.detour, hit := false,
    constrained := s.constrained.length, epoch := s.rnat Reg.FAB_EPOCH }

/-- A route for a valid map: a lookup where one is asked for and EN is 1, a solve on a miss, and the insert asked for where the solve
succeeded and EN is 1 (R167, R178) (log entry 61 DEDUCED). -/
def route (u : Cu) (lookup learn : Bool) (map : List Nat) (bad : List Nat) (s : State) : Routed × State :=
  let epoch := s.rnat Reg.FAB_EPOCH
  let pk := Benes.packMap map
  let look := lookup && s.rbit Reg.RTE_CACHE_CTRL 0
  let r : Looked × State := if look then s.rteLookup u epoch map.length pk bad else ({ hit := none, failed := false }, s)
  match r.1.hit with
  | some (key, e) =>
    let v := s.hitResult e epoch
    ({ res := v, full := false, key := some key, failed := r.1.failed }, r.2.noteSolve u (statOf v) (extOf v) epoch)
  | none =>
    let s1 : State := if look then r.2.noteSolve u 0 0 epoch else r.2
    let v := s.solveResult map
    let s2 := ((s1.noteSolve u (statOf v) (extOf v) epoch).pmcEvent u 0x07 0 1).pmcEvent u 0x0A 0 v.steps
    let s3 : State := if v.verdict = 0 then s2 else s2.bump (Reg.RTE_INFEAS_CNT u) 31 0 1
    if v.verdict = 0 && learn && s3.rteUsable then
      let k := s3.rteFree (s3.rteHash false epoch map.length pk % 2 ^ 18)
      ({ res := v, full := k.isNone, key := k, failed := r.1.failed }, s3.setInserts u (s3.inserts u ++ [{ map := pk, res := v }]))
    else ({ res := v, full := false, key := none, failed := r.1.failed }, s3)

/-- Insert one result (R173): not where the epoch has moved on or the cache is not usable; a full bucket is counted and reported. -/
def insertOne (i : RteInsert) (s : State) : State :=
  if s.rnat Reg.FAB_EPOCH ≠ i.res.epoch || !s.rteUsable then s
  else
    let h := s.rteHash false i.res.epoch s.nPorts i.map
    match s.rteFree (h % 2 ^ 18) with
    | none =>
      ((s.bump Reg.RTE_TABLE_FULL 31 0 1).orReg Reg.RTE_CACHE_STATUS 0x10).event 3 0x31 0 s.now (h % 2 ^ 18) i.res.epoch 0 0
    | some key =>
      let e : RteEntry := { hash := h, epoch := i.res.epoch, ports := s.nPorts, flushGen := s.rteGen, age := 0, sgen := s.rteSgen,
                            detour := i.res.detour, repaired := decide (i.res.shift ≠ 0), shift := i.res.shift, cand := i.res.cand,
                            steps := i.res.steps, map := i.map, vec := i.res.vec }
      { s with rte := { s.rte with table := Tab.set key e s.rte.table } }

/-! ### Maps (R23, R35) -/

/-- A map that a command carries: N entries, valid, naming no unused input or output (R23, R35). -/
def mapAccepted (s : State) (map : List Nat) : Bool :=
  let ports := match s.fab.fdr with | some f => f.portEnts | none => []
  let flag (p i : Nat) : Bool := match ports[p]? with | some e => e.flags.testBit i | none => false
  decide (map.length = s.nPorts) && Benes.mapOk s.nPorts map &&
    (map.zip (List.range map.length)).all (fun e => decide (e.1 = 0x3FF) || (!flag e.1 0 && !flag e.2 1))

/-- CFLAGS of a route (R391). -/
def routeFlags (r : RteResult) (full : Bool) : Nat :=
  8 * b2n r.hit + 16 * b2n full + 32 * b2n r.detour + 64 * b2n (decide (r.shift ≠ 0))

/-- RES3 of ROUTE_CACHE: FOUND for a hit, the way and the bucket of the hit or of the insert (R400) (log entry 62 DEDUCED). -/
def routeWhere (hit : Bool) (key : Option Nat) : Nat :=
  match key with | some k => 2 ^ 30 * b2n hit + 2 ^ 20 * (k % 4) + k / 4 | none => 0

/-- Check 6 of sub-operations 0 to 3, then `body` on the map read (R178, R393, R400). -/
def withMap (c : Cmd) (sub : Nat) (d : HostData) (body : List Nat → State → State) (s : State) : State :=
  if c.b 4 ≠ sub || s.graph || !s.fabValid || !hostAddrOk (c.q 16) || decide (c.w 24 ≠ 2 * s.nPorts) || (decide (sub ≤ 2) && decide (c.q 32 % 8 ≠ 0)) then
    s.refuse c 0x05
  else match d with
    | .failed _ => s.refuse c 0x0C
    | .bytes l => if l.length = c.w 24 && s.mapAccepted (wideMap l) then body (wideMap l) s else s.refuse c 0x05

/-- The vector goes to the host where an address is given (R400). -/
def giveVector (c : Cmd) (vec : Nat) (s : State) : State := if c.q 32 = 0 then s else s.hostWrite c.unit (c.q 32) (bytesOf 608 vec)

/-- LOOKUP (R178): never solves. -/
def cacheLookup (c : Cmd) (bad : List Nat) (map : List Nat) (s : State) : State :=
  let epoch := s.rnat Reg.FAB_EPOCH
  let r := s.rteLookup c.unit epoch map.length (Benes.packMap map) bad
  match r.1.hit with
  | some (key, e) =>
    let v := s.hitResult e epoch
    ((r.2.noteSolve c.unit (statOf v) (extOf v) epoch).giveVector c v.vec).complete c 0 (routeFlags v false) (statOf v) epoch (extOf v) (routeWhere true (some key))
  | none => (r.2.noteSolve c.unit 0 0 epoch).complete c (if r.1.failed then 0x0D else 0) 0 0 epoch 0 0

/-- The completion of a command that routed (R178, R400). -/
def finishRoute (c : Cmd) (r : Routed) (s : State) : State :=
  let st := if r.res.verdict ≠ 0 then 0x06 else if r.full then 0x07 else 0
  let s1 : State := if r.res.verdict = 0 then s.giveVector c r.res.vec else s
  s1.complete c st (routeFlags r.res r.full) (statOf r.res) r.res.epoch (extOf r.res) (routeWhere r.res.hit r.key)

/-- INVALIDATE (R178): the entry of one map under the present epoch goes, whatever EN holds. -/
def cacheInvalidate (c : Cmd) (map : List Nat) (s : State) : State :=
  let epoch := s.rnat Reg.FAB_EPOCH
  let pk := Benes.packMap map
  let hits := ((s.rteSearch epoch map.length pk).flatMap (fun k => [0, 1, 2, 3].map (fun w => (k.1, k.2, 4 * (k.2 % 2 ^ 18) + w)))).filter
    (fun k => s.rteMatches k.1 k.2.1 epoch map.length pk k.2.2)
  let s1 : State := { s with rte := { s.rte with table := hits.foldl (fun t k => Tab.erase k.2.2 t) s.rte.table } }
  s1.complete c 0 0 0 epoch 0 0

/-- REHASH begins (R176): the operand's seed, or a free value where it is zero (log entry 42 DESIGN CHOICE). -/
def rehashStart (seed : Nat) (s : State) : State :=
  let d : Nat × State := if seed = 0 then s.drawNat else (seed, s)
  let s1 := d.2.setReg64 Reg.RTE_SEED_OLD_LO Reg.RTE_SEED_OLD_HI (s.rnat64 Reg.RTE_SEED_LO Reg.RTE_SEED_HI)
  let s2 := s1.setReg64 Reg.RTE_SEED_LO Reg.RTE_SEED_HI (d.1 % 2 ^ 64)
  ((s2.setField Reg.RTE_CACHE_STATUS 7 7 (b2n (!s.rteSgen))).orReg Reg.RTE_CACHE_STATUS 2).setReg Reg.RTE_REHASH_POS 0

/-- One valid entry of the old seed moves to the lowest free way of its new bucket, or is dropped and counted (R176). -/
def rehashMove (s : State) (key : Nat) : State :=
  match s.rteLive key with
  | none => s
  | some e =>
    if e.sgen = s.rteSgen then s
    else
      let h := s.rteHash false e.epoch e.ports e.map
      let s1 : State := { s with rte := { s.rte with table := Tab.erase key s.rte.table } }
      match s1.rteFree (h % 2 ^ 18) with
      | none => s1.bump Reg.RTE_REHASH_DROPS 31 0 1
      | some k => { s1 with rte := { s1.rte with table := Tab.set k { e with hash := h, sgen := s.rteSgen } s1.rte.table } }

/-- One step of the aging sweep: AGE + 1, and out at RTE_AGE_LIMIT (R174). -/
def ageOne (s : State) (key : Nat) : State :=
  match s.rteLive key with
  | none => s
  | some e =>
    if e.age + 1 ≥ max 1 (s.fld Reg.RTE_AGE_LIMIT 7 0) then
      ({ s with rte := { s.rte with table := Tab.erase key s.rte.table } }).bump Reg.RTE_AGED_OUT 31 0 1
    else { s with rte := { s.rte with table := Tab.set key { e with age := e.age + 1 } s.rte.table } }

/-- Ways that a walk found bad (R172, R174). -/
def walkBad (bad : List (Nat × Bool)) (s : State) : State :=
  bad.foldl (fun (s : State) (b : Nat × Bool) => if b.1 < 2 ^ 20 then s.rteBad b.1 0 b.2 else s) s

/-- CNT_CLR (R179): the counters at 0x10_C024 to 0x10_C038. -/
def routeCountClear (s : State) : State :=
  [Reg.RTE_LOOKUPS, Reg.RTE_HITS, Reg.RTE_PARITY_MISS, Reg.RTE_TABLE_FULL, Reg.RTE_AGED_OUT, Reg.RTE_REHASH_DROPS].foldl (fun s k => s.setReg k 0) s

/-- A write of RTE_CACHE_CTRL (R180). -/
def rteCtrl (v : Word) (s : State) : State :=
  let s1 := s.setReg Reg.RTE_CACHE_CTRL (v &&& 3)
  if bit v 31 then s1.routeCountClear else s1

end State

open State

/-- ROUTE_LOOKUP (R172, R178). -/
def execRouteLookup (c : Cmd) (d : HostData) (badWays : List Nat) (s : State) : Res :=
  .next (s.runDesc c 0x07 (fun s => (s.recReads c d).withMap c 0 d (State.cacheLookup c badWays)))

/-- ROUTE_PRELOAD (R178): inserts whatever LEARN holds; while EN is 0 it only solves. -/
def execRoutePreload (c : Cmd) (d : HostData) (badWays : List Nat) (s : State) : Res :=
  .next (s.runDesc c 0x07 (fun s => (s.recReads c d).withMap c 1 d (fun map s =>
    let r := s.route c.unit true true map badWays
    r.2.finishRoute c r.1)))

/-- ROUTE_SOLVE (R178): no lookup, no insert. -/
def execRouteSolve (c : Cmd) (d : HostData) (s : State) : Res :=
  .next (s.runDesc c 0x07 (fun s => (s.recReads c d).withMap c 2 d (fun map s =>
    let r := s.route c.unit false false map []
    r.2.finishRoute c r.1)))

/-- ROUTE_INVALIDATE (R178). -/
def execRouteInvalidate (c : Cmd) (d : HostData) (s : State) : Res :=
  .next (s.runDesc c 0x07 (fun s => (s.recReads c d).withMap c 3 d (State.cacheInvalidate c)))

/-- ROUTE_FLUSH (R175, R178): proceeds in graph mode and without a record. -/
def execRouteFlush (c : Cmd) (s : State) : Res :=
  .next (s.runDesc c 0x07 (fun s => if c.b 4 = 4 then (s.flushCache).complete c 0 0 0 (s.rnat Reg.FAB_EPOCH) 0 0 else s.refuse c 0x05))

/-- ROUTE_REHASH (R176, R178): refused in graph mode, and BUSY while a rehash runs. -/
def execRouteRehash (c : Cmd) (s : State) : Res :=
  .next (s.runDesc c 0x07 (fun s =>
    if c.b 4 ≠ 5 ∨ s.graph then s.refuse c 0x05
    else if s.rteBusy then s.refuse c 0x11
    else (s.rehashStart (c.q 16)).complete c 0 0 s.rteValid (s.rnat Reg.FAB_EPOCH) 0 0))

/-- CACHE_INSERT (R173): the oldest insert that waits in the unit. -/
def execCacheInsert (u : Cu) (s : State) : Res :=
  match s.inserts u with
  | [] => .next s
  | i :: rest => .next ((s.setInserts u rest).insertOne i)

/-- CACHE_AGE_SWEEP (R174): RTE_AGE_PERIOD seconds after the last sweep ended, every valid entry ages. -/
def execCacheAgeSweep (bad : List (Nat × Bool)) (s : State) : Res :=
  if s.rbit Reg.RTE_CACHE_STATUS 0 && decide (s.clk ≥ s.rte.ageDue + clksS (max 4 (s.fld Reg.RTE_AGE_PERIOD 15 0))) then
    let s1 := s.walkBad bad
    let s2 : State := (s1.rte.table.map Prod.fst).foldl State.ageOne s1
    .next { s2 with rte := { s2.rte with ageDue := s2.clk } }
  else .next s

/-- REHASH_DONE (R176): the walk over the table, and its end. -/
def execRehashDone (bad : List (Nat × Bool)) (s : State) : Res :=
  if !s.rteBusy then .next s
  else
    let s1 := s.walkBad bad
    let s2 : State := (s1.rte.table.map Prod.fst).foldl State.rehashMove s1
    let s3 := ((s2.clrReg Reg.RTE_CACHE_STATUS 2).orReg Reg.RTE_CACHE_STATUS 0x40).setReg Reg.RTE_REHASH_POS 0x40000
    .next (s3.event 3 0x32 0 s3.now (s3.rnat Reg.RTE_REHASH_DROPS) s3.rteValid 0 0)

/-- CACHE_CLEAR_DONE (R175): every header is clear and the table may be used; the aging period runs from here. -/
def execCacheClearDone (s : State) : Res :=
  if s.rbit Reg.RTE_CACHE_STATUS 2 then
    let s1 : State := { s with rte := { s.rte with table := [], ageDue := s.clk } }
    .next ((s1.clrReg Reg.RTE_CACHE_STATUS 4).orReg Reg.RTE_CACHE_STATUS 1)
  else .next s

/-- ROUTE_COUNT_CLEAR (R179). -/
def execRouteCountClear (u : Cu) (v : Word) (s : State) : Res :=
  .next (s.baseWrite u Reg.RTE_CACHE_CTRL (v ||| 0x80000000) (fun s => s.rteCtrl (v ||| 0x80000000)))

end Sys2Proof.Machine
end

