-- ==== Sys2Proof/Machine/Baste.lean ====
section
/-! DEFINITION. Basting (R183–R192, R395): a map or a vector is routed, its image built and its trajectory computed into a slot of the shadow store. -/
namespace Sys2Proof.Machine

namespace State

/-- A slot is ARMED, or is being preloaded (R193; log entry 41). -/
def slotArmed (s : State) (i : Nat) : Bool :=
  let is (p : Option Preload) : Bool := match p with | some x => decide (x.req.slot = i) | none => false
  is s.gst.armed || is s.gst.pre

/-- The ORIGIN values a descriptor may carry (R395). -/
def originOk (o : Nat) : Bool := decide (o < 256) || decide (0xFFFD ≤ o)

/-- What an origin names (R187, R395): slot, BGEN, vector and image; none for 0xFFFF. -/
def originOf (s : State) (o : Nat) : Option (Nat × Nat × Nat × List Nat) :=
  let act := s.fld Reg.GST_ACTIVE 15 0
  if o = 0xFFFF then none
  else if o < 256 then some (o, (s.slot o).bgen, (s.slot o).vec, (s.slot o).img)
  else if o = 0xFFFD ∧ act < 256 then some (act, s.fld Reg.GST_ACTIVE 31 16, s.gst.activeVec, s.gst.activeImg)
  else some (0xFFFE, 0, s.fab.parkVec, s.fab.parkImg)

/-- The checks of R189 at step 1, in the order of R387: the status of a refusal. -/
def basteRefusal (s : State) (c : Cmd) (d : HostData) : Option Nat :=
  let vector := (c.b 5).testBit 0
  if !s.fabOn || (decide (c.h 6 < 256) && decide ((s.slot (c.h 6)).st = 0)) || (vector != s.graph) then some 0x05
  else if c.w 24 ≠ (if vector then 608 else 2 * s.nPorts) then some 0x05
  else if (s.slot (c.b 4)).st = 1 || s.slotArmed (c.b 4) || s.slotReserved (c.b 4) then some 0x11
  else match d with
    | .failed _ => some 0x0C
    | .bytes l => if l.length ≠ c.w 24 || (!vector && !s.mapAccepted (wideMap l)) then some 0x05 else none

/-- The first cell whose STUCK mark a vector contradicts (R50). -/
def firstStuck (s : State) (vec : Nat) : Option Nat :=
  (List.range s.nCells).find? (fun c => (decide (s.mark c = 3) && vec.testBit c) || (decide (s.mark c = 4) && !vec.testBit c))

/-- BGEN of the next Baste of a slot (R184). -/
def nextBgen (x : Slot) : Nat := if x.bgen ≥ 0xFFFF then 1 else x.bgen + 1

/-- Steps 3 and 4 of R187 for a vector: the slot to come and the CFLAGS, with the trajectory where step 4 runs (log entry 38 DESIGN CHOICE). -/
def basteBuild (c : Cmd) (bytes : List Byte) (vec : Nat) (r : Option Routed) (s : State) : BasteWork × State :=
  let i := c.b 4
  let org := s.originOf (c.h 6)
  let bgen := nextBgen (s.slot i)
  let img := s.imageOf vec
  let uncal := decide (s.rnat Reg.CAL_GEN = 0)
  let det := match r with | some x => x.res.detour | none => false
  let rep := match r with | some x => decide (x.res.shift ≠ 0) | none => false
  let chg : Nat × State := match org with
    | some o => (((List.range s.nCells).filter (fun k => o.2.2.1.testBit k != vec.testBit k)).length, s)
    | none => let d := s.drawNat; (d.1 % 2 ^ 16, d.2)
  let s1 := chg.2
  let t : Option Traj × State := match org with
    | none => (none, s1)
    | some o =>
      if !s1.rbit Reg.GST_CTRL 9 then (none, s1)
      else if !s1.rbit Reg.DRT_STATUS 1 then (none, s1.orReg Reg.DRT_STATUS 0x10)
      else
        let half := match (s1.slot i).traj with | some x => !x.half | none => false
        let x := s1.drtCompute i bgen o.1 o.2.1 o.2.2.2 img o.2.2.1 vec half
        (some x.1, x.2.pmcEvent c.unit 0x0C 0 x.1.sources)
  let stuck := if s.graph then s.firstStuck vec else none
  let epoch := match r with | some x => x.res.epoch | none => s.rnat Reg.FAB_EPOCH
  let fl := b2n s.graph + 2 * b2n det + 4 * b2n rep + 8 * b2n t.1.isSome + 16 * b2n uncal
  let new : Slot := { st := 2, epoch := epoch, bgen := bgen, flags := fl, originSlot := (match org with | some o => o.1 | none => 0xFFFF),
                      originBgen := (match org with | some o => o.2.1 | none => 0), calset := s.rnat Reg.CAL_GEN, cellsChanged := chg.1, vec := vec,
                      map := if s.graph then [] else bytes, img := img, traj := t.1 }
  let cf := (match r with | some x => routeFlags x.res x.full | none => 0) + 128 * b2n uncal + 4096 * b2n stuck.isSome
  ({ slot := i, new := new, status := if (match r with | some x => x.full | none => false) then 0x07 else 0, flags := cf,
     verdict := 0, steps := (match r with | some x => x.res.steps | none => 0), stuck := stuck }, t.2)

/-- Take up the Baste at the front of a unit (R187, R189): refused ones complete and the next is taken up. `n` bounds their number (log entry 71 DEDUCED). -/
def takeBaste (u : Cu) : Nat → State → State
  | 0, s => s
  | n + 1, s =>
    match s.bastes u with
    | [] => s
    | b :: rest =>
      if b.work.isSome then s
      else match s.basteRefusal b.cmd b.data with
        | some st => takeBaste u n ((s.setBastes u rest).refuse b.cmd st)
        | none =>
          let l := match b.data with | .bytes l => l | .failed _ => []
          if s.graph then
            let w := s.basteBuild b.cmd l (leAll l % 2 ^ s.nCells) none
            (w.2.setSlot (b.cmd.b 4) { s.slot (b.cmd.b 4) with st := 1 }).setBastes u ({ b with work := some w.1 } :: rest)
          else
            let r := s.route u true (s.rbit Reg.RTE_CACHE_CTRL 1) (wideMap l) b.badWays
            if r.1.res.verdict ≠ 0 then
              takeBaste u n ((r.2.setBastes u rest).complete b.cmd 0x06 (routeFlags r.1.res false) 0 r.1.res.epoch 0
                (r.1.res.verdict * 2 ^ 28 + min r.1.res.steps 0x4000))
            else
              let w := r.2.basteBuild b.cmd l r.1.res.vec (some r.1)
              (w.2.setSlot (b.cmd.b 4) { s.slot (b.cmd.b 4) with st := 1 }).setBastes u ({ b with work := some w.1 } :: rest)

/-- The half that a Baste would write is being replayed (R263). -/
def halfBusy (s : State) (w : BasteWork) : Bool :=
  match s.gst.lull, w.new.traj with
  | some l, some t => (match l.play with | some p => decide (p.slot = w.slot) && (p.half == t.half) | none => false)
  | _, _ => false

/-- A Baste completes (R187, R395): slot BASTED with its new BGEN, time and content. -/
def basteDone (u : Cu) (b : Baste) (w : BasteWork) (rest : List Baste) (s : State) : State :=
  let s1 := (s.setBastes u rest).setSlot w.slot { w.new with sec := s.time.sec, ns := s.time.ns }
  let s2 := s1.complete b.cmd w.status w.flags (2 ^ 16 * w.new.bgen + w.slot) w.new.epoch
    (w.new.cellsChanged % 2 ^ 16 + 2 ^ 16 * (w.stuck.getD 0x1FFF % 2 ^ 13)) (w.verdict * 2 ^ 28 + min w.steps 0x4000)
  (s2.pmcEvent u 0x0B 0 1).takeBaste u (rest.length + 1)

/-- A Baste joins its unit's list (R187, R395). -/
def basteTake (c : Cmd) (d : HostData) (badWays : List Nat) (s : State) : State :=
  if !originOk (c.h 6) || !hostAddrOk (c.q 16) then s.refuse c 0x05
  else
    let l := s.bastes c.unit
    (s.setBastes c.unit (l ++ [{ cmd := c, data := d, badWays := badWays, work := none }])).takeBaste c.unit (l.length + 1)

end State

open State

/-- MAP_BASTE (R187, R395): the form is checked at acceptance; the rest when the unit takes the Baste up. -/
def execMapBaste (c : Cmd) (d : HostData) (badWays : List Nat) (s : State) : Res :=
  .next (s.runDesc c 0x02 (fun s => (s.recReads c d).basteTake c d badWays))

/-- BASTE_COMPLETE (R187): not while its half of the trajectory area is being replayed. -/
def execBasteComplete (u : Cu) (s : State) : Res :=
  match s.bastes u with
  | [] => .next s
  | b :: rest => match b.work with
    | none => .next s
    | some w => .next (if s.halfBusy w then s else s.basteDone u b w rest)

end Sys2Proof.Machine
end

