-- ==== Sys2Proof/Machine/Recorder.lean ====
section
/-! DEFINITION. The recorder's commands (R576–R579, R411) and replay (R582–R585). -/
namespace Sys2Proof.Machine

namespace State

/-- G of the newest record (R411). -/
def newestG (s : State) : Nat :=
  match s.recd.open_.getLast? with
  | some r => r.g
  | none =>
    let w := s.fld Reg.REC_WPTR 16 0
    match Tab.find ((w + s.ringBlocks - 1) % s.ringBlocks) s.recd.ring with
    | some b => b.gLast
    | none => 0

/-- The result words of REC_CTRL (R411). -/
def recComplete (c : Cmd) (status : Nat) (s : State) : State :=
  let g := s.newestG
  s.complete c status 0 g (g / 2 ^ 32) (s.rnat Reg.REC_FILL)
    (b2n (s.rbit Reg.REC_STATUS 2) + 2 * b2n (s.rbit Reg.REC_CTRL 1) + 2 ^ 16 * s.fld Reg.REC_SIZE 6 0)

/-- A write of REC_CTRL by the holder: EN, MODE and CAP_EN (R586). -/
def recCtrlBits (v : Word) (s : State) : State := s.maskWrite Reg.REC_CTRL 0x103 v

/-- RELEASE (R577): FROZEN clears and recording resumes in the next block, flagged GAP, with a CHECKPOINT first; FILL starts again. -/
def recRelease (s : State) : State :=
  if s.rbit Reg.REC_STATUS 2 then ((s.clrReg Reg.REC_STATUS 4).setReg Reg.REC_FILL 0).recRestart else s

/-- Where the user region starts for a ring of `n` GiB (R477). -/
def userBase (p : Part) (n : Nat) : Nat :=
  match p with
  | .wl5128 => if n < 56 then 0x200000000 + n * 2 ^ 30 else 0x1200000000 + (n - 56) * 2 ^ 30
  | .wl2564 => 0x400000000 + n * 2 ^ 30

/-- An address of the recorder region of a part, which the ring and the user region share (R476, R477) (log entry 49 DESIGN CHOICE). -/
def recRegion (p : Part) (a : Nat) : Bool :=
  match p with
  | .wl5128 => (decide (0x200000000 ≤ a) && decide (a < 0x1000000000)) || (decide (0x1200000000 ≤ a) && decide (a < 0x2000000000))
  | .wl2564 => decide (0x400000000 ≤ a) && decide (a < 0x1000000000)

/-- What a byte of the stacked memory that is not listed reads as: zero; in the recorder region after a change of SIZE, a free value (R477). -/
def dramOpen (s : State) (a : Nat) : Byte :=
  match s.mem.userFree with
  | some n => if recRegion s.part a then BitVec.ofNat 8 (Config.freeNat n / 256 ^ a) else 0
  | none => 0

/-- A byte of the stacked memory (log entry 48 DESIGN CHOICE). -/
def dramAt (s : State) (a : Nat) : Byte := Tab.get (s.dramOpen a) a s.mem.dram

/-- The blocks of the recording, oldest first (R569): the longest run of consecutive BSEQ that ends at the newest block. -/
def recordingBlocks (s : State) : List Block :=
  let run (fuel : Nat) : List Block :=
    ((List.range fuel).foldl (fun (acc : List Block × Bool) i =>
      if acc.2 then acc
      else
        match Tab.find ((s.fld Reg.REC_WPTR 16 0 + 2 * s.ringBlocks - 1 - i) % s.ringBlocks) s.recd.ring with
        | none => (acc.1, true)
        | some b => match acc.1 with
          | [] => ([b], false)
          | h :: _ => if b.bseq + 1 = h.bseq then (b :: acc.1, false) else (acc.1, true)) ([], false)).1
  run (min s.ringBlocks (s.recd.ring.length + 1))

/-- A write of REC_CTRL (R576, R577, R586): its modes, then FREEZE, then RELEASE (log entry 176 DEDUCED). -/
def recCtrlWrite (v : Word) (s : State) : State :=
  let s1 := s.recCtrlBits v
  let s2 : State := if bit v 31 then s1.freeze 0 0xFF s.time.g else s1
  if bit v 30 then s2.recRelease else s2

/-- SIZE changes (R411, R477, R577): the user base follows, and the ring restarts at block 0 (log entry 177 DEDUCED). -/
def recSizeSet (n : Nat) (s : State) : State :=
  let s1 := s.setReg64 Reg.MEM_USER_BASE_LO Reg.MEM_USER_BASE_HI (userBase s.part n)
  let s2 := (s1.setReg Reg.REC_SIZE (word n)).setReg Reg.REC_WPTR 0
  let s3 : State := if s.rbit Reg.REC_STATUS 2 then s2.orReg Reg.REC_STATUS 0x80 else s2
  let d := s3.drawNat
  { d.2 with recd := { d.2.recd with ring := [] },
             mem := { d.2.mem with dram := d.2.mem.dram.filter (fun e => !recRegion s.part e.1), userFree := some d.1 } }

/-- A write of REC_SIZE (R12, R586, R588): locked while the recorder runs; a value outside R3 is the nearer limit. -/
def recSizeWrite (v : Word) (s : State) : State :=
  let n := clampN (field v 6 0) 1 (match s.part with | .wl5128 => 112 | .wl2564 => 48)
  if n = s.fld Reg.REC_SIZE 6 0 then s
  else if s.rbit Reg.REC_CTRL 0 && !s.rbit Reg.REC_STATUS 2 then s.orReg Reg.REC_STATUS 1
  else s.recSizeSet n

/-- A write of REC_PULL_CTRL (R579): START is refused unless the ring is frozen or the recorder off; it takes the last BLOCKS blocks of the
recording, ascending. -/
def recPullWrite (v : Word) (s : State) : State :=
  let s1 := s.maskWrite Reg.REC_PULL_CTRL 0x0F01FFFF v
  if !bit v 31 then s1
  else if s.rbit Reg.REC_PULL_STATUS 31 || (s.rbit Reg.REC_CTRL 0 && !s.rbit Reg.REC_STATUS 2) then s1.orReg Reg.REC_PULL_STATUS 0x20000000
  else
    let all := s.recordingBlocks
    let n := field v 16 0
    let take := if n = 0 then all else all.drop (all.length - n)
    ({ s1 with recd := { s1.recd with pull := some (take.map Block.bseq), pulled := 0 } }).setReg Reg.REC_PULL_STATUS
      ((s1.reg Reg.REC_PULL_STATUS &&& 0x60000000) ||| 0x80000000)

end State

open State

/-- REC_CTRL_STATUS (R411). -/
def execRecCtrlStatus (c : Cmd) (s : State) : Res :=
  .next (s.runDesc c 0x0E (fun s => if c.b 4 = 0 then s.recComplete c 0 else s.refuse c 0x05))

/-- REC_FREEZE (R576): by register or sub-operation 1, at once. -/
def execRecFreeze (via : Via) (s : State) : Res :=
  match via with
  | .reg u v => .next (s.baseWrite u Reg.REC_CTRL (putBit v 31 true) (fun s => s.recCtrlWrite (putBit v 31 true)))
  | .desc c => .next (s.runDesc c 0x0E (fun s =>
      if c.b 4 = 1 then (s.freeze 0 0xFF s.time.g).recComplete c 0 else s.refuse c 0x05))

/-- REC_RELEASE (R577). -/
def execRecRelease (via : Via) (s : State) : Res :=
  match via with
  | .reg u v => .next (s.baseWrite u Reg.REC_CTRL (putBit v 30 true) (fun s => s.recCtrlWrite (putBit v 30 true)))
  | .desc c => .next (s.runDesc c 0x0E (fun s =>
      if c.b 4 = 2 then (s.recRelease).recComplete c 0 else s.refuse c 0x05))

/-- REC_SIZE_SET (R411, R577): only while frozen, within R3; the ring restarts at block 0. -/
def execRecSizeSet (c : Cmd) (s : State) : Res :=
  .next (s.runDesc c 0x0E (fun s =>
    if c.b 4 ≠ 3 ∨ c.q 16 < 1 ∨ c.q 16 > (match s.part with | .wl5128 => 112 | .wl2564 => 48) then s.refuse c 0x05
    else if !s.rbit Reg.REC_STATUS 2 then s.recComplete c 0x11
    else (s.recSizeSet (c.q 16)).recComplete c 0))

/-- REC_MODE_SET (R411, R572): MODE is live, with the next block as its boundary. -/
def execRecModeSet (c : Cmd) (s : State) : Res :=
  .next (s.runDesc c 0x0E (fun s =>
    if c.b 4 ≠ 4 ∨ c.q 16 > 1 then s.refuse c 0x05
    else (s.maskWrite Reg.REC_CTRL 2 (word (2 * c.q 16))).recComplete c 0))

/-- REC_TRIGGERS_SET (R411, R576): the mask of fault classes, bits 3:0 of REC_TRIG. -/
def execRecTriggersSet (c : Cmd) (s : State) : Res :=
  .next (s.runDesc c 0x0E (fun s =>
    if c.b 4 ≠ 5 ∨ c.q 16 > 15 then s.refuse c 0x05
    else (s.maskWrite Reg.REC_TRIG 0xF (word (c.q 16))).recComplete c 0))

/-- REC_POST_EXPIRY (R576): the ring freezes REC_POST ms after its trigger. -/
def execRecPostExpiry (s : State) : Res :=
  match s.recd.postTrig with
  | some (due, cause, src, g) => .next (if due ≤ s.clk then s.freeze cause src g else s)
  | none => .next s

/-- REC_PULL_START (R579): only while frozen or not enabled; the last BLOCKS blocks of the recording, ascending. -/
def execRecPullStart (u : Cu) (v : Word) (s : State) : Res :=
  .next (s.baseWrite u Reg.REC_PULL_CTRL (putBit v 31 true) (fun s => s.recPullWrite (putBit v 31 true)))

/-- REC_PULL_END (R579): every block has travelled: DONE with the blocks moved. -/
def execRecPullEnd (s : State) : Res :=
  match s.recd.pull with
  | some [] =>
    .next ((({ s with recd := { s.recd with pull := none } }).setReg Reg.REC_PULL_STATUS
      ((s.reg Reg.REC_PULL_STATUS &&& 0x60000000) ||| 0x40000000)).setField Reg.REC_PULL_STATUS 16 0 s.recd.pulled)
  | _ => .next s

end Sys2Proof.Machine
end

