-- ==== Sys2Proof/Machine/Tout.lean ====
section
/-! DEFINITION. Time outputs (R297, R298, R410): programming, pulses, and what a step of device time does to a train. -/
namespace Sys2Proof.Machine

namespace State

/-- A time output's state. -/
def tout (s : State) (i : Nat) : Tout := Tab.get {} i s.sch.touts
def setTout (i : Nat) (x : Tout) (s : State) : State := { s with sch := { s.sch with touts := Tab.put {} i x s.sch.touts } }

/-- MODE, PERIOD, WIDTH within 20 ns and PERIOD − 20 ns, and ADV within 10⁶ ps (R278, R297, R299) (log entry 102 DEDUCED). -/
def toutMode (s : State) (i : Nat) : Nat := s.fld (Reg.TIM_TOUT_CFG i) 25 24
def toutPer (s : State) (i : Nat) : Nat := let p := s.rnat (Reg.TIM_TOUT_PER i); if p = 0 then 0 else max 40 p
def toutWid (s : State) (i : Nat) : Nat :=
  let w := max 20 (s.rnat (Reg.TIM_TOUT_WID i))
  if s.toutPer i = 0 then w else min w (s.toutPer i - 20)
def toutAdv (s : State) (i : Nat) : Nat := min 1000000 (s.rnat (Reg.TIM_TOUT_ADV i))

/-- A pulse starts: the output leaves its inactive level for WIDTH, FIRST is set, and a TIME_PULSE that waits completes (R297, R410) (log entry 101 DEDUCED). -/
def toutStart (i : Nat) (s : State) : State :=
  let t := s.tout i
  let first := !s.rbit (Reg.TIM_TOUT_STAT i) 0
  let s1 := (s.setTout i { t with high := true, endClk := s.clk + clksNs (s.toutWid i), cmd := none }).orReg (Reg.TIM_TOUT_STAT i) 1
  if first || t.cmd.isSome then s1.completeOpt t.cmd (okStatus t.late) 0 (s1.rnat (Reg.TIM_TOUT_STAT i)) 0 0 0 else s1

/-- `n` instants of an output are dropped (R298). -/
def toutDrop (i n : Nat) (s : State) : State := s.bump (Reg.TIM_TOUT_STAT i) 31 16 n

/-- The first instant of a train at or after a time, and how many lie before it. -/
def toutFrom (start per t : Nat) : Nat × Nat :=
  if start ≥ t ∨ per = 0 then (start, 0) else let j := (t - start + per - 1) / per; (start + j * per, j)

/-- A mode 0 train is set going at `start` ns; a start already past is late (R298). -/
def toutGo (i start : Nat) (lateExec : Bool) (cmd : Option Cmd) (s : State) : State :=
  let t := s.tout i
  let per := s.toutPer i
  if s.now ≤ start then s.setTout i { t with running := true, start := start, nextAt := start, cmd := cmd, late := false }
  else
    let p := toutFrom start per s.now
    let s1 := (s.orReg Reg.TIM_STATUS 0x1000).orReg (Reg.TIM_TOUT_STAT i) 2
    if lateExec then
      (s1.setTout i { t with running := decide (per ≠ 0), start := start, nextAt := p.1, cmd := cmd, late := true }).toutStart i
    else
      let s2 := (s1.toutDrop i (if per = 0 then 1 else p.2)).setTout i { t with running := decide (per ≠ 0), start := start, nextAt := p.1, cmd := if per = 0 then none else cmd, late := false }
      if per = 0 then s2.completeOpt cmd 0x02 0 (s2.rnat (Reg.TIM_TOUT_STAT i)) 0 0 0 else s2

/-- An output is disabled: inactive level, no train; a waiting command is aborted. -/
def toutStop (i : Nat) (s : State) : State :=
  let t := s.tout i
  (s.setTout i {}).completeOpt t.cmd 0x0B 0 0 0 0 0

/-- A write of TIM_TOUT_CFG (R12, R297–R299). -/
def toutCfgWrite (i : Nat) (v : Word) (s : State) : State :=
  let k := Reg.TIM_TOUT_CFG i
  let was := s.rbit k 31
  let s1 := s.rwlWrite k 0x80000000 0x63000000 was Reg.TIM_STATUS 0x800 v
  if was && !bit v 31 then s1.toutStop i
  else if !was && bit v 31 then
    if s1.toutMode i = 0 then
      let z := decide (s1.rnat (Reg.TIM_TOUT_SEC i) = 0) && decide (s1.rnat (Reg.TIM_TOUT_NS i) = 0)
      s1.toutGo i (if z then s1.now + nsOfClks 64 else s1.fullTime (s1.rnat (Reg.TIM_TOUT_SEC i)) (s1.rnat (Reg.TIM_TOUT_NS i))) (bit v 30) none
    else s1.setTout i { s1.tout i with running := true, nextAt := 0 }
  else s1

/-- The cycle boundary that comes next for mode 2: the edge of entry 0 of the active list (log entry 103 DEDUCED). -/
def boundaryEdge (s : State) : Option Nat :=
  match s.sch.active with
  | some l => if l.pos = 0 then some l.edge else none
  | none => none

/-- The instant, with ADV, falls on this drive clock or before the next. -/
def toutDue (s : State) (i at_ : Nat) : Bool := decide (at_ * 1000 ≤ s.now * 1000 + s.toutAdv i + 4882)

/-- Outputs of one mode pulse at an instant of theirs, once (R297): mode 1 at a Gust trigger, mode 2 at a cycle boundary. -/
def toutFire (mode instant : Nat) (s : State) : State :=
  (List.range 4).foldl (fun (s : State) i =>
    if (s.tout i).running && decide (s.toutMode i = mode) && decide ((s.tout i).nextAt ≠ instant + 1) then
      (s.setTout i { s.tout i with nextAt := instant + 1 }).toutStart i else s) s

/-- A step of device time (R298): a mode 0 train resumes at its first instant at or after the new time; instants jumped over are dropped. -/
def toutRestep (s : State) : State :=
  (List.range 4).foldl (fun (s : State) i =>
    let t := s.tout i
    if t.running && decide (s.toutMode i = 0) then
      let per := s.toutPer i
      if per = 0 then
        if t.nextAt < s.now then ((s.toutDrop i 1).setTout i { t with running := false, cmd := none }).completeOpt t.cmd 0x02 0 0 0 0 0 else s
      else
        let p := toutFrom t.start per s.now
        (s.setTout i { t with nextAt := p.1 }).toutDrop i (if t.nextAt < p.1 then (p.1 - t.nextAt) / per else 0)
    else s) s

/-- TIME_PULSE programs and enables an output (R410). -/
def timePulseAct (c : Cmd) (s : State) : State :=
  let i := c.b 4
  let start := if c.isNow then s.now + nsOfClks 64 else s.fullTime (c.w 8) (c.w 12)
  if c.w 16 = 0 ∧ start < s.now ∧ !c.lateExec then
    (((s.orReg Reg.TIM_STATUS 0x1000).orReg (Reg.TIM_TOUT_STAT i) 2).toutDrop i 1).complete c 0x02 0 ((s.orReg (Reg.TIM_TOUT_STAT i) 2).rnat (Reg.TIM_TOUT_STAT i)) 0 0 0
  else
    let s1 := (((s.setReg (Reg.TIM_TOUT_SEC i) (word (start / 1000000000))).setReg (Reg.TIM_TOUT_NS i) (word (start % 1000000000))).setReg (Reg.TIM_TOUT_PER i) (word (c.w 16))).setReg (Reg.TIM_TOUT_WID i) (word (c.w 20))
    let s2 := (s1.setReg (Reg.TIM_TOUT_ADV i) (word (c.w 24))).setReg (Reg.TIM_TOUT_CFG i)
      (word (2 ^ 31 + 2 ^ 30 * b2n c.lateExec + 2 ^ 29 * (c.b 5 % 2)))
    s2.toutGo i start c.lateExec (some c)

end State

open State

/-- TIME_PULSE (R410). -/
def execTimePulse (c : Cmd) (s : State) : Res :=
  .next (s.runDesc c 0x10 (fun s =>
    if c.b 4 > 3 ∨ c.w 20 < 20 ∨ (c.w 16 ≠ 0 ∧ (c.w 16 < 40 ∨ c.w 16 < c.w 20 + 20)) ∨ c.w 24 > 1000000 then s.refuse c 0x05
    else if s.rbit (Reg.TIM_TOUT_CFG (c.b 4)) 31 then s.refuse c 0x11
    else s.timePulseAct c))

/-- TOUT_ENABLE (R298): EN set, with the other fields of the value. -/
def execToutEnable (u : Cu) (i : Nat) (v : Word) (s : State) : Res :=
  if i < 4 then .next (s.baseWrite u (Reg.TIM_TOUT_CFG i) (v ||| 0x80000000) (fun s => s.toutCfgWrite i (v ||| 0x80000000))) else .next s

/-- TOUT_PULSE (R297): the pulse of a mode 0 train, or of mode 2 with its advance; mode 1 follows the Gust trigger itself. -/
def execToutPulse (i : Nat) (s : State) : Res :=
  let t := s.tout i
  if !t.running || !s.rbit (Reg.TIM_TOUT_CFG i) 31 then .next s
  else if s.toutMode i = 0 then
    .next (if s.toutDue i t.nextAt then
      (s.setTout i { t with running := decide (s.toutPer i ≠ 0), nextAt := t.nextAt + s.toutPer i }).toutStart i else s)
  else if s.toutMode i = 2 then
    match s.boundaryEdge with
    | some e => .next (if s.toutDue i e && decide (t.nextAt ≠ e + 1) then (s.setTout i { t with nextAt := e + 1 }).toutStart i else s)
    | none => .next s
  else .next s

/-- TOUT_PULSE_END (R297): WIDTH after the pulse started. -/
def execToutPulseEnd (i : Nat) (s : State) : Res :=
  let t := s.tout i
  .next (if t.high && decide (t.endClk ≤ s.clk) then s.setTout i { t with high := false } else s)

end Sys2Proof.Machine
end

