-- ==== Sys2Proof/Machine/Time.lean ====
section
/-! DEFINITION. PPS edges, steps and the servo (R270–R277). -/
namespace Sys2Proof.Machine

namespace State

/-- Device time in units of 2⁻³² ns. -/
def fine (s : State) : Nat := s.now * 2 ^ 32 + s.time.frac

/-- Set device time from a number of 2⁻³² ns. -/
def setFine (t : Nat) (s : State) : State :=
  { s with time := { s.time with frac := t % 2 ^ 32, ns := t / 2 ^ 32 % 1000000000, sec := t / 2 ^ 32 / 1000000000 % 2 ^ 48 } }

/-- A compensation in ps to the nearest 1/64 of a drive clock, 76.2939453125 ps (R278). -/
def dlySteps (ps : Int) : Int := (2 * ps * 8192 + 625000).fdiv (2 * 625000)

/-- SYNC (R276). -/
def sync (s : State) : Nat := s.fld Reg.TIM_STATUS 2 0
def setSync (v : Nat) (s : State) : State := s.setField Reg.TIM_STATUS 2 0 v

/-- The present increment INC (R270). -/
def incNow (s : State) : Nat := incOf s.freq (if s.time.phLeft = 0 then 0 else s.time.ph)

/-- A TIME record: an accepted edge, a step or a change of INC (R571). -/
def recTime (edge : Nat) (e : Int) (step : Bool) (s : State) : State :=
  s.recAppend 0x06 (bytesOf 8 (edge / 2 ^ 32 / 1000000000) ++ bytesOf 4 (edge / 2 ^ 32 % 1000000000) ++ bytesOf 4 edge ++
    bytesOf 8 (low 64 e) ++ bytesOf 8 s.incNow ++ bytesOf 8 (b2n step))

/-- Seconds armed in TIM_SEC_SET (R277, R299). -/
def armedSec (s : State) : Nat := s.rnat Reg.TIM_SEC_SET_LO + 2 ^ 32 * s.fld Reg.TIM_SEC_SET_HI 15 0

/-- Timed commands whose action time a forward step passes are late (R286). -/
def markLate (was : Nat) (s : State) : State :=
  let one (x : UnitSt) : UnitSt :=
    { x with timed := x.timed.map (fun t => if was < t.due ∧ t.due < s.now then { t with late := true } else t) }
  { s with ua := one s.ua, ub := one s.ub }

/-- A step (R274): the instant `edge` is to read `target` seconds; TIM_FREQ is kept, ph zero, SEC_PEND and STEP_PEND clear, STEPPED and the
count, TIME_STEP; lists in hand recompute their start (R295). -/
def stepTime (edge target : Nat) (s : State) : State :=
  let newT := s.fine + target * 1000000000 * 2 ^ 32 - edge
  let s1 := s.setFine newT
  let s2 : State := { s1 with time := { s1.time with ph := 0, phLeft := 0, goodEdges := 0 } }
  let s3 := ((s2.clrReg Reg.TIM_STATUS 0x18).orReg Reg.TIM_STATUS 0x100).bump Reg.TIM_CNT 31 16 1
  let s4 := s3.event 5 0x50 0 (target * 1000000000) (edge / 2 ^ 32 % 1000000000) (edge / 2 ^ 32 / 1000000000) 0 target
  (((s4.recTime (target * 1000000000 * 2 ^ 32) 0 true).schedRestep).toutRestep).markLate s.now

/-- The slew law with SERVO 1 (R275). -/
def slew (e : Int) (s : State) : State :=
  if !s.rbit Reg.TIM_CTRL 1 then s
  else
    let fsh := s.fld Reg.TIM_SLEW 28 24
    let adj := -(asr (e * 21990) 20)
    let l : Int := ((s.fld Reg.TIM_SLEW 23 0 * 21475 / 1024 : Nat) : Int)
    let f := clampI (s.freq + asr adj fsh) (-l) l
    let s1 := s.setReg Reg.TIM_FREQ (word (low 32 f))
    { s1 with time := { s1.time with ph := clampI adj (-l) l, phLeft := 204800000 } }

/-- Step threshold in ns, below 100 taken as 100 (R299). -/
def stepThr (s : State) : Nat := max 100 (s.fld Reg.TIM_STEP_THR 23 0)

/-- The error e in ps, rounded to nearest, of a compensated edge (R273). -/
def edgeError (edge : Nat) : Int :=
  let m : Nat := edge % (1000000000 * 2 ^ 32)
  let d : Int := if m ≥ 500000000 * 2 ^ 32 then (m : Int) - 1000000000 * 2 ^ 32 else (m : Int)
  (2 * d * 1000 + 2 ^ 32).fdiv (2 * 2 ^ 32)

/-- SYNC and the count of good edges after an accepted edge that made no step (R276). -/
def syncEdge (e : Int) (s : State) : State :=
  let good := if e.natAbs ≤ 100000 then s.time.goodEdges + 1 else 0
  let s1 : State := { s with time := { s.time with goodEdges := good } }
  if s.sync = 0 ∨ s.sync = 3 then s1.setSync (if good ≥ 8 then 2 else 1) else if good ≥ 8 then s1.setSync 2 else s1

/-- What an accepted edge does (R273, in its order) (log entry 106 DEDUCED). -/
def acceptEdge (edge : Nat) (s : State) : State :=
  let e := edgeError edge
  let near := (edge / 2 ^ 32 + 500000000) / 1000000000
  let s0 := (((s.setReg Reg.TIM_PPS_ERR (word (low 32 (clampI e (-2147483648) 2147483647)))).setReg Reg.TIM_PPS_CAP_NS
    (word (edge / 2 ^ 32 % 1000000000))).setReg Reg.TIM_PPS_CAP_SEC (word (edge / 2 ^ 32 / 1000000000)))
  let s1 : State := { s0 with time := { s0.time with edge := some s.clk, ppsSince := s.clk, lost := false } }
  let back := s.time.lost
  let secPend := s.rbit Reg.TIM_STATUS 4
  let fin (evt : Nat) (stepped : Bool) (s : State) : State :=
    let s2 : State := if stepped then s.setSync 1 else s.syncEdge e
    if back then s2.event 5 0x52 0 evt s2.sync (low 32 e) 0 0 else s2
  let at_ := edge / 2 ^ 32
  if secPend && decide (s.armedSec ≠ near) then fin (s.armedSec * 1000000000) true (s1.stepTime edge s.armedSec)
  else
    let s2 : State := if secPend then s1.clrReg Reg.TIM_STATUS 0x10 else s1
    if s2.rbit Reg.TIM_STATUS 3 then fin (near * 1000000000) true (s2.stepTime edge near)
    else if e.natAbs > s.stepThr * 1000 ∧ !s.rbit Reg.TIM_CTRL 2 then
      fin at_ false ((s2.orReg Reg.TIM_STATUS 8).recTime edge e false)
    else fin at_ false ((s2.slew e).recTime edge e false)

/-- A write of TIM_SEC_SET_HI (R277, R299): with ARM the seconds are pending; with PPS_EN 0 they are applied at once. -/
def secSetWrite (v : Word) (s : State) : State :=
  let s0 := s.setReg Reg.TIM_SEC_SET_HI (v &&& 0x8000FFFF)
  if !bit v 31 then s0
  else
    let s1 := s0.orReg Reg.TIM_STATUS 0x10
    if s.rbit Reg.TIM_CTRL 0 then s1
    else if s1.armedSec = s.time.sec then s1.clrReg Reg.TIM_STATUS 0x10
    else s1.stepTime (s.time.sec * 1000000000 * 2 ^ 32) s1.armedSec

/-- A write of TIM_CTRL (R272, R276, R299): PPS_EN written 0 leaves the servo FREE; set, the wait for an edge begins (log entry 107 DEDUCED). -/
def timCtrl (v : Word) (s : State) : State :=
  let s1 := s.maskWrite Reg.TIM_CTRL 7 v
  if !bit v 0 then s1.setSync 0
  else if s.rbit Reg.TIM_CTRL 0 then s1
  else { s1 with time := { s1.time with ppsSince := s.clk } }

/-- A write of TIM_FREQ (R275, R299, R571): the increment changes, which is recorded (log entry 108 DEDUCED). -/
def freqWrite (v : Word) (s : State) : State := (s.setReg Reg.TIM_FREQ v).recTime s.fine 0 false

end State

open State

/-- PPS_EDGE (R272, R273): an edge at `frac`/64 of a drive clock after the present one. -/
def execPpsEdge (frac : Nat) (s : State) : Res :=
  if !s.rbit Reg.TIM_CTRL 0 || !s.time.on || s.pwr.warm.isSome || s.inReplay then .next s
  else
    let glitch := match s.time.edge with | some t => decide (s.clk < t + 184320000) | none => false
    if glitch then .next ((s.orReg Reg.TIM_STATUS 0x400).bump Reg.TIM_CNT 15 0 1)
    else
      let off : Int := ((frac % 64 : Nat) : Int) - dlySteps (sext 32 (s.rnat Reg.TIM_DLY_PPS))
      let edge := ((s.fine : Int) + (off * s.incNow).fdiv 64).toNat
      .next (s.acceptEdge edge)

/-- PPS_LOST (R272, R276): 1,100 ms without an accepted edge. -/
def execPpsLost (s : State) : Res :=
  if !s.rbit Reg.TIM_CTRL 0 || s.time.lost || s.inReplay || decide (s.clk < s.time.ppsSince + 225280000) then .next s
  else
    let was := s.sync
    let s1 : State := { s with time := { s.time with lost := true, ph := 0, phLeft := 0, goodEdges := 0 } }
    let s2 := (s1.orReg Reg.TIM_STATUS 0x200).event 5 0x51 0 s.now was 0 0 0
    let s3 : State := if was = 2 then s2.setSync 3 else s2
    .next ((s3.recTime s.fine 0 false).report1 25 0)

/-- PPS_PHASE_END (R275): 204,800,000 drive clocks after a slew ph returns to zero. -/
def execPpsPhaseEnd (s : State) : Res :=
  if s.time.ph = 0 ∨ s.time.phLeft ≠ 0 ∨ s.inReplay = true then .next s
  else .next ({ s with time := { s.time with ph := 0 } }.recTime s.fine 0 false)

/-- SECONDS_ARM (R277): TIM_SEC_SET_HI with ARM. -/
def execSecondsArm (u : Cu) (v : Word) (s : State) : Res :=
  .next (s.baseWrite u Reg.TIM_SEC_SET_HI (putBit v 31 true) (fun s => s.secSetWrite (putBit v 31 true)))

end Sys2Proof.Machine
end

