-- ==== Sys2Proof/Machine/Gust.lean ====
section
/-! DEFINITION. Gusts (R190–R214): verification of the changed paths, the commit on the trigger clock, Lulls and their ends, and the triggers by
descriptor, schedule and pin. -/
namespace Sys2Proof.Machine

namespace State

/-! ### Paths (R200) -/

/-- The path to an output under a vector: its cells and the input that feeds it. In graph mode it is traced back from the output's reference. -/
def backTrace (topo : List Nat) (vec : Nat) : Nat → Nat → List Nat × Nat
  | 0, r => ([], r % 512)
  | n + 1, r =>
    if r ≥ 0x8000 then ([], r % 512)
    else
      let c := r / 2
      let x := backTrace topo vec n (topo.getD (2 * c + (if vec.testBit c then 1 - r % 2 else r % 2)) 0x8000)
      (c :: x.1, x.2)

/-- Every completed path of a vector, by output: cells and input. -/
def paths (s : State) (vec : Nat) : List (Nat × List Nat × Nat) :=
  if s.graph then
    match s.fab.fdr with
    | some f => (List.range s.nPorts).map (fun q => (q, backTrace f.topo vec f.cells (f.topo.getD (2 * f.cells + q) 0x8000)))
    | none => []
  else (List.range s.nPorts).map (fun p => let x := Benes.path s.geo vec p; (x.2, x.1, p))

/-- The inputs that a slot's map names, by output (R23); none in graph mode. -/
def namedPairs (x : Slot) : List (Nat × Nat) :=
  let m := wideMap x.map
  (m.zip (List.range m.length)).filterMap (fun e => if e.1 = 0x3FF then none else some (e.2, e.1))

/-- The changed ports of a transition (R200): output, input and whether the new map names it. -/
def changedPorts (s : State) (old new : Nat) (named : List (Nat × Nat)) (cells : List Nat) : List (Nat × Nat × Bool) :=
  let was := s.paths old
  ((s.paths new).filter (fun e => e.2.1.any (fun c => cells.contains c) ||
    decide ((Tab.find e.1 was).map Prod.snd ≠ some e.2.2))).map (fun e => (e.1, e.2.2, named.any (fun x => decide (x.1 = e.1))))

/-! ### Verdicts (R201–R204) -/

/-- One verdict nibble (R208). -/
def setVres (q code : Nat) (s : State) : State := s.setField (Reg.GST_VRES (q / 8)) (4 * (q % 8) + 3) (4 * (q % 8)) code
def vres (s : State) (q : Nat) : Nat := s.fld (Reg.GST_VRES (q / 8)) (4 * (q % 8) + 3) (4 * (q % 8))
def clearVres (s : State) : State := (List.range 64).foldl (fun (s : State) i => s.setReg (Reg.GST_VRES i) 0) s

/-- The fast-lane power of a port side and its flags (R148, R201). -/
def fastPower (s : State) (port : Nat) (out : Bool) : Int × Nat :=
  match s.monOf (if out then 5 else 4) port with
  | none => (-32768, 0)
  | some ch => let m := s.monCh ch; (powerOf m.fast m.gain (s.rnat (sideK port out)) 15, m.fastFl)

/-- The verdict of one port and its loss L (R201, R202). -/
def judgePort (v : Verify) (q p : Nat) (s : State) : Nat × Int :=
  let i := s.fastPower p false
  let o := s.fastPower q true
  let bad (f : Nat) : Bool := decide (f &&& 0x47 ≠ 0)
  if bad i.2 || bad o.2 then (5, 0)
  else if i.1 = -32768 || decide (i.1 < sext 16 (field v.vfloor 15 0)) || s.rbit (sidePwr p false) 16 then (4, 0)
  else
    let l := clampI (i.1 - o.1) (-32768) 32767
    let exp : Int := (field v.vloss 15 0 : Nat)
    let tol : Int := (field v.vloss 31 16 : Nat)
    if ((l - exp).natAbs : Int) ≤ tol then (1, l) else if l > exp + tol then (2, l) else (3, l)

/-- The ports that stand failed, with their loss. -/
def failing (s : State) (v : Verify) : List (Nat × Nat × Int) := v.ports.filter (fun e => decide (s.vres e.1 = 2) || decide (s.vres e.1 = 3))
def passed (s : State) (v : Verify) : Nat := (v.ports.filter (fun e => decide (s.vres e.1 = 1))).length

/-- Judge ports at an instant (R201, R203): all at V, the failing ones after it; a failure stands until the port passes or fails anew. -/
def judge (v : Verify) (s : State) : Verify × State :=
  let pick := if v.judged then s.failing v else v.ports
  let r : List (Nat × Nat × Int) × State := v.ports.foldl (fun (a : List (Nat × Nat × Int) × State) e =>
    if pick.any (fun x => decide (x.1 = e.1)) then
      let j := s.judgePort v e.1 e.2.1
      if v.judged ∧ 4 ≤ j.1 then (a.1 ++ [e], a.2) else (a.1 ++ [(e.1, e.2.1, j.2)], a.2.setVres e.1 j.1)
    else (a.1 ++ [e], a.2)) ([], s)
  let v1 := { v with ports := r.1, judged := true }
  let fl := r.2.failing v1
  let s1 := (r.2.setReg Reg.GST_VSUM1 (word (2 ^ 16 * min fl.length 1023 + min (r.2.passed v1) 1023))).setReg Reg.GST_VFIRST
    (match fl with | e :: _ => word (2 ^ 16 * low 16 e.2.2 + e.1) | [] => 0x3FF)
  ({ v1 with everFailed := v.everFailed || !fl.isEmpty }, s1)

/-- OUTCOME (R203, R205, R211). -/
def outcome (s : State) (v : Verify) : Nat :=
  if !v.moved then 1 else if !bit v.ctrl 0 || !v.judged then 4 else if !v.everFailed then 1 else if (s.failing v).isEmpty then 2 else 3

/-- SETTLE_FAIL events, the report and the strikes of a Gust that failed (R204, R238). -/
def settleFail (v : Verify) (s : State) : State :=
  let fl := s.failing v
  let ents := match s.fab.fdr with | some f => f.portEnts | none => []
  let inL (p : Nat) : Nat := match ents[p]? with | some e => e.inLabel | none => 0
  let outL (q : Nat) : Nat := match ents[q]? with | some e => e.outLabel | none => 0
  let s1 := (s.orReg Reg.GST_STATUS 0x10).bump Reg.GST_CNT0 31 16 1
  let dNs := s.now - nsOfClks (s.clk - v.d)
  let s2 : State := ((fl.take 16).zip (List.range 16)).foldl (fun (s : State) (e : (Nat × Nat × Int) × Nat) =>
    s.event 4 0x42 0 dNs v.seq (e.1.1 + 2 ^ 12 * s.vres e.1.1 + 2 ^ 16 * low 16 e.1.2.2) (inL e.1.2.1 + 2 ^ 16 * outL e.1.1)
      (if e.2 = 0 then fl.length - 16 else 0)) s1
  let hit := (s.paths s.gst.activeVec).filter (fun e => fl.any (fun x => decide (x.1 = e.1)))
  let cells := v.changed.filter (fun c => hit.any (fun e => e.2.1.contains c))
  let s3 : State := cells.foldl (fun (s : State) c =>
    let l := s.loopCell c
    if l.hasLoop then s.setLoopCell c { l with st := { l.st with strikes := min 15 (l.st.strikes + 1) } } else s) s2
  if bit v.ctrl 8 then s3.report1 19 v.seq else s3

/-- The payload of a GUST record (R571). -/
def gustBytes (d slot bgen : Nat) (s : State) : List Byte :=
  bytesOf 8 d ++ bytesOf 2 slot ++ bytesOf 2 bgen ++ s.regBytes [Reg.GST_LAST, Reg.GST_VSUM0, Reg.GST_VSUM1, Reg.GST_VFIRST] ++
    bytesOf 4 0 ++ s.regBytes ((List.range 64).map Reg.GST_VRES)

/-- The GUST record takes its place at the trigger (R570); the recorder fills the outcome in once it is final, in the open block or the newest (log entry 192 DEDUCED). -/
def gustRecord (d slot bgen : Nat) (s : State) : State := s.recAppend 0x08 (s.gustBytes d slot bgen)
def gustFinal (v : Verify) (s : State) : State :=
  let fix (r : RecRec) : RecRec :=
    if r.typ = 8 ∧ r.payload.take 8 = bytesOf 8 v.d then { r with payload := r.payload.take 12 ++ (s.gustBytes v.d v.req.slot 0).drop 12 } else r
  let w := (s.fld Reg.REC_WPTR 16 0 + s.ringBlocks - 1) % s.ringBlocks
  let ring := match Tab.find w s.recd.ring with
    | some b => Tab.set w { b with recs := b.recs.map fix } s.recd.ring
    | none => s.recd.ring
  { s with recd := { s.recd with open_ := s.recd.open_.map fix, ring := ring } }

/-- The verdicts and GST_LAST of a recorded Gust (R581, R583). -/
def recordedVerdicts (p : List Byte) (s : State) : State :=
  ([Reg.GST_LAST, Reg.GST_VSUM0, Reg.GST_VSUM1, Reg.GST_VFIRST].zip [12, 16, 20, 24] ++
    (List.range 64).map (fun i => (Reg.GST_VRES i, 32 + 4 * i))).foldl (fun (s : State) (e : Nat × Nat) => s.setReg e.1 (word (le p e.2 4))) s

/-- RES3 of GUST (R396). -/
def gustRes3 (s : State) (out : Nat) : Nat := out * 2 ^ 26 + s.fld Reg.GST_VFIRST 31 16 * 2 ^ 10 + s.fld Reg.GST_VFIRST 9 0

/-- A Gust's verification is final (R203, R204): outcome, events, and the completion of a descriptor Gust (log entry 36 DEDUCED). -/
def finishVerify (s : State) : State :=
  match s.gst.verify with
  | none => s
  | some v =>
    let out := if s.inReplay then le s.recd.rpGust 12 4 / 2 ^ 20 % 8 else s.outcome v
    let s0 : State := { s with gst := { s.gst with verify := none } }
    let s1 : State := if s.inReplay then s0.recordedVerdicts s.recd.rpGust else s0.setField Reg.GST_LAST 23 20 out
    let s2 := (if out = 3 then s1.settleFail v else s1).gustFinal v
    let dNs := s.now - nsOfClks (s.clk - v.d)
    match v.req.src with
    | .desc c =>
      let st := if v.req.late then 0x01 else match out with | 2 => 0x12 | 3 => 0x0A | _ => 0
      s2.completeAt c dNs st v.cflags v.seq (s2.rnat Reg.GST_VSUM0) (s2.rnat Reg.GST_VSUM1) (s2.gustRes3 out)
    | .pin i => s2.event 4 0x40 0 dNs v.seq (i + 2 ^ 8 * v.req.slot + 2 ^ 16 * out) (s2.rnat Reg.GST_VSUM1) 0
    | .sched => if v.req.edgeClk = 1 then { s2 with cal := { s2.cal with cycleDue := true } } else s2
    | .keep _ => s2

/-- The verifying instant V (R199): the first fast-lane instant whose tick clock is at least D + 461. -/
def verifyAt (s : State) : Nat := s.time.g + 1 + (s.clk + 461 + 127 - s.nextTick) / 128

/-! ### Boundaries (R206, R207) -/

/-- Something waits for a boundary. -/
def wantsBoundary (s : State) : Bool :=
  s.cal.pend || !s.cal.upd.isEmpty || !s.drv.track.isEmpty || !s.mon.track.isEmpty || s.tkn.handoverArmed

/-- A Gust has gone without opening a Lull: what waits for a boundary gets a null Lull once no Gust is pending (R207). -/
def reopen (s : State) : State := if s.wantsBoundary then s.requestBoundary else s

/-- The running Lull is cut (R206, R261). -/
def cutLull (gone : Nat → Bool) (s : State) : State :=
  match s.gst.lull with
  | none => s
  | some _ =>
    let s1 := s.drtFinish (fun c => !gone c)
    (({ s1 with gst := { s1.gst with lull := none } }).clrReg Reg.GST_STATUS 0x300000).bump Reg.GST_CNT1 31 0 1

/-! ### The commit (R190, R199) -/

/-- The next registers take a slot's image (R193). -/
def loadNext (img : List Nat) (s : State) : State :=
  s.onCells (fun _ => true) (fun c => { c with next := img.getD (3 * c.elem + c.kind) 0 })

/-- The pulse or sweep a throw starts on an edge (R102). -/
def startPulse (clk old : Nat) (c : Chan) : Chan :=
  let w := clampN (field c.pe 15 8) 4 163
  if c.kind ≠ 2 ∨ c.role ≠ 1 ∨ c.pulse.isSome then c
  else if old < c.active ∧ bit c.pe 31 then { c with pulse := some { startClk := clk, width := w, amp := min 250 (field c.pe 7 0), sweep := false } }
  else if c.active < old ∧ bit c.pe 30 then { c with pulse := some { startClk := clk, width := w, amp := 0, sweep := true } }
  else c

/-- active takes next, with the edges of the throws (R102, R190). -/
def commitChan (clk : Nat) (c : Chan) : Chan := startPulse clk c.active { c with active := c.next }

/-- The channels of the affected cells (log entry 37 DEDUCED). -/
def cellChans (s : State) (hit : Nat → Bool) : List Nat :=
  (s.drv.chans.filter (fun e => e.2.serves e.1 && decide (e.2.kind ≤ 2) && hit e.2.elem)).map Prod.fst

/-- Queues flushed, active taken and the datapath evaluated in every affected channel (R93, R99, R190). -/
def commit (hit : Nat → Bool) (s : State) : State :=
  let chs := s.cellChans hit
  let s1 : State := chs.foldl (fun (s : State) ch => s.flushQueue ch) s
  let s2 := s1.onCells hit (commitChan s.clk)
  s2.evalWhere false true (fun _ c => decide (c.kind ≤ 2) && hit c.elem)

/-- The loops of the affected cells start from their new codes; a cell of a Squall run leaves it; outputs due are dropped (R99, R229, R236). -/
def gustLoops (cells : List Nat) (s : State) : State :=
  let s0 : State := { s with loop := { s.loop with outs := s.loop.outs.filter (fun o => !cells.contains o.cell) } }
  cells.foldl (fun (s : State) c => if (s.loopCell c).hasLoop then (((s.squallMark c 4).presetCell c (s.armCode c)).setDither c) else s) s0

/-- Sources of a coupling run whose cells a Gust changes are aborted (R265). -/
def gustCoupling (cells : List Nat) (s : State) : State :=
  match s.drt.coupling with
  | none => s
  | some r =>
    let hit := r.sources.filter (fun a => (a / 3 :: s.drtList a).any (fun c => cells.contains c) && !r.aborted.contains a)
    if hit.isEmpty then s
    else ({ s with drt := { s.drt with coupling := some { r with aborted := r.aborted ++ hit } } }).orReg Reg.DRT_STATUS 0x400

/-- Verdicts at the trigger (R199, R202): PENDING, DARK, or UNCHANGED where nothing is verified (log entries 66 DEDUCED, 67 DEDUCED). -/
def startVerdicts (ports : List (Nat × Nat × Bool)) (cells : Nat) (en : Bool) (s : State) : State :=
  let s1 : State := ports.foldl (fun (s : State) e => s.setVres e.1 (if !e.2.2 then 6 else if en then 8 else 0)) s.clearVres
  ((s1.setReg Reg.GST_VSUM0 (word (2 ^ 16 * min cells 0x1FFF + min ports.length 1023))).setReg Reg.GST_VSUM1 0).setReg Reg.GST_VFIRST 0x3FF

/-- The Lull of a Gust that changed a channel opens, its trajectory at point 0 (R205, R259). -/
def openLull (p : Preload) (outs : List Nat) (s : State) : State :=
  let tr := if p.noDraught then none else (s.slot p.req.slot).traj
  let l : Lull := { d := s.clk, endClk := s.clk + clksUs s.lullUs, null := false, slot := p.req.slot, seq := s.rnat Reg.GST_SEQ, len := s.lullUs,
                    play := tr, played := tr, point := 0, offs := (match tr with | some t => s.drtOffs t p.tnow | none => []), lim := s.drtLimit, iFold := [],
                    iAt := (match tr with | some t => t.arms.filterMap (fun a => (s.autoI a.cell).map (fun v => (a.cell, v))) | none => []),
                    counted := [], outs := outs }
  let s1 := ({ s with gst := { s.gst with lull := some l } }).orReg Reg.GST_STATUS 0x200000
  if tr.isSome then (s1.orReg Reg.DRT_STATUS 0x800).drtApply l 0 else s1

/-- A fast capture of every CAP_EVERY-th Gust (R573). -/
def gustCapture (ports : List (Nat × Nat × Bool)) (s : State) : State :=
  if !s.rbit Reg.REC_CTRL 8 || !s.recording then s
  else
    let n := s.recd.capCount + 1
    if n < max 1 (s.fld Reg.REC_CAP 7 0) then { s with recd := { s.recd with capCount := n } }
    else
      let s1 : State := { s with recd := { s.recd with capCount := 0 } }
      if s1.recd.cap.isSome then s1.bump Reg.REC_CNT 31 16 1
      else
        let pad (kind i : Nat) : List Nat := match s1.elemEnt kind i with | some e => [e.chan] | none => []
        { s1 with recd := { s1.recd with cap := some (s1.clk, s1.time.g + 1, ports.flatMap (fun e => pad 4 e.2.1 ++ pad 5 e.1)) } }

/-- SRC and PIN of GST_LAST (R211). -/
def srcBits (r : GustReq) : Nat :=
  match r.src with | .desc _ => 0 | .sched => 2 ^ 30 | .pin i => 2 * 2 ^ 30 + 2 ^ 28 * (i % 4) | .keep i => 2 * 2 ^ 30 + 2 ^ 28 * (i % 4)

/-- CFLAGS of a descriptor Gust (R391). -/
def gustFlags (p : Preload) (x : Slot) : Nat :=
  128 * b2n (x.flags.testBit 4) + 256 * b2n p.stale + 512 * b2n p.calOld + 1024 * b2n p.noDraught + 2048 * b2n p.req.deferFrom.isSome

/-- GST_SEQ, GST_ACTIVE, GST_LAST and D of a Gust that is taken (R191, R208, R211). -/
def noteTaken (p : Preload) (x : Slot) (s : State) : State :=
  let last := srcBits p.req + 2 ^ 27 * b2n p.req.partl + 2 ^ 26 * b2n p.stale + 2 ^ 25 * b2n p.noDraught + 2 ^ 24 * b2n p.calOld + p.req.slot
  let s1 := ((((s.wrapInc Reg.GST_SEQ).setReg Reg.GST_ACTIVE (word (2 ^ 16 * x.bgen + p.req.slot))).setReg Reg.GST_LAST (word last)).setReg64
    Reg.GST_LAST_D_LO Reg.GST_LAST_D_HI s.clk)
  let s2 : State := { s1 with gst := { s1.gst with activeVec := x.vec, activeImg := x.img, activeMap := namedPairs x } }
  (if p.stale then s2.orReg Reg.GST_STATUS 4 else s2).orReg Reg.GST_STATUS (if p.req.late then 2 else 0)

/-- What a pin's Gust does beside the commit (R197, R294). -/
def pinFired (p : Preload) (s : State) : State :=
  match p.req.src with
  | .pin i =>
    let s1 := ({ s with gst := { s.gst with pinLast := Tab.set i s.clk s.gst.pinLast } }).orReg Reg.GST_PIN_STATUS (2 ^ (8 + i))
    if s.rbit (Reg.GST_PIN_CFG i) 28 then s1.schedStop 3 else s1
  | _ => s

/-- The Gust of an armed slot is taken on this drive clock (R190–R206). -/
def fireGust (p : Preload) (s : State) : State :=
  let x := s.slot p.req.slot
  let old := s.gst.activeVec
  let diff := (List.range s.nCells).filter (fun c => old.testBit c != x.vec.testBit c)
  let hit (c : Nat) : Bool := !p.req.partl || diff.contains c
  let cells := if p.req.partl then diff else List.range s.nCells
  let moved := (s.cellChans hit).any (fun ch => decide ((s.chan ch).active ≠ (s.chan ch).next))
  let ports := s.changedPorts old x.vec (namedPairs x) diff
  let s1 := (s.finishVerify).cutLull hit
  let s2 := ((s1.noteTaken p x).startVerdicts ports diff.length (s.rbit Reg.GST_CTRL 0)).commit hit
  let s3 := (((s2.gustRecord s2.clk p.req.slot x.bgen).gustLoops cells).gustCoupling diff).pinFired p
  let s4 : State := if p.req.deferFrom.isSome then s3.bump Reg.SCH_DEFER 31 16 1 else s3
  let v : Verify := { req := p.req, d := s.clk, seq := s4.rnat Reg.GST_SEQ, partl := p.req.partl, cells := diff.length, vAt := s4.verifyAt,
                      left := s.fld Reg.GST_CTRL 6 4, judged := false, everFailed := false, ports := (ports.filter (fun e => e.2.2)).map (fun e => (e.1, e.2.1, 0)),
                      changed := diff, ctrl := s.reg Reg.GST_CTRL, vloss := s.reg Reg.GST_VLOSS, vfloor := s.reg Reg.GST_VFLOOR,
                      moved := moved, cflags := gustFlags p x }
  let s5 : State := { s4 with gst := { s4.gst with verify := some v }, tkn := { s4.tkn with eventSave := true } }
  let s6 := (s5.gustCapture ports).toutFire 1 s.clk
  if moved then s6.openLull p (ports.map Prod.fst) else s6.reopen

/-! ### Preload and triggers (R193–R197, R214) -/

/-- The armed slot and the preload leave the path. -/
def unarm (s : State) : State := ({ s with gst := { s.gst with armed := none } }).clrReg Reg.GST_STATUS 0xFF800000
def unpre (s : State) : State := ({ s with gst := { s.gst with pre := none } }).clrReg Reg.GST_STATUS 0x400000

/-- A descriptor Gust leaves the list of those held. -/
def dropReq (r : GustReq) (s : State) : State := { s with gst := { s.gst with reqs := s.gst.reqs.erase r } }

/-- A descriptor Gust that fires nothing completes (R195, R196, R214, R296). -/
def endReq (r : GustReq) (status flags r3 : Nat) (s : State) : State :=
  let s1 := s.dropReq r
  let fl := flags + 2048 * b2n r.deferFrom.isSome
  (match r.src with | .desc c => s1.complete c status fl 0 0 0 r3 | _ => s1).reopen

/-- A pin edge is dropped (R197, R214, R418): MISSED, PIN_MISSED and the event. -/
def pinMissed (i cause : Nat) (s : State) : State :=
  ((s.orReg Reg.GST_PIN_STATUS (2 ^ (4 + i))).orReg Reg.GST_STATUS 0x20).event 4 0x41 0 s.now (i + 2 ^ 8 * cause) 0 0 0

/-- A trigger that meets hold, PARK or a gap takes nothing (R214): verdicts NOT_TAKEN and the count (log entry 68 DEDUCED). -/
def notTaken (r : GustReq) (s : State) : State :=
  let x := s.slot r.slot
  let diff := (List.range s.nCells).filter (fun c => s.gst.activeVec.testBit c != x.vec.testBit c)
  let ports := s.changedPorts s.gst.activeVec x.vec (namedPairs x) diff
  let s1 : State := ports.foldl (fun (s : State) e => if e.2.2 then s.setVres e.1 7 else s) s.clearVres
  (s1.orReg Reg.GST_STATUS 8).bump Reg.GST_CNT0 15 0 1

/-- Latched pin edges become requests once no safe state stands (R214). -/
def takeLatched (s : State) : State :=
  if s.unsafeNow then s
  else (List.range 4).foldl (fun (s : State) i =>
    if s.rbit Reg.GST_PIN_STATUS i then
      let c := s.reg (Reg.GST_PIN_CFG i)
      let r : GustReq := { src := .pin i, slot := field c 7 0, partl := bit c 26, due := none, late := false, edgeClk := s.clk }
      ({ s with gst := { s.gst with pins := s.gst.pins ++ [r] } }).clrReg
        Reg.GST_PIN_STATUS (2 ^ i)
    else s) s

/-- Start the preload of a request (R193): whatever was on the path leaves it; T_now is formed. -/
def startPre (r : GustReq) (s : State) : State :=
  let s1 := (s.unarm).unpre
  let t := s1.formTnow
  ({ t.2 with gst := { t.2.gst with pre := some { req := r, startClk := s.clk, tnow := t.1, noDraught := false, stale := false, calOld := false } } }).orReg
    Reg.GST_STATUS 0x400000

/-- The pin whose slot is kept armed (R197). -/
def keepReq (s : State) : Option GustReq :=
  match (List.range 4).find? (fun i => s.rbit (Reg.GST_PIN_CFG i) 31 && s.rbit (Reg.GST_PIN_CFG i) 30) with
  | none => none
  | some i =>
    let c := s.reg (Reg.GST_PIN_CFG i)
    if s.fabOn ∧ (s.slot (field c 7 0)).st = 2 then some { src := .keep i, slot := field c 7 0, partl := bit c 26, due := none, late := false } else none

/-- The schedule entry whose preload is due (R292, R293). -/
def schedReq (s : State) : Option GustReq :=
  match s.sch.active with
  | none => none
  | some l =>
    match l.ents[l.pos]? with
    | none => none
    | some e =>
      if l.edge ≤ s.now + nsOfClks 490 + 1 ∧ (s.slot e.slot).st = 2 then
        some { src := .sched, slot := e.slot, partl := e.partl, due := some l.edge, late := false, edgeClk := l.pos + 1 } else none

/-- A deferred Gust waits for the schedule's edge to pass (R296). -/
def deferWaits (s : State) (r : GustReq) : Bool :=
  r.deferFrom.isSome && (match s.sch.active with | some l => decide (l.edge = r.deferEdge) | none => false)

/-- The descriptor Gust whose preload is due (R195). -/
def descReq (s : State) : Option GustReq :=
  s.gst.reqs.find? (fun r => !s.deferWaits r && (match r.due with | none => true | some t => decide (t ≤ s.now + 3125)))

/-- The path serves a pin, or the schedule: a lower source gives way (R194). -/
def pathRank (s : State) : Nat :=
  let rank (p : Option Preload) : Nat :=
    match p with
    | none => 4
    | some x => match x.req.src with | .pin _ => 0 | .sched => 1 | .desc _ => 2 | .keep _ => 3
  min (rank s.gst.pre) (rank s.gst.armed)

/-- A descriptor Gust's preload starts, or the Gust is late (R196); deferral is tested before lateness (R419). -/
def startDesc (r : GustReq) (s : State) : State :=
  match r.src with
  | .desc c =>
    let late := match r.due with | some t => decide (t < s.now + nsOfClks 470) | none => false
    let defers : Bool := match s.sch.active with | some l => decide (l.edge < (r.due.getD s.now) + clampN (s.rnat Reg.SCH_GUARD) 2400 1000000) && c.deferOk | none => false
    let r1 := { r with late := r.late || (late && c.lateExec) }
    if !late || defers then ({ s with gst := { s.gst with reqs := s.gst.reqs.map (fun x => if x = r then r1 else x) } }).startPre r1
    else
      let s1 := s.orReg Reg.GST_STATUS 2
      if c.lateExec then
        let r' := { r with late := true, due := none }
        ({ s1 with gst := { s1.gst with reqs := s1.gst.reqs.map (fun x => if x = r then r' else x) } }).startPre r'
      else s1.endReq r 0x02 0 0
  | _ => s

/-- The preload path takes its next user (R193, R194, R197). -/
def preloadNext (s0 : State) : State :=
  let s := s0.takeLatched
  let k := s.pathRank
  match s.gst.pins with
  | r :: rest => if 0 < k then ({ s with gst := { s.gst with pins := rest } }).startPre r else s
  | [] =>
    match (if 1 < k then s.schedReq else none) with
    | some r => s.startPre r
    | none =>
      match (if 2 < k then s.descReq else none) with
      | some r => s.startDesc r
      | none => match (if 3 < k then s.keepReq else none) with
        | some r => s.startPre r
        | none => s

/-- A preload ends (R192, R193): the slot is ARMED, judged STALE, CAL_OLD and NO_DRAUGHT; a refused stale descriptor Gust completes. -/
def arm (p : Preload) (s : State) : State :=
  let x := s.slot p.req.slot
  let stale := decide (x.epoch ≠ s.rnat Reg.FAB_EPOCH)
  let p' : Preload := { p with stale := stale, calOld := decide (x.calset ≠ s.rnat Reg.CAL_GEN),
                               noDraught := x.traj.isNone || decide (s.rnat Reg.GST_ACTIVE ≠ 2 ^ 16 * x.originBgen + x.originSlot) }
  let s1 := s.unpre
  let isDesc := match p.req.src with | .desc _ => true | _ => false
  if isDesc && x.st ≠ 2 then s1.endReq p.req (if x.st = 1 then 0x11 else 0x05) 0 0
  else if isDesc && stale && s.rbit Reg.GST_CTRL 1 then s1.endReq p.req 0x05 256 0
  else (({ s1 with gst := { s1.gst with armed := some p' } }).loadNext x.img).setReg Reg.GST_STATUS
    ((s1.reg Reg.GST_STATUS &&& 0x7FFFFF) ||| word (2 ^ 24 * (p.req.slot % 256) + 2 ^ 23))

/-- SCH_GUARD in ns (R301). -/
def guardNs (s : State) : Nat := clampN (s.rnat Reg.SCH_GUARD) 2400 1000000

/-- What R296 makes of a descriptor Gust that could trigger now: taken, deferred to an edge, or WINDOW_SKIP. -/
def windowTest (r : GustReq) (c : Cmd) (s : State) : Option (Option Nat) :=
  match s.sch.active with
  | none => none
  | some l =>
    if l.edge ≥ s.now + s.guardNs then none
    else if c.deferOk && decide (l.edge ≤ (r.deferFrom.getD s.now) + cycleOf l.ents) then some (some l.edge) else some none

/-- The trigger of an armed descriptor Gust (R195, R214, R296). -/
def fireDesc (p : Preload) (c : Cmd) (s : State) : State :=
  let r := p.req
  if !(match r.due with | none => true | some t => decide (t ≤ s.now)) then s
  else match s.windowTest r c with
    | some (some e) =>
      let r' := { r with deferFrom := some (r.deferFrom.getD s.now), deferEdge := e, due := none }
      let s1 := s.unarm
      { s1 with gst := { s1.gst with reqs := s1.gst.reqs.map (fun x => if x = r then r' else x) } }
    | some none => ((s.unarm).bump Reg.SCH_DEFER 15 0 1).endReq r 0x0E 0 0
    | none =>
      let s1 := s.unarm
      if !s.fabOn ∨ (s.slot r.slot).st ≠ 2 then s1.endReq r (if (s.slot r.slot).st = 1 then 0x11 else 0x05) 0 0
      else if s.unsafeNow then (s1.notTaken r).endReq r 0x0F (gustFlags p (s.slot r.slot) % 2048) (5 * 2 ^ 26)
      else (s1.dropReq r).fireGust p

/-- The trigger of an armed pin Gust (R197, R214) (log entry 84 DEDUCED). -/
def firePin (p : Preload) (i : Nat) (s : State) : State :=
  if s.clk < p.req.edgeClk then s
  else
    let s1 := s.unarm
    if s.unsafeNow then
      let s2 := s1.notTaken p.req
      if s.rbit (Reg.GST_PIN_CFG i) 29 then s2.orReg Reg.GST_PIN_STATUS (2 ^ i) else s2.pinMissed i 1
    else if !s.fabOn ∨ (s.slot p.req.slot).st ≠ 2 then (s1.orReg Reg.GST_PIN_STATUS (2 ^ (4 + i))).orReg Reg.GST_STATUS 0x20
    else s1.fireGust p

/-- A Lull ends on its own (R206, R260, R267, R320, R441); in a replay CORR and SUBST records say what its boundary brought (R574). -/
def lullEnd (l : Lull) (s : State) : State :=
  let s1 := s.drtFinish (fun _ => true)
  let l1 := match s1.gst.lull with | some x => x | none => l
  let s2 : State := match l.played with | some t => s1.refine l1 t | none => s1
  let s3 := ({ s2 with gst := { s2.gst with lull := none } }).clrReg Reg.GST_STATUS 0x300000
  let s4 := s3.event 4 0x43 (8 * b2n l.null) s3.now l.seq (if l.null then 0xFFFF else l.slot) l.len 0
  if s4.inReplay then s4 else ((s4.calBoundary).spBoundary).handOver

end State

open State

/-- GUST (R195, R396): held until its trigger. -/
def execGust (c : Cmd) (s : State) : Res :=
  .next (s.runDesc c 0x03 (fun s =>
    let st := (s.slot (c.b 4)).st
    if !s.fabOn || decide (st = 0) then s.refuse c 0x05
    else if st = 1 || (!c.isNow && decide ((s.gst.reqs.filter (fun r => r.due.isSome)).length ≥ 64)) then s.refuse c 0x11
    else
      let r : GustReq := { src := .desc c, slot := c.b 4, partl := (c.b 5).testBit 0,
                           due := if c.isNow then none else some (s.fullTime (c.w 8) (c.w 12)), late := false }
      { s with gst := { s.gst with reqs := s.gst.reqs ++ [r] } }))

/-- GUST_PRELOAD_START (R193–R197, R292). -/
def execGustPreloadStart (s : State) : Res := .next (if s.inReplay then s else s.preloadNext)

/-- GUST_ARMED (R193). -/
def execGustArmed (s : State) : Res := match s.gst.pre with | some p => .next (s.arm p) | none => .next s

/-- GUST_TRIGGER (R195, R197, R199, R214): an armed descriptor or pin Gust; a schedule Gust follows its edge. -/
def execGustTrigger (s0 : State) : Res :=
  let s := s0.takeLatched
  if s0.inReplay then .next s0
  else match s.gst.armed with
  | none => .next s
  | some p => match p.req.src with
    | .desc c => .next (s.fireDesc p c)
    | .pin i => .next (s.firePin p i)
    | _ => .next s

/-- TRIG_IN_EDGE (R197, R212): an edge of the selected polarity, `frac`/64 of a drive clock after the present one. -/
def execTrigInEdge (pin frac : Nat) (s : State) : Res :=
  let c := s.reg (Reg.GST_PIN_CFG pin)
  if pin ≥ 4 || !bit c 31 || s.pwr.warm.isSome || s.inReplay then .next s
  else
    let early := match Tab.find pin s.gst.pinLast with | some t => decide (s.clk < t + clksNs 4000) | none => false
    let dly := ((frac % 64 : Nat) : Int) - dlySteps (min 0 (sext 32 (s.rnat (Reg.TIM_DLY_TRIG pin))))
    let at_ := s.clk + ((dly + 63) / 64).toNat
    let s1 := s.recAppend 0x07 (bytesOf 1 pin ++ bytesOf 1 (b2n !early) ++ bytesOf 1 (low 6 dly) ++ bytesOf 5 0 ++ bytesOf 8 at_)
    if early then .next (s1.pinMissed pin 0)
    else
      let slot := field c 7 0
      let r : GustReq := { src := .pin pin, slot := slot, partl := bit c 26, due := none, late := false, edgeClk := at_ }
      let swap (p : Option Preload) : Option Preload :=
        match p with
        | some x => if x.req.src = .keep pin ∧ x.req.slot = slot then some { x with req := r } else some x
        | none => none
      let mine (p : Option Preload) : Bool := match p with | some x => decide (x.req.src = .keep pin ∧ x.req.slot = slot) | none => false
      if mine s1.gst.armed || mine s1.gst.pre then
        .next { s1 with gst := { s1.gst with armed := swap s1.gst.armed, pre := swap s1.gst.pre } }
      else .next { s1 with gst := { s1.gst with pins := s1.gst.pins ++ [r] } }

/-- GUST_VERIFY (R201): at V every named changed port is judged; without failures to judge again the Gust is final. -/
def execGustVerify (s : State) : Res :=
  match s.gst.verify with
  | none => .next s
  | some v =>
    if v.judged || decide (s.time.g < v.vAt) then .next s
    else if !bit v.ctrl 0 || s.inReplay then .next s.finishVerify
    else
      let r := s.judge v
      let s1 : State := { r.2 with gst := { r.2.gst with verify := some { r.1 with vAt := s.time.g + 1 } } }
      .next (if (s1.failing r.1).isEmpty || decide (r.1.left = 0) then s1.finishVerify else s1)

/-- GUST_REVERIFY (R203): the failing ports are judged again at one of the next r instants. -/
def execGustReverify (s : State) : Res :=
  match s.gst.verify with
  | none => .next s
  | some v =>
    if !v.judged || decide (v.left = 0) || decide (s.time.g < v.vAt) then .next s
    else
      let r := s.judge { v with left := v.left - 1 }
      let s1 : State := { r.2 with gst := { r.2.gst with verify := some { r.1 with vAt := s.time.g + 1 } } }
      .next (if (s1.failing r.1).isEmpty || decide (r.1.left = 0) then s1.finishVerify else s1)

/-- LULL_END (R205, R206): on the first update tick at or after D + GST_LULL. -/
def execLullEnd (s : State) : Res :=
  match s.gst.lull with
  | some l => .next (if l.endClk ≤ s.time.lastTick then s.lullEnd l else s)
  | none => .next s

/-- GUST_COUNT_CLEAR (R208). -/
def execGustCountClear (u : Cu) (v : Word) (s : State) : Res :=
  .next (s.baseWrite u Reg.GST_CMD (v ||| 1) (fun s => (s.setReg Reg.GST_CNT0 0).setReg Reg.GST_CNT1 0))

end Sys2Proof.Machine
end

