-- ==== Sys2Proof/Machine/Sched.lean ====
section
/-! DEFINITION. Schedules (R288–R296, R398, R399): loading and committing the pending list, its start, its edges, and stopping. -/
namespace Sys2Proof.Machine

/-- A list as R288 wants it: 1 to 256 entries, durations from 4,000 to 10⁹ ns, the cycle at most 10⁹ ns. -/
def listOk (ents : List SchEnt) : Bool :=
  decide (1 ≤ ents.length) && decide (ents.length ≤ 256) && ents.all (fun e => decide (4000 ≤ e.dur) && decide (e.dur ≤ 1000000000)) &&
  decide (State.cycleOf ents ≤ 1000000000)

/-- The entries of a SCHED_LOAD buffer (R398), and whether their reserved bits are zero. -/
def loadEnts (l : List Byte) (n : Nat) : List SchEnt :=
  (List.range n).map (fun i => { dur := le l (8 * i) 4, slot := byteAt l (8 * i + 4), partl := (byteAt l (8 * i + 5)).testBit 0 })
def loadClean (l : List Byte) (n : Nat) : Bool := (List.range n).all (fun i => decide (byteAt l (8 * i + 5) < 2) && zeroSlice l (8 * i + 6) 2)

namespace State

/-- The pending list as the SCH_P_ registers hold it (R288, R301). -/
def pendEnts (s : State) : List SchEnt :=
  (List.range (min 512 (s.fld Reg.SCH_P_COUNT 8 0))).map (fun i =>
    { dur := s.rnat (Reg.SCH_P_DUR i), slot := s.fld (Reg.SCH_P_SLOT i) 7 0, partl := s.rbit (Reg.SCH_P_SLOT i) 8 })

/-- The base time of the pending list, taken into use at a commit: zero in both is the commit's now (R284, R288) (log entry 178 DEDUCED). -/
def pendBase (now : Nat) (s : State) : Nat :=
  if s.rnat Reg.SCH_P_BASE_SEC = 0 ∧ s.rnat Reg.SCH_P_BASE_NS = 0 then now else s.fullTime (s.rnat Reg.SCH_P_BASE_SEC) (s.rnat Reg.SCH_P_BASE_NS)

/-- COMMIT at a device time (R289, R290): the status of a refusal, or the armed list. -/
def commitList (now : Nat) (s : State) : Sum Nat SchList :=
  let ents := s.pendEnts
  if s.sch.pend.isSome then .inl 0x11
  else if !listOk ents || !s.fabOn || decide (s.rnat Reg.SCH_P_BASE_NS ≥ 1000000000) then .inl 0x05
  else
    let base := s.pendBase now
    let p := schedStart base (cycleOf ents) now
    .inr { ents := ents, base := base, s := p.1, k := p.2, cycles := s.rnat Reg.SCH_P_CYCLES, cyc := 0, pos := 0, edge := p.1 }

/-- COMMIT, and the status and result words of the command that asked for it (R398). -/
def schCommit (now : Nat) (c : Option Cmd) (late : Bool) (s : State) : State :=
  match s.commitList now with
  | .inl st =>
    let s1 := s.orReg Reg.SCH_STATUS 0x80
    s1.completeOpt c st 0 (if (match c with | some c => decide (c.op = 0x05) | none => false) then cycleOf s.pendEnts else 0) 0 0 0
  | .inr l =>
    (({ s with sch := { s.sch with pend := some l } }).orReg Reg.SCH_STATUS 2).completeOpt c (okStatus late) 0 (cycleOf l.ents) l.k (l.s % 1000000000)
      (l.s / 1000000000)

/-- CANCEL disarms the pending list (R301, R399). -/
def schCancel (s : State) : State := ({ s with sch := { s.sch with pend := none } }).clrReg Reg.SCH_STATUS 2

/-- STOP: the list stops on the next drive clock; a command completes with it (R294, R399). -/
def schStop (c : Option Cmd) (late : Bool) (s : State) : State :=
  if s.sch.active.isNone then s.completeOpt c (okStatus late) 0 (s.rnat Reg.SCH_POS) (s.rnat Reg.SCH_CYCLE_CNT) 0 0
  else ({ s with sch := { s.sch with stopCmds := s.sch.stopCmds ++ c.toList } }).schedStop 1

/-- STOP_AT_END: the list stops at the next cycle boundary (R294, R399) (log entry 104 DEDUCED). -/
def schStopAtEnd (c : Option Cmd) (late : Bool) (s : State) : State :=
  if s.sch.active.isNone then s.completeOpt c (okStatus late) 0 (s.rnat Reg.SCH_POS) (s.rnat Reg.SCH_CYCLE_CNT) 0 0
  else { s with sch := { s.sch with stopAtEnd := true, stopCmds := s.sch.stopCmds ++ c.toList } }

/-- A write of SCH_CTRL (R301): CANCEL, COMMIT, STOP, STOP_AT_END, each whose bit is set. -/
def schCtrl (v : Word) (s : State) : State :=
  let s1 : State := if bit v 3 then s.schCancel else s
  let s2 : State := if bit v 0 then s1.schCommit s1.now none false else s1
  let s3 : State := if bit v 1 then s2.schStop none false else s2
  if bit v 2 then s3.schStopAtEnd none false else s3

/-- What SCHED_CTRL does at its action time (R399). -/
def schedAct (c : Cmd) (due : Nat) (late : Bool) (s : State) : State :=
  match c.b 4 with
  | 0 => s.schCommit due (some c) late
  | 1 => s.schStop (some c) late
  | 2 => s.schStopAtEnd (some c) late
  | _ => (s.schCancel).complete c (okStatus late) 0 0 0 0 0

/-- A SCHED_CTRL descriptor of one OP (R399). -/
def schedDesc (c : Cmd) (opn : Nat) (s : State) : State :=
  s.runDesc c 0x06 (fun s =>
    if c.b 4 ≠ opn then s.refuse c 0x05
    else s.timed c (fun late s => s.schedAct c (if c.isNow then s.now else s.fullTime (c.w 8) (c.w 12)) late))

/-- The active list as registers show it (R301). -/
def showActive (l : SchList) (s : State) : State :=
  let s1 := (l.ents.zip (List.range l.ents.length)).foldl (fun (s : State) (e : SchEnt × Nat) =>
    (s.setReg (Reg.SCH_A_DUR e.2) (word e.1.dur)).setReg (Reg.SCH_A_SLOT e.2) (word (e.1.slot % 256 + 256 * b2n e.1.partl))) s
  (((s1.showStart l).setReg Reg.SCH_A_CYCLE_NS (word (cycleOf l.ents))).setReg Reg.SCH_POS (word (2 ^ 16 * l.ents.length))).setReg Reg.SCH_CYCLE_CNT 0

/-- The pending list becomes the active one at S (R291); commands that waited on the old list's end complete with it (log entry 105 DEDUCED). -/
def schBegin (l : SchList) (s : State) : State :=
  let s0 := (s.flushSkips).dropSchedPre
  let cmds := s0.sch.stopCmds
  let s1 := cmds.foldl (fun (s : State) c => s.complete c 0 0 (s.rnat Reg.SCH_POS) (s.rnat Reg.SCH_CYCLE_CNT) 0 0) s0
  let s2 : State := { s1 with sch := { s1.sch with active := some l, pend := none, stopAtEnd := false, stopCmds := [] } }
  (((s2.clrReg Reg.SCH_STATUS 2).orReg Reg.SCH_STATUS 9).showActive l).startedEvent l 0

/-- An entry is skipped (R293, R574). -/
def schSkip (cause pos edge : Nat) (s : State) : State :=
  let s0 := s.dropSchedPre
  let s1 : State := match cause with
    | 1 => s0.bump Reg.SCH_SKIP0 31 16 1
    | 2 => s0.bump Reg.SCH_SKIP0 15 0 1
    | _ => (s0.bump Reg.SCH_SKIP1 31 16 1).bump Reg.GST_CNT0 15 0 1
  let sk := match s1.sch.skips.find? (fun e => decide (e.1 = cause)) with
    | some _ => s1.sch.skips.map (fun e => if e.1 = cause then (e.1, e.2.1 + 1, e.2.2.1, e.2.2.2) else e)
    | none => s1.sch.skips ++ [(cause, 1, pos, edge)]
  (({ s1 with sch := { s1.sch with skips := sk } }).orReg Reg.SCH_STATUS 0x40).recEvent 15 (bytesOf 2 pos ++ bytesOf 2 cause)

/-- The list moves on to its next entry (R292). -/
def schAdvance (l : SchList) (e : SchEnt) (s : State) : State :=
  let nxt := if l.pos + 1 < l.ents.length then l.pos + 1 else 0
  ({ s with sch := { s.sch with active := some { l with pos := nxt, edge := l.edge + e.dur } } }).setField Reg.SCH_POS 7 0 l.pos

/-- An entry's Gust on its edge, or its skip (R292, R293) (log entry 69 DEDUCED). -/
def schFire (l : SchList) (e : SchEnt) (s : State) : State :=
  let s1 := s.schAdvance l e
  match s1.gst.armed with
  | some p =>
    if p.req.src = .sched ∧ p.req.edgeClk = l.pos + 1 then
      if s1.unsafeNow then s1.schSkip 3 l.pos l.edge
      else if (s1.slot e.slot).st ≠ 2 then s1.schSkip 2 l.pos l.edge
      else (s1.unarm).fireGust p
    else s1.schSkip (if (s1.slot e.slot).st ≠ 2 then 2 else 1) l.pos l.edge
  | none => s1.schSkip (if (s1.slot e.slot).st ≠ 2 then 2 else 1) l.pos l.edge

/-- One edge of the active list (R292–R294): at a cycle boundary the skips of the cycle are told, and the list may stop. -/
def schEdge (l : SchList) (e : SchEnt) (s : State) : State :=
  if l.pos = 0 then
    let s1 := s.flushSkips
    if s.sch.stopAtEnd || (decide (l.cycles ≠ 0) && decide (l.cycles ≤ l.cyc)) then s1.schedStop 2
    else
      let l1 := { l with cyc := l.cyc + 1 }
      ((s1.setReg Reg.SCH_CYCLE_CNT (word (l.cyc + 1))).toutFire 2 l.edge).schFire l1 e
  else s.schFire l e

end State

open State

/-- SCHED_LOAD (R398): the whole list is checked before any SCH_P_ register is written. -/
def execSchedLoad (c : Cmd) (d : HostData) (s : State) : Res :=
  .next (s.runDesc c 0x05 (fun s0 =>
    let s := s0.recReads c d
    let n := c.h 4
    if n = 0 ∨ 256 < n ∨ !hostAddrOk (c.q 16) ∨ c.w 28 ≥ 1000000000 then s.refuse c 0x05
    else if s.sch.pend.isSome then s.refuse c 0x11
    else match d with
      | .failed _ => s.refuse c 0x0C
      | .bytes l =>
        let ents := loadEnts l n
        if l.length < 8 * n || !loadClean l n || !listOk ents then s.refuse c 0x05
        else
          let s1 : State := (ents.zip (List.range n)).foldl (fun (s : State) (e : SchEnt × Nat) =>
            (s.setReg (Reg.SCH_P_DUR e.2) (word e.1.dur)).setReg (Reg.SCH_P_SLOT e.2) (word (e.1.slot % 256 + 256 * b2n e.1.partl))) s
          let s2 := (((s1.setReg Reg.SCH_P_COUNT (word n)).setReg Reg.SCH_P_BASE_SEC (word (c.w 24))).setReg Reg.SCH_P_BASE_NS (word (c.w 28))).setReg
            Reg.SCH_P_CYCLES (word (c.w 32))
          if (c.b 6).testBit 0 then s2.schCommit s2.now (some c) false else s2.complete c 0 0 (cycleOf ents) 0 0 0))

/-- SCHED_COMMIT (R290). -/
def execSchedCommit (via : Via) (s : State) : Res :=
  match via with
  | .reg u v => .next (s.baseWrite u Reg.SCH_CTRL (v ||| 1) (fun s => s.schCtrl (v ||| 1)))
  | .desc c => .next (s.schedDesc c 0)

/-- SCHED_STOP (R294). -/
def execSchedStop (via : Via) (s : State) : Res :=
  match via with
  | .reg u v => .next (s.baseWrite u Reg.SCH_CTRL (v ||| 2) (fun s => s.schCtrl (v ||| 2)))
  | .desc c => .next (s.schedDesc c 1)

/-- SCHED_STOP_AT_END (R294). -/
def execSchedStopAtEnd (via : Via) (s : State) : Res :=
  match via with
  | .reg u v => .next (s.baseWrite u Reg.SCH_CTRL (v ||| 4) (fun s => s.schCtrl (v ||| 4)))
  | .desc c => .next (s.schedDesc c 2)

/-- SCHED_CANCEL (R301, R399). -/
def execSchedCancel (via : Via) (s : State) : Res :=
  match via with
  | .reg u v => .next (s.baseWrite u Reg.SCH_CTRL (v ||| 8) (fun s => s.schCtrl (v ||| 8)))
  | .desc c => .next (s.schedDesc c 3)

/-- SCHED_START (R291): on the drive clock of S. -/
def execSchedStart (s : State) : Res :=
  match s.sch.pend with
  | some l => .next (if l.s ≤ s.now ∧ s.inReplay = false then s.schBegin l else s)
  | none => .next s

/-- SCHEDULE_EDGE (R292, R293): on the first drive clock at or after the entry's edge. -/
def execScheduleEdge (s : State) : Res :=
  match s.sch.active with
  | none => .next s
  | some l =>
    match l.ents[l.pos]? with
    | some e => .next (if l.edge ≤ s.now ∧ s.inReplay = false then s.schEdge l e else s)
    | none => .next s

end Sys2Proof.Machine
end

