-- ==== Sys2Proof/Machine/Cal.lean ====
section
/-! DEFINITION. Calibration runs, loaded sets and characterisation (R304–R333, R264, R265, R407–R409). -/
namespace Sys2Proof.Machine

/-- What becomes of one measured quantity (R307, R308): a precondition failed, the passes disagreed, or it is kept, with what it writes into a
record of the store, by tile. -/
inductive CalOut where
  | pre
  | dis
  | keep (writes : List (Nat × (CalRec → CalRec)))

/-- A run's count so far: quantities kept, disagreeing and failing by (step, tile), and the records being built by 9 × tile + slot. -/
structure CalAcc where
  kept : List (Nat × Nat × Nat)
  dis : List (Nat × Nat)
  pre : List (Nat × Nat)
  news : List (Nat × CalRec)
  /-- spares measured in step 3: tile, index, whether they passed -/
  spares : List (Nat × Nat × Bool)
  refV : Nat
  refR : Nat

namespace State

/-! ### Slots and tolerances (R308, R316) -/

/-- The slot whose window holds a temperature in 0.01 °C (R316). -/
def calSlot (t : Int) : Nat :=
  ([-3000, -1000, 1000, 3000, 4750, 6250, 7750, 9250] : List Int).foldl (fun n lim => if lim ≤ t then n + 1 else n) 0

/-- The record a tile's values go into at its present temperature. -/
def calKey (s : State) (tile : Nat) : Nat := 9 * tile + calSlot (s.tileTemp tile)

/-- The tile's temperature moves faster than CAL_TSTAB, 0.01 °C per minute, over the rounds held (R308). -/
def tooSteep (s : State) (tile : Nat) : Bool :=
  match s.drt.rounds.head?, s.drt.rounds.getLast? with
  | some a, some b => decide (((b.2.getD tile 0 - a.2.getD tile 0).natAbs) * 60 * 204800000 > s.fld Reg.CAL_TSTAB 15 0 * (b.1 - a.1)) && decide (a.1 < b.1)
  | _, _ => false

/-- Two numbers agree within a tolerance. -/
def near (a b : Int) (tol : Nat) : Bool := decide ((a - b).natAbs ≤ tol)
def sumI (l : List Int) : Int := l.foldl (· + ·) 0

/-! ### How each step computes (R313–R315) -/

/-- GAIN of a monitor from sums of 8 results before, during and after the injection, `n` passes together (R313). -/
def monGainOf (n : Nat) (a0 a1 a2 : Int) : Int := Maths.roundDiv (16384 * 2 ^ 22 * (16 * (n : Int))) (2 * a1 - (a0 + a2))

/-- OFFSET of a monitor from the sum of `n` raw results and the gain (R313). -/
def monOffsetOf (n : Nat) (sum gain : Int) : Int := -(Maths.roundDiv (sum * gain) ((n : Int) * 16384 * 16))

/-- GAIN and OFFSET of a drive channel from its current at x = 4,096 and 61,440, in thousandths of an LSB, `n` passes summed (R313). -/
def drvCalOf (n : Nat) (i1 i2 : Int) : Int × Int :=
  let d := i2 - i1
  (Maths.roundDiv (16384 * 57344 * 1000 * (n : Int)) d, Maths.roundDiv (4096 * d - i1 * 57344) d)

/-- GAIN and OFFSET of a calibration DAC range from its current at 10 % and 90 % of full scale, in millionths of full scale, by the same rule (R305) (log entry 86 DEDUCED). -/
def dacCalOf (n : Nat) (i1 i2 : Int) : Int × Int :=
  let d := i2 - i1
  (Maths.roundDiv (16384 * 800000 * (n : Int)) d, Maths.roundDiv ((100000 * d - i1 * 800000) * 65536) (d * 1000000))

/-- K · S ≤ P · 2²⁴ · M rounded to nearest, P = 10^(p/1000) mW for p in 0.01 dBm (R315): the test of one candidate. -/
def kFits (p : Int) (num den n : Nat) : Bool :=
  let a := ((2 * n - 1) * den) ^ 1000
  let b := (2 * num) ^ 1000
  if p < 0 then decide (a * 10 ^ (-p).toNat ≤ b) else decide (a ≤ b * 10 ^ p.toNat)

/-- The largest K below 2³² that fits. -/
def kSearch (p : Int) (num den : Nat) : Nat → Nat → Nat
  | 0, k => k
  | b + 1, k => kSearch p num den b (if kFits p num den (k + 2 ^ b) then k + 2 ^ b else k)

/-- K of a port side: P × 2²⁴ / I, I the mean of `n` results that sum to `sum` picoamperes (R315). -/
def kOf (p : Int) (n : Nat) (sum : Int) : Nat := if sum ≤ 0 then 0 else kSearch p (2 ^ 24 * 1000000 * n) sum.toNat 32 0

/-- Two K within a tolerance of 0.01 dB steps. -/
def kNear (a b tol : Nat) : Bool := decide (a ^ 1000 ≤ b ^ 1000 * 10 ^ tol) && decide (b ^ 1000 ≤ a ^ 1000 * 10 ^ tol)

/-! ### Preconditions (R308, R309) -/

/-- Step 1 was kept in this run; step 2 was kept for a tile. -/
def kept1 (a : CalAcc) : Bool := a.kept.any (fun e => decide (e.1 = 1)) && !(a.dis ++ a.pre).any (fun e => decide (e.1 = 1))
def kept2 (a : CalAcc) (t : Nat) : Bool :=
  a.kept.any (fun e => decide (e.1 = 2 ∧ e.2.1 = t)) && !(a.dis ++ a.pre).any (fun e => decide (e.1 = 2 ∧ e.2 = t))

/-- A monitor's light is below the limit (R309). -/
def monDark (s : State) (dark : Bool) (ch : Nat) : Bool :=
  let m := s.monCh ch
  let floor := sext 16 (s.fld Reg.CAL_DARK 15 0)
  let weak (p : Nat) : Bool := match s.portLight p with | none => true | some x => decide (x < floor)
  let unused (p b : Nat) : Bool := match s.fab.fdr with
    | some f => ((f.portEnts.getD p { inLabel := 0, outLabel := 0, flags := 0 }).flags).testBit b
    | none => false
  match m.kind with
  | 3 => weak (s.feedPort m.elem 0) && weak (s.feedPort m.elem 1)
  | 4 => dark || s.rbit (Reg.MON_PORT_PWR m.elem) 16 || unused m.elem 0
  | 5 => dark || unused m.elem 1 || (match s.feederOf m.elem with | none => true | some i => (s.portLight i).isNone)
  | _ => dark

/-- The gain a step covers for a channel (R306). -/
def gainNamed (s : State) (c : Cmd) (ch gain : Nat) : Bool :=
  if c.b 5 % 16 = 0 ∨ (s.fabOn ∧ ¬ (c.b 6).testBit 1) then decide (gain = (s.monCh ch).gain) else (c.b 5).testBit gain

/-- A spare drive channel free to be borrowed in a tile: kept in step 3 of this run, with none of IN_FORCE, PEND, READY, AUX and BAD (R313). -/
def borrowable (s : State) (a : CalAcc) (t : Nat) : Bool :=
  (List.range 12).any (fun j => a.kept.contains (3, t, 228 + j) && field (s.reg (Reg.DRV_SPARE t j)) 23 19 = 0)

/-- A spare is standing in or READY (R308). -/
def spareBusy (s : State) (mon : Bool) (t i : Nat) : Bool :=
  if mon then (s.monCh (96 * t + i)).partner.isSome || s.rbit (Reg.MON_SPARE t (i - 92)) 21
  else (s.chan (240 * t + i)).partner.isSome || s.rbit (Reg.DRV_SPARE t (i - 228)) 21

/-- The GAIN of a monitor in the set being built, or else in the live store (R308, R313). -/
def monGainIn (s : State) (a : CalAcc) (t idx gain : Nat) : Option Nat :=
  match Tab.find (4 * idx + gain) (Tab.get {} (s.calKey t) a.news).mon, knotsAt (s.tileTemp t) (knots s.cal.store t (fun r => Tab.find (4 * idx + gain) r.mon)) with
  | some k, _ => some k.gain
  | none, some p => some (knotVal (fun k => (k.gain : Int)) (s.tileTemp t) p).toNat
  | none, none => none

/-! ### One quantity (R307, R308, R313–R315) -/

/-- A knot from computed values at a tile's temperature. -/
def knotAt (s : State) (t : Nat) (g o : Int) : Knot :=
  { gain := (clampI g 0 65535).toNat, offset := clampI o (-32768) 32767, t := s.tileTemp t }

def keepIf (ok : Bool) (writes : List (Nat × (CalRec → CalRec))) : CalOut := if ok then .keep writes else .dis

/-- A drive channel's quantity, of step 3 or 6 (R313). -/
def judgeDrv (s : State) (r : CalRes) : CalOut :=
  let a := drvCalOf 1 (r.passA.getD 0 0) (r.passA.getD 1 0)
  let b := drvCalOf 1 (r.passB.getD 0 0) (r.passB.getD 1 0)
  let m := drvCalOf 2 (r.passA.getD 0 0 + r.passB.getD 0 0) (r.passA.getD 1 0 + r.passB.getD 1 0)
  let k := s.knotAt r.tile m.1 m.2
  keepIf (near a.1 b.1 (s.fld Reg.CAL_TOL0 31 16) && near a.2 b.2 (s.fld Reg.CAL_TOL0 15 0)) [(r.tile, fun x => { x with drv := Tab.set r.idx k x.drv })]

/-- A monitor gain, of step 3 or 4 (R313); the offset of the entry stays as it is. -/
def judgeMonGain (s : State) (acc : CalAcc) (idx : Nat) (r : CalRes) : CalOut :=
  let v (l : List Int) (i : Nat) : Int := l.getD i 0
  let stab (l : List Int) : Bool := decide ((v l 0 - v l 2).natAbs * 10000 ≤ 8 * s.fld Reg.CAL_DARK 31 16 * 2 ^ 23) && decide ((v l 0).natAbs * 10 ≤ 32 * 2 ^ 23)
  if !stab r.passA || !stab r.passB then .pre
  else
    let g := monGainOf 2 (v r.passA 0 + v r.passB 0) (v r.passA 1 + v r.passB 1) (v r.passA 2 + v r.passB 2)
    let old := (Tab.find (4 * idx + r.gain) (Tab.get (Tab.get {} (s.calKey r.tile) s.cal.live) (s.calKey r.tile) acc.news).mon).map Knot.offset
    let k := s.knotAt r.tile g (old.getD 0)
    keepIf (near (monGainOf 1 (v r.passA 0) (v r.passA 1) (v r.passA 2)) (monGainOf 1 (v r.passB 0) (v r.passB 1) (v r.passB 2)) (s.fld Reg.CAL_TOL1 31 16))
      [(r.tile, fun x => { x with mon := Tab.set (4 * idx + r.gain) k x.mon })]

/-- A monitor offset, of step 5 (R313). -/
def judgeMonOffset (s : State) (acc : CalAcc) (r : CalRes) : CalOut :=
  match s.monGainIn acc r.tile r.idx r.gain with
  | none => .pre
  | some g =>
    let k := s.knotAt r.tile g (monOffsetOf (r.passA.length + r.passB.length) (sumI r.passA + sumI r.passB) g)
    keepIf (near (monOffsetOf r.passA.length (sumI r.passA) g) (monOffsetOf r.passB.length (sumI r.passB) g) (s.fld Reg.CAL_TOL1 15 0))
      [(r.tile, fun x => { x with mon := Tab.set (4 * r.idx + r.gain) k x.mon })]

/-- The write of a working point of a cell's active arm in a state (R314, R326). -/
def putW (s : State) (cell arm : Nat) (cross : Bool) (w : Nat) (x : CalRec) : CalRec :=
  let t := s.tileTemp (s.elemTile 0 cell)
  let c : CellCal := Tab.get { wBar := (0, 0), wCross := (0, 0), on := 0, tBar := -32768, tCross := -32768, tOn := -32768, armBar := false,
                               armCross := false, valid := 0 } cell x.cells
  let set (p : Nat × Nat) : Nat × Nat := if arm = 0 then (w, p.2) else (p.1, w)
  let v (b : Nat) : Nat := c.valid ||| 2 ^ b
  { x with cells := Tab.set cell (if cross then { c with wCross := set c.wCross, tCross := t, armCross := decide (arm = 1), valid := v 1 }
                                  else { c with wBar := set c.wBar, tBar := t, armBar := decide (arm = 1), valid := v 0 }) x.cells }

/-- A working point, of step 7 (R314): `idx` is the cell. -/
def judgeWork (s : State) (r : CalRes) : CalOut :=
  let l := s.loopCell r.idx
  if decide (l.st.mode ≠ 2) || l.st.dim || l.st.sat || !l.hasLoop || r.passA.isEmpty || r.passB.isEmpty then .pre
  else
    let mean (x : List Int) : Int := Maths.roundDiv (sumI x) x.length
    let cross := s.cellState r.idx
    let w := (mean (r.passA ++ r.passB)).toNat
    keepIf (near (mean r.passA) (mean r.passB) (s.fld Reg.CAL_TOL2 15 0))
      [(s.elemTile 0 r.idx, s.putW r.idx (s.armOf r.idx cross) cross w)]

/-- The OPT_REF port of the record in force (R35). -/
def optRef (s : State) : Option Nat :=
  match s.fab.fdr with
  | some f => (List.range f.ports).find? (fun p => ((f.portEnts.getD p { inLabel := 0, outLabel := 0, flags := 0 }).flags).testBit 2)
  | none => none

/-- The write of a side's K; the key is the port, with 2¹⁵ for an output side (R326). -/
def putK (s : State) (key tile k : Nat) (x : CalRec) : CalRec :=
  { x with ports := Tab.set key (k, s.tileTemp tile) x.ports }

/-- The output side a map names for an input (R315). -/
def outOf (s : State) (inp : Nat) : Option Nat := (s.gst.activeMap.find? (fun e => decide (e.2 = inp))).map Prod.fst

/-- K, of step 8 (R315): `idx` is the port with 2¹⁵ for an output side; results in picoamperes. -/
def judgeOpt (s : State) (c : Cmd) (r : CalRes) : CalOut :=
  let out := decide (2 ^ 15 ≤ r.idx)
  let p := r.idx % 2 ^ 15
  match s.optRef with
  | none => .pre
  | some o =>
    if s.rbit (Reg.MON_PORT_PWR o) 16 || (if out then decide (s.outOf o ≠ some p) else decide (p ≠ o)) then .pre
    else
      let kind := if out then 5 else 4
      let tile := s.elemTile kind p
      match s.monOf kind p with
      | none => .pre
      | some ch =>
        if (knotsAt (s.tileTemp tile) (knots s.cal.live (ch / 96) (fun x => Tab.find (4 * (ch % 96) + (s.monCh ch).gain) x.mon))).isNone then .pre
        else
          let pw := sext 16 (c.h 24) - (if out then (c.h 26 : Int) else 0)
          keepIf (kNear (kOf pw r.passA.length (sumI r.passA)) (kOf pw r.passB.length (sumI r.passB)) (s.fld Reg.CAL_TOL2 31 16))
            [(tile, s.putK r.idx tile (kOf pw (r.passA.length + r.passB.length) (sumI r.passA + sumI r.passB)))]

/-- The tile a quantity belongs to. -/
def resTile (s : State) (r : CalRes) : Nat :=
  if r.step = 7 then s.elemTile 0 r.idx else if r.step = 8 then s.elemTile (if 2 ^ 15 ≤ r.idx then 5 else 4) (r.idx % 2 ^ 15) else r.tile

/-- A quantity of step 3, by its index: spare drive channels as they are, spare monitors 256 above (R305). -/
def judgeSpare (s : State) (acc : CalAcc) (r : CalRes) : CalOut :=
  if r.idx < 256 then (if s.spareBusy false r.tile r.idx then .pre else s.judgeDrv r)
  else if s.spareBusy true r.tile (r.idx - 256) then .pre else s.judgeMonGain acc (r.idx - 256) r

/-- The judgement of one quantity (R307, R308) (log entries 85 DESIGN CHOICE, 87 DEDUCED). -/
def calJudge (s : State) (c : Cmd) (acc : CalAcc) (r : CalRes) : CalOut :=
  let t := s.resTile r
  let ch := 96 * r.tile + r.idx
  let v (l : List Int) (i : Nat) : Int := l.getD i 0
  if r.precond || s.tooSteep t then .pre
  else match r.step with
    | 1 =>
      let rv := (v r.passA 1 + v r.passB 1) / 2
      let rr := (v r.passA 2 + v r.passB 2) / 2
      if rv < 2487500 ∨ 2512500 < rv ∨ rr < 970000 ∨ 1030000 < rr then .pre else keepIf (near (v r.passA 0) (v r.passB 0) 200) []
    | 2 =>
      if !kept1 acc then .pre
      else
        let a := r.passA; let b := r.passB
        let m := dacCalOf 2 (v a 0 + v b 0) (v a 1 + v b 1)
        let k := s.knotAt t m.1 m.2
        keepIf (near (v a 1 - v a 0) (v b 1 - v b 0) 40 && near (v a 0) (v b 0) 100) [(t, fun x => { x with dac := Tab.set r.idx k x.dac })]
    | 3 => if !kept2 acc t then .pre else s.judgeSpare acc r
    | 4 => if !kept2 acc t then .pre else s.judgeMonGain acc r.idx r
    | 5 => if s.monDark ((c.b 6).testBit 0) ch then s.judgeMonOffset acc r else .pre
    | 6 => if !kept2 acc t || (s.fabOn && !s.borrowable acc t) then .pre else s.judgeDrv r
    | 7 => s.judgeWork r
    | _ => s.judgeOpt c r

/-- A quantity the run covers: of a named step, tile and gain (R306). -/
def covered (s : State) (c : Cmd) (r : CalRes) : Bool :=
  decide (1 ≤ r.step) && decide (r.step ≤ 8) && (c.b 4).testBit (r.step - 1) &&
    (decide (r.step = 1) || (s.runTiles c).contains (s.resTile r)) &&
    ((decide (r.step ≠ 4) && decide (r.step ≠ 5)) || (s.gainNamed c (96 * r.tile + r.idx) r.gain && decide ((s.monCh (96 * r.tile + r.idx)).role ≠ 0))) &&
    (decide (r.step ≠ 3) || (decide (228 ≤ r.idx) && decide (r.idx < 240)) || (decide (348 ≤ r.idx) && decide (r.idx < 352))) &&
    (decide (r.step ≠ 6) || (decide (r.idx < 228) && decide ((s.chan (240 * r.tile + r.idx)).role ≠ 0)))

/-- One quantity joins the count. -/
def calOne (s : State) (c : Cmd) (a : CalAcc) (r : CalRes) : CalAcc :=
  match s.calJudge c a r with
  | .pre => { a with pre := a.pre ++ [(r.step, s.resTile r)] }
  | .dis => { a with dis := a.dis ++ [(r.step, s.resTile r)], spares := if r.step = 3 then a.spares ++ [(r.tile, r.idx, false)] else a.spares }
  | .keep ws =>
    let news := ws.foldl (fun l w => Tab.set (s.calKey w.1) (w.2 (Tab.get (Tab.get {} (s.calKey w.1) s.cal.live) (s.calKey w.1) l)) l) a.news
    let a1 : CalAcc := { a with kept := a.kept ++ [(r.step, s.resTile r, r.idx)], news := news, spares := if r.step = 3 then a.spares ++ [(r.tile, r.idx, true)] else a.spares }
    if r.step = 1 then { a1 with refV := ((r.passA.getD 1 0 + r.passB.getD 1 0) / 2).toNat, refR := ((r.passA.getD 2 0 + r.passB.getD 2 0) / 2).toNat } else a1

/-- The quantities of a run in the order of its steps (R305). -/
def inOrder (res : List CalRes) : List CalRes :=
  (List.range 8).foldr (fun i acc => res.filter (fun r => decide (r.step = i + 1)) ++ acc) []

/-- The header of a record a set writes (R327) (log entry 88 DEDUCED). -/
def stampRec (s : State) (a : CalAcc) (x : CalRec) : CalRec :=
  { x with gen := s.nextCalGen, g := s.time.g, sec := s.time.sec % 2 ^ 32, ns := s.time.ns,
           refV := if a.refV = 0 then s.rnat Reg.CAL_REF_V else a.refV, refR := if a.refR = 0 then s.rnat Reg.CAL_REF_R else a.refR }

/-- OUTCOME and the steps kept of one tile (R310, R331). -/
def tileOutcome (a : CalAcc) (s : State) (t : Nat) : State :=
  let of_ (l : List (Nat × Nat)) : Bool := l.any (fun e => decide (e.1 = 1) || decide (e.2 = t))
  let o := if of_ a.dis then 2 else if of_ a.pre then 3 else 1
  let steps := (List.range 8).foldl (fun n i =>
    let st := i + 1
    let mine (x : Nat) (y : Nat) : Bool := decide (x = st) && (decide (st = 1) || decide (y = t))
    if a.kept.any (fun e => mine e.1 e.2.1) && !(a.dis ++ a.pre).any (fun e => mine e.1 e.2) then n + 2 ^ i else n) 0
  (s.setField (Reg.CAL_TILE t) 31 27 (2 * o)).setField (Reg.CAL_TSTEP t) 7 0 steps

/-- A spare that passes its calibration is no longer BAD; one that fails is (R112, R116) (log entry 94 DEDUCED). -/
def spareMarks (l : List (Nat × Nat × Bool)) (s : State) : State :=
  l.foldl (fun (s : State) e =>
    let k := if e.2.1 < 256 then Reg.DRV_SPARE e.1 (e.2.1 - 228) else Reg.MON_SPARE e.1 (e.2.1 - 256 - 92)
    if e.2.2 then s.clrReg k 0x800000 else s.orReg k 0x800000) s

/-- The run ends (R310): counts, outcomes, the pending set of the values kept, and its completion. -/
def calEnd (r : CalRun) (res : List CalRes) (s : State) : State :=
  let a : CalAcc := (inOrder (res.filter (s.covered r.cmd))).foldl (s.calOne r.cmd) { kept := [], dis := [], pre := [], news := [], spares := [], refV := 0, refR := 0 }
  let s1 : State := { s with cal := { s.cal with run := none } }
  let s2 := ((s1.setReg Reg.CAL_KEPT (word a.kept.length)).setReg Reg.CAL_DISAGREED (word a.dis.length)).setReg Reg.CAL_PRECONDS (word a.pre.length)
  let s3 : State := if a.refV = 0 then s2 else (s2.setReg Reg.CAL_REF_V (word a.refV)).setReg Reg.CAL_REF_R (word a.refR)
  let s4 : State := ((s.runTiles r.cmd).foldl (tileOutcome a) s3).spareMarks a.spares
  let st := if !a.dis.isEmpty then 8 else if !a.pre.isEmpty then 9 else 0
  let s5 := ((s4.clrReg Reg.CAL_STATUS 0xF001).orReg Reg.CAL_STATUS (0x10 + (if st = 8 then 0x20 else 0) + (if st = 9 then 0x40 else 0))).clrReg Reg.HK_STATUS 2
  let s6 : State := if a.news.isEmpty then s5 else s5.makePending (Tab.mapAll (fun _ x => s5.stampRec a x) a.news)
  s6.complete r.cmd st 0 a.kept.length a.dis.length a.pre.length (if a.news.isEmpty then 0 else s6.rnat Reg.CAL_PEND_GEN % 2 ^ 31)

/-- A CAL_RUN is taken (R306, R407, R138): BUSY, the first named step, and the tiles' DACs (log entry 89 DEDUCED). -/
def calStart (c : Cmd) (s : State) : State :=
  if c.b 4 = 0 ∨ c.q 16 ≥ 2 ^ s.part.tiles then s.refuse c 0x05
  else if s.cal.run.isSome then s.refuse c 0x11
  else if s.heldNow then s.refuse c 0x0F
  else
    let step := ((List.range 8).filter (fun i => (c.b 4).testBit i)).headD 0 + 1
    let s1 : State := { s with cal := { s.cal with run := some { cmd := c } } }
    let s2 : State := (s.runTiles c).foldl (fun (s : State) t => (s.setField (Reg.CAL_TILE t) 31 27 0).injPreempt t) s1
    let s3 := (s2.setField Reg.CAL_STATUS 15 12 step).orReg Reg.CAL_STATUS 1
    if (c.b 4) % 4 ≠ 0 then s3.orReg Reg.HK_STATUS 2 else s3

/-! ### Loaded sets (R329, R408) -/

/-- The records of a load, or nothing where one fails, is duplicated or lies outside the part (R329, R408) (log entry 95 DEDUCED). -/
def loadRecs (s : State) : Nat → List Byte → List (Nat × CalRec) → Option (List (Nat × CalRec))
  | 0, _, acc => some acc
  | n + 1, l, acc => match s.recOf (l.take 8192) with
    | some (t, sl, r) =>
      if t < s.part.tiles ∧ sl < 9 ∧ (Tab.find (9 * t + sl) acc).isNone then loadRecs s n (l.drop 8192) (Tab.set (9 * t + sl) r acc) else none
    | none => none

/-- A CAL_SET_LOAD (R408). -/
def setLoad (c : Cmd) (d : HostData) (s : State) : State :=
  if s.cal.run.isSome then s.refuse c 0x11
  else if c.w 24 = 0 ∨ c.w 24 > 9 * s.part.tiles then s.refuse c 0x05
  else match d with
    | .failed _ => s.refuse c 0x0C
    | .bytes l => match s.loadRecs (c.w 24) l [] with
      | none => s.refuse c 0x05
      | some news =>
        let s1 := s.makePending news
        s1.complete c 0 0 news.length 0 0 (s1.rnat Reg.CAL_PEND_GEN % 2 ^ 31)

/-! ### Characterisation (R323–R325, R264, R409) -/

/-- SEQ_BUSY, or a coupling run. -/
def seqBusy (s : State) : Bool := s.cal.char.isSome || s.drt.coupling.isSome

/-- A cell is held MANUAL for a run; its mode before it is kept. -/
def holdCell (s : State) (c : Nat) : State :=
  let l := s.loopCell c
  if l.hasLoop then (s.setLoopCell c { l with st := { l.st with mode := 1 }, modeReq := none }).setDither c else s

/-- The sequencers are taken (R331). -/
def seqOn (kind : Nat) (s : State) : State :=
  ((((s.setField Reg.CAL_SEQ_STATUS 11 8 kind).orReg Reg.CAL_SEQ_STATUS 1).setReg Reg.CAL_SEQ_POS 0).orReg Reg.CAL_STATUS 0x800)

/-- The sequencers end a run (R331): DONE. -/
def seqOff (s : State) : State := ((s.clrReg Reg.CAL_SEQ_STATUS 1).orReg Reg.CAL_SEQ_STATUS 4).clrReg Reg.CAL_STATUS 0x800

/-- Every looped cell of a list, with its mode. -/
def modesOf (s : State) (cells : List Nat) : List (Nat × Nat) := (cells.filter (fun c => (s.loopCell c).hasLoop)).map (fun c => (c, (s.loopCell c).st.mode))

/-- Checks every CHAR_RUN makes at acceptance (R409), then its start. -/
def charGate (c : Cmd) (bad : Bool) (go : State → State) (s : State) : State :=
  if s.seqBusy then s.refuse c 0x11 else if s.heldNow then s.refuse c 0x0F else if bad then s.refuse c 0x05 else go s

/-- The bytes of `n` table entries at an internal address, as DRAM holds them (R324) (log entry 96 DEDUCED). -/
def tableAt (s : State) (a n : Nat) : List Byte := (List.range (16 * n)).map (fun i => s.dramAt (a + i))

/-- The cells that drive entries of a table name (R323). -/
def tableCells (r : CharRun) (n : Nat) : List Nat :=
  ((List.range n).filter (fun i => decide (byteAt (tabEnt r i) 4 = 0) && decide (entKind (tabEnt r i) ≤ 2))).map (fun i => entIdx (tabEnt r i))

/-- A TABLE run starts (R323, R324). -/
def tableStart (c : Cmd) (s : State) : State :=
  let r : CharRun := { cmd := c, kind := 0, cells := [], modes := [], table := s.tableAt (c.q 16) (c.h 24) }
  let cells := (tableCells r (c.h 24)).eraseDups
  let r1 : CharRun := { r with cells := cells, modes := s.modesOf cells }
  let s1 : State := cells.foldl holdCell ((s.seqOn 0).setChar r1)
  if c.b 5 = 1 then s1.orReg Reg.HK_STATUS 1 else s1

/-- The numbers of a host list. -/
def hostList (n : Nat) (l : List Byte) : List Nat := (List.range n).map (fun i => le l (2 * i) 2)

/-- A sweep starts over the cells of its list (R325). -/
def sweepStart (c : Cmd) (kind : Nat) (cells : List Nat) (s : State) : State :=
  (cells.foldl holdCell (s.seqOn kind)).setChar { cmd := c, kind := kind, cells := cells, modes := s.modesOf cells }

/-- A sweep or a coupling run whose list has been read. -/
def withList (c : Cmd) (limit : Nat) (d : HostData) (good : Nat → Bool) (go : List Nat → State → State) (s : State) : State :=
  match d with
  | .failed _ => s.charGate c false (fun s => s.refuse c 0x0C)
  | .bytes l =>
    let xs := hostList (c.h 24) l
    s.charGate c (decide (c.h 24 = 0) || decide (limit < c.h 24) || decide (l.length < 2 * c.h 24) || !xs.all good) (go xs)

/-- A coupling run starts (R264): the targets of every source become MANUAL, with the active arm raised by OFF. -/
def couplingStart (c : Cmd) (srcs : List Nat) (s : State) : State :=
  let targets := ((srcs.map (fun a => (s.drtList a).drop 1)).foldr (· ++ ·) []).eraseDups
  let off := s.fld Reg.DRT_CHAR_CFG 27 16
  let s1 := (s.seqOn 1).orReg Reg.DRT_STATUS 0x100
  let s2 : State := { s1 with drt := { s1.drt with coupling := some { cmd := c, sources := srcs, aborted := [], modes := s.modesOf targets } } }
  targets.foldl (fun (s : State) t =>
    let s3 := s.holdCell t
    match s3.armChan t with
    | some ch => s3.enqueue ch (min 65535 ((s.cellCodes t (s.cellState t)).getD (s.armOf t (s.cellState t)) 0 + off))
    | none => s3) s2

/-! #### What a sweep finds (R325) -/

/-- The code of step `i` of `n` from CODE_MIN to CODE_MAX (log entry 90 DEDUCED). -/
def stepCode (e : Elem) (n i : Nat) : Nat := e.codeMin + i * (e.codeMax - e.codeMin) / (n - 1)

/-- The lowest step at the maximum, or where `max` is false the minimum, of a profile. -/
def extremum (max : Bool) (l : List Int) : Nat :=
  (l.foldl (fun (b : Nat × Nat × Int) v => if (if max then decide (b.2.2 < v) else decide (v < b.2.2)) then (b.1 + 1, b.1, v) else (b.1 + 1, b.2.1, b.2.2))
    (0, 0, l.headD 0)).2.1

/-- The lowest step within 0.2 dB of the extremum: a fiftieth of a decade (R325). -/
def nearStep (max : Bool) (l : List Int) : Nat :=
  let x := l.getD (extremum max l) 0
  (l.findIdx? (fun v => if max then decide (x.toNat ^ 50 ≤ 10 * v.toNat ^ 50) else decide (v.toNat ^ 50 ≤ 10 * x.toNat ^ 50))).getD 0

/-- Sum of two profiles: the mean of the two passes' raw measurements, twice over (R307). -/
def addP (a b : List Int) : List Int := List.zipWith (· + ·) a b

/-- What becomes of one cell of a sweep: 0 kept with its write, 1 NO_EXTREMUM, 2 disagreeing, 3 failing a precondition (log entry 91 DEDUCED). -/
def sweepCell (s : State) (kind : Nat) (r : SweepRes) : Nat × (CalRec → CalRec) :=
  let cross := if kind = 3 then true else s.cellState r.cell
  let t := s.elemTile (if kind = 3 then 2 else 0) r.cell
  match s.cellLight r.cell with
  | none => (1, id)
  | some light =>
    let max := decide ((if cross then -light else light) = 1)
    let tol := s.fld Reg.CAL_TOL2 15 0
    if r.precond || s.tooSteep t then (3, id)
    else if kind = 3 then
      match s.elemEnt 2 r.cell with
      | none => (3, id)
      | some e =>
        let at_ (l : List Int) : Nat := stepCode e 64 (nearStep max l)
        let m := addP r.passA r.passB
        if extremum max m = 0 ∨ extremum max m = 63 then (1, id)
        else if !near (at_ r.passA) (at_ r.passB) tol then (2, id)
        else (0, fun x =>
          let c : CellCal := Tab.get { wBar := (0, 0), wCross := (0, 0), on := 0, tBar := -32768, tCross := -32768, tOn := -32768, armBar := false,
                                       armCross := false, valid := 0 } r.cell x.cells
          { x with cells := Tab.set r.cell { c with on := at_ m, tOn := s.tileTemp t, valid := c.valid ||| 4 } x.cells })
    else
      match s.elemEnt 0 r.cell, s.elemEnt 1 r.cell with
      | some e0, some e1 =>
        let w (l : List Int) : Nat × Nat := (stepCode e0 256 (extremum max (l.take 256)), stepCode e1 256 (extremum max (l.drop 256)))
        let m := addP r.passA r.passB
        let ends (l : List Int) : Bool := decide (extremum max l = 0) || decide (extremum max l = 255)
        if ends (m.take 256) || ends (m.drop 256) then (1, id)
        else if !near (w r.passA).1 (w r.passB).1 tol || !near (w r.passA).2 (w r.passB).2 tol then (2, id)
        else (0, fun x =>
          let arm := if (w m).2 < (w m).1 then 1 else 0
          s.putW r.cell arm cross (if arm = 0 then (w m).1 else (w m).2) (s.putW r.cell (1 - arm) cross (if arm = 0 then (w m).2 else (w m).1) x))
      | _, _ => (3, id)

/-- A sweep ends (R325, R409): kept values form a set, cells without an extremum are raised to AVOID, modes come back. -/
def sweepEnd (r : CharRun) (res : List SweepRes) (s : State) : State :=
  let mine := res.filter (fun x => r.cells.contains x.cell)
  let outs := mine.map (fun x => (x.cell, s.sweepCell r.kind x))
  let n (k : Nat) : Nat := (outs.filter (fun o => decide (o.2.1 = k))).length
  let acc : CalAcc := { kept := [], dis := [], pre := [], news := [], spares := [], refV := 0, refR := 0 }
  let news : List (Nat × CalRec) := outs.foldl (fun l o => if o.2.1 = 0 then
      let k := s.calKey (s.elemTile (if r.kind = 3 then 2 else 0) o.1)
      Tab.set k (o.2.2 (Tab.get (Tab.get {} k s.cal.live) k l)) l else l) []
  let s1 : State := { s with cal := { s.cal with char := none } }
  let s2 : State := r.modes.foldl (fun (s : State) e => s.restoreMode e.1 e.2) s1.seqOff
  let s3 := s2.deviceMark ((outs.filter (fun o => decide (o.2.1 = 1))).map (fun o => (o.1, 2)))
  let s4 : State := if news.isEmpty then s3 else s3.makePending (Tab.mapAll (fun _ x => s3.stampRec acc x) news)
  let st := if n 2 ≠ 0 then 8 else if n 1 ≠ 0 ∨ n 3 ≠ 0 then 9 else 0
  s4.complete r.cmd st 0 (n 0) (n 1) (n 2) (n 3)

/-- A table ends (R409): OK at its loop count, SHORT for a full buffer; `stop` for a SEQ_STOP of a table that loops until stopped. -/
def tableEnd (r : CharRun) (s : State) : State :=
  let s1 : State := { s with cal := { s.cal with char := none } }
  let s2 : State := r.modes.foldl (fun (s : State) e => s.restoreMode e.1 e.2) (s1.seqOff.clrReg Reg.HK_STATUS 1)
  s2.complete r.cmd (if r.ended = 2 then 0x10 else 0) 0 r.count r.loops r.lost 0

/-- A table whose END has VALUE 0 (R324, R409). -/
def endless (r : CharRun) : Bool :=
  (List.range (r.table.length / 16)).any (fun i => decide (byteAt (tabEnt r i) 4 = 0xFF) && decide (le (tabEnt r i) 6 2 = 0))

/-- CAL_CMD.SEQ_STOP (R409). -/
def seqStop (s : State) : State :=
  match s.cal.char with
  | some r => if decide (r.kind = 0) && endless r then s.tableEnd { r with ended := 1 } else s.abortChar
  | none => s.abortChar

/-! #### The fit of a coupling run (R265) -/

/-- The index of W_k at a result `j` of a source, its group delay taken off; none before the step (log entry 93 DEDUCED). -/
def fitIdx (delay first j : Nat) : Option Nat := let t := first + 20000 * j; if t < delay then none else some (min 199 ((t - delay) / 10000))

/-- The determinant of a 3 × 3 matrix given by rows. -/
def det3 (m : List (List Int)) : Int :=
  let e (i j : Nat) : Int := (m.getD i []).getD j 0
  e 0 0 * (e 1 1 * e 2 2 - e 1 2 * e 2 1) - e 0 1 * (e 1 0 * e 2 2 - e 1 2 * e 2 0) + e 0 2 * (e 1 0 * e 2 1 - e 1 1 * e 2 0)

/-- Least squares for a₀, a₁, a₂: Σ_k a_k W_k[i_j] × `num` = y_j × `den` over the results, solved exactly and rounded to nearest; none where
the classes cannot be told apart. -/
def fit3 (ws : List (List Int)) (ys : List Int) (num den : Int) : Option (List Int) :=
  let dot (a b : List Int) : Int := sumI (List.zipWith (· * ·) a b)
  let m := ws.map (fun a => ws.map (fun b => dot a b))
  let rhs := ws.map (fun a => dot a ys)
  let d := det3 m
  if d = 0 ∨ num = 0 then none
  else
    let col (k : Nat) : List (List Int) := (List.range 3).map (fun i => (List.range 3).map (fun j => if j = k then rhs.getD i 0 else (m.getD i []).getD j 0))
    some ((List.range 3).map (fun k => clampI (Maths.roundDiv (det3 (col k) * den * (if d * num < 0 then -1 else 1)) (((d * num).natAbs : Nat) : Int)) (-32767) 32767))

/-- The classes' coefficients from results `l` (10 before the step, 100 after), a slope σ = slope / 640 and Δu (R264, R265):
c_m = −(y_m − baseline) / σ = Σ a_k W_k Δu / 2³¹. -/
def fitOf (s : State) (delay first : Nat) (du slope : Int) (l : List Int) (n : Int) : Option (List Int) :=
  let base := sumI (l.take 10)
  let ys := (l.drop 10).map (fun y => -(10 * y - base) * 640 * 2 ^ 31)
  let idx := (List.range (l.length - 10)).map (fitIdx delay first)
  let w (k : Nat) : List Int := idx.map (fun i => match i with | some i => s.drtW k i | none => 0)
  fit3 [w 0, w 1, w 2] ys (10 * slope * du * n) 1

/-- The step of a source of a coupling run, Δu of R246 (R264): a throw to its energised code, a trim by STEP. -/
def sourceDu (s : State) (src : Nat) : Int :=
  let code := match s.drvOf (src % 3) (src / 3) with | some ch => (s.chan ch).active | none => 0
  let to_ := if src % 3 = 2 then (match s.elemEnt 2 (src / 3) with
      | some e => (clampI ((s.workOn (src / 3) (s.tileTemp (s.elemTile 0 (src / 3)))).getD e.codeMax) e.codeMin e.codeMax).toNat | none => code)
    else min 65535 (code + s.fld Reg.DRT_CHAR_CFG 15 0)
  s.drtU src to_ - s.drtU src code

/-- Two repetitions agree within max(2, 5 %) in every class (R265) (log entry 92 DEDUCED). -/
def repsAgree (a b : List Int) : Bool := (List.zipWith (fun x y => decide (20 * (x - y).natAbs ≤ max 40 (max x.natAbs y.natAbs))) a b).all id

/-- What becomes of one target: 0 fitted, 1 NO_LIGHT, 2 DISAGREE, 3 OUT_OF_TEMP (R265). -/
def coupOne (r : Coupling) (x : State × List Nat) (m : CoupRes) : State × List Nat :=
  let s := x.1
  let cell := (s.drtList m.source).getD m.entry 0
  if !r.sources.contains m.source || r.aborted.contains m.source || decide (m.entry = 0) || decide ((s.drtList m.source).length ≤ m.entry) then x
  else
    let t := s.tileTemp (s.elemTile (m.source % 3) (m.source / 3))
    let ti := drtNearest t
    let base := sumI (m.passA.take 10) + sumI (m.passB.take 10)
    if 250 < (drtTemps.getD ti 0 - t).natAbs then (s, x.2 ++ [3])
    else if base < 20 * 256 * (s.fld Reg.DRT_CHAR_MIN 15 0 : Nat) then (s, x.2 ++ [1])
    else
      let filt : Bool := match s.monOf 3 cell with | some ch => (s.monCh ch).filt | none => false
      let delay := if filt then 50313 else 40313
      let du := s.sourceDu m.source
      let slope := m.plus - m.minus
      match s.fitOf delay m.first du slope m.passA 1, s.fitOf delay m.first du slope m.passB 1, s.fitOf delay m.first du slope (addP m.passA m.passB) 2 with
      | some a, some b, some f =>
        if !repsAgree a b then (s, x.2 ++ [2])
        else
          let arm := s.armOf cell (s.cellState cell)
          ((List.range 3).foldl (fun (s : State) k => s.setCoeff (drtIndex m.source ti m.entry arm k) (f.getD k 0)) s, x.2 ++ [0])
      | _, _, _ => (s, x.2 ++ [2])

/-- A coupling run ends (R264–R266, R409). -/
def coupEnd (r : Coupling) (res : List CoupRes) (s : State) : State :=
  let x : State × List Nat := res.foldl (coupOne r) (s, [])
  let n (k : Nat) : Nat := (x.2.filter (fun o => decide (o = k))).length
  let s1 : State := { x.1 with drt := { x.1.drt with coupling := none } }
  let s2 : State := r.modes.foldl (fun (s : State) e => s.restoreMode e.1 e.2) s1.seqOff
  let s3 := (s2.clrReg Reg.DRT_STATUS 0x100).orReg Reg.DRT_STATUS 0x200
  let s4 := (s3.setReg Reg.DRT_CHAR_CNT0 (word (min (n 0) 0xFFFF * 2 ^ 16 + min (n 1) 0xFFFF))).setReg Reg.DRT_CHAR_CNT1
    (word (min (n 2) 0xFFFF * 2 ^ 16 + min (n 3) 0xFFFF))
  let s5 : State := if n 0 = 0 then s4 else (s4.wrapInc Reg.DRT_TGEN).orReg Reg.DRT_STATUS 2
  s5.complete r.cmd (if n 2 ≠ 0 then 8 else 0) 0 (n 0) (n 1) (n 2) (min (n 3) 0xFFFF + 2 ^ 16 * min r.aborted.length 0x7FFF)

/-! ### The digest of the coupling table (R328) -/

/-- The bytes of the coupling table (R248). -/
def tableBytes (s : State) : List Byte := (List.range (14592 * 3456)).foldr (fun i acc => bytesOf 2 (low 16 (s.drtCoeff i)) ++ acc) []

/-- The hash starts, unless one runs. -/
def hashStart (s : State) : State := if s.drt.hashing.isSome then s else { s with drt := { s.drt with hashing := some s.clk } }

/-- The hash ends: CAL_DHASH and the generation it covers. -/
def hashEnd (s : State) : State :=
  let dig := Crypto.shake256 s.tableBytes
  let s1 : State := { s with drt := { s.drt with hashing := none } }
  ((List.range 16).foldl (fun (s : State) i => s.setReg (Reg.CAL_DHASH i) (word (le dig (4 * i) 4))) s1).setReg Reg.CAL_DHASH_TGEN (s.reg Reg.DRT_TGEN)

/-- CAL_CMD (R331). -/
def calCmd (v : Word) (s : State) : State :=
  let s1 : State := if bit v 0 then { s with cal := { s.cal with idleSince := some s.clk } } else s
  let s2 : State := if bit v 1 then s1.abortCal else s1
  let s3 : State := if bit v 2 then s2.seqStop else s2
  if bit v 3 then s3.hashStart else s3

end State

open State

/-- CAL_RUN (R306, R407). -/
def execCalRun (c : Cmd) (s : State) : Res := .next (s.runDesc c 0x0A (fun s => s.calStart c))

/-- CAL_RUN_END (R310). -/
def execCalRunEnd (res : List CalRes) (s : State) : Res :=
  .next (match s.cal.run with | some r => s.calEnd r res | none => s)

/-- CAL_SET_LOAD (R329, R408). -/
def execCalSetLoad (c : Cmd) (d : HostData) (s : State) : Res := .next (s.runDesc c 0x0B (fun s => (s.recReads c d).setLoad c d))

/-- CHAR_TABLE (R324, R409). -/
def execCharTable (c : Cmd) (s : State) : Res :=
  .next (s.runDesc c 0x0C (fun s => if c.b 4 ≠ 0 then s.refuse c 0x05 else
    s.charGate c (decide (c.h 24 = 0) || decide (4096 < c.h 24) || decide (1 < c.b 5)) (tableStart c)))

/-- CHAR_COUPLING (R264, R409). -/
def execCharCoupling (c : Cmd) (d : HostData) (s : State) : Res :=
  .next (s.runDesc c 0x0C (fun s => if c.b 4 ≠ 1 then s.refuse c 0x05 else
    (s.recReads c d).withList c 14592 d (fun a => decide (a / 3 < s.nCells)) (couplingStart c)))

/-- CHAR_TRIM_SWEEP (R325, R409). -/
def execCharTrimSweep (c : Cmd) (d : HostData) (s : State) : Res :=
  .next (s.runDesc c 0x0C (fun s => if c.b 4 ≠ 2 then s.refuse c 0x05 else
    (s.recReads c d).withList c 4864 d (fun x => decide (x < s.nCells)) (sweepStart c 2)))

/-- CHAR_THROW_SWEEP (R325, R409). -/
def execCharThrowSweep (c : Cmd) (d : HostData) (s : State) : Res :=
  .next (s.runDesc c 0x0C (fun s => if c.b 4 ≠ 3 then s.refuse c 0x05 else
    (s.recReads c d).withList c 4864 d (fun x => decide (x < s.nCells)) (sweepStart c 3)))

/-- COUPLING_RUN_END (R265). -/
def execCouplingRunEnd (res : List CoupRes) (s : State) : Res :=
  .next (match s.drt.coupling with | some r => s.coupEnd r res | none => s)

/-- CHAR_RUN_END (R325, R409): a sweep ends with what it measured; a table ends once it has run out or its buffer is full. -/
def execCharRunEnd (res : List SweepRes) (s : State) : Res :=
  .next (match s.cal.char with
    | some r => if r.kind = 0 then (if r.ended = 0 then s else s.tableEnd r) else s.sweepEnd r res
    | none => s)

/-- CAL_IDLE (R320). -/
def execCalIdle (u : Cu) (v : Word) (s : State) : Res := .next (s.baseWrite u Reg.CAL_CMD (v ||| 1) (fun s => s.calCmd (v ||| 1)))

/-- CAL_IDLE_LAPSE (R320): 10 ms after the request. -/
def execCalIdleLapse (s : State) : Res :=
  .next (match s.cal.idleSince with
    | some t => if t + clksMs 10 ≤ s.clk then ({ s with cal := { s.cal with idleSince := none } }).orReg Reg.CAL_STATUS 0x200 else s
    | none => s)

/-- CAL_ABORT (R333). -/
def execCalAbort (u : Cu) (v : Word) (s : State) : Res := .next (s.baseWrite u Reg.CAL_CMD (v ||| 2) (fun s => s.calCmd (v ||| 2)))

/-- CAL_SEQ_STOP (R409). -/
def execCalSeqStop (u : Cu) (v : Word) (s : State) : Res := .next (s.baseWrite u Reg.CAL_CMD (v ||| 4) (fun s => s.calCmd (v ||| 4)))

/-- CAL_HASH_DRT (R328). -/
def execCalHashDrt (u : Cu) (v : Word) (s : State) : Res := .next (s.baseWrite u Reg.CAL_CMD (v ||| 8) (fun s => s.calCmd (v ||| 8)))

end Sys2Proof.Machine
end

