-- ==== Sys2Proof/Machine/Collector.lean ====
section
/-! DEFINITION. The rows of the fault collector and the event log (R522–R545). -/
namespace Sys2Proof.Machine

namespace State

/-- A write of FLT_CMD (R534, R541): the clears first, then RELEASE is judged. -/
def fltCmd (u : Cu) (v : Word) (s : State) : State :=
  let s1 : State := if bit v 2 then s.clearAll u else s
  let s2 : State := if bit v 1 then s1.clearFirst else s1
  if bit v 0 then s2.thimbleRelease else s2

/-- A write of a FLT_SRC_CLR register with its bit (R535, R544): refused while a level stands; a reserved source holds no record. -/
def srcClear (src : Nat) (s : State) : State :=
  if !srcExists src then s
  else if s.levelOn src then
    (if src < 64 then s.orReg Reg.FLT_STATUS 8 else s.orReg (Reg.FLT_U_STATUS (if src < 96 then .a else .b)) 4)
  else s.clearSource src

/-- The oldest record of the log buffer is committed to the memory (R540): one that fails its read-back goes to the next slot, with the numbers that
follow (R542, R538) (log entry 135 DEDUCED). -/
def commitLog (ok : Bool) (s : State) : State :=
  match s.flt.buf with
  | [] => s
  | r :: rest =>
    let slot := r.seq % 256
    let wear := Tab.set slot (Tab.get 0 slot s.flt.wear + 1) s.flt.wear
    let s1 : State := if ok then { s with flt := { s.flt with log := Tab.set slot r s.flt.log, buf := rest, wear := wear } }
      else
        let up (x : LogRec) : LogRec := { x with seq := (x.seq + 1) % 2 ^ 32 }
        let n := (s.flt.seq + 1) % 2 ^ 32
        ((({ s with flt := { s.flt with log := Tab.erase slot s.flt.log, buf := s.flt.buf.map up, seq := n, wear := wear } }).setReg
          Reg.FLT_LOG_SEQ (word n)).orReg Reg.FLT_STATUS 0x10)
    s1.setReg Reg.FLT_LOG_WEAR (word ((wear.map Prod.snd).foldl max 0))

end State

open State

/-- FAULT_REPORT (R524–R528): the reports of one drive clock. -/
def execFaultReport (reports : List FaultRep) (s : State) : Res := .next (s.report reports)

/-- FLT_RELEASE (R534): FLT_CMD with RELEASE. -/
def execFltRelease (u : Cu) (v : Word) (s : State) : Res :=
  .next (s.baseWrite u Reg.FLT_CMD (v ||| 1) (fun s => s.fltCmd u (v ||| 1)))

/-- FLT_CLR_ALL (R536): FLT_CMD with CLR_ALL. -/
def execFltClrAll (u : Cu) (v : Word) (s : State) : Res :=
  .next (s.baseWrite u Reg.FLT_CMD (v ||| 4) (fun s => s.fltCmd u (v ||| 4)))

/-- FLT_CLR_FIRST (R535): FLT_CMD with CLR_FIRST. -/
def execFltClrFirst (u : Cu) (v : Word) (s : State) : Res :=
  .next (s.baseWrite u Reg.FLT_CMD (v ||| 2) (fun s => s.fltCmd u (v ||| 2)))

/-- FLT_SRC_CLR (R535, R544): of a base source by the holder, of a local source by its own unit whatever the token. -/
def execFltSrcClr (u : Cu) (src : Nat) (v : Word) (s : State) : Res :=
  if src < 64 then .next (s.baseWrite u (Reg.FLT_SRC_CLR src) v (fun s => if bit v 0 then s.srcClear src else s))
  else if src < 128 ∧ (if src < 96 then Cu.a else Cu.b) = u then .next (if bit v 0 then s.srcClear src else s)
  else .next s

/-- LOG_COMMIT (R540). -/
def execLogCommit (ok : Bool) (s : State) : Res := .next (s.commitLog ok)

end Sys2Proof.Machine
end

