-- ==== Sys2Proof/Machine/Views.lean ====
section
/-! DEFINITION. Registers that show typed state: what a read of them answers (R113–R119, R153–R155, R213, R244). -/
namespace Sys2Proof.Machine.State

/-- A relieved primary (R110). -/
def relieved (ch : Nat) (c : Chan) : Bool := decide (ch % 240 < 228) && c.partner.isSome

/-- DRV_CFG, DRV_LIMIT, DRV_ACTIVE, DRV_NEXT, DRV_HOLD, DRV_OUT (R117, R118). -/
def drvCfgWord (s : State) (ch : Nat) : Word :=
  let c := s.chan ch
  word (linkBits (decide (228 ≤ ch % 240)) c.partner + 256 * c.range + 16 * c.kind + c.role)
def drvLimitWord (s : State) (ch : Nat) : Word := word (2 ^ 16 * (s.chan ch).codeMax + (s.chan ch).codeMin)
def drvActiveWord (s : State) (ch : Nat) : Word := let c := s.chan ch; if relieved ch c then 0 else word (2 ^ 16 * c.r + c.active)
def drvNextWord (s : State) (ch : Nat) : Word := let c := s.chan ch; if relieved ch c then 0 else word c.next
def drvHoldWord (s : State) (ch : Nat) : Word := let c := s.chan ch; if relieved ch c then 0 else word (2 ^ 16 * c.holdL + c.holdD)
def drvOutWord (s : State) (ch : Nat) : Word := let c := s.chan ch; if relieved ch c then 0 else word (2 ^ 16 * c.dac + c.x)
/-- DRV_BRZ, DRV_PHASE, DRV_CORR, DRV_DRT, DRV_QSTAT (R117, R119). -/
def drvBrzWord (s : State) (ch : Nat) : Word :=
  let c := s.chan ch
  word (2 ^ 31 * b2n c.brzEn + 2 ^ 30 * b2n c.gated + 2 ^ 16 * (c.tone % 64) + c.amp % 2 ^ 13)
def drvCorrWord (s : State) (ch : Nat) : Word := let c := s.chan ch; word (2 ^ 16 * c.gain + low 16 c.offset)
def drvQstatWord (s : State) (ch : Nat) : Word := s.reg (Reg.DRV_QSTAT (ch / 240) (ch % 240)) ||| word (s.chan ch).queue.length

/-- MON_FAST and MON_FINE (R154). -/
def monFastWord (s : State) (ch : Nat) : Word := let m := s.monCh ch; word (2 ^ 24 * m.fastFl + low 16 m.fast)
def monFineWord (s : State) (ch : Nat) : Word := let m := s.monCh ch; word (2 ^ 24 * m.fineFl + low 24 m.fine)

end Sys2Proof.Machine.State
end

