-- ==== Sys2Proof/Machine/Direct.lean ====
section
/-! DEFINITION. Descriptors that read or set parts of the device directly: NOP, MAP_QUERY, ELEMENT_DIRECT, SPARE_MAP, TELEM_CTRL, STATE_SAVE and
FAULT_CTRL (R394, R397, R403–R405, R412, R413, R536). -/
namespace Sys2Proof.Machine

namespace State

/-! ### MAP_QUERY (R397) -/

/-- The 64 bytes of a slot header (R184). -/
def slotHeader (x : Slot) : List Byte :=
  bytesOf 4 x.epoch ++ bytesOf 2 x.bgen ++ bytesOf 1 x.flags ++ bytesOf 1 0 ++ bytesOf 2 x.originSlot ++ bytesOf 2 x.originBgen ++ bytesOf 4 x.calset ++
    (match x.traj with | some t => bytesOf 8 (trajAddr t) ++ bytesOf 4 (trajLen t) | none => bytesOf 12 0) ++ bytesOf 2 x.cellsChanged ++ bytesOf 2 0 ++
    bytesOf 4 x.sec ++ bytesOf 4 x.ns ++ bytesOf 24 0

/-- The 29,184 bytes of a drive image (R26). -/
def imageBytes (img : List Nat) : List Byte := fit 29184 ((img.map (bytesOf 2)).foldr (· ++ ·) [])

/-- One part of an image: header, vector, completed map, drive image. -/
def queryPart (s : State) (head : List Byte) (vec : Nat) (img : List Nat) (i : Nat) : List Byte :=
  match i with
  | 0 => head
  | 1 => bytesOf 608 vec
  | 2 => ((Benes.realised s.geo vec).map (bytesOf 2)).foldr (· ++ ·) []
  | _ => imageBytes img

/-- The whole parts that fit a buffer, in order; a part that does not fit ends it. -/
def takeParts : Nat → List (List Byte) → List Byte × Bool
  | _, [] => ([], true)
  | n, p :: r => if p.length ≤ n then let x := takeParts (n - p.length) r; (p ++ x.1, x.2) else ([], false)

/-- MAP_QUERY (R397) (log entry 109 DEDUCED). -/
def mapQueryAct (c : Cmd) (s : State) : State :=
  let act := s.fld Reg.GST_ACTIVE 15 0
  let parts := c.b 6
  let park := decide (c.b 4 = 2) || (decide (c.b 4 = 0) && decide (act = 0xFFFE))
  let sl := if c.b 4 = 1 then c.b 5 else act
  let x := s.slot sl
  if 2 < c.b 4 ∨ parts = 0 ∨ 15 < parts ∨ (c.b 4 = 1 ∧ x.st = 0) ∨ (parts.testBit 2 ∧ s.graph) ∨ (c.b 4 = 0 ∧ act = 0xFFFF) then s.refuse c 0x05
  else if !park && decide (x.st = 1) then s.refuse c 0x11
  else
    let head := if park then bytesOf 64 0 else slotHeader x
    let vec := if park then s.fab.parkVec else x.vec
    let img := if park then s.fab.parkImg else x.img
    let r := takeParts (c.w 24) (((List.range 4).filter (fun i => parts.testBit i)).map (s.queryPart head vec img))
    (s.hostWrite c.unit (c.q 16) r.1).complete c (if r.2 then 0 else 0x10) 0 r.1.length (s.rnat Reg.GST_ACTIVE) (if park then 0 else (s.slotWord sl).toNat) 0

/-! ### ELEMENT_DIRECT (R403) -/

/-- Kind and index of the Element Address a descriptor carries. -/
def elKind (c : Cmd) : Nat := c.w 16 / 2 ^ 29
def elIdx (c : Cmd) : Nat := c.w 16 / 2 ^ 16 % 2 ^ 13

/-- The codes of a CODES descriptor. -/
def codesOf (c : Cmd) : List Nat := (List.range (c.b 5)).map (fun i => c.h (24 + 2 * i))

/-- CODES at its action time: every code or none enters the element's queue (R403). -/
def codesAct (c : Cmd) (late : Bool) (s : State) : State :=
  let n := c.b 5
  match (if elKind c ≤ 2 ∨ elKind c = 6 then s.drvOf (elKind c) (elIdx c) else none) with
  | none => s.refuse c 0x05
  | some ch =>
    let x := s.chan ch
    if n = 0 ∨ 16 < n then s.refuse c 0x05
    else if s.heldNow then s.refuse c 0x0F
    else if !s.hostMayQueue ch then s.refuse c 0x05
    else if 16 < x.queue.length + n then s.refuse c 0x11
    else
      let g := s.time.g + 1 + x.queue.length
      (s.setChan ch { x with queue := x.queue ++ codesOf c }).complete c (okStatus late) 0 g (g / 2 ^ 32) 0 0

/-- READ (R403). -/
def elementRead (c : Cmd) (s : State) : State :=
  match s.servingOf (elKind c) (elIdx c) with
  | none => s.refuse c 0x05
  | some ch =>
    if elKind c ≤ 2 ∨ elKind c = 6 then s.complete c 0 0 (s.drvActiveWord ch).toNat (s.drvOutWord ch).toNat (s.drvHoldWord ch).toNat ch
    else s.complete c 0 0 (s.monFineWord ch).toNat (s.monFastWord ch).toNat (s.monCfgWord ch).toNat ch

/-! ### SPARE_MAP (R404) -/

/-- The tile and primary index of an element's pad. -/
def padSite (s : State) (kind idx : Nat) : Option (Bool × Nat × Nat) :=
  let mon := decide (3 ≤ kind) && decide (kind ≠ 6)
  (s.elemEnt kind idx).map (fun e => if mon then (mon, e.chan / 96, e.chan % 96) else (mon, e.chan / 240, e.chan % 240))

/-- The entries of a tile. -/
def spEntries (mon : Bool) (t : Nat) : List SpKey := (List.range (if mon then 4 else 12)).map (fun j => { mon := mon, tile := t, j := j })

/-- SUBSTITUTE at its action time (R404). -/
def substAct (c : Cmd) (late : Bool) (s : State) : State :=
  match s.padSite (elKind c) (elIdx c) with
  | none => s.refuse c 0x05
  | some (mon, t, p) =>
    let ks := spEntries mon t
    let probe : SpKey := { mon := mon, tile := t, j := 99 }
    if spFirst probe ≤ p ∨ s.spTaken probe p then s.refuse c 0x05
    else if c.b 5 = 0xFF then
      match ks.find? (fun k => s.spUsable k p && !s.spEn k && !s.spPend k && !s.spForce k) with
      | some k => s.spRequest k p (some c) late
      | none => s.refuse c 0x11
    else match ks.find? (fun k => decide (spFirst k + k.j = c.b 5)) with
      | some k => s.spRequest k p (some c) late
      | none => s.refuse c 0x05

/-- RELEASE at its action time (R404): of the spare that serves the element or is PEND for it; one whose release is PEND already is BUSY (log entry 50 DEDUCED). -/
def releaseAct (c : Cmd) (late : Bool) (s : State) : State :=
  match s.padSite (elKind c) (elIdx c) with
  | none => s.refuse c 0x05
  | some (mon, t, p) =>
    match (spEntries mon t).find? (fun k => (s.spForce k || s.spPend k) && decide (s.fld (spReg k) 7 0 = p)) with
    | none => s.refuse c 0x05
    | some k =>
      if c.b 5 ≠ 0xFF ∧ c.b 5 ≠ spFirst k + k.j then s.refuse c 0x05
      else if s.spForce k && s.spPend k then s.refuse c 0x11
      else s.spRelease k p (some c) late

/-! ### TELEM_CTRL (R405) -/

/-- The queue as a TELEM_CTRL sets it (R142, R156). -/
def telemSet (c : Cmd) (l : List Byte) (s : State) : State :=
  let q := c.b 4
  let s1 := s.rqDisable q
  let s2 := s1.setReg (Reg.MON_RQ_CTRL q) (word (2 ^ 30 * b2n ((c.b 6).testBit 1) + 2 ^ 16 * (c.h 16 % 1024) + 2 ^ 8 * c.func + c.b 5))
  let s3 := s2.setReg (Reg.MON_RQ_WM q) (word (2 ^ 16 * c.h 20 + c.h 18))
  let s4 : State := if c.q 24 = 0 then s3 else (List.range 192).foldl (fun (s : State) i => s.setReg (Reg.MON_RQ_MAP q i) (word (le l (4 * i) 4))) s3
  s4

/-- TELEM_CTRL (R405) (log entry 60 DEDUCED). -/
def telemAct (c : Cmd) (d : HostData) (s : State) : State :=
  let q := c.b 4
  let bytes : Option (List Byte) := match d with | .bytes l => some l | .failed _ => none
  if 15 < q ∨ 7 < c.b 5 ∨ 3 < c.b 6 ∨ 1024 < c.h 16 ∨ c.h 18 = 0 ∨ 2048 < c.h 18 ∨ 0xFFF < c.h 20 ∨ !s.rbit (Reg.Q_TR_CFG c.unit c.func (c.b 5)) 31 then s.refuse c 0x05
  else if s.rbit (Reg.MON_RQ_CTRL q) 31 && decide (s.fld (Reg.MON_RQ_CTRL q) 11 8 ≠ c.func) then s.refuse c 0x11
  else if c.q 24 ≠ 0 ∧ bytes.isNone then s.refuse c 0x0C
  else
    let s1 := s.telemSet c (bytes.getD [])
    if (c.b 6).testBit 0 then
      if s1.rqFits q then
        let s2 := s1.rqEnable q
        s2.complete c 0 0 (s2.rnat (Reg.MON_RQ_STATUS q)) (s2.rqRate q) 0 0
      else s.refuse c 0x05
    else s1.complete c 0 0 (s1.rnat (Reg.MON_RQ_STATUS q)) (s1.rqRate q) 0 0

/-! ### STATE_SAVE (R413) -/

/-- Bytes of a full image: its header page, LOOP, HEALTH, SPARE and RECORDER (R432, R433) (log entry 110 DESIGN CHOICE). -/
def imageLen (s : State) : Nat := 4096 + 64 * s.nCells + 2436 + 4096 + 256

/-! ### FAULT_CTRL (R412, R536) -/

/-- The words a FAULT_CTRL returns of a source, or of the first record. -/
def faultWords (s : State) (src : Nat) : Nat × Nat × Nat × Nat :=
  if src = 0xFFFF then
    let bits := (List.range 128).filter (fun i => s.rbit (Reg.FLT_FIRST_SRC (i / 32)) (i % 32))
    (s.fld Reg.FLT_FIRST 15 0 + 2 ^ 16 * s.fld Reg.FLT_FIRST 22 20, bits.length, s.rnat Reg.FLT_FIRST_MERGE, s.rnat Reg.FLT_FIRST_LAST_NS)
  else if src = 0xFFFE then (0xFFFE, 0, 0, 0)
  else (src + 2 ^ 16 * s.srcClass src, s.rnat (srcReg src 0xC), s.rnat (srcReg src 0x10), s.rnat (srcReg src 0x14))

def faultDone (c : Cmd) (s : State) : State :=
  let r := s.faultWords (c.h 16)
  s.complete c 0 0 r.1 r.2.1 r.2.2.1 r.2.2.2

/-- A SOURCE out of the unit's reach, or reserved (R412) (log entry 112 DEDUCED). -/
def faultReach (c : Cmd) : Bool :=
  let src := c.h 16
  decide (src = 0xFFFF) || decide (src = 0xFFFE) || (srcExists src && (decide (src < 64) || decide ((if src < 96 then Cu.a else Cu.b) = c.unit)))

/-- The token is needed for base sources and the first record (R412). -/
def faultToken (s : State) (c : Cmd) : Bool := s.holds c.unit || (decide (64 ≤ c.h 16) && decide (c.h 16 ≠ 0xFFFF))

/-- CLEAR (R535, R536). -/
def faultClear (c : Cmd) (s : State) : State :=
  let src := c.h 16
  if !faultReach c then s.refuse c 0x05
  else if !s.faultToken c then s.refuse c 0x04
  else if src = 0xFFFF then (s.clearFirst).faultDone c
  else if src = 0xFFFE then (s.clearAll c.unit).faultDone c
  else if s.levelOn src then s.refuse c 0x11
  else (s.clearSource src).faultDone c

/-- CONFIG (R412, R536, R543). -/
def faultConfig (c : Cmd) (s : State) : State :=
  let src := c.h 16
  if !faultReach c then s.refuse c 0x05
  else if !s.faultToken c then s.refuse c 0x04
  else if 0xFFFE ≤ src ∨ 255 < c.h 18 ∨ 2 < c.b 24 ∨ (3 < c.b 25 ∧ src ≠ 10) then s.refuse c 0x05
  else
    let k := srcReg src 0
    let s1 := ((s.setField k 7 0 (c.h 18)).setField k 25 24 (c.b 24)).setReg (srcReg src 4) (word (c.w 20))
    (if src = 10 then s1 else s1.setField k 29 28 (c.b 25)).faultDone c

end State

open State

/-- NOP (R394) (log entry 111 DEDUCED). -/
def execNop (c : Cmd) (s : State) : Res :=
  .next (s.runDesc c 0x01 (fun s =>
    s.complete c 0 0 (c.unit.num + 2 * b2n (s.holds c.unit) + 4 * b2n (s.islandOnly c.unit) + 256 * (s.rnat (Reg.HL_ID c.unit) % 256))
      (s.unit c.unit).flights.length 0 0))

/-- MAP_QUERY (R397). -/
def execMapQuery (c : Cmd) (s : State) : Res := .next (s.runDesc c 0x04 (fun s => s.mapQueryAct c))

/-- TELEM_CTRL (R405). -/
def execTelemCtrl (c : Cmd) (d : HostData) (s : State) : Res := .next (s.runDesc c 0x0F (fun s => (s.recReads c d).telemAct c d))

/-- ELEMENT_DIRECT CODES (R403). -/
def execElementDirectCodes (c : Cmd) (s : State) : Res :=
  .next (s.runDesc c 0x11 (fun s => if c.b 4 ≠ 0 ∨ c.b 5 = 0 ∨ 16 < c.b 5 then s.refuse c 0x05 else s.timed c (fun late s => s.codesAct c late)))

/-- ELEMENT_DIRECT READ (R403). -/
def execElementDirectRead (c : Cmd) (s : State) : Res :=
  .next (s.runDesc c 0x11 (fun s => if c.b 4 ≠ 1 then s.refuse c 0x05 else s.elementRead c))

/-- SPARE_MAP SUBSTITUTE (R404). -/
def execSpareMapSubstitute (c : Cmd) (s : State) : Res :=
  .next (s.runDesc c 0x12 (fun s => if c.b 4 ≠ 0 then s.refuse c 0x05 else s.timed c (fun late s => s.substAct c late)))

/-- SPARE_MAP RELEASE (R404). -/
def execSpareMapRelease (c : Cmd) (s : State) : Res :=
  .next (s.runDesc c 0x12 (fun s => if c.b 4 ≠ 1 then s.refuse c 0x05 else s.timed c (fun late s => s.releaseAct c late)))

/-- STATE_SAVE (R413, R431): two generations, one to each copy. -/
def execStateSave (c : Cmd) (s : State) : Res :=
  .next (s.runDesc c 0x14 (fun s =>
    let s1 := (s.saveImage 3).saveImage 3
    s1.complete c 0 0 (s1.rnat Reg.TKN_IMG_GEN_LO) (2 * s1.imageLen) 0 0))

/-- FAULT_CTRL READ (R412, R536). -/
def execFaultCtrlRead (c : Cmd) (s : State) : Res :=
  .next (s.runDesc c 0x13 (fun s => if c.b 4 ≠ 0 ∨ !faultReach c ∨ c.h 16 = 0xFFFE then s.refuse c 0x05 else s.faultDone c))

/-- FAULT_CTRL CLEAR (R412, R535, R536). -/
def execFaultCtrlClear (c : Cmd) (s : State) : Res :=
  .next (s.runDesc c 0x13 (fun s => if c.b 4 ≠ 1 then s.refuse c 0x05 else s.faultClear c))

/-- FAULT_CTRL CONFIG (R412, R536). -/
def execFaultCtrlConfig (c : Cmd) (s : State) : Res :=
  .next (s.runDesc c 0x13 (fun s => if c.b 4 ≠ 2 then s.refuse c 0x05 else s.faultConfig c))

end Sys2Proof.Machine
end

