-- ==== Sys2Proof/Machine/Startup.lean ====
section
/-! DEFINITION. Power-up, resets and supplies (R450–R470, R560), the PLL (R530, R639), the watchdog (R523) and the test access port (R628). -/
namespace Sys2Proof.Machine

namespace State

/-! ### Cold reset (R450) -/

/-- A bank that is being written is left half written (R612). -/
def halfWritten (s : State) : List (Nat × List Byte) :=
  match s.sec.flash with
  | some (.activate _ b _) => Tab.erase b s.sec.banks
  | _ => s.sec.banks

/-- Everything but the event log, the fuses and the flash returns to its reset value (R450); the supplies and PERST_N are as they stand outside (log entry 133 DESIGN CHOICE). -/
def coldReset (s : State) : State :=
  let r := { State.reset with pending := s.pending, part := s.part, fresh := s.fresh }
  let keep (x : UnitSt) : UnitSt := { UnitSt.reset with host := x.host, msix := x.msix, perst := x.perst }
  { r with flt := { r.flt with log := s.flt.log, wear := s.flt.wear }
           mem := { r.mem with fused := s.mem.fused }
           sec := { s.sec with fails := 0, lockUntil := 0, staged := none, flash := none, banks := s.halfWritten }
           pwr := { r.pwr with low := s.pwr.low }
           ua := keep s.ua, ub := keep s.ub }

/-- The sequence number that follows the newest record of the log (R539): 0 in an empty log. -/
def nextLogSeq (s : State) : Nat :=
  match s.flt.log with
  | [] => 0
  | l => ((l.map (fun e => e.2.seq)).foldl max 0 + 1) % 2 ^ 32

/-- The largest write count of a log slot (R541). -/
def logWear (s : State) : Nat := (s.flt.wear.map Prod.snd).foldl max 0

/-- A remap comes into force (R485, R486): a row is served by its spare row; a bank by its channel's spare bank, and its row remaps go with it. -/
def applyRemap (s : State) (r : Remap) : State :=
  match r with
  | .row i k => { s with mem := { s.mem with spareRows := Tab.set i k s.mem.spareRows } }
  | .bank i => { s with mem := { s.mem with spareBanks := Tab.set (i / 32) (i % 32) s.mem.spareBanks,
                                            spareRows := s.mem.spareRows.filter (fun e => decide (e.1 / 65536 ≠ i)) } }

/-- The remaps the stacks' own fuses hold are in force from power-up (R487). -/
def fusedRemaps (s : State) : State := s.mem.fused.foldl applyRemap s

/-- Keeper and fault collector run (event 3 of R455): KEEPER, STATE START, TOUT low, the fuses are read (R590), and the COLD_START record. -/
def keeperUp (s : State) : State :=
  let s1 := ((s.orReg Reg.PWR_BOOT 1).fusedRemaps).showFuses
  let n := s1.nextLogSeq
  let s2 : State := { s1 with flt := { s1.flt with seq := n }, tkn := { s1.tkn with resetAt := s.clk },
                              pwr := { s1.pwr with t0 := s.clk, tout := true } }
  let s3 := (s2.setReg Reg.FLT_LOG_SEQ (word n)).setReg Reg.FLT_LOG_WEAR (word s.logWear)
  s3.logPut 7 0 0 0xFFFF 0 (s.rnat Reg.PWR_RST_CAUSE)

/-- The preferred unit is switched on, or the other where the preferred unit's VCORE is not in range (R455, R457). -/
def bootUnits (s : State) : State :=
  if s.vcoreOk s.preferred then s.switchOn s.preferred
  else (s.orReg Reg.PWR_BOOT 0x80).switchOn s.preferred.peer

/-! ### Unit resets (R450, R460, R467) -/

/-- A unit reset: flagged and counted, and the core stops (R460, R467, R468) (log entry 132 DEDUCED). -/
def unitReset (u : Cu) (s : State) : State :=
  ((s.orReg Reg.PWR_RST_CAUSE (2 ^ (8 + u.num))).bump Reg.PWR_RST_CNT 15 0 1).stopCore u 2

/-! ### Device warm reset (R462–R465) -/

/-- Base registers that a device warm reset keeps (R464): RWS fields, the grid's and time's frequency, the cache seed, the table generation, the log's
numbers, source totals, the bring-up registers and the drive-down state. -/
def warmKeeps (k : Nat) : Bool :=
  decide (0x1000000 ≤ k) ||
  (decide (0x800000 ≤ k) && ((decide (0x10 ≤ k % 0x20000) && decide (k % 0x20000 < 0x40)) || (decide (0x4010 ≤ k % 0x20000) && decide (k % 0x20000 < 0x4020)))) ||
  [Reg.TIM_FREQ, Reg.RTE_SEED_LO, Reg.RTE_SEED_HI, Reg.RTE_SEED_OLD_LO, Reg.RTE_SEED_OLD_HI, Reg.RTE_CACHE_STATUS, Reg.DRT_TGEN, Reg.DRT_STATUS,
   Reg.TKN_CNT0, Reg.TKN_CNT1, Reg.TKN_STATE, Reg.TKN_CFG, Reg.PWR_RST_CAUSE, Reg.PWR_STRAP, Reg.PWR_BOOT, Reg.PWR_RAIL, Reg.PWR_RAIL_LOST,
   Reg.PWR_RST_CNT, Reg.MEM_CE_CNT 0, Reg.MEM_CE_CNT 1, Reg.MEM_UE_CNT 0, Reg.MEM_UE_CNT 1, Reg.MEM_SPARED 0, Reg.MEM_SPARED 1,
   Reg.SP_RETMAP_A, Reg.SP_RETMAP_B, Reg.FLT_LOG_SEQ, Reg.FLT_LOG_WEAR, Reg.FLT_SAFE].contains k ||
  (decide (0x11E400 ≤ k) && decide (k < 0x11EC00) && decide (k % 0x20 = 0xC))

/-- A register that is kept only in part keeps those bits (R116, R180, R266, R421, R445). -/
def keptPart (s : State) : State :=
  let spares := (s.regs.filter (fun e => decide (0x800000 ≤ e.1) && decide (e.1 < 0x1000000))).map Prod.fst
  let s1 : State := spares.foldl (fun (s : State) k => s.setReg k (s.reg k &&& 0x801800FF)) s
  let s2 := ((s1.setReg Reg.RTE_CACHE_STATUS (s1.reg Reg.RTE_CACHE_STATUS &&& 0xFFFF00C7)).setReg Reg.DRT_STATUS (s1.reg Reg.DRT_STATUS &&& 2))
  let s3 := s2.setReg Reg.TKN_STATE (s2.reg Reg.TKN_STATE &&& 0xFFFF)
  let s4 := s3.setReg Reg.TKN_CFG (regReset s.part Reg.TKN_CFG ||| (s3.reg Reg.TKN_CFG &&& 0x10000))
  (s4.setReg Reg.PWR_BOOT 1).setReg Reg.FLT_SAFE (word (3 + 16 * 3 + 2 ^ 16 * 0xFF))

/-- The records of a unit's sources close; configuration and TOTAL stay (R464, R522). -/
def closeUnitRecords (u : Cu) (s : State) : State :=
  (List.range 12).foldl (fun (s : State) i =>
    let src := localSrc u i
    ((s.setReg (srcReg src 8) (word (2 ^ 16 * s.fld (srcReg src 0) 25 24))).setReg (srcReg src 0x10) 0).setReg (srcReg src 0x14) 0) s

/-- Levels of rails that are still low stand on (R522, R560). -/
def railLevels (s : State) : State :=
  s.pwr.low.foldl (fun (s : State) m =>
    let r := m / 2
    let src := if r = 5 then some 0 else if r = 6 then some 1 else if r = 4 then some 2 else if r = 1 then some 3
      else if r = 7 then some 4 else if r = 8 then some 5 else if r = 9 ∨ r = 10 then some (6 + m % 2) else none
    match src with | some n => s.orReg (srcReg n 8) (2 ^ 30) | none => s) s

/-- Event 3 of R462: the drive powered down, both cores and the base outside the keeper domain in reset, with what R464 lists kept (log entry 126 DEDUCED). -/
def warmHold (s : State) : State :=
  let s0 := (((s.abortFlights .a true).abortFlights .b true).powerDown .a).powerDown .b
  let s1 := (s0.spDisable).resetRegs (fun k => !warmKeeps k)
  let s2 := (((s1.keptPart).closeUnitRecords .a).closeUnitRecords .b).railLevels
  let r := State.reset
  let gone (x : UnitSt) : UnitSt := { x with timed := [], flights := [] }
  let track (l : List (Nat × SpareTrack)) : List (Nat × SpareTrack) := l.map (fun e => (e.1, { e.2 with cmd := none, startG := none, ready := false }))
  let mtrack (l : List (Nat × MonTrack)) : List (Nat × MonTrack) := l.map (fun e => (e.1, { e.2 with cmd := none, due := false }))
  { s2 with
    latch := []
    time := { s2.time with ph := 0, phLeft := 0, edge := none, goodEdges := 0, ppsSince := s.clk, lost := false }
    fab := { r.fab with stored := s2.fab.stored, marksDigest := (match s2.fab.stored with | some c => c.digest | none => []) }
    site := r.site
    drv := { r.drv with track := track s2.drv.track }
    mon := { r.mon with track := mtrack s2.mon.track }
    rte := { r.rte with table := s2.rte.table, ageDue := s.clk }
    gst := { r.gst with slots := s2.gst.slots }
    loop := r.loop
    drt := { r.drt with coeff := s2.drt.coeff }
    cal := { r.cal with live := s2.cal.live, hist := s2.cal.hist }
    sch := r.sch
    tkn := { r.tkn with images := s2.tkn.images, nextGen := s2.tkn.nextGen, lastSave := s.clk }
    flt := { s2.flt with hist := [], callers := [] }
    pwr := { s2.pwr with warm := s2.pwr.warm.map (fun w => (w.1, w.2.1, true)), dramUp := false }
    recd := { r.recd with ring := s2.recd.ring }
    mem := { s2.mem with rowCe := [], bankUe := [], rowCopy := [], bankCopy := [] }
    thm := r.thm
    sec := { s2.sec with flash := none, banks := s2.halfWritten }
    attests := []
    ua := gone s2.ua
    ub := gone s2.ub }

/-- The latest clock of event 4 that the causes so far ask for (R462). -/
def relAtLeast (t : Nat) (s : State) : State := { s with pwr := { s.pwr with relAt := max s.pwr.relAt t } }

/-- A device warm reset starts (R462), or a further cause joins the one that runs: cause 2 RESET_N, low for `low` clocks, 3 register, 4 VANA. -/
def warmStart (cause low : Nat) (s : State) : State :=
  if s.pwr.por || !s.rbit Reg.PWR_BOOT 0 then s
  else match s.pwr.warm with
  | some _ => if cause = 2 then s.relAtLeast (s.clk + low) else s
  | none =>
    let s1 := (s.setField Reg.PWR_RST_CAUSE 3 0 cause).bump Reg.PWR_RST_CNT 31 16 1
    let s2 := s1.logPut 6 0 0 0xFFFF 0 (s1.rnat Reg.PWR_RST_CAUSE)
    let rel := if cause = 2 then s.clk + max (clksUs 100) low else if cause = 3 then s.clk + clksMs 1 else s.clk
    let s3 : State := { s2 with pwr := { s2.pwr with warm := some (cause, s.clk, false), relAt := rel } }
    if cause = 4 then ({ s3 with fab := { s3.fab with powered := false, downAt := none } }).warmHold
    else
      let s4 := (s3.schedStop 4).enterPark 0xFFFF 3 false
      { s4 with fab := { s4.fab with downAt := some (s.clk + 20480) } }

/-- Release of the warm reset (events 4 and 5 of R462): DRAM as it was, RESTORE_PEND, and the bring-up from there (log entry 127 DEDUCED). -/
def warmRelease (s : State) : State :=
  let s1 : State := { s with pwr := { s.pwr with warm := none, dramUp := true, t0 := s.clk, tout := true }, tkn := { s.tkn with resetAt := s.clk } }
  (s1.setReg Reg.PWR_BOOT 0x10F).bootUnits

/-- A write of PWR_RST_CTRL (R467): KEY, then DEVICE alone, or the units named. -/
def rstCtrlWrite (v : Word) (s : State) : State :=
  if field v 31 16 ≠ 0xD1E5 then s
  else if bit v 2 then s.warmStart 3 0
  else
    let s1 : State := if bit v 0 then s.unitReset .a else s
    if bit v 1 then s1.unitReset .b else s1

/-! ### Supplies (R451, R560) -/

/-- A monitor trips: PWR_RAIL, PWR_RAIL_LOST, and the level source (R467, R523) (log entry 129 DEDUCED). -/
def railLow (mon src : Nat) (s : State) : State :=
  let r := mon / 2
  let s1 : State := { s with pwr := { s.pwr with low := if s.pwr.low.contains mon then s.pwr.low else mon :: s.pwr.low } }
  ((s1.clrReg Reg.PWR_RAIL (2 ^ r)).orReg Reg.PWR_RAIL_LOST (2 ^ r)).report1 src 0

/-- A rail's monitor releases: its bit once no monitor of it is tripped, and the end of the level (R560). -/
def railOk (rail : Nat) (u : Cu) (s : State) : State :=
  let mon := if rail = 9 ∨ rail = 10 then 2 * rail + u.num else 2 * rail
  let s1 : State := { s with pwr := { s.pwr with low := s.pwr.low.filter (· ≠ mon) } }
  let s2 : State := if s1.pwr.low.any (fun m => decide (m / 2 = rail)) then s1 else s1.orReg Reg.PWR_RAIL (2 ^ rail)
  let ended : Option Nat :=
    if rail = 5 then some 0 else if rail = 6 then some 1 else if rail = 4 then some 2 else if rail = 1 then some 3
    else if rail = 7 then some 4 else if rail = 8 then some 5
    else if (rail = 9 ∨ rail = 10) ∧ !s1.pwr.low.any (fun m => (decide (m / 2 = 9) || decide (m / 2 = 10)) && decide (m % 2 = u.num)) then some (6 + u.num)
    else none
  match ended with | some n => s2.levelEnd n | none => s2

/-- Whether the base die is out of reset with its keeper running (log entry 65 DESIGN CHOICE). -/
def baseUp (s : State) : Bool := s.rbit Reg.PWR_BOOT 0 && s.pwr.warm.isNone

/-- The TAP instructions of R628 in its order: 0 BYPASS, 1 IDCODE, 2 SAMPLE/PRELOAD, 3 EXTEST, 4 INTEST, 5 CLAMP, 6 HIGHZ, 7 and 8 halting debug of CU-A and
CU-B; the boundary-scan ones need a TEST scope, halting debug the DEBUG scope of its unit (log entry 131 DESIGN CHOICE). -/
def tapAllowed (s : State) (ir : Nat) : Bool :=
  if ir ≤ 2 then true
  else if ir ≤ 6 then s.rbit (Reg.SEC_SCOPE .a) 1 || s.rbit (Reg.SEC_SCOPE .b) 1
  else if ir = 7 then s.rbit (Reg.SEC_SCOPE .a) 3
  else if ir = 8 then s.rbit (Reg.SEC_SCOPE .b) 3
  else false

end State

open State

/-- POR_RISE (R454, R455): straps sampled, rails in range, the base die starts; the cache seed is a value the spec leaves open (R167) (log entry 128 DEDUCED). -/
def execPorRise (prefB testmode : Bool) (s : State) : Res :=
  if !s.pwr.por then .next s
  else
    let a := s.drawNat
    let b := a.2.drawNat
    let s1 := (((b.2.setReg Reg.PWR_STRAP (word (b2n prefB))).setReg Reg.TKN_CFG (putBit (s.reg Reg.TKN_CFG) 16 prefB)).setReg Reg.RTE_SEED_LO
      (word a.1)).setReg Reg.RTE_SEED_HI (word b.1)
    let rails := (List.range 11).foldl (fun n r => if s.pwr.low.any (fun m => decide (m / 2 = r)) then n else n + 2 ^ r) 0
    .next { s1.setReg Reg.PWR_RAIL (word rails) with pwr := { s1.pwr with por := false, testmode := testmode } }

/-- COLD_RESET (R450). -/
def execColdReset (s : State) : Res := .next s.coldReset

/-- PLL_LOCK (R455): the drive clock, device time and the grid start from zero; the keeper and the fault collector come up. -/
def execPllLock (s : State) : Res :=
  if s.pwr.por || s.rbit Reg.PWR_BOOT 0 then .next s
  else .next ({ s with time := { s.time with on := true } }).keeperUp

/-- DRAM_TRAINED (R455, R457, R626): DRAM_BOOT; the cache's clear begins (R175); a unit is switched on. Nothing with TESTMODE high. -/
def execDramTrained (vcoreOk : Bool) (s : State) : Res :=
  if !s.baseUp || s.pwr.testmode || s.rbit Reg.PWR_BOOT 1 then .next s
  else
    let s1 : State := { (s.orReg Reg.PWR_BOOT 2).orReg Reg.RTE_CACHE_STATUS 4 with pwr := { s.pwr with dramUp := true } }
    let s2 : State := if vcoreOk then s1 else s1.clrReg Reg.PWR_RAIL (2 ^ (7 + s.preferred.num))
    .next s2.bootUnits

/-- DRAM_INIT_DONE (R455, R456): every line initialised and the cache's clear ended. -/
def execDramInitDone (s : State) : Res :=
  if !s.baseUp || !s.rbit Reg.PWR_BOOT 1 || s.rbit Reg.PWR_BOOT 2 then .next s
  else
    let s1 := s.orReg Reg.PWR_BOOT 0xC
    .next (if s1.rbit Reg.RTE_CACHE_STATUS 2 then
      ({ (s1.clrReg Reg.RTE_CACHE_STATUS 4).orReg Reg.RTE_CACHE_STATUS 1 with rte := { s1.rte with table := [], ageDue := s.clk } }) else s1)

/-- PEER_CALL_TIMEOUT (R457): no claim of the preferred unit by T0 + 1 s. -/
def execPeerCallTimeout (s : State) : Res :=
  if s.baseUp ∧ s.rbit Reg.PWR_BOOT 1 ∧ s.tknState = 0 ∧ !s.rbit Reg.PWR_BOOT 7 ∧ s.pwr.t0 + clksS 1 ≤ s.clk then
    let s1 : State := if s.islandOnly s.preferred then s.setPeerFail s.preferred true else s
    .next ((s1.orReg Reg.PWR_BOOT 0x80).switchOn s.preferred.peer)
  else .next s

/-- RESET_N_ASSERT (R462, R470): low for `lowNs`; below 1 µs never taken, from 10 µs always, between them as a free value says (log entry 130 DESIGN CHOICE). -/
def execResetNAssert (lowNs : Nat) (s : State) : Res :=
  if lowNs < 1000 then .next s
  else if 10000 ≤ lowNs then .next (s.warmStart 2 (clksNs lowNs))
  else
    let d := s.drawNat
    .next (if d.1 % 2 = 1 then d.2.warmStart 2 (clksNs lowNs) else d.2)

/-- PWR_RST_DEVICE (R462, R467): PWR_RST_CTRL with DEVICE. -/
def execPwrRstDevice (u : Cu) (v : Word) (s : State) : Res :=
  .next (s.baseWrite u Reg.PWR_RST_CTRL (v ||| 4) (fun s => s.rstCtrlWrite (v ||| 4)))

/-- PWR_RST_UNIT (R460, R467). -/
def execPwrRstUnit (u : Cu) (v : Word) (s : State) : Res := .next (s.baseWrite u Reg.PWR_RST_CTRL v (fun s => s.rstCtrlWrite v))

/-- A write of PWR_CU_SELF (R461, R467). -/
def State.cuSelfWrite (u : Cu) (v : Word) (s : State) : State := if field v 31 16 = 0xD1E5 ∧ bit v 0 then s.unitReset u else s

/-- PWR_CU_SELF_RESET (R461). -/
def execPwrCuSelfReset (u : Cu) (v : Word) (s : State) : Res := .next (s.cuSelfWrite u v)

/-- WARM_RESET_RELEASE (R462): the causes have gone; event 3 has come. -/
def execWarmResetRelease (s : State) : Res :=
  match s.pwr.warm with
  | none => .next s
  | some (_, _, done) =>
    if s.pwr.relAt ≤ s.clk ∧ !s.pwr.low.contains 8 then
      .next ((if done then s else s.driveDown.warmHold).warmRelease)
    else .next s

/-- DRIVE_POWER_DOWN (R533): 100 µs after a park clock; in a device warm reset it is event 3 of R462. -/
def execDrivePowerDown (s : State) : Res :=
  match s.fab.downAt with
  | none => .next s
  | some t =>
    if t ≤ s.clk then
      let s1 := s.driveDown
      match s1.pwr.warm with
      | some (_, _, false) => .next s1.warmHold
      | _ => .next s1
    else .next s

/-- VANA_LOW (R450, R462, R560). -/
def execVanaLow (s : State) : Res := .next (if s.pwr.por then s else (s.railLow 8 2).warmStart 4 0)

/-- VCORE_LOW (R426, R450, R560): source 4 or 5, a unit reset, and the unit's island and link are down with it (R334). -/
def execVcoreLow (u : Cu) (s : State) : Res :=
  .next (if s.pwr.por then s else (((s.railLow (14 + 2 * u.num) (4 + u.num)).unitReset u).linkLost u))

/-- VPHY_LOW (R348, R560): source 6 or 7; the unit's link goes down. `v12` says which of its two rails. -/
def execVphyLow (u : Cu) (v12 : Bool) (s : State) : Res :=
  .next (if s.pwr.por then s else (s.railLow ((if v12 then 20 else 18) + u.num) (6 + u.num)).linkLost u)

/-- DRIVE_RAIL_LOW (R470, R560): VTHR or VHTR; its stages stay down until EN is next set. -/
def execDriveRailLow (vhtr : Bool) (s : State) : Res :=
  if s.pwr.por then .next s
  else
    let s1 : State := { s with fab := { s.fab with stagesDown := s.fab.stagesDown ||| (if vhtr then 2 else 1) } }
    .next (if vhtr then s1.railLow 12 1 else s1.railLow 10 0)

/-- VIO_LOW (R560): source 3. -/
def execVioLow (s : State) : Res := .next (if s.pwr.por then s else s.railLow 2 3)

/-- SUPPLY_MONITOR_RELEASE (R560): the rail numbered as in R451; `u` names the unit of a VPHY rail. -/
def execSupplyMonitorRelease (rail : Nat) (u : Cu) (s : State) : Res := .next (if s.pwr.por ∨ 10 < rail then s else s.railOk rail u)

/-- PLL_UNLOCK (R523, R530, R639): source 8; the drive clock stands still until lock returns. -/
def execPllUnlock (s : State) : Res :=
  if s.time.on then
    let s1 := s.report1 8 0
    .next { s1 with time := { s1.time with on := false } }
  else .next s

/-- PLL_RELOCK (R530, R639): the drive clock runs on; the level of source 8 ends. -/
def execPllRelock (s : State) : Res :=
  if s.time.on || s.pwr.por || !s.rbit Reg.PWR_BOOT 0 then .next s
  else .next (({ s with time := { s.time with on := true } }).levelEnd 8)

/-- WATCHDOG (R523, R450): local source 3 is reported and the core is reset. -/
def execWatchdog (u : Cu) (s : State) : Res :=
  if s.islandOnly u then .next s else .next ((s.report1 (localSrc u 3) 0).unitReset u)

/-- JTAG_INSTRUCTION (R628): an instruction that is not available loads BYPASS. -/
def execJtagInstruction (ir : Nat) (s : State) : Res :=
  .next { s with pwr := { s.pwr with ir := if s.tapAllowed ir then ir else 0 } }

end Sys2Proof.Machine
end

