-- ==== Sys2Proof/Machine/Memory.lean ====
section
/-! DEFINITION. Stacked memory and scratchpads (R471–R504): the patrol scrub, sparing, the repair fuses, the metadata probe, and bank power,
ownership and retirement. -/
namespace Sys2Proof.Machine

namespace State

/-! ### Lines, rows and banks (R473) -/

/-- The number of the bank a line of a stack lies in: channel in bits 3:0 of the line number, bank in bits 8:4. -/
def bankOf (stack line : Nat) : Nat := (stack * 16 + line % 16) * 32 + line / 16 % 32

/-- The number of the row a line lies in: its bank and bits 29:14 of the line number. -/
def rowOf (stack line : Nat) : Nat := bankOf stack line * 65536 + line / 16384 % 65536

/-- The internal address of a line of a stack (R471). -/
def lineAddr (stack line : Nat) : Nat := stack * 2 ^ 36 + 64 * line

/-- The stack is present and the DRAM is up (R3, R474). -/
def stackUp (s : State) (k : Nat) : Bool := s.pwr.dramUp && decide (k < s.part.dramStacks)

/-! ### Metadata (R479) -/

/-- The saved-state slot a line lies in, as the key of its image (R430, R475, R476). -/
def savedSlot (p : Part) (line : Nat) : Option Nat :=
  let a := 64 * line
  let b1 := match p with | .wl5128 => 0x1100000000 | .wl2564 => 0x300000000
  if 0x100000000 ≤ a ∧ a < 0x200000000 then some ((a - 0x100000000) / 0x80000)
  else if b1 ≤ a ∧ a < b1 + 0x100000000 then some (8192 + (a - b1) / 0x80000)
  else none

/-- The metadata of a line: as written last; a saved image carries its generation; else no version, and an owner left open (R479) (log entry 141 DESIGN CHOICE). -/
def metaOf (line : Nat) (s : State) : Nat × State :=
  match Tab.find line s.mem.meta_ with
  | some m => (m, s)
  | none =>
    match (savedSlot s.part line).bind (fun k => Tab.find k s.tkn.images) with
    | some im => (im.gen % 65536 + 65536 * 11, s)
    | none => let d := s.drawNat; (65536 * (d.1 % 12), d.2)

/-- The line is stored with this metadata. -/
def setMeta (line m : Nat) (s : State) : State := { s with mem := { s.mem with meta_ := Tab.set line m s.mem.meta_ } }

/-- The line is stored POISON (R482). -/
def isPoison (s : State) (line : Nat) : Bool := ((Tab.find line s.mem.meta_).getD 0).testBit 24

/-- A line is written whole: owner, no version, POISON cleared (R479, R482). -/
def ownLine (port line : Nat) (s : State) : State := s.setMeta line (65536 * port)

/-! ### Sparing (R485–R487) -/

/-- MEM_CE_THR fields, 0 taken as 1 (R500): the window in drive clocks, BANK_UE and ROW. -/
def memWindow (s : State) : Nat := clksS (3600 * max (s.fld Reg.MEM_CE_THR 31 16) 1)
def bankThr (s : State) : Nat := max (s.fld Reg.MEM_CE_THR 15 8) 1
def rowThr (s : State) : Nat := max (s.fld Reg.MEM_CE_THR 7 0) 1

/-- The times within the window, with the present one. -/
def within (s : State) (l : List Nat) : List Nat := s.clk :: l.filter (fun t => decide (s.clk < t + s.memWindow))

/-- BANK_COPY shows a bank copy that runs (R501). -/
def showBankCopy (s : State) : State := s.setReg Reg.MEM_STATUS (putBit (s.reg Reg.MEM_STATUS) 10 (!s.mem.bankCopy.isEmpty))

/-- A bank is to be spared (R486): its copy starts, unless its channel's spare bank is in use. -/
def spareBank (bank : Nat) (s : State) : State :=
  let chan := bank / 32
  if s.mem.bankCopy.contains bank then s
  else if (Tab.find chan s.mem.spareBanks).isSome || s.mem.bankCopy.any (fun b => decide (b / 32 = chan)) then
    (s.orReg Reg.MEM_STATUS 0x40).report1 16 (bank / 512)
  else ({ s with mem := { s.mem with bankCopy := s.mem.bankCopy ++ [bank] } }).showBankCopy

/-- Spare rows of a bank that rows use or copies have taken: the next one is the lowest free (R485). -/
def nextSpareRow (s : State) (bank : Nat) : Nat :=
  ((s.mem.spareRows.filter (fun e => decide (e.1 / 65536 = bank))).map (fun e => e.2 + 1)).foldl max 0 +
    (s.mem.rowCopy.filter (fun r => decide (r / 65536 = bank))).length

/-- A row is to be spared (R485): its copy to the lowest free spare row starts; with the 64 used, its bank is spared (R486). -/
def spareRow (row : Nat) (s : State) : State :=
  if s.mem.rowCopy.contains row then s
  else if 64 ≤ s.nextSpareRow (row / 65536) then s.spareBank (row / 65536)
  else { s with mem := { s.mem with rowCopy := s.mem.rowCopy ++ [row] } }

/-- A remap is in force (R485–R487): it is logged, counted and reported, and committed to the fuses where HARD_REPAIR is 1 (log entry 144 DEDUCED). -/
def remapped (r : Remap) (stack detail stBit : Nat) (s : State) : State :=
  let s1 := (s.applyRemap r).orReg Reg.MEM_STATUS stBit
  let s2 := (s1.report1 16 stack).logPut 8 0 0 0xFFFF 0 detail
  if s.rbit Reg.MEM_CTRL 2 then { s2 with mem := { s2.mem with fuses := s2.mem.fuses ++ [r] } } else s2

/-! ### Errors found (R481–R484) -/

/-- MEM_ERR_ADDR and MEM_ERR_SYM record the last error (R484, R500) (log entry 142 DEDUCED). -/
def memErr (addr hi sym : Nat) (s : State) : State :=
  ((s.setReg Reg.MEM_ERR_ADDR_LO (word addr)).setReg Reg.MEM_ERR_ADDR_HI (word (addr / 2 ^ 32 % 65536 + hi))).setReg Reg.MEM_ERR_SYM (word sym)

/-- A corrected codeword (R484, R485): counted, reported, and counted toward its row. -/
def memCe (stack line : Nat) (syms : List Nat) (s : State) : State :=
  let s1 := ((s.bump (Reg.MEM_CE_CNT stack) 31 0 1).orReg Reg.MEM_STATUS 2).memErr (lineAddr stack line) (2 ^ 28 * syms.length)
    (syms.getD 0 0x7F % 128 + 256 * (syms.getD 1 0x7F % 128))
  let s2 := s1.report1 14 stack
  let row := rowOf stack line
  let l := s2.within (Tab.get [] row s2.mem.rowCe)
  if s2.rbit Reg.MEM_CTRL 0 && decide (s2.rowThr ≤ l.length) then
    ({ s2 with mem := { s2.mem with rowCe := Tab.erase row s2.mem.rowCe } }).spareRow row
  else { s2 with mem := { s2.mem with rowCe := Tab.set row l s2.mem.rowCe } }

/-- The uncorrectable errors noted per bank, by their times (R485). -/
def setBankUe (l : List (Nat × List Nat)) (s : State) : State := { s with mem := { s.mem with bankUe := l } }

/-- An uncorrectable codeword (R482, R484, R486): the line is rewritten with POISON set and counted once; a line already poisoned is not counted again. -/
def memUe (stack line : Nat) (s : State) : State :=
  let l := stack * 2 ^ 30 + line
  if s.isPoison l then s
  else
    let m := s.metaOf l
    let s0 := m.2.setMeta l (m.1 + 2 ^ 24)
    let s1 := ((s0.bump (Reg.MEM_UE_CNT stack) 31 0 1).orReg Reg.MEM_STATUS 4).memErr (lineAddr stack line) 0x80000000 0x7F7F
    let s2 := s1.report1 15 stack
    let bank := bankOf stack line
    let l := s2.within (Tab.get [] bank s2.mem.bankUe)
    if s2.bankThr ≤ l.length then (s2.setBankUe (Tab.erase bank s2.mem.bankUe)).spareBank bank
    else s2.setBankUe (Tab.set bank l s2.mem.bankUe)

/-- What the controller makes of a scrubbed line (R481): ECC 1 corrects one symbol only (log entry 143 DEDUCED). -/
def scrubLine (stack line : Nat) (e : ScrubRes) (s : State) : State :=
  match e with
  | .clean => s
  | .corrected syms =>
    if syms.length = 0 then s
    else if syms.length > 2 ∨ (s.rbit Reg.MEM_CTRL 1 ∧ syms.length > 1) then s.memUe stack line
    else s.memCe stack line syms
  | .uncorrectable => s.memUe stack line

/-! ### Scratchpads (R494–R499) -/

/-- The power state of a bank: 0 OFF, 1 RETENTION, 2 ON (R503). -/
def spState (s : State) (u : Cu) (b : Nat) : Nat := s.fld (Reg.SP_BANK u b) 31 30

/-- The bank serves accesses: ON, with no change running (R497). -/
def spServes (s : State) (u : Cu) (b : Nat) : Bool := decide (s.spState u b = 2) && !s.rbit (Reg.SP_BANK u b) 29

/-- RETIRING shows a retirement that runs (R502). -/
def showRetiring (u : Cu) (s : State) : State :=
  s.setReg (Reg.SP_STATUS u) (putBit (s.reg (Reg.SP_STATUS u)) 8 (!(s.unit u).sp.retiring.isEmpty))

/-- The lowest pool bank that no bank uses and no retirement has taken (R498, R500). -/
def freePool (s : State) (u : Cu) : Option Nat :=
  [0, 1, 2, 3].find? (fun k => decide (s.fld (retMapReg u) (8 * k + 7) (8 * k) = 0xFF) && !(s.unit u).sp.retiring.any (fun r => decide (r.2 = k)))

/-- A retirement is requested (R498): it starts on a bank that is ON, waits on another, and is refused with the pool used (log entry 147 DEDUCED). -/
def spRetire (u : Cu) (b : Nat) (s : State) : State :=
  let x := (s.unit u).sp
  if x.retiring.any (fun r => decide (r.1 = b)) then s
  else match s.freePool u with
  | none => (s.orReg (Reg.SP_STATUS u) 0x80).report1 (localSrc u 7) b
  | some k =>
    if s.spServes u b then
      (s.setUnit u { s.unit u with sp := { x with retiring := x.retiring ++ [(b, k)], retireWait := x.retireWait.filter (· ≠ b) } }).showRetiring u
    else if x.retireWait.contains b then s
    else s.setUnit u { s.unit u with sp := { x with retireWait := x.retireWait ++ [b] } }

/-- A bank loses its content (R497). -/
def spErase (u : Cu) (b : Nat) (s : State) : State :=
  s.setUnit u { s.unit u with sp := { (s.unit u).sp with bytes := (s.unit u).sp.bytes.filter (fun e => decide (e.1 / 0x40000 ≠ b)) } }

/-- A power-state change starts (R497): BUSY_PS until it ends; a bank that goes OFF loses its content. -/
def spChange (u : Cu) (b p : Nat) (s : State) : State :=
  if p = s.spState u b then s
  else
    let s1 := (s.setField (Reg.SP_BANK u b) 31 30 p).orReg (Reg.SP_BANK u b) 0x20000000
    let x := (s1.unit u).sp
    let s2 := s1.setUnit u { s1.unit u with sp := { x with change := if x.change.contains b then x.change else x.change ++ [b] } }
    if p = 0 then s2.spErase u b else s2

/-- A write of SP_BANKb (R495–R497, R503), which the core holds: OWNER, OWNER1 of banks 0–3, and PSTATE, of which 3 is ignored (log entry 146 DEDUCED). -/
def spBankWrite (u : Cu) (b : Nat) (v : Word) (s : State) : State :=
  if s.islandOnly u || decide (32 ≤ b) then s
  else
    let s1 := s.maskWrite (Reg.SP_BANK u b) (if b < 4 then 0xF0F else 0xF) v
    if field v 31 30 = 3 then s1.orReg (Reg.SP_STATUS u) 1 else s1.spChange u b (field v 31 30)

/-- A write of SP_CMD (R498). -/
def spCmdWrite (u : Cu) (v : Word) (s : State) : State :=
  if !s.islandOnly u && bit v 8 then s.spRetire u (field v 4 0) else s

/-- A write of MEM_CMD (R486): SPARE_BANK of a stack that is present. -/
def memCmd (v : Word) (s : State) : State :=
  let k := field v 16 16
  if bit v 31 && s.stackUp k then s.spareBank ((k * 16 + field v 11 8) * 32 + field v 4 0) else s

/-- A write of MEM_PROBE_HI (R479, R500): the metadata of the line are shown. -/
def memProbe (v : Word) (s : State) : State :=
  let s1 := s.maskWrite Reg.MEM_PROBE_HI 0xFFFF v
  let m := s1.metaOf ((s1.rnat Reg.MEM_PROBE_LO + 2 ^ 32 * s1.fld Reg.MEM_PROBE_HI 15 0) / 64)
  m.2.setReg Reg.MEM_PROBE_META (word m.1)

/-- A write of MEM_CTRL (R500): its modes, and CNT_CLR (log entry 145 DEDUCED). -/
def memCtrl (v : Word) (s : State) : State :=
  let s1 := s.maskWrite Reg.MEM_CTRL 7 v
  if bit v 31 then
    [Reg.MEM_CE_CNT 0, Reg.MEM_CE_CNT 1, Reg.MEM_UE_CNT 0, Reg.MEM_UE_CNT 1].foldl (fun (s : State) k => s.setReg k 0) s1
  else s1

end State

open State

/-- DRAM_SCRUB (R481–R486): the next line of a stack; PERIOD 0 starts no further pass. -/
def execDramScrub (stack : Nat) (e : ScrubRes) (s : State) : Res :=
  let pos := s.fld (Reg.MEM_SCRUB_POS stack) 29 0
  if !s.stackUp stack || (decide (pos = 0) && decide (s.fld Reg.MEM_SCRUB 15 0 = 0)) then .next (s.clrReg Reg.MEM_STATUS 0x200)
  else .next ((((s.scrubLine stack pos e).setReg (Reg.MEM_SCRUB_POS stack) (word ((pos + 1) % 2 ^ 30)))).orReg Reg.MEM_STATUS 0x200)

/-- ROW_COPY_DONE (R485): the oldest row copy has made its last write. -/
def execRowCopyDone (s : State) : Res :=
  match s.mem.rowCopy with
  | [] => .next s
  | r :: rest =>
    let stack := r / 2 ^ 25
    let k := ((s.mem.spareRows.filter (fun e => decide (e.1 / 65536 = r / 65536))).map (fun e => e.2 + 1)).foldl max 0
    .next ((({ s with mem := { s.mem with rowCopy := rest } }).bump (Reg.MEM_SPARED stack) 15 0 1).remapped (.row r k) stack
      (stack + 256 * (r / 2 ^ 21 % 16) + 2 ^ 16 * (r / 65536 % 32) + 2 ^ 32 * (r % 65536)) 0x10)

/-- BANK_COPY_DONE (R486): the oldest bank copy ends and the channel's spare bank serves. -/
def execBankCopyDone (s : State) : Res :=
  match s.mem.bankCopy with
  | [] => .next s
  | b :: rest =>
    let stack := b / 512
    .next (((({ s with mem := { s.mem with bankCopy := rest } }).showBankCopy).bump (Reg.MEM_SPARED stack) 23 16 1).remapped (.bank b) stack
      (stack + 256 * (b / 32 % 16) + 2 ^ 16 * (b % 32)) 0x20)

/-- MEM_SPARE_BANK (R486): MEM_CMD with SPARE_BANK. -/
def execMemSpareBank (u : Cu) (v : Word) (s : State) : Res :=
  .next (s.baseWrite u Reg.MEM_CMD (putBit v 31 true) (fun s => s.memCmd (putBit v 31 true)))

/-- FUSE_COMMIT_DONE (R487): the oldest commit ends; one that fails keeps its remap in the keeper domain only. -/
def execFuseCommitDone (ok : Bool) (s : State) : Res :=
  match s.mem.fuses with
  | [] => .next s
  | r :: rest =>
    .next (if ok then { s with mem := { s.mem with fuses := rest, fused := s.mem.fused ++ [r] } }
      else ({ s with mem := { s.mem with fuses := rest } }).orReg Reg.MEM_STATUS 0x80)

/-- MEM_PROBE (R479). -/
def execMemProbe (u : Cu) (v : Word) (s : State) : Res := .next (s.baseWrite u Reg.MEM_PROBE_HI v (fun s => s.memProbe v))

/-- MEM_COUNT_CLEAR (R500): MEM_CTRL with CNT_CLR. -/
def execMemCountClear (u : Cu) (v : Word) (s : State) : Res :=
  .next (s.baseWrite u Reg.MEM_CTRL (putBit v 31 true) (fun s => s.memCtrl (putBit v 31 true)))

/-- SP_PSTATE_WRITE (R497). -/
def execSpPstateWrite (u : Cu) (b : Nat) (v : Word) (s : State) : Res := .next (s.spBankWrite u b v)

/-- SP_PSTATE_DONE (R497, R498): BUSY_PS falls; a bank that is ON starts the retirement that waits for it. -/
def execSpPstateDone (u : Cu) (b : Nat) (s : State) : Res :=
  if (s.unit u).sp.change.contains b then
    let x := (s.unit u).sp
    let s1 := (s.setUnit u { s.unit u with sp := { x with change := x.change.filter (· ≠ b) } }).clrReg (Reg.SP_BANK u b) 0x20000000
    .next (if s1.spState u b = 2 ∧ x.retireWait.contains b then
      (s1.setUnit u { s1.unit u with sp := { (s1.unit u).sp with retireWait := x.retireWait.filter (· ≠ b) } }).spRetire u b else s1)
  else .next s

/-- SP_OWNER_WRITE (R495). -/
def execSpOwnerWrite (u : Cu) (b : Nat) (v : Word) (s : State) : Res := .next (s.spBankWrite u b v)

/-- SP_RETIRE_CMD (R498): SP_CMD with RETIRE. -/
def execSpRetireCmd (u : Cu) (v : Word) (s : State) : Res := .next (s.spCmdWrite u (putBit v 8 true))

/-- SP_RETIRE_DONE (R498, R499): the copy ends and the bank's address moves to the pool bank; words that could not be read are zero, and reported (log entry 211 DESIGN CHOICE). -/
def execSpRetireDone (u : Cu) (b : Nat) (zeros : List Nat) (s : State) : Res :=
  match (s.unit u).sp.retiring.find? (fun r => decide (r.1 = b)) with
  | none => .next s
  | some (_, k) =>
    let x := (s.unit u).sp
    let lost (e : Host.Cell) : Bool := decide (e.1 / 0x40000 = b) && zeros.contains (e.1 % 0x40000 / 8)
    let s1 := (s.setUnit u { s.unit u with sp := { x with bytes := x.bytes.filter (fun e => !lost e), retiring := x.retiring.filter (fun r => decide (r.1 ≠ b)) } }).showRetiring u
    let s2 := ((s1.orReg (Reg.SP_STATUS u) 0x40).orReg (Reg.SP_BANK u b) 0x10000000).setField (retMapReg u) (8 * k + 7) (8 * k) b
    let s3 := s2.logPut 9 0 0 0xFFFF 0 (retDetail u b k)
    .next (if zeros.isEmpty then s3 else (s3.orReg (Reg.SP_STATUS u) 0x20).report1 (localSrc u 6) b)

end Sys2Proof.Machine
end

