-- ==== Sys2Proof/Machine/DmOps.lean ====
section
/-! DEFINITION. The data mover's channels (R505–R521) and the system matrix as it sees it (R471, R475–R478, R488–R493): positions, starts, pauses and
ends, and writes to host memory, scratchpads and DRAM. -/
namespace Sys2Proof.Machine

/-- Who may write a region of DRAM (R478). -/
inductive Region where
  | firmware
  | user
  | ring
  | reserved
  | holder
  deriving DecidableEq, Repr

/-- The target of an internal address for the matrix of one unit (R471, R472). -/
inductive Target where
  | dram
  | scratch
  | shadow
  | tile
  | ownRegs
  | baseRegs
  | eventLog
  | keeper
  | default_
  deriving DecidableEq, Repr

namespace State

/-! ### The address map -/

/-- The target an internal address decodes to (R471). -/
def targetOf (p : Part) (a : Nat) : Target :=
  if a < 0x1000000000 then .dram
  else if a < 0x2000000000 then (match p with | .wl5128 => .dram | .wl2564 => .default_)
  else if 0x4000000000 ≤ a ∧ a < 0x4000800000 then .scratch
  else if 0x5000000000 ≤ a ∧ a < 0x5000800000 then .shadow
  else if 0x5010000000 ≤ a ∧ a < 0x5010800000 then .tile
  else if 0x6000000000 ≤ a ∧ a < 0x6000100000 then .ownRegs
  else if 0x7000000000 ≤ a ∧ a < 0x7000700000 then .baseRegs
  else if 0x7010000000 ≤ a ∧ a < 0x7010004000 then .eventLog
  else if 0x7020000000 ≤ a ∧ a < 0x7020010000 then .keeper
  else .default_

/-- Whether an address of the recorder region lies in the user region (R477). -/
def inUser (s : State) (a : Nat) : Bool := decide (s.rnat64 Reg.MEM_USER_BASE_LO Reg.MEM_USER_BASE_HI ≤ a)

/-- The region of a DRAM address (R475–R478) (log entry 113 DESIGN CHOICE). -/
def regionOf (s : State) (a : Nat) : Region :=
  let rec_ : Region := if s.inUser a then .user else .ring
  if a < 0x10000000 then .firmware
  else if 0xB0000000 ≤ a ∧ a < 0x100000000 then .reserved
  else if a < 0x200000000 then .holder
  else match s.part with
  | .wl5128 =>
    if a < 0x1000000000 then rec_
    else if a < 0x1010000000 then .reserved
    else if a < 0x1012000000 then .holder
    else if a < 0x1100000000 then .reserved
    else if a < 0x1200000000 then .holder
    else rec_
  | .wl2564 =>
    if a < 0x210000000 then .reserved
    else if a < 0x212000000 then .holder
    else if a < 0x300000000 then .reserved
    else if a < 0x400000000 then .holder
    else rec_

/-- The data mover of a unit may write a region (R478). -/
def mayWrite (s : State) (u : Cu) (r : Region) : Bool :=
  match r with
  | .user => true
  | .holder => s.holds u
  | _ => false

/-- The data mover's port of the matrix (R488). -/
def dmPort (u : Cu) : Nat := 2 + 3 * u.num

/-! ### A channel's parameters and position (R507, R509) -/

/-- The transfer that holds a channel. -/
def dmChan (s : State) (u : Cu) (n : Nat) : Option DmChan := Tab.find n (s.unit u).dm
def setDm (u : Cu) (n : Nat) (x : DmChan) (s : State) : State := s.setUnit u { s.unit u with dm := Tab.set n x (s.unit u).dm }
def freeDm (u : Cu) (n : Nat) (s : State) : State := s.setUnit u { s.unit u with dm := Tab.erase n (s.unit u).dm }

/-- Registers of loop `i` of a channel. -/
def dmLoop (u : Cu) (n i : Nat) : Nat := match i with | 0 => Reg.DM_LOOP0 u n | 1 => Reg.DM_LOOP1 u n | _ => Reg.DM_LOOP2 u n
def dmSstep (u : Cu) (n i : Nat) : Nat := match i with | 0 => Reg.DM_SSTEP0 u n | 1 => Reg.DM_SSTEP1 u n | _ => Reg.DM_SSTEP2 u n
def dmDstep (u : Cu) (n i : Nat) : Nat := match i with | 0 => Reg.DM_DSTEP0 u n | 1 => Reg.DM_DSTEP1 u n | _ => Reg.DM_DSTEP2 u n

/-- ELEM, 0 meaning 65,536, and a loop's count, 0 taken as 1 (R518). -/
def dmElem (s : State) (u : Cu) (n : Nat) : Nat := let e := s.fld (Reg.DM_ELEM u n) 15 0; if e = 0 then 65536 else e
def dmCount (s : State) (u : Cu) (n i : Nat) : Nat := max (s.fld (dmLoop u n i) 15 0) 1

/-- Bytes of a whole transfer. -/
def dmTotal (s : State) (u : Cu) (n : Nat) (x : DmChan) : Nat :=
  match x.hw with
  | some r => r.data.length
  | none => s.dmCount u n 0 * s.dmCount u n 1 * s.dmCount u n 2 * s.dmElem u n

/-- Index of loop `i` after `m` bytes; the outermost reaches its count at the end. -/
def dmIndex (s : State) (u : Cu) (n m i : Nat) : Nat :=
  let q := m / s.dmElem u n
  match i with
  | 0 => q % s.dmCount u n 0
  | 1 => q / s.dmCount u n 0 % s.dmCount u n 1
  | _ => q / (s.dmCount u n 0 * s.dmCount u n 1)

/-- The address of byte `m` of a transfer from a base and its steps (R406, R507). -/
def dmAddr (s : State) (u : Cu) (n m base : Nat) (step : Nat → Nat) : Nat :=
  low 64 ((base : Int) + (m % s.dmElem u n : Nat) + (s.dmIndex u n m 0 : Nat) * sext 32 (s.rnat (step 0)) +
    (s.dmIndex u n m 1 : Nat) * sext 32 (s.rnat (step 1)) + (s.dmIndex u n m 2 : Nat) * sext 32 (s.rnat (step 2)))
def dmSrc (s : State) (u : Cu) (n m : Nat) : Nat := s.dmAddr u n m (s.rnat64 (Reg.DM_SRC_LO u n) (Reg.DM_SRC_HI u n)) (dmSstep u n)
def dmDst (s : State) (u : Cu) (n m : Nat) : Nat := s.dmAddr u n m (s.rnat64 (Reg.DM_DST_LO u n) (Reg.DM_DST_HI u n)) (dmDstep u n)

/-- The channel drains: it was told to pause or to end, and has done neither yet (R510, R521). -/
def dmDraining (s : State) (u : Cu) (n : Nat) (x : DmChan) : Bool :=
  !x.paused && !x.halted && (s.rbit (Reg.DM_CTL u n) 1 || x.ending)

/-- The position registers of a transfer (R509): of a hardware request the bytes moved and the destination. -/
def dmPosition (u : Cu) (n : Nat) (x : DmChan) (s : State) : State :=
  let s1 := s.setReg64 (Reg.DM_MOVED_LO u n) (Reg.DM_MOVED_HI u n) x.moved
  match x.hw with
  | some r => (s1.setReg64 (Reg.DM_CUR_DST_LO u n) (Reg.DM_CUR_DST_HI u n) (r.dst + x.moved)).setReg (Reg.DM_OFF u n) (word (x.moved % 2 ^ 17))
  | none =>
    let done := decide (s.dmTotal u n x ≤ x.moved)
    let s2 := [0, 1, 2].foldl (fun (s' : State) i =>
      s'.setField (dmLoop u n i) 31 16 (if done then 0 else s.dmCount u n i - s.dmIndex u n x.moved i)) s1
    ((s2.setReg (Reg.DM_OFF u n) (word (if done then 0 else x.moved % s.dmElem u n))).setReg64 (Reg.DM_CUR_SRC_LO u n) (Reg.DM_CUR_SRC_HI u n)
      (s.dmSrc u n x.moved)).setReg64 (Reg.DM_CUR_DST_LO u n) (Reg.DM_CUR_DST_HI u n) (s.dmDst u n x.moved)

/-- BUSY, DRAINING, PAUSED and HALTED of a channel, its bits of DM_ACTIVE, and its position (R509, R517, R520) (log entry 150 DESIGN CHOICE). -/
def dmShow (u : Cu) (n : Nat) (s : State) : State :=
  match s.dmChan u n with
  | none => (s.clrReg (Reg.DM_ST u n) 0x39).clrReg (Reg.DM_ACTIVE u) (2 ^ n + 2 ^ (16 + n))
  | some x =>
    let s1 := (s.dmPosition u n x).clrReg (Reg.DM_ST u n) 0x39
    let s2 := s1.orReg (Reg.DM_ST u n) (1 + 8 * b2n (s.dmDraining u n x) + 16 * b2n x.paused + 32 * b2n x.halted)
    (s2.clrReg (Reg.DM_ACTIVE u) (2 ^ n + 2 ^ (16 + n))).orReg (Reg.DM_ACTIVE u) (2 ^ n + if x.paused || x.halted then 2 ^ (16 + n) else 0)

/-- The transfer has a new state. -/
def putDm (u : Cu) (n : Nat) (x : DmChan) (s : State) : State := (s.setDm u n x).dmShow u n

/-! ### Beginning and ending (R407, R510–R513, R521) -/

/-- A MOVE completes with its counts (R406): bytes moved, the remaining counts and the retries used. -/
def dmComplete (u : Cu) (n : Nat) (x : DmChan) (status : Nat) (s : State) : State :=
  s.completeOpt x.cmd status 0 x.moved (x.moved / 2 ^ 32) (s.fld (Reg.DM_LOOP0 u n) 31 16 + 2 ^ 16 * s.fld (Reg.DM_LOOP1 u n) 31 16)
    (s.fld (Reg.DM_LOOP2 u n) 31 16 + 2 ^ 16 * s.fld (Reg.DM_ST u n) 26 24)

/-- `n` results have reached telemetry ring `r` of a function, the last of grid index `g` (R359, R367, R376): the tail line follows, and it is pending. -/
def trPost (u : Cu) (f r n g : Nat) (s : State) : State :=
  let x := s.tr u f r
  let tail := (x.tail + n) % 2 ^ 32
  let line := s.rnat64 (Reg.Q_DB_LO u f) (Reg.Q_DB_HI u f) + 0x3000 + 0x40 * r
  let s1 := (s.hostWrite u line (bytesOf 4 tail)).hostWrite u (line + 8) (bytesOf 8 g)
  let send := decide (ringCount (s.reg (Reg.Q_TR_MOD u f r)) ≤ x.pendCount + 1)
  let x' : Tr := { x with tail := tail, pendCount := if send then 0 else x.pendCount + 1,
                          pendSince := if send then none else some (x.pendSince.getD s.clk) }
  let s2 := s1.setTr u f r x'
  if send then s2.sendMsix u f (ringVector (s.reg (Reg.Q_TR_CFG u f r))) else s2

/-- The source of a hardware request is told what was moved (R145, R516, R579): of a queue's results the rest are drops; a pull goes on to its next block (log entry 189 DEDUCED). -/
def hwSettle (u : Cu) (x : DmChan) (s : State) : State :=
  match x.hw with
  | none => s
  | some r =>
    if r.src = 1 then
      let n := x.moved / 16
      let s1 : State := if n = 0 then s
        else s.trPost u r.func (s.fld (Reg.MON_RQ_CTRL r.queue) 2 0) n (r.gs.getD (n - 1) 0)
      s1.bump (Reg.MON_RQ_DROPS r.queue) 31 0 (r.gs.length - n)
    else if x.moved < r.data.length then s
    else match s.recd.pull with
    | none => s
    | some l => ({ s with recd := { s.recd with pull := some (l.drop 1), pulled := s.recd.pulled + 1 } }).setField Reg.REC_PULL_STATUS 16 0
        (s.recd.pulled + 1)

/-- A transfer ends with an outcome, and its MOVE with a status; the channel is free. -/
def dmFinish (u : Cu) (n : Nat) (x : DmChan) (outcome status : Nat) (s : State) : State :=
  let s1 := ((s.setDm u n x).dmShow u n).freeDm u n
  let s2 := ((s1.dmShow u n).setField (Reg.DM_ST u n) 31 28 outcome).orReg (Reg.DM_ST u n) 4
  let s3 : State := if outcome = 3 then s2.orReg (Reg.DM_STATUS u) 4 else s2
  (s3.hwSettle u x).dmComplete u n x status

/-- A transfer begins; a PAUSE that stands drains it at once. -/
def dmBegin (u : Cu) (n : Nat) (x : DmChan) (s : State) : State := (s.setField (Reg.DM_ST u n) 26 24 0).putDm u n x

/-- A write to a channel was ignored (R12, R521). -/
def dmIgnored (u : Cu) (n : Nat) (s : State) : State := (s.orReg (Reg.DM_ST u n) 2).orReg (Reg.DM_STATUS u) 1

/-- PAUSE of DM_CTLn is written (R510). -/
def dmPauseBit (u : Cu) (n : Nat) (on : Bool) (s : State) : State :=
  let s1 := s.setReg (Reg.DM_CTL u n) (if on then 2 else 0)
  match s1.dmChan u n with
  | some x => s1.putDm u n (if on then x else { x with paused := false })
  | none => s1

/-- END of DM_CTLn (R513, R521): a halted channel is freed, a paused one ends SHORT, a running one drains first (log entry 152 DEDUCED). -/
def dmEndBit (u : Cu) (n : Nat) (s : State) : State :=
  match s.dmChan u n with
  | none => s
  | some x =>
    if x.halted then (((s.freeDm u n).dmShow u n).orReg (Reg.DM_ST u n) 4).hwSettle u x
    else if x.paused then s.dmFinish u n x 3 0x10
    else s.putDm u n { x with ending := true }

/-- RESUME of DM_CTLn (R513, R521): a halted channel goes on with a fresh retry count. -/
def dmResumeBit (u : Cu) (n : Nat) (s : State) : State :=
  match s.dmChan u n with
  | some x => if x.halted then s.putDm u n { x with halted := false, tries := 0, retryAt := none } else s.dmIgnored u n
  | none => s.dmIgnored u n

/-- HWSRC of a channel (R519). -/
def dmHwsrc (s : State) (u : Cu) (n : Nat) : Nat := s.fld (Reg.DM_CFG u n) 29 28

/-- START of DM_CTLn (R515, R518, R519, R521). -/
def dmStartBit (u : Cu) (n : Nat) (s : State) : State :=
  if (s.dmChan u n).isSome || (s.rbit (Reg.DM_CFG u n) 31 && s.rbit (Reg.DM_CFG u n) 30) || s.dmHwsrc u n != 0 then s.dmIgnored u n
  else (s.setReg (Reg.DM_OWN u n) 0x80000000).dmBegin u n
    { func := s.fld (Reg.DM_CFG u n) 27 24, srcHost := s.rbit (Reg.DM_CFG u n) 31, dstHost := s.rbit (Reg.DM_CFG u n) 30 }

/-- A write of DM_CTLn (R510, R513, R518): PAUSE, then END, RESUME and START. The core holds the register (log entry 151 DEDUCED). -/
def dmCtl (u : Cu) (n : Nat) (v : Word) (s : State) : State :=
  if s.islandOnly u || decide (16 ≤ n) then s
  else
    let s1 := s.dmPauseBit u n (bit v 1)
    let s2 : State := if bit v 3 then s1.dmEndBit u n else s1
    let s3 : State := if bit v 2 then s2.dmResumeBit u n else s2
    if bit v 0 then s3.dmStartBit u n else s3

/-- A write of DM_CTRL (R517). -/
def dmCtrl (u : Cu) (v : Word) (s : State) : State :=
  if s.islandOnly u then s
  else
    let s1 := s.maskWrite (Reg.DM_CTRL u) 7 v
    if bit v 31 then s1.setReg (Reg.DM_CNT u) 0 else s1

/-! ### Writes (R478, R482, R495) -/

/-- One byte of a stored coupling coefficient changes (R248, R266). -/
def couplingByte (off : Nat) (b : Byte) (s : State) : State :=
  let w := low 16 (s.drtCoeff (off / 2))
  let w' := if off % 2 = 0 then w / 256 * 256 + b.toNat else w % 256 + 256 * b.toNat
  s.setCoeff (off / 2) (sext 16 w')

/-- One byte of DRAM is written (R248, R475). -/
def dramByte (a : Nat) (b : Byte) (s : State) : State :=
  if 0x18000000 ≤ a ∧ a < 0x18000000 + 100859904 then s.couplingByte (a - 0x18000000) b
  else { s with mem := { s.mem with dram := Tab.put (s.dramOpen a) a b s.mem.dram } }

/-- The line at an address takes part of a write (R479, R482): a whole line clears POISON, a part keeps it. -/
def touchLine (port a len line : Nat) (s : State) : State :=
  let whole := decide (a ≤ 64 * line) && decide (64 * line + 64 ≤ a + len)
  s.setMeta line (65536 * port + if !whole && s.isPoison line then 2 ^ 24 else 0)

/-- Bytes are written to DRAM by a unit's data mover where its region allows it (R478). -/
def dramWrite (u : Cu) (a : Nat) (bs : List Byte) (s : State) : State :=
  if bs.isEmpty || !s.pwr.dramUp || !s.mayWrite u (s.regionOf a) then s
  else
    let s1 := (bs.foldl (fun (x : Nat × State) b => (x.1 + 1, x.2.dramByte x.1 b)) (a, s)).2
    (List.range ((a + bs.length - 1) / 64 + 1 - a / 64)).foldl (fun (s : State) i => s.touchLine (dmPort u) a bs.length (a / 64 + i)) s1

/-- The data mover may write a scratchpad bank: ON, and its own by OWNER or, on banks 0–3, OWNER1 (R495–R497). -/
def spWritable (s : State) (u : Cu) (b : Nat) : Bool :=
  s.spServes u b && (decide (s.fld (Reg.SP_BANK u b) 3 0 = 4) || (decide (b < 4) && decide (s.fld (Reg.SP_BANK u b) 11 8 = 4)))

/-- Bytes are written to a unit's scratchpad by its data mover. -/
def spWrite (u : Cu) (off : Nat) (bs : List Byte) (s : State) : State :=
  if !s.spWritable u (off / 0x40000) then s
  else
    let x := s.unit u
    s.setUnit u { x with sp := { x.sp with bytes := (bs.foldl (fun (a : Nat × List Host.Cell) b => (a.1 + 1, Tab.put 0 a.1 b a.2)) (off, x.sp.bytes)).2 } }

/-! ### Failed bursts (R491–R493, R511, R513) -/

/-- The matrix answers a burst to no target (R492). -/
def mxDecerr (port a : Nat) (s : State) : State :=
  let s1 := ((s.bump Reg.MX_DECERR_CNT 31 0 1).setReg Reg.MX_DECERR_ADDR_LO (word a)).setReg Reg.MX_DECERR_ADDR_HI
    (word (a / 2 ^ 32 % 65536 + 2 ^ 24 * port))
  (s1.orReg Reg.MX_STATUS 2).report1 17 port

/-- A target refuses a burst of a unit's data mover (R491, R495, R497, R423). -/
def mxRefused (u : Cu) (a : Nat) (s : State) : State :=
  match targetOf s.part a with
  | .dram =>
    let s1 := ((s.bump Reg.MX_REFUSED_CNT 31 0 1).setReg Reg.MX_REFUSED_ADDR_LO (word a)).setReg Reg.MX_REFUSED_ADDR_HI
      (word (a / 2 ^ 32 % 65536 + 2 ^ 24 * dmPort u))
    s1.orReg Reg.MX_STATUS 4
  | .scratch =>
    if s.spServes u ((a - 0x4000000000) / 0x40000) then (s.orReg (Reg.SP_STATUS u) 2).bump (Reg.SP_CNT u) 15 0 1
    else s.orReg (Reg.SP_STATUS u) 8
  | .tile | .baseRegs => s.bump Reg.TKN_CNT1 15 0 1
  | _ => s

/-- What a failed burst leaves at the matrix: cause 2 SLVERR, 3 DECERR, 4 a host read that failed. -/
def burstTrace (u : Cu) (a cause : Nat) (s : State) : State :=
  if cause = 3 then s.mxDecerr (dmPort u) a else if cause = 2 then s.mxRefused u a else s

/-- The channel halts (R513): its MOVE completes BUS_ERROR, its position stands, and the fault is reported. -/
def dmHalt (u : Cu) (n a cause : Nat) (x : DmChan) (s : State) : State :=
  let x' : DmChan := { x with cmd := none, halted := true, retryAt := none, paused := false }
  let s1 := ((s.putDm u n x').setField (Reg.DM_ST u n) 31 28 2).bump (Reg.DM_CNT u) 15 0 1
  let s2 := (s1.setReg (Reg.DM_ERR_LO u n) (word a)).setReg (Reg.DM_ERR_HI u n) (word (a / 2 ^ 32 % 2 ^ 28 + 2 ^ 28 * cause))
  ((s2.orReg (Reg.DM_STATUS u) 8).dmComplete u n x 0x0C).report1 (localSrc u 8) n

end State

end Sys2Proof.Machine
end

