-- ==== Sys2Proof/Machine/Pmc.lean ====
section
/-! DEFINITION. Performance counters and the window unit (R613–R620). -/
namespace Sys2Proof.Machine

namespace State

/-- The counter block is enabled, for R12: EN 1 and FREEZE 0. -/
def pmcLocked (s : State) (u : Cu) : Bool := s.pmcOn u

/-- Counting clocks at a drive clock: 1.5 GHz against 204.8 MHz is 1,875 per 256 (R613). -/
def countClk (clk : Nat) : Nat := clk * 1875 / 256

/-- Bring the counters of CLOCK events up to the present clock, and PMC_FROZEN_CLK while frozen (R613, R614). -/
def pmcSettle (u : Cu) (s : State) : State :=
  let x := s.unit u
  let d := countClk s.clk - x.pmcAt
  let s1 := s.setUnit u { x with pmcAt := countClk s.clk }
  if s.pmcOn u then
    (List.range 256).foldl (fun (s : State) n =>
      if field (s.reg (Reg.PMC_EVT u n)) 7 0 = 1 ∧ !s.pmcChainedOdd u n then s.pmcAdd u n d else s) s1
  else if s.rbit (Reg.PMC_CTRL u) 1 then s1.bump (Reg.PMC_FROZEN_CLK u) 31 0 d
  else s1

/-- Whether EVENT and QUAL of a word name an event of the unit (R614); others are taken as OFF. -/
def pmcEvtOk (u : Cu) (w : Word) : Bool :=
  let c := field w 7 0
  let q := field w 15 8
  decide (c ≤ 0x0C) || decide (c = 0x14) || decide (c = 0x15) || decide (c = 0x29) || (decide (0x30 ≤ c) && decide (c ≤ 0x32)) ||
  (decide (0x10 ≤ c) && decide (c ≤ 0x13) && (decide (q < 16) || decide (q = 0xFF))) ||
  (decide (0x18 ≤ c) && decide (c ≤ 0x1A) && (decide (q < 16) || decide (q = 0xFF))) ||
  (decide (0x20 ≤ c) && decide (c ≤ 0x22) && ((match u with | .a => [0, 1, 2, 6] | .b => [3, 4, 5, 7]).contains q || decide (q = 0xFF))) ||
  (decide (c = 0x28) && (decide (q < 32) || decide (q = 0xFF)))

/-- A write of PMC_CTRL (R613, R619): EN and FREEZE from the present counting clock; CLR_ALL zeroes every counter and overflow bit. -/
def pmcCtrl (u : Cu) (v : Word) (s : State) : State :=
  let s1 := (s.pmcSettle u).maskWrite (Reg.PMC_CTRL u) 3 v
  if bit v 31 then
    s1.resetRegs (fun k => (decide (Reg.PMC_CNT u 0 ≤ k) && decide (k ≤ Reg.PMC_CNT u 255)) ||
      (decide (Reg.PMC_OVF u 0 ≤ k) && decide (k ≤ Reg.PMC_OVF u 7)))
  else s1

/-- A write of PMC_CNT (R12, R619, R620): a counter is set while the block is not enabled. -/
def pmcCntWrite (u : Cu) (n : Nat) (v : Word) (s : State) : State :=
  if n < 256 then (s.pmcSettle u).rwlWrite (Reg.PMC_CNT u n) 0 0xFFFFFFFF (s.pmcOn u) (Reg.PMC_STATUS u) 1 v else s

/-- A write of PMC_EVT (R614, R615): CHAIN on even counters of the WL5128; an event out of range is OFF with CFG_IGNORED. -/
def pmcEvtWrite (u : Cu) (n : Nat) (v : Word) (s : State) : State :=
  if 256 ≤ n then s
  else
    let chain : Word := if n % 2 = 0 ∧ s.part = .wl5128 then v &&& 0x80000000 else 0
    let s1 := s.pmcSettle u
    if pmcEvtOk u v then s1.setReg (Reg.PMC_EVT u n) (chain ||| (v &&& 0xFFFF))
    else (s1.setReg (Reg.PMC_EVT u n) chain).orReg (Reg.PMC_STATUS u) 1

/-- A write of PMC_WIN_CTRL (R12, R618, R619): the first window after EN is set is partial. -/
def pmcWinCtrl (u : Cu) (v : Word) (s : State) : State :=
  let was := s.rbit (Reg.PMC_WIN_CTRL u) 31
  let s1 := s.rwlWrite (Reg.PMC_WIN_CTRL u) 0x80000000 0x1FFFFF was (Reg.PMC_STATUS u) 1 v
  if !was && bit v 31 then s1.setUnit u { s1.unit u with winPartial := true } else s1

end State

open State

/-- PMC_CLR_ALL (R619): every counter and overflow bit zero; EN and FREEZE as the value carries them. -/
def execPmcClrAll (u : Cu) (v : Word) (s : State) : Res := .next (s.pmcCtrl u (putBit v 31 true))

/-- PMC_FREEZE (R613): every counter stops on one counting clock. -/
def execPmcFreeze (u : Cu) (v : Word) (s : State) : Res := .next (s.pmcCtrl u (putBit v 1 true))

/-- PMC_UNFREEZE (R613): every counter restarts on one counting clock. -/
def execPmcUnfreeze (u : Cu) (v : Word) (s : State) : Res := .next (s.pmcCtrl u (putBit v 1 false))

/-- PMC_CNT_WRITE (R619, R620): sets a counter while the block is not enabled, else is ignored with CFG_IGNORED. -/
def execPmcCntWrite (u : Cu) (n : Nat) (v : Word) (s : State) : Res := .next (s.pmcCntWrite u n v)

/-- PMC_EVT_WRITE (R614, R615): the event from the next counting clock; CHAIN on even counters of the WL5128; an event out of range is OFF with
CFG_IGNORED. -/
def execPmcEvtWrite (u : Cu) (n : Nat) (v : Word) (s : State) : Res := .next (s.pmcEvtWrite u n v)

/-- PMC_COUNTER_WRAP (R615): the counters are brought up to the present clock; one that wraps sets its overflow bit. -/
def execPmcCounterWrap (u : Cu) (n : Nat) (s : State) : Res :=
  if n < 256 then .next (s.pmcSettle u) else .next s

/-- TICKS of the window unit, values outside taken as the nearer limit (R619). -/
def State.winTicks (s : State) (u : Cu) : Nat := clampN (s.fld (Reg.PMC_WIN_CTRL u) 20 0) 16 1600000

/-- PMC_WINDOW_END (R618): on the update tick with G mod TICKS = 0 every result is latched, PMC_WIN_SEQ advances and G is stored. `bytes` are
what the unit counted in the window: read and write bytes of ports 0 to 11, then the link's RX and TX (log entry 179 DESIGN CHOICE). -/
def execPmcWindowEnd (u : Cu) (bytes : List Nat) (s : State) : Res :=
  if !s.rbit (Reg.PMC_WIN_CTRL u) 31 || decide (s.time.g % s.winTicks u ≠ 0) || decide (s.clk ≠ s.time.lastTick) then .next s
  else
    let x := s.unit u
    let put (s : State) (i : Nat) : State :=
      s.setReg64 (unitKey u (0x11100 + 8 * i)) (unitKey u (0x11104 + 8 * i)) (bytes.getD i 0)
    let s1 := (List.range 26).foldl put s
    let seq := (s.fld (Reg.PMC_WIN_SEQ u) 30 0 + 1) % 2 ^ 31
    let s2 := (s1.setReg (Reg.PMC_WIN_SEQ u) (word (seq + 2 ^ 31 * b2n x.winPartial))).setReg64 (Reg.PMC_WIN_G_LO u) (Reg.PMC_WIN_G_HI u) s.time.g
    .next (s2.setUnit u { s2.unit u with winPartial := false })

end Sys2Proof.Machine
end

