-- ==== Sys2Proof/Machine/Security.lean ====
section
/-! DEFINITION. Trust functions (R589–R612): staging and activation of images, enrolment and the floor, attestation, and the scopes of field access. -/
namespace Sys2Proof.Machine

namespace State

/-! ### Fuses and identity (R589, R591) -/

/-- The device identifier, 8 bytes (R589) (log entry 63 DESIGN CHOICE). -/
def deviceId (s : State) (u : Cu) : List Byte := bytesOf 4 (s.rnat (Reg.SEC_DEVID_LO u)) ++ bytesOf 4 (s.rnat (Reg.SEC_DEVID_HI u))

/-- OWNER_FLAGS (R589): ENROLLED, VENDOR_FW_OFF, VENDOR_ACCESS_OFF, DIAG_VENDOR_OFF. -/
def enrolled (s : State) : Bool := s.sec.ownerFlags.testBit 0
def vendorFwOff (s : State) : Bool := s.sec.ownerFlags.testBit 1
def vendorAccessOff (s : State) : Bool := s.sec.ownerFlags.testBit 2
def diagVendorOff (s : State) : Bool := s.sec.ownerFlags.testBit 3

/-! ### Images (R592–R594) -/

/-- A slice of a byte string. -/
def slice (l : List Byte) (off len : Nat) : List Byte := fit len (l.drop off)

/-- The measurement of an image from its header (R593). -/
def measureOf (hdr : List Byte) : List Byte := Crypto.shake256 (slice hdr 0 0x820)

/-- PART of an image fits this part (R594). -/
def partFits (s : State) (p : Nat) : Bool :=
  decide (p = 0) || decide (p = (match s.part with | .wl5128 => 0x5128 | .wl2564 => 0x2564))

/-- The signer's key is the one fused (R594). -/
def keyFits (s : State) (key : Nat) (pub : List Byte) : Bool :=
  match key with
  | 0 => decide (Crypto.shake256 pub = s.sec.vendorKey)
  | 1 => s.enrolled && decide (Crypto.shake256 pub = s.sec.ownerKey)
  | _ => false

/-- The check of an image in its order (R594): the code of the first failure, 0 for none. -/
def imgCheck (img : List Byte) (bankBad : Bool) (s : State) : Nat :=
  let svn := le img 8 4
  let n := le img 0x10 4
  if le img 0 4 ≠ 0x554F4E4D ∨ le img 4 2 ≠ 0x0100 ∨ byteAt img 7 ≠ 0 ∨ !zeroSlice img 0x16 2 ∨ !zeroSlice img 0x60 32 ∨ !zeroSlice img 0x150D 2803 ∨
      svn > 64 ∨ le img 0x0C 4 > svn then 1
  else if n > 8380416 ∨ 8192 + n > img.length then 2
  else if !s.partFits (le img 0x14 2) then 3
  else if !s.keyFits (byteAt img 6) (slice img 0x80 1952) then 4
  else if byteAt img 6 = 0 ∧ s.vendorFwOff then 5
  else if !Config.sigValid (slice img 0x80 1952) (slice img 0 0x820) (slice img 0x820 3309) then 6
  else if Crypto.shake256 (slice img 8192 n) ≠ slice img 0x20 64 then 7
  else if svn < s.sec.floor then 8
  else if bankBad then 9 else 0

/-- The header of a bank's image, where the device has seen one and the bank is not marked invalid (R592). -/
def bankHdr (s : State) (b : Nat) : Option (List Byte) := if s.sec.bankInvalid.testBit b then none else Tab.find b s.sec.banks

/-- A new boot record (R592, R597): the named units' PRIMARY becomes the bank, which is no longer invalid. -/
def bootRecord (b units : Nat) (s : State) : State :=
  let x := s.sec
  { s with sec := { x with primaryA := if units.testBit 0 then b else x.primaryA, primaryB := if units.testBit 1 then b else x.primaryB,
                           bankInvalid := if x.bankInvalid.testBit b then x.bankInvalid - 2 ^ b else x.bankInvalid, recSeq := x.recSeq + 1 } }

/-! ### FW_STAGE (R415, R596–R599) -/

/-- STAGE (R596): the image is read and checked; the staging area is in use while an ACTIVATE writes the flash (R612). -/
def stage (c : Cmd) (d : HostData) (s : State) : State :=
  if c.w 24 > 0x800000 then s.complete c 5 0 2 0 0 0
  else
    let busy := match s.sec.flash with | some (.activate _ _ _) => true | _ => false
    if busy then s.refuse c 0x11
    else match d with
    | .failed _ => s.refuse c 0x0C
    | .bytes l =>
      let img := fit (c.w 24) l
      let code := s.imgCheck img false
      let s1 : State := { s with sec := { s.sec with staged := some (fit 8192 img, c.w 24, code) } }
      if code = 0 then s1.complete c 0 0 0 (c.w 24) 0 0 else s1.complete c 5 0 code 0 0 0

/-- ACTIVATE (R597): the bank that holds the staged image already, or else the bank that is PRIMARY of neither unit, which is written first (log entry 171 DESIGN CHOICE). -/
def activate (c : Cmd) (s : State) : State :=
  let units := c.b 5 % 4
  if units = 0 then s.refuse c 5
  else match s.sec.staged with
  | none => let d := s.drawNat; d.2.complete c 5 0 (d.1 % 2 ^ 32) 0 0 0
  | some (hdr, len, code) =>
    if code ≠ 0 then s.complete c 5 0 code len 0 0
    else if s.sec.flash.isSome then s.refuse c 0x11
    else match [0, 1].find? (fun b => decide ((s.bankHdr b).map measureOf = some (measureOf hdr))) with
    | some b => (s.bootRecord b units).complete c 0 0 0 len 0 0
    | none =>
      if s.sec.primaryA ≠ s.sec.primaryB then s.refuse c 0x11
      else { s with sec := { s.sec with flash := some (.activate c (1 - s.sec.primaryA) units) } }

/-- The flash write of an ACTIVATE ends (R597): `code` is what the check of the bank found. -/
def flashDone (code : Nat) (s : State) : State :=
  match s.sec.flash, s.sec.staged with
  | some (.activate c b units), some (hdr, len, _) =>
    let s0 : State := { s with sec := { s.sec with flash := none } }
    if code = 0 then (({ s0 with sec := { s0.sec with banks := Tab.set b hdr s0.sec.banks } }).bootRecord b units).complete c 0 0 0 len 0 0
    else ({ s0 with sec := { s0.sec with banks := Tab.erase b s0.sec.banks } }).complete c 5 0 code len 0 0
  | _, _ => s

/-! ### Attestation (R603–R605) -/

/-- The signed bytes of a report at the present tick (R604). -/
def reportBytes (c : Cmd) (fresh : Bool) (s : State) : List Byte :=
  let u := c.unit
  let regs (k : Nat → Nat) : List Byte := (List.range 16).flatMap (fun i => bytesOf 4 (s.rnat (k i)))
  let bank (b : Nat) : List Byte := match s.bankHdr b with | some h => measureOf h | none => List.replicate 64 0
  let stale := decide (s.reg Reg.CAL_DHASH_TGEN ≠ s.reg Reg.DRT_TGEN)
  let flags := b2n (s.holds u) + 2 * b2n fresh + 4 * b2n stale + 8 * b2n s.enrolled + 16 * b2n (s.rbit (Reg.SEC_BOOT u) 1) + 32 * b2n (s.rbit (Reg.SEC_BOOT u) 2)
  bytesOf 4 0x54545441 ++ bytesOf 2 0x0100 ++ bytesOf 1 u.num ++ bytesOf 1 flags ++ bytesOf 4 3824 ++ bytesOf 4 (s.fld (Reg.SEC_BOOT u) 22 16) ++
    s.deviceId u ++ bytesOf 4 s.time.sec ++ bytesOf 4 s.time.ns ++ bytesOf 8 s.time.g ++ slice c.desc 16 32 ++ regs (Reg.SEC_MEAS u) ++ bank 0 ++ bank 1 ++
    regs Reg.FAB_HASH ++ regs Reg.CAL_HASH ++ regs Reg.CAL_DHASH ++ bytesOf 4 (s.rnat Reg.CAL_GEN) ++ bytesOf 4 (s.rnat Reg.CAL_DHASH_TGEN) ++
    bytesOf 4 (s.rnat Reg.DRT_TGEN) ++ bytesOf 4 (s.rnat Reg.FAB_EPOCH) ++ bytesOf 4 (s.rnat Reg.TKN_STATE) ++ bytesOf 1 s.sec.floor ++
    bytesOf 1 (s.fld (Reg.SEC_SCOPE u) 3 0) ++ bytesOf 1 (b2n s.fabValid + 2 * b2n s.fabOn) ++ bytesOf 33 0

/-- The report is signed, written to DST, and the command completes (R603, R414). -/
def attestNow (fresh : Bool) (s : State) (c : Cmd) : State :=
  let m := fit 512 (s.reportBytes c fresh)
  let w := m ++ fit 3309 (Config.sign c.unit.num m) ++ List.replicate 3 0
  (if (s.unit c.unit).linkUp then s.hostWrite c.unit (c.q 48) w else s).complete c 0 0 3824 0 0 0

/-- ATTEST (R414, R603) (log entry 173 DEDUCED). -/
def attest (c : Cmd) (s : State) : State :=
  if c.w 56 < 3824 then s.complete c 5 0 3824 0 0 0
  else if (c.b 4).testBit 0 then { s.hashStart with attests := s.attests ++ [{ cmd := c }] }
  else s.attestNow false c

/-- The coupling-table hash ends (R328): CAL_DHASH, then the reports that wait for it. -/
def hashDone (s : State) : State :=
  if s.drt.hashing.isNone then s
  else
    let s1 := s.hashEnd
    s1.attests.foldl (fun (s : State) a => s.attestNow true a.cmd) { s1 with attests := [] }

/-! ### Field access (R606–R609) -/

/-- SEC_SCOPE of both units shows the failures, which the base die counts, and the seconds of lockout left (R607, R610) (log entry 172 DEDUCED). -/
def showFails (s : State) : State :=
  let left := (s.sec.lockUntil - s.clk + 204799999) / 204800000
  [Cu.a, Cu.b].foldl (fun (s' : State) u => (s'.setField (Reg.SEC_SCOPE u) 11 8 (min s.sec.fails 15)).setField (Reg.SEC_SCOPE u) 27 16 left) s

/-- Attempts are refused for now (R607). -/
def lockedOut (s : State) : Bool := decide (s.clk < s.sec.lockUntil)

/-- An attempt has failed (R607, R608): counted; from the fifth on a lockout of 2^(k − 5) s follows, 3,600 s at most. -/
def accessFail (u : Cu) (s : State) : State :=
  let k := s.sec.fails + 1
  let lock := if k < 5 then s.sec.lockUntil else s.clk + clksS (if k < 17 then min (2 ^ (k - 5)) 3600 else 3600)
  (({ s with sec := { s.sec with fails := k, lockUntil := lock } }).orReg (Reg.SEC_STATUS u) 8).showFails

/-- A scope opens (R607–R609): OPENED and ACCESS; the failures are forgotten. -/
def openScope (u : Cu) (sc : Nat) (s : State) : State :=
  let s1 := ({ s with sec := { s.sec with fails := 0, lockUntil := 0 } }).showFails
  if s1.rbit (Reg.SEC_SCOPE u) sc then s1
  else ((s1.orReg (Reg.SEC_SCOPE u) (2 ^ sc)).orReg (Reg.SEC_STATUS u) 1).eventTo u 12 0xC0 0 s.now (sc + 256) 0 0 0

/-- Bytes of SEC_BUF from an offset. -/
def bufBytes (s : State) (u : Cu) (off len : Nat) : List Byte := (List.range len).map (fun i => Tab.get 0 (off + i) (s.unit u).sec.buf)

/-- PASSWORD (R607) (log entry 166 DEDUCED). -/
def secPassword (u : Cu) (v : Word) (s : State) : State :=
  let n := field v 23 16
  let dig := Crypto.shake256 (s.deviceId u ++ s.bufBytes u 0 n)
  let good := decide (1 ≤ n) && decide (n ≤ 64) && decide (field v 11 8 = 0) && !s.lockedOut &&
    (decide (dig = s.sec.diagOwner) || (!s.diagVendorOff && decide (dig = s.sec.diagVendor)))
  let s1 : State := if good then s.openScope u 0 else s.accessFail u
  s1.setUnit u { s1.unit u with sec := { (s1.unit u).sec with buf := [] } }

/-- The nonce held is discarded (R608). -/
def dropNonce (u : Cu) (s : State) : State :=
  (List.range 8).foldl (fun (s : State) i => s.setReg (Reg.SEC_NONCE u i) 0) (s.setUnit u { s.unit u with sec := { (s.unit u).sec with nonce := none } })

/-- CHALLENGE (R608): a nonce is drawn for a scope of 1 to 3 (log entry 167 DEDUCED). -/
def secChallenge (u : Cu) (v : Word) (s : State) : State :=
  let sc := field v 11 8
  if sc = 0 ∨ 3 < sc then s
  else
    let d := s.drawNat
    let n := bytesOf 32 d.1
    let s1 := d.2.setUnit u { d.2.unit u with sec := { (d.2.unit u).sec with nonce := some (sc, s.clk) } }
    (List.range 8).foldl (fun (s : State) i => s.setReg (Reg.SEC_NONCE u i) (word (le n (4 * i) 4))) s1

/-- The signer's key may open a scope (R606, R608). -/
def scopeKey (s : State) (pub : List Byte) : Bool :=
  let d := Crypto.shake256 pub
  (decide (d = s.sec.vendorKey) && !s.vendorAccessOff) || (s.enrolled && decide (d = s.sec.ownerKey))

/-- RESPOND (R608): the scope opens, or the attempt fails; the nonce is discarded either way (log entry 168 DEDUCED). -/
def secRespond (u : Cu) (v : Word) (s : State) : State :=
  let sc := field v 11 8
  let held := match (s.unit u).sec.nonce with | some (c, _) => decide (c = sc) | none => false
  let nonce := (List.range 8).flatMap (fun i => bytesOf 4 (s.rnat (Reg.SEC_NONCE u i)))
  let pub := s.bufBytes u 0 1952
  let msg := nonce ++ s.deviceId u ++ bytesOf 1 u.num ++ bytesOf 1 sc
  let good := held && !s.lockedOut && s.scopeKey pub && Config.sigValid pub msg (s.bufBytes u 0x7A0 3309)
  let s1 : State := if held then s else s.orReg (Reg.SEC_STATUS u) 4
  (if good then s1.openScope u sc else s1.accessFail u).dropNonce u

/-- CLOSE (R609): one scope, or all of them for 0xF. -/
def secClose (u : Cu) (v : Word) (s : State) : State :=
  let sc := field v 11 8
  if sc = 15 then s.closeScopes u else if sc < 4 then closeScope u s sc else s

/-- ENROL (R591, R599) (log entry 169 DEDUCED). -/
def secEnrol (u : Cu) (s : State) : State :=
  let pub := s.bufBytes u 0 1952
  let diag := s.bufBytes u 0x7A0 64
  let flags := (byteAt (s.bufBytes u 0x7E0 1) 0) / 2 % 8 * 2 + 1
  if s.enrolled || !s.holds u || !s.rbit (Reg.SEC_SCOPE u) 0 || (flags.testBit 3 && diag.all (· == 0)) then s.orReg (Reg.SEC_STATUS u) 0x10
  else if s.sec.flash.isSome then s.orReg (Reg.SEC_STATUS u) 0x40
  else { s with sec := { s.sec with flash := some (.enrol u (Crypto.shake256 pub) diag flags) } }

/-- RAISE_FLOOR (R599, R600): to the IFLOOR of the bank both units boot; the other bank is marked invalid where its SVN lies below (log entry 170 DEDUCED). -/
def secRaise (u : Cu) (s : State) : State :=
  let b := s.sec.primaryA
  if !s.holds u || decide (b ≠ s.sec.primaryB) then s.orReg (Reg.SEC_STATUS u) 0x20
  else if s.sec.flash.isSome then s.orReg (Reg.SEC_STATUS u) 0x40
  else
    let n := min (match Tab.find b s.sec.banks with | some h => le h 0x0C 4 | none => 0) 64
    if n ≤ s.sec.floor then s
    else
      let other := 1 - b
      let low := match Tab.find other s.sec.banks with | some h => decide (hdrSvn h < n) | none => false
      let inv := if low && !s.sec.bankInvalid.testBit other then s.sec.bankInvalid + 2 ^ other else s.sec.bankInvalid
      { s with sec := { s.sec with bankInvalid := inv, recSeq := if low then s.sec.recSeq + 1 else s.sec.recSeq, flash := some (.floor u n) } }

/-- The fuses have been programmed and read back (R591, R600). -/
def fuseDone (ok : Bool) (s : State) : State :=
  match s.sec.flash with
  | some (.enrol _ key diag flags) =>
    (if ok then { s with sec := { s.sec with flash := none, ownerKey := key, diagOwner := diag, ownerFlags := flags } }
      else { s with sec := { s.sec with flash := none, ownerKey := [], ownerFlags := 0, fuseErr := true } } : State).showFuses
  | some (.floor _ n) =>
    (if ok then { s with sec := { s.sec with flash := none, floor := n } } else { s with sec := { s.sec with flash := none, fuseErr := true } } : State).showFuses
  | _ => s

/-- A write of SEC_CMD (R610): its bits in ascending order; with the core off only CLOSE acts (log entry 165 DEDUCED). -/
def secCmd (u : Cu) (v : Word) (s : State) : State :=
  if s.islandOnly u then
    let s1 : State := if v &&& 0x6E = 0 then s else s.orReg (Reg.SEC_STATUS u) 0x80
    if bit v 4 then s1.secClose u v else s1
  else
    let s1 : State := if bit v 1 then s.secPassword u v else s
    let s2 : State := if bit v 2 then s1.secChallenge u v else s1
    let s3 : State := if bit v 3 then s2.secRespond u v else s2
    let s4 : State := if bit v 4 then s3.secClose u v else s3
    let s5 : State := if bit v 5 then s4.secRaise u else s4
    if bit v 6 then s5.secEnrol u else s5

end State

open State

/-- FW_STAGE STAGE (R596). -/
def execFwStageStage (c : Cmd) (d : HostData) (s : State) : Res :=
  .next (s.runDesc c 0x16 (fun s => if c.b 4 = 0 then (s.recReads c d).stage c d else s.refuse c 5))

/-- FW_STAGE ACTIVATE (R597). -/
def execFwStageActivate (c : Cmd) (s : State) : Res :=
  .next (s.runDesc c 0x16 (fun s => if c.b 4 = 1 then s.activate c else s.refuse c 5))

/-- FW_STAGE DISCARD (R598). -/
def execFwStageDiscard (c : Cmd) (s : State) : Res :=
  .next (s.runDesc c 0x16 (fun s =>
    if c.b 4 = 2 then ({ s with sec := { s.sec with staged := none } }).complete c 0 0 0 0 0 0 else s.refuse c 5))

/-- FLASH_WRITE_DONE (R597): the write and read-back that unit `u`'s ACTIVATE asked for end. -/
def execFlashWriteDone (u : Cu) (code : Nat) (s : State) : Res :=
  match s.sec.flash with
  | some (.activate c _ _) => .next (if c.unit = u then s.flashDone (code % 16) else s)
  | _ => .next s

/-- ATTEST (R603). -/
def execAttest (c : Cmd) (s : State) : Res := .next (s.runDesc c 0x15 (fun s => s.attest c))

/-- DRT_HASH_DONE (R328, R603). -/
def execDrtHashDone (s : State) : Res := .next s.hashDone

/-- SEC_PASSWORD (R607): SEC_CMD with PASSWORD. -/
def execSecPassword (u : Cu) (v : Word) (s : State) : Res := .next (s.secCmd u (putBit v 1 true))

/-- SEC_CHALLENGE (R608): SEC_CMD with CHALLENGE. -/
def execSecChallenge (u : Cu) (v : Word) (s : State) : Res := .next (s.secCmd u (putBit v 2 true))

/-- SEC_RESPOND (R608): SEC_CMD with RESPOND. -/
def execSecRespond (u : Cu) (v : Word) (s : State) : Res := .next (s.secCmd u (putBit v 3 true))

/-- SEC_CLOSE (R609): SEC_CMD with CLOSE. -/
def execSecClose (u : Cu) (v : Word) (s : State) : Res := .next (s.secCmd u (putBit v 4 true))

/-- SEC_ENROL (R591): SEC_CMD with ENROL. -/
def execSecEnrol (u : Cu) (v : Word) (s : State) : Res := .next (s.secCmd u (putBit v 6 true))

/-- SEC_RAISE_FLOOR (R600): SEC_CMD with RAISE_FLOOR. -/
def execSecRaiseFloor (u : Cu) (v : Word) (s : State) : Res := .next (s.secCmd u (putBit v 5 true))

/-- FUSE_PROGRAM_DONE (R591, R600). -/
def execFuseProgramDone (u : Cu) (ok : Bool) (s : State) : Res :=
  let mine := match s.sec.flash with | some (.enrol w _ _ _) => decide (w = u) | some (.floor w _) => decide (w = u) | _ => false
  .next (if mine then s.fuseDone ok else s)

/-- NONCE_EXPIRY (R608): 60 s after it was drawn the nonce is discarded. -/
def execNonceExpiry (u : Cu) (s : State) : Res :=
  match (s.unit u).sec.nonce with
  | some (_, at_) => .next (if at_ + clksS 60 ≤ s.clk then s.dropNonce u else s)
  | none => .next s

end Sys2Proof.Machine
end

