-- ==== Sys2Proof/Machine/Reads.lean ====
section
/-! DEFINITION. What a read of a register answers (R11, R15, R341): the register file, the state that has a home of its own, and the halves that an
earlier read has latched; and what a read changes (R299, R378, R500, R616). -/
namespace Sys2Proof.Machine.State

/-- A register of a tile, port, cell or stack that the WL2564 lacks: it reads zero and ignores writes (R3, R4) (log entry 186 DEDUCED). -/
def absentKey (p : Part) (k : Nat) : Bool :=
  match p with
  | .wl5128 => false
  | .wl2564 =>
    let u := k % 0x1000000
    let span (a b : Nat) : Bool := decide (a ≤ k) && decide (k < b)
    span 0xC00000 0x1000000 || span 0x1014C0 0x101980 || span 0x10A000 0x10C000 || span 0x10F600 0x10F800 || span 0x112800 0x113000 ||
      span 0x116300 0x116400 || span 0x11C020 0x11C030 || (decide (0x1000000 ≤ k) && decide (0x53000 ≤ u) && decide (u < 0x66000))

/-- Bits 31:0 of DRV_TSUM and MON_TSUM from tile `t0` on: bit t while a sticky bit of tile t's status is set (R121, R156). -/
def tileSum (s : State) (status : Nat → Nat) (mask t0 : Nat) : Word :=
  word ((List.range 32).foldl (fun (a : Nat) t =>
    if t0 + t < s.part.tiles ∧ s.reg (status (t0 + t)) &&& BitVec.ofNat 32 mask ≠ 0 then a + 2 ^ t else a) 0)

/-- A status register with the state bits it shows beside its stored ones. -/
def withBits (s : State) (k mask bits : Nat) : Word := (s.reg k &&& ~~~(BitVec.ofNat 32 mask)) ||| word bits

/-- Whole units of `den` drive clocks, times `num`, that are left until a clock (log entry 183 DEDUCED). -/
def leftOf (s : State) (end_ num den : Nat) : Nat := (end_ - s.clk) * num / den

/-- TKN_LEFT: µs left in the lease, grace or reservation (R445). -/
def tknLeft (s : State) : Nat :=
  match s.tknState with
  | 1 => s.leftOf s.tkn.leaseEnd 5 1024
  | 2 => s.leftOf s.tkn.graceEnd 5 1024
  | 4 => s.leftOf s.tkn.resvEnd 5 1024
  | _ => 0

/-- Results that wait in the device for a telemetry ring of the holder (R367, R379). -/
def trWaiting (s : State) (u : Cu) (f r : Nat) : Nat :=
  if s.holds u then
    (s.mon.queues.filter (fun e => decide (s.fld (Reg.MON_RQ_CTRL e.1) 11 8 = f) && decide (s.fld (Reg.MON_RQ_CTRL e.1) 2 0 = r))).foldl
      (fun (a : Nat) e => a + e.2.store.length) 0
  else 0

/-- Registers of a drive channel (R117). -/
def drvWord (s : State) (ch off k : Nat) : Word :=
  match off with
  | 0x00 => s.drvCfgWord ch
  | 0x04 => s.drvLimitWord ch
  | 0x08 => s.drvActiveWord ch
  | 0x0C => s.drvNextWord ch
  | 0x10 => s.drvHoldWord ch
  | 0x14 => s.drvOutWord ch
  | 0x20 => s.drvBrzWord ch
  | 0x24 => (s.chan ch).acc
  | 0x28 => s.drvCorrWord ch
  | 0x2C => word (low 16 (s.chan ch).drt)
  | 0x34 => s.drvQstatWord ch
  | _ => s.reg k

/-- Registers of a monitor channel (R154). -/
def monWord (s : State) (ch off k : Nat) : Word :=
  match off with
  | 0x00 => s.monCfgWord ch
  | 0x04 => s.monFastWord ch
  | 0x08 => s.monFineWord ch
  | _ => s.reg k

/-- Registers of the tile window (R113, R117, R152, R154). -/
def tileWord (s : State) (k : Nat) : Word :=
  let t := (k - 0x800000) / 0x20000
  let d := (k - 0x800000) % 0x20000
  if d = 4 then s.withBits k 0x180 (128 * b2n s.drv.held + 256 * b2n s.drv.parked)
  else if 0x400 ≤ d ∧ d < 0x4000 then s.drvWord (240 * t + (d - 0x400) / 0x40) ((d - 0x400) % 0x40) k
  else if d = 0x4004 then s.withBits k 0xC00 (1024 * s.dacUser t)
  else if 0x4400 ≤ d ∧ d < 0x5000 then s.monWord (96 * t + (d - 0x4400) / 0x20) ((d - 0x4400) % 0x20) k
  else s.reg k

/-- Base registers outside the tile window. -/
def baseWord (s : State) (k : Nat) : Word :=
  if k = Reg.DRV_TSUM_LO then s.tileSum Reg.DRV_STATUS 0x7F 0
  else if k = Reg.DRV_TSUM_HI then s.tileSum Reg.DRV_STATUS 0x7F 32
  else if k = Reg.MON_TSUM_LO then s.tileSum Reg.MON_STATUS 0x3F9 0
  else if k = Reg.MON_TSUM_HI then s.tileSum Reg.MON_STATUS 0x3F9 32
  else if k = Reg.MON_GRID_LO then word s.time.g
  else if k = Reg.RTE_VALID then word s.rteValid
  else if Reg.GST_SLOT 0 ≤ k ∧ k ≤ Reg.GST_SLOT 255 then s.slotWord ((k - Reg.GST_SLOT 0) / 4)
  else if k = Reg.LOOP_STATUS then s.withBits k 3 (b2n s.loopsRun + 2 * b2n (s.rbit Reg.LOOP_CTRL 0 && !s.loopsRun))
  else if k = Reg.TIM_NOW_NS then word s.time.ns
  else if k = Reg.TKN_LEFT then word s.tknLeft
  else if k = Reg.TKN_WTR_LEFT then word (match s.tkn.wtrEnd with | some e => s.leftOf e 1 204800000 | none => 0)
  else if k = Reg.FLT_STATUS then s.withBits k 0x40 (64 * b2n s.errLow)
  else if k = Reg.REC_STATUS then s.withBits k 2 (2 * b2n s.recording)
  else s.reg k

/-- Registers of function `f` of a unit, by their offset in its 16 KiB (R379) (log entry 185 DEDUCED). -/
def fnWord (s : State) (u : Cu) (f d k : Nat) : Word :=
  if d = 0x28 then word (s.fnFlights u f)
  else if 0x400 ≤ d ∧ d < 0xC00 ∧ d % 0x20 = 0xC then
    let q := (d - 0x400) / 0x20
    s.withBits k 7 (4 * b2n (s.blocked u f q) + 2 * b2n (s.sqEligible u f q) + b2n (!s.sqBusy u f q))
  else if 0xC00 ≤ d ∧ d < 0x1400 ∧ d % 0x20 = 0x10 then
    let c := (d - 0xC00) / 0x20
    word (2 ^ 17 * b2n (s.cqFull u f c) + 2 ^ 16 * b2n (s.cq u f c).phase + (s.cq u f c).tail % s.cqSize u f c)
  else if 0x1400 ≤ d ∧ d < 0x1500 ∧ d % 0x20 = 0x10 then s.withBits k 0xFFFF (s.trWaiting u f ((d - 0x1400) / 0x20) % 65536)
  else s.reg k

/-- Registers of a unit, by their offset in its space (R340). -/
def unitWord (s : State) (u : Cu) (d k : Nat) : Word :=
  if d = 8 then s.withBits k 7 (4 * b2n (s.holds u) + 2 * b2n (s.islandOnly u) + b2n (s.unit u).linkUp)
  else if d = 0x3004 then word (s.unit u).flights.length
  else if d = 0x6000 then s.withBits k 2 (2 * b2n ((List.range 32).any (fun i => s.rbit (Reg.FLT_U_SRC_STAT u i) 31)))
  else if d = 0x10004 then s.withBits k 2 (2 * b2n ((List.range 8).any (fun i => decide (s.reg (Reg.PMC_OVF u i) ≠ 0))))
  else if d = 0x10008 ∨ (0x10400 ≤ d ∧ d < 0x10800) then (s.pmcSettle u).reg k
  else if 0x40000 ≤ d ∧ d < 0x66000 then
    (if s.holds u then (if (d - 0x40000) / 0x20 < s.nCells ∧ d % 0x20 < 0x14 then s.cellWord ((d - 0x40000) / 0x20) (d % 0x20 / 4) else 0) else s.reg k)
  else if 0xC0000 ≤ d then s.fnWord u ((d - 0xC0000) / 0x4000) ((d - 0xC0000) % 0x4000) k
  else s.reg k

/-- The keys whose value a read of `k` latches: the high half of a 64-bit pair, and of TIM_NOW_NS the next four registers. The odd half of a
chained pair of counters is latched by the even one (R616). -/
def latchedBy (s : State) (k : Nat) : List Nat :=
  if k = Reg.TIM_NOW_NS then [k + 4, k + 8, k + 12, k + 16]
  else if [Reg.MON_GRID_LO, Reg.GST_LAST_D_LO, Reg.CAL_GRID_LO, Reg.TKN_IMG_GEN_LO, Reg.THM_ROUND_LO, Reg.HK_INJ_G_LO, Reg.REC_BSEQ_LO,
      Reg.REC_FREEZE_G_LO, Reg.REC_RP_G_LO, Reg.REC_RP_DIFF_G_LO].contains k then [k + 4]
  else match keyUnit k with
  | none => []
  | some u =>
    let d := k - unitKey u 0
    if d = 0x11008 ∨ (0x11100 ≤ d ∧ d < 0x111D0 ∧ d % 8 = 0) ∨ (0x5100 ≤ d ∧ d < 0x5900 ∧ d % 0x80 = 0x60) then [k + 4]
    else if 0x10400 ≤ d ∧ d < 0x10800 ∧ d % 8 = 0 ∧ s.rbit (Reg.PMC_EVT u ((d - 0x10400) / 4)) 31 then [k + 4]
    else []

/-- A register that reads as it was latched, and never otherwise; the odd half of a chained pair is not one. -/
def readsLatched (s : State) (k : Nat) : Bool :=
  match keyUnit k with
  | none => (s.latchedBy (k - 4)).contains k || (decide (Reg.TIM_NOW_NS < k) && decide (k ≤ Reg.TIM_NOW_NS + 16))
  | some u => decide (k - unitKey u 0 < 0x10400 ∨ 0x10800 ≤ k - unitKey u 0) && (s.latchedBy (k - 4)).contains k

/-- The value a register has now, whatever has been latched. -/
def liveWord (s : State) (k : Nat) : Word :=
  if absentKey s.part k then 0
  else match keyUnit k with
  | some u => s.unitWord u (k - unitKey u 0) k
  | none => if 0x800000 ≤ k then s.tileWord k else s.baseWord k

/-- What a read of a register answers (R11, R15). -/
def readWord (s : State) (k : Nat) : Word :=
  if s.readsLatched k then Tab.get 0 k s.latch
  else match Tab.find k s.latch with
  | some v => v
  | none => s.liveWord k

/-- What a latching read takes for a key: the next four registers of TIM_NOW_NS are device time and the drive-clock counter (R299). -/
def latchValue (s : State) (k : Nat) : Word :=
  if k = Reg.TIM_NOW_SEC_LO then word s.time.sec
  else if k = Reg.TIM_NOW_SEC_HI then word (s.time.sec / 2 ^ 32)
  else if k = Reg.TIM_DCLK_LO then word s.clk
  else if k = Reg.TIM_DCLK_HI then word (s.clk / 2 ^ 32)
  else if k = Reg.MON_GRID_HI then word (s.time.g / 2 ^ 32)
  else s.liveWord k

/-- The odd half of a chained pair of counters, which gives a latched value once (R616) (log entry 180 DEDUCED). -/
def readsOnce (k : Nat) : Bool :=
  match keyUnit k with
  | some u => decide (0x10400 ≤ k - unitKey u 0) && decide (k - unitKey u 0 < 0x10800)
  | none => false

/-- What one register read changes (R378, R500, R616): it latches, spends a latched odd half, or clears the largest value of Q_RTT or MX_OUTm. -/
def readEffect (k : Nat) (s : State) : State :=
  let spent : State := if readsOnce k && (Tab.find k s.latch).isSome then { s with latch := Tab.erase k s.latch } else s
  let s1 := (s.latchedBy k).foldl (fun (t : State) h => { t with latch := Tab.set h (s.latchValue h) t.latch }) spent
  if Reg.MX_OUT 0 ≤ k ∧ k ≤ Reg.MX_OUT 11 then s1.setField k 24 16 0
  else match keyUnit k with
  | some u => if k = Reg.Q_RTT u then s1.setField k 31 16 0 else s1
  | none => s1

end Sys2Proof.Machine.State
end

