-- ==== Sys2Proof/Machine/ReplayOps.lean ====
section
/-! DEFINITION. The recording as bytes (R569, R570), what a replay loads at its start, and how it ends (R582, R585). -/
namespace Sys2Proof.Machine

namespace State

/-! ### Blocks and records as bytes (R569, R570) -/

/-- One record: its 8-byte header, and its payload in 8-byte units. -/
def rrBytes (r : RecRec) : List Byte :=
  bytesOf 1 r.typ ++ bytesOf 1 (b2n r.cont) ++ bytesOf 2 (recLen r / 8) ++ bytesOf 4 r.g ++ fit (recLen r - 8) r.payload

/-- A block's 64-byte header with a CRC. -/
def blockHead (b : Block) (crc : Nat) : List Byte :=
  bytesOf 4 0x4B4C4252 ++ bytesOf 2 0x0100 ++ bytesOf 1 b.unit.num ++ bytesOf 1 b.mode ++ bytesOf 8 b.bseq ++ bytesOf 8 b.gFirst ++ bytesOf 8 b.gLast ++
    bytesOf 4 b.used ++ bytesOf 2 b.tgen ++ bytesOf 2 (b2n b.gap + 2 * b2n b.freeze) ++ bytesOf 4 b.lost ++ bytesOf 16 0 ++ bytesOf 4 crc

/-- The USED bytes of a block (R569). -/
def blockBytes (b : Block) : List Byte :=
  let body := b.recs.flatMap rrBytes
  blockHead b (Crypto.crc32c (blockHead b 0 ++ body)).toNat ++ body

/-- Where block `n` of the recorder region lies (R476, R477). -/
def blockAddr (p : Part) (n : Nat) : Nat := match p with
  | .wl5128 => if n < 57344 then 0x200000000 + n * 2 ^ 20 else 0x1200000000 + (n - 57344) * 2 ^ 20
  | .wl2564 => 0x400000000 + n * 2 ^ 20

/-- Bytes of a block of the recorder region: of the ring's block, or of the user region behind it. -/
def blockSlice (s : State) (n off len : Nat) : List Byte :=
  match Tab.find n s.recd.ring with
  | some b => fit len ((blockBytes b).drop off)
  | none => (List.range len).map (fun i => s.dramAt (blockAddr s.part n + off + i))

/-- A record read from a block: type, CONT, length in 8-byte units, the low half of G, the payload. -/
structure Rec where
  typ : Nat
  cont : Bool
  len : Nat
  g : Nat
  payload : List Byte
  deriving DecidableEq, Repr

/-- The record at an offset in 8-byte units (log entry 204 DEDUCED). -/
def recAt (s : State) (n off : Nat) : Rec :=
  let h := s.blockSlice n (8 * off) 8
  let len := max 1 (le h 2 2)
  { typ := byteAt h 0, cont := (byteAt h 1) % 2 = 1, len := len, g := le h 4 4, payload := s.blockSlice n (8 * off + 8) (8 * len - 8) }

/-- A field of the header of block `n` (R569). -/
def blockField (s : State) (n off len : Nat) : Nat := le (s.blockSlice n 0 64) off len

/-- Block `n` is part of a recording: its MAGIC and its CRC hold (R568). -/
def blockOk (s : State) (n : Nat) : Bool :=
  let used := min (s.blockField n 32 4) (2 ^ 20)
  let b := s.blockSlice n 0 used
  decide (s.blockField n 0 4 = 0x4B4C4252) && decide (64 ≤ used) &&
    decide ((Crypto.crc32c (b.take 60 ++ bytesOf 4 0 ++ b.drop 64)).toNat = s.blockField n 60 4)

/-- The place where the next record lies: past the end of a block, or at its FILL, the first record of the next block (R568). -/
def recNext (s : State) (n off : Nat) : Nat × Nat :=
  if s.blockField n 32 4 ≤ 8 * off || decide ((s.recAt n off).typ = 0) then ((n + 1) % s.ringBlocks, 8) else (n, off)

/-- The payload of a record and of the records that continue it, and where the next record lies; `fuel` bounds the pieces. -/
def recWhole (s : State) : Nat → Nat × Nat → List Byte × (Nat × Nat)
  | 0, p => ([], p)
  | fuel + 1, p =>
    let r := s.recAt p.1 p.2
    let x : List Byte × (Nat × Nat) := if r.cont then recWhole s fuel (s.recNext p.1 (p.2 + r.len)) else ([], (p.1, p.2 + r.len))
    (r.payload ++ x.1, x.2)

/-! ### The start of a replay (R582) -/

/-- One arm of a trajectory record in memory (R256). -/
def armAt (s : State) (a pad i : Nat) : Arm :=
  let rd (o n : Nat) : Nat := le ((List.range n).map (fun k => s.dramAt (a + o + k))) 0 n
  let e := 0x140 + 8 * i
  { cell := rd e 2, arm := rd (e + 2) 1, changed := rd (e + 3) 1 % 2 = 1, slope := sext 16 (rd (e + 4) 2), peak := rd (e + 6) 2,
    pts := (List.range 200).map (fun j => sext 16 (rd (0x140 + 8 * pad + 2 * pad * j + 2 * i) 2)), top := none }

/-- The trajectory record at an address (R255, R256). -/
def trajAt (s : State) (a : Nat) : Traj :=
  let rd (o n : Nat) : Nat := le ((List.range n).map (fun k => s.dramAt (a + o + k))) 0 n
  let arms := min (rd 0 2) 2048
  let pad := (arms + 31) / 32 * 32
  { dropped := rd 2 2, clipped := rd 4 2, sources := rd 6 2, tgen := rd 8 4, originSlot := rd 0xC 2, originBgen := rd 0xE 2, slot := rd 0x10 2,
    bgen := rd 0x12 2, tBaste := (List.range 64).map (fun t => sext 32 (rd (0x40 + 4 * t) 4)), arms := (List.range arms).map (s.armAt a pad),
    half := a.testBit 20 }

/-- The slot that 32 KiB of memory hold (R183, R184), with a state. -/
def slotAt (s : State) (a st : Nat) : Slot :=
  let rd (o n : Nat) : Nat := le ((List.range n).map (fun k => s.dramAt (a + o + k))) 0 n
  let h := 0x7200
  { st := st, epoch := rd h 4, bgen := rd (h + 4) 2, flags := rd (h + 6) 1, originSlot := rd (h + 8) 2, originBgen := rd (h + 0xA) 2,
    calset := rd (h + 0xC) 4, cellsChanged := rd (h + 0x1C) 2, sec := rd (h + 0x20) 4, ns := rd (h + 0x24) 4, vec := rd 0x7240 608,
    map := (List.range 640).map (fun k => s.dramAt (a + 0x74A0 + k)), img := (List.range (3 * s.nCells)).map (fun i => rd (2 * i) 2),
    traj := if (rd (h + 6) 1).testBit 3 then some (s.trajAt (rd (h + 0x10) 8)) else none }

/-- The image a checkpoint names, if it is held (R575, R582). -/
def imageNamed (s : State) (gen : Nat) : Option Image := (s.tkn.images.map Prod.snd).find? (fun im => decide (im.gen = gen))

/-- REC_RP_STATUS.CHECK of a record that should be a CHECKPOINT (R582, R587). -/
def rpCheck (s : State) (r : Rec) (p : List Byte) : Nat :=
  if r.typ ≠ 0x0B then 16
  else
    let words (o : Nat) : List Nat := (List.range 16).map (fun i => le p (o + 4 * i) 4)
    let a := s.rnat64 Reg.REC_RP_SLOTS_LO Reg.REC_RP_SLOTS_HI
    b2n (words 16 != (List.range 16).map (fun i => s.rnat (Reg.FAB_HASH i))) + 2 * b2n (words 80 != (List.range 16).map (fun i => s.rnat (Reg.CAL_HASH i))) +
      4 * b2n (s.imageNamed (le p 8 8)).isNone + 8 * b2n (!recRegion s.part a || !recRegion s.part (a + 0x7FFFFF))

/-- The address and value pairs of a checkpoint from offset `o` on. -/
def ckptWrites (p : List Byte) (o : Nat) : List (Nat × Word) :=
  (List.range ((p.length - o) / 16)).map (fun i => (le p (o + 16 * i) 8, word (le p (o + 16 * i + 8) 4)))

/-- The key of the register at an internal address, a unit's own register being the bench's holder's (R471). -/
def rpKey (s : State) (a : Nat) : Nat :=
  if 0x7000000000 ≤ a then a - 0x7000000000 + 0x100000
  else if 0x6000000000 ≤ a then unitKey s.tknUnit (a - 0x6000000000)
  else a - 0x5010000000 + 0x800000

/-- What was in hand gives way: Gusts asked for and waiting loop commands (ABORTED), a preload, an armed slot, a Lull, outputs, a Squall run; a
verification ends. -/
def rpClear (s0 : State) : State :=
  let cmds := s0.gst.reqs.filterMap gustCmd ++ s0.loop.wraps.map (fun w => w.cmd) ++ s0.loop.modeCmds.map Prod.fst
  let s : State := cmds.foldl (fun (s : State) c => s.refuse c 0x0B) (s0.finishVerify).abortSquall
  let g : GstSt := { s.gst with reqs := [], pins := [], pre := none, armed := none, verify := none, lull := none }
  let l : LoopSt := { s.loop with outs := [], squall := none, wraps := [], instAt := none, modeCmds := [] }
  { s with gst := g, loop := l, recd := { s.recd with rpEnd := 0, rpWant := [], rpMade := [], rpGust := [] } }

/-- Values that follow the checkpoint's registers: class registers in force, the settings of the monitors, spares in force. -/
def rpFollow (s : State) : State :=
  let cls : List (Nat × Word) := (List.range 16).foldl (fun (l : List (Nat × Word)) n =>
    (List.range 9).foldl (fun (l : List (Nat × Word)) j =>
      let k := Reg.LOOP_KP n + 4 * j
      Tab.put (regReset s.part k) k (s.reg k) l) l) s.loop.clsVals
  let mon (ch : Nat) (m : Mon) : Mon :=
    let v := s.reg (Reg.MON_CFG (ch / 96) (ch % 96))
    { m with gain := field v 9 8, filt := bit v 10, auto := bit v 11, req := none }
  ({ s with loop := { s.loop with clsVals := cls }, mon := { s.mon with chans := Tab.mapAll mon s.mon.chans } }).spReapply

/-- The channels take the drive image of the active slot, the arm a loop drives its integrator. -/
def rpCodes (s : State) : State :=
  let i := s.fld Reg.GST_ACTIVE 15 0
  if 256 ≤ i then s
  else
    let x := s.slot i
    let named := namedPairs x
    let s1 : State := { s with gst := { s.gst with activeVec := x.vec, activeImg := x.img, activeMap := named } }
    let one (c : Chan) : Chan :=
      let img := x.img.getD (3 * c.elem + c.kind) 0
      let v := if c.kind ≤ 1 then (match s1.autoI c.elem with | some n => if s1.armOf c.elem (s1.cellState c.elem) = c.kind then n.toNat else img | none => img)
               else img
      { c with active := v, next := v, r := v, x := v, cnt := 0, queue := [], drt := 0 }
    s1.onCells (fun _ => true) one

/-- The engine takes the checkpoint's state (R582): its registers, the slots from REC_RP_SLOTS, the loop state of its image exactly. Device time
is the image's. -/
def rpLoad (p : List Byte) (s : State) : State :=
  let heads := [(Reg.CAL_GEN, 144), (Reg.DRT_TGEN, 148), (Reg.FAB_EPOCH, 152), (Reg.GST_ACTIVE, 156), (Reg.GST_SEQ, 160)]
  let a := s.rnat64 Reg.REC_RP_SLOTS_LO Reg.REC_RP_SLOTS_HI
  let s1 := heads.foldl (fun (s : State) e => s.setReg e.1 (word (le p e.2 4))) s
  let s2 := (List.range 256).foldl (fun (s : State) i => s.setSlot i (s.slotAt (a + 0x8000 * i) (le p (164 + 4 * i) 4 / 2 ^ 30))) s1
  let s3 := ((ckptWrites p (164 + 1024)).foldl (fun (s : State) e => s.setReg (s.rpKey e.1) e.2) s2).rpFollow
  let im := s.imageNamed (le p 8 8)
  let cells : List (Nat × CellSt) := match im with | some im => im.cells | none => []
  let s4 := s3.loop.cells.foldl (fun (s : State) e => s.setLoopCell e.1 { s.loopCell e.1 with st := Tab.get {} e.1 cells, fresh := false, presetDue := false, modeReq := none, lightReq := none }) s3
  let t : TimeSt := match im with | some im => { s4.time with sec := im.sec, ns := im.ns, frac := 0 } | none => s4.time
  ({ s4 with time := { t with g := le p 0 8 } }).rpCodes

/-- A replay ends (R585): VALID 0, every slot EMPTY, every loop MANUAL; RESULT says why. Timed commands of the recording go, the pads follow
FAB_CTRL.EN and the bench's own safe state again (log entry 206 DEDUCED). -/
def endReplay (result : Nat) (s : State) : State :=
  let s1 := (((s.setReg Reg.FAB_STATUS (s.reg Reg.FAB_STATUS &&& ~~~1)).setReg Reg.FAB_GEOM 0).setReg Reg.FAB_CELLS 0)
  let s2 := ((({ s1 with fab := { s1.fab with fdr := none } }).emptySlots).allManual).rpClear
  let own (x : UnitSt) : List Timed := x.timed.filter (fun t => x.flights.any (fun a => decide (a.func = t.cmd.func) && decide (a.sq = t.cmd.sq) && decide (a.tag = t.cmd.tag)))
  let s3 : State := { s2 with ua := { s2.ua with timed := own s2.ua }, ub := { s2.ub with timed := own s2.ub } }
  let s4 : State := { s3 with recd := { s3.recd with replay := false }, drv := { s3.drv with held := decide (s3.safeState ≠ 0) || s3.gap, parked := decide (s3.safeState = 2) } }
  ((s4.setField Reg.FAB_CTRL 0 0 (b2n s4.fab.powered)).clrReg Reg.REC_RP_STATUS 1).setField Reg.REC_RP_STATUS 31 28 result

/-- START is refused (R582). -/
def rpRefused (pads : Bool) (s : State) : Bool :=
  s.recd.replay || (s.rbit Reg.REC_CTRL 0 && !s.rbit Reg.REC_STATUS 2) || (pads != s.fabOn)

/-- START of a replay (R582, R583): with PADS a HOLD stays in force from here to its end. A block recorded in mode 1 cannot be replayed (R572) (log entries 203 DEDUCED, 207 DEDUCED). -/
def rpStart (pads : Bool) (s : State) : State :=
  if s.rpRefused pads then s.setField Reg.REC_RP_STATUS 31 28 7
  else
    let at_ := (s.fld Reg.REC_RP_FROM 16 0, s.fld Reg.REC_RP_FROM_OFF 16 0)
    let whole := s.recWhole 64 at_
    let check := s.rpCheck (s.recAt at_.1 at_.2) whole.1
    let s0 := (s.setField Reg.REC_RP_STATUS 31 28 0).setField Reg.REC_RP_STATUS 20 16 check
    if check ≠ 0 then s0.endReplay 4
    else if s0.blockField at_.1 7 1 = 1 then s0.endReplay 5
    else
      let s1 : State := (if pads then s0.enterHold 0xFFFF 0 else s0)
      let s2 : State := { s1.rpClear with recd := { s1.rpClear.recd with replay := true, rpAt := whole.2 }, drv := { s1.drv with held := false, parked := false } }
      let s3 := s2.rpLoad whole.1
      ((s3.orReg Reg.REC_RP_STATUS 1).setReg Reg.REC_RP_DIFFS 0).setReg64 Reg.REC_RP_G_LO Reg.REC_RP_G_HI s3.time.g

/-- A write of REC_RP_CTRL (R582, R585, R586): its modes, then STOP, then START. -/
def rpCtrl (v : Word) (s : State) : State :=
  let s1 := s.maskWrite Reg.REC_RP_CTRL 3 v
  let s2 : State := if bit v 30 && s1.recd.replay then s1.endReplay 6 else s1
  if bit v 31 then s2.rpStart (bit v 0) else s2

end State
end Sys2Proof.Machine
end

