-- ==== Sys2Proof/Machine/Site.lean ====
section
/-! DEFINITION. The site: bias nets, sense currents and the site check (R67–R84). -/
namespace Sys2Proof.Machine

namespace State

/-- The role a drive pad is judged by (R81): its FDR role in MODE 0; every pad as a TRIM pad in MODE 1 (log entry 33). -/
def padRole (s : State) (mode1 : Bool) (ch : Nat) : Nat := if mode1 then 2 else (s.chan ch).role

/-- The code of a drive pad (R82); `bridged` says that a neighbour under test marked it too (log entry 75 DEDUCED). -/
def drvPadCode (role : Nat) (bridged : Bool) (m : PadMeas) : Nat :=
  let bridge := m.bridge.isSome || bridged
  if role = 3 ∨ role = 4 then
    if 1000 ≤ m.leakNa then 3 else if bridge then 4 else if m.leakNa = 0 then 8 else 0
  else if m.atLimit then 1
  else if m.volt < 20 then 2
  else if bridge then 4
  else if role = 1 ∧ ¬(4000 ≤ m.volt ∧ m.volt ≤ 11000) then 6
  else 0

/-- The code of a monitor pad (R82). -/
def monPadCode (m : PadMeas) : Nat :=
  if 500 < m.light then 5
  else if m.capFf < 10 then 1
  else if m.stepOver then 2
  else if 1000 < m.dark then 3
  else if 50 ≤ m.capFf ∧ m.capFf ≤ 2000 then 0
  else 6

/-- The code of a sense pad (R82). -/
def sensePadCode (m : PadMeas) : Nat :=
  if m.atLimit then 1 else if m.volt < 500 then 2 else if 3000 ≤ m.volt ∧ m.volt ≤ 9000 then 0 else 6

/-- A pad is tested (R78, R82): its kind is enabled, its tile is, and in MODE 0 the FDR names it. -/
def padTested (s : State) (k : SiteCheck) (p : Nat) : Bool :=
  if p < 15360 then k.drive && decide (p / 240 < s.part.tiles) && (k.mode1 || decide ((s.chan p).role ≠ 0))
  else if p < 21504 then
    let m := p - 15360
    k.mon && decide (m / 96 < s.part.tiles) && (k.mode1 || decide ((Tab.get ({} : Mon) m s.mon.chans).role ≠ 0))
  else
    let q := p - 21504
    k.sense && decide (q / 2 < s.part.tiles) && (k.mode1 || (match s.fab.fdr with | some f => f.sense.any (fun e => decide (e.1 = q)) | none => false))

/-- What was measured at a pad; a pad the bench does not list reads zero. -/
def measOf (meas : List (Nat × PadMeas)) (p : Nat) : PadMeas :=
  match meas.find? (fun e => decide (e.1 = p)) with
  | some e => e.2
  | none => { volt := 0, volt2 := 0, atLimit := false, leakNa := 0, bridge := none, capFf := 0, dark := 0, light := 0, stepOver := false }

/-- The code of pad `p` (R82). -/
def padCode (s : State) (k : SiteCheck) (meas : List (Nat × PadMeas)) (p : Nat) : Nat :=
  if !s.padTested k p then 7
  else
    let m := measOf meas p
    if p < 15360 then
      drvPadCode (s.padRole k.mode1 p) (meas.any (fun e => decide (e.2.bridge = some p) && s.padTested k e.1)) m
    else if p < 21504 then monPadCode m
    else sensePadCode m

/-- The 8-byte record of a pad (R80). -/
def padRecord (s : State) (k : SiteCheck) (meas : List (Nat × PadMeas)) (p : Nat) : List Byte :=
  let m := measOf meas p
  let t := s.padTested k p
  let other := match m.bridge with
    | some q => q
    | none => match meas.find? (fun e => decide (e.2.bridge = some p)) with | some e => e.1 | none => 0xFFFF
  let a := if !t then 0 else if 15360 ≤ p ∧ p < 21504 then m.capFf else m.volt
  let b := if p < 15360 then (if t then other else 0xFFFF) else if !t then 0 else if p < 21504 then m.dark else m.volt2
  bytesOf 1 (s.padCode k meas p) ++ bytesOf 1 0 ++ bytesOf 2 a ++ bytesOf 2 b ++ bytesOf 2 0

/-- A site check completes (R80): the table, the counts, SITE_FIRST, DONE. -/
def siteDone (k : SiteCheck) (meas : List (Nat × PadMeas)) (s : State) : State :=
  let codes := (List.range 21632).map (fun p => (p, s.padCode k meas p))
  let count (n : Nat) : Nat := min 0xFFFF (codes.filter (fun e => decide (e.2 = n))).length
  let first := match codes.find? (fun e => decide (1 ≤ e.2) && decide (e.2 ≤ 6)) with | some e => e.1 | none => 0xFFFF
  let table := (List.range 21632).map (fun p => s.padRecord k meas p)
  let s1 : State := match s.holder with
    | some u => (table.foldl (fun (a : Nat × State) r => (a.1 + 8, a.2.hostWrite u a.1 r)) (k.dest, s)).2
    | none => s
  let s2 := ((s1.setReg Reg.SITE_CNT0 (word (count 1 + 2 ^ 16 * count 2))).setReg Reg.SITE_CNT1 (word (count 3 + 2 ^ 16 * count 4))).setReg
    Reg.SITE_CNT2 (word (count 5 + 2 ^ 16 * count 6))
  let s3 : State := { (s2.setReg Reg.SITE_FIRST (word first)) with site := { s2.site with check := none } }
  (s3.clrReg Reg.SITE_STATUS 1).orReg Reg.SITE_STATUS 8

/-- SITE_CTRL (R67, R68, R70): BIAS_EN from 0 to 1 takes every tile's bias nets back. -/
def siteCtrl (v : Word) (s : State) : State :=
  let s1 := s.setReg Reg.SITE_CTRL (v &&& 3)
  if bit v 0 && !s.rbit Reg.SITE_CTRL 0 then { s1 with site := { s1.site with released := [] } } else s1

/-- START of a check (R79). -/
def siteStart (s : State) : State :=
  let c := s.reg Reg.SITE_CHECK_CTRL
  let dest := s.rnat64 Reg.SITE_RES_LO Reg.SITE_RES_HI
  if s.fabOn || s.site.check.isSome || (!bit c 2 && !s.fabValid) || decide (dest = 0) then s.orReg Reg.SITE_STATUS 0x20
  else
    let k : SiteCheck := { mode1 := bit c 2, drive := bit c 3, mon := bit c 4, sense := bit c 5, dest := dest, startClk := s.clk }
    ({ s with site := { s.site with check := some k } }).orReg Reg.SITE_STATUS 1

/-- A write of SITE_CHECK_CTRL (R12, R78): the scope, STOP, then START. -/
def siteCheckCtrl (v : Word) (s : State) : State :=
  let s1 := s.rwlWrite Reg.SITE_CHECK_CTRL 0 0x3C (s.fabOn || s.site.check.isSome) Reg.SITE_STATUS 0x40 v
  let s2 : State := if bit v 1 then s1.abortSite 3 else s1
  if bit v 0 then s2.siteStart else s2

end State

open State

/-- SITE_BIAS_ENABLE (R67). -/
def execSiteBiasEnable (u : Cu) (v : Word) (s : State) : Res := .next (s.baseWrite u Reg.SITE_CTRL v (fun s => s.siteCtrl v))

/-- SITE_SENSE_ENABLE (R70). -/
def execSiteSenseEnable (u : Cu) (v : Word) (s : State) : Res := .next (s.baseWrite u Reg.SITE_CTRL v (fun s => s.siteCtrl v))

/-- SITE_BIAS_FAULT (R68): the tiles whose bias net draws more than 2 mA, while the nets are driven. -/
def execSiteBiasFault (tiles : List Nat) (s : State) : Res :=
  let hit := (tiles.filter (fun t => decide (t < s.part.tiles) && !s.site.released.contains t)).eraseDups
  if !s.rbit Reg.SITE_CTRL 0 || hit.isEmpty then .next s
  else
    let s1 : State := { s with site := { s.site with released := s.site.released ++ hit } }
    .next ((s1.orReg Reg.SITE_STATUS 0x80).report (hit.map (fun t => { src := 22, detail := t })))

/-- SITE_CHECK_START (R79). -/
def execSiteCheckStart (u : Cu) (v : Word) (s : State) : Res :=
  .next (s.baseWrite u Reg.SITE_CHECK_CTRL (v ||| 1) (fun s => s.siteCheckCtrl (v ||| 1)))

/-- SITE_CHECK_STOP (R84). -/
def execSiteCheckStop (u : Cu) (v : Word) (s : State) : Res :=
  .next (s.baseWrite u Reg.SITE_CHECK_CTRL (v ||| 2) (fun s => s.siteCheckCtrl (v ||| 2)))

/-- SITE_CHECK_DONE (R80). -/
def execSiteCheckDone (meas : List (Nat × PadMeas)) (s : State) : Res :=
  match s.site.check with
  | some k => .next (s.siteDone k meas)
  | none => .next s

end Sys2Proof.Machine
end

