-- ==== Sys2Proof/Machine/Thermal.lean ====
section
/-! DEFINITION. The housekeeping round and the thermal states (R546–R567). -/
namespace Sys2Proof.Machine

namespace State

/-! ### Sensors (R546–R549) -/

/-- The reading of a device diode: valid and not SUSPECT, in 0.01 °C. -/
def diode (s : State) (c : Nat) : Option Int :=
  let w := s.reg (Reg.HK_VALUE c)
  if bit w 31 && !bit w 30 then some (sext 20 w.toNat) else none

/-- The record in force names a sense pad, and currents may flow into it (R39, R70). -/
def senseNamed (s : State) (pad : Nat) : Bool :=
  match s.fab.fdr with | some f => f.sense.any (fun e => decide (e.1 = pad)) | none => false

/-- The last reading of a PIC diode that is named and not SUSPECT. -/
def picDiode (s : State) (pad : Nat) : Option Int :=
  if s.senseNamed pad && !s.rbit (Reg.THM_PSUSPECT (pad / 32)) (pad % 32) then Tab.find pad s.thm.pic else none

/-- The tiles that share an edge with a tile of the 8 × 8 grid (R58). -/
def tileNeighbours (t : Nat) : List Nat :=
  (if 8 ≤ t then [t - 8] else []) ++ (if t % 8 = 0 then [] else [t - 1]) ++ (if t % 8 = 7 then [] else [t + 1]) ++ (if t < 56 then [t + 8] else [])

/-- Readings of the neighbourhood of a diode; PIC diodes are numbered 144 + pad (R547). -/
def neighbourhood (s : State) (d : Nat) : List Int :=
  if d < 128 then
    let t := d / 2
    ([t] ++ tileNeighbours t).flatMap (fun n => ([2 * n, 2 * n + 1].filter (· ≠ d)).filterMap s.diode) ++ [2 * t, 2 * t + 1].filterMap s.picDiode
  else if d < 144 then
    (((List.range 8).map (fun j => (if d < 136 then 128 else 136) + j)).filter (· ≠ d)).filterMap s.diode
  else
    let p := d - 144
    let t := p / 2
    [2 * t, 2 * t + 1].filterMap s.diode ++ ([2 * t, 2 * t + 1].filter (· ≠ p)).filterMap s.picDiode

/-- Insert into an ascending list. -/
def insertI (a : Int) : List Int → List Int
  | [] => [a]
  | b :: r => if a ≤ b then a :: b :: r else b :: insertI a r

/-- The median of readings, the lower middle one of an even count (R547). -/
def diodeMedian (l : List Int) : Option Int :=
  let sorted := l.foldl (fun a x => insertI x a) []
  if sorted.isEmpty then none else some (sorted.getD ((sorted.length - 1) / 2) 0)

/-- The reading of a diode or PIC diode by its number. -/
def anyDiode (s : State) (d : Nat) : Option Int := if d < 144 then s.diode d else s.picDiode (d - 144)

/-- What the comparison with the median makes of a diode this round: not checked, or rounds off its median so far (R547). -/
def checkDiode (s : State) (d : Nat) : Option Nat :=
  match s.anyDiode d with
  | none => some 0
  | some v =>
    let nb := s.neighbourhood d
    if nb.length < 3 then none
    else match diodeMedian nb with
      | some m => if (v - m).natAbs > 600 then some (Tab.get 0 d s.thm.off + 1) else some 0
      | none => none

/-- The register that shows a diode's reading: a PIC diode only in the round that reads it. -/
def diodeReg (s : State) (d : Nat) : Option Nat :=
  if d < 144 then some (Reg.HK_VALUE d)
  else if (d - 144) / 16 = s.rnat Reg.THM_ROUND_LO % 8 then some (Reg.HK_VALUE (144 + (d - 144) % 16)) else none

/-- The source that reports a SUSPECT diode (R523, R547). -/
def suspectSrc (d : Nat) : Nat := if d < 128 then 11 else if d < 136 then localSrc .a 11 else if d < 144 then localSrc .b 11 else 11

/-- A diode is marked SUSPECT, left out from then on (R547). -/
def markSuspect (d : Nat) (s : State) : State :=
  let s1 : State := if d < 144 then s.orReg (Reg.THM_SUSPECT (d / 32)) (2 ^ (d % 32)) else s.orReg (Reg.THM_PSUSPECT ((d - 144) / 32)) (2 ^ ((d - 144) % 32))
  let s2 : State := match s.diodeReg d with | some k => s1.orReg k 0x40000000 | none => s1
  ({ s2 with thm := { s2.thm with off := Tab.erase d s2.thm.off } }).orReg Reg.THM_STATUS 2

/-- The comparisons of one round take effect together (R547): NO_CHECK, the counts, and the diodes found SUSPECT (log entries 155 DEDUCED, 156 DEDUCED). -/
def takeChecks (cs : List (Nat × Option Nat)) (s : State) : State :=
  let s1 := cs.foldl (fun (s : State) e =>
    let s' : State := { s with thm := { s.thm with off := Tab.put 0 e.1 (e.2.getD 0) s.thm.off } }
    match s.diodeReg e.1 with
    | some k => s'.setReg k (putBit (s'.reg k) 29 e.2.isNone)
    | none => s') s
  let bad := (cs.filter (fun e => decide (5 ≤ e.2.getD 0))).map Prod.fst
  let s2 := bad.foldl (fun (s : State) d => s.markSuspect d) s1
  if bad.isEmpty then s2 else s2.report (bad.map (fun d => { src := suspectSrc d, detail := d }))

/-- The tile temperature and SUBST (R548); none where no diode of the neighbourhood is valid (log entry 154 DEDUCED). -/
def tileReading (s : State) (t : Nat) : Option Int × Bool :=
  match s.diode (2 * t), s.diode (2 * t + 1) with
  | some a, some b => (some ((a + b).fdiv 2), false)
  | some a, none => (some a, false)
  | none, some b => (some b, false)
  | none, none => (diodeMedian (s.neighbourhood (2 * t)), true)

/-- THM_TILEt of every tile of the part (log entry 163 DEDUCED). -/
def takeTiles (s : State) : State :=
  (List.range s.part.tiles).foldl (fun (s' : State) t =>
    let r := s.tileReading t
    let s1 : State := match r.1 with | some v => s'.setField (Reg.THM_TILE t) 15 0 (low 16 v) | none => s'
    s1.setReg (Reg.THM_TILE t) (putBit (s1.reg (Reg.THM_TILE t)) 31 r.2)) s

/-! ### Thermal states (R554–R559) -/

/-- thr(1) to thr(3) in 0.01 °C (R554, R564). -/
def thrOf (s : State) (k : Nat) : Int := 100 * ((match k with | 1 => s.thr1 | 2 => s.thr2 | _ => s.fld Reg.THM_LIMIT 23 16 : Nat) : Int)

/-- The highest state whose threshold, less a hysteresis, a reading meets (R554). -/
def thmCalls (s : State) (h t : Int) : Nat :=
  if s.thrOf 3 - h ≤ t then 3 else if s.thrOf 2 - h ≤ t then 2 else if s.thrOf 1 - h ≤ t then 1 else 0

/-- Device diodes of a domain: 0 base, 1 CU-A, 2 CU-B (R546). -/
def domDiodes (d : Nat) : List Nat :=
  match d with | 0 => List.range 128 | 1 => (List.range 8).map (· + 128) | _ => (List.range 8).map (· + 136)

/-- The hottest valid diode of a domain and its reading, the lower number in a tie. -/
def hottest (s : State) (d : Nat) : Option (Nat × Int) :=
  (domDiodes d).foldl (fun best c =>
    match s.diode c, best with
    | some v, some b => if v > b.2 then some (c, v) else some b
    | some v, none => some (c, v)
    | none, b => b) none

/-- One round of a domain's judgement (R554, R556) in state `st` with U and D: the counts, the new state and the new level (log entry 159 DEDUCED). -/
def thmJudge (x : ThmDom) (st u d deep : Nat) (hot : Bool) : ThmDom × Nat :=
  let c := if u > st then 1 else if d < st then 2 else 0
  let us := if c = 0 then [] else (if c = x.dir then x.us else []) ++ [if c = 1 then u else d]
  let n := if st = 2 ∧ hot then x.deep + 1 else 0
  if us.length = 3 then
    if c = 2 ∧ st = 2 ∧ 1 < x.level then ({ dir := c, us := [], deep := 0, level := x.level - 1 }, st)
    else
      let new := if c = 1 then us.foldl min 3 else us.foldl max 0
      ({ dir := c, us := [], deep := 0, level := if new = 2 then 1 else 0 }, new)
  else if n = 3 then ({ dir := c, us := us, deep := 0, level := min (x.level + 1) deep }, st)
  else ({ dir := c, us := us, deep := n, level := x.level }, st)

/-- The unit of a domain. -/
def domUnit (d : Nat) : Cu := if d = 1 then .a else .b

/-- A thermal event (R418, R555): of the base to the holder, or lost without one; of a unit to that unit. -/
def thmEvent (d typ c : Nat) (t : Int) (s : State) : State :=
  let p0 := c + 2 ^ 8 * (s.fld (Reg.THM_DOMAIN d) 31 30 + 4 * s.fld (Reg.THM_DOMAIN d) 27 24 + 64 * d)
  if d = 0 then
    (if s.holder.isNone then s.orReg Reg.THM_STATUS 0x40 else s.event 9 typ 0 s.now p0 (low 32 t) 0 0)
  else s.eventTo (domUnit d) 9 typ 0 s.now p0 (low 32 t) 0 0

/-- The source that is a level while a domain is in WARN or above (R523, R555). -/
def warnSrc (d : Nat) : Nat := if d = 0 then 9 else localSrc (domUnit d) 0

/-- Entry to SHUTDOWN (R558, R559): logged, reported, and a unit's core powered down, a holder's as a lapse. -/
def thmShutdown (d c : Nat) (s : State) : State :=
  if d = 0 then (s.logPut 5 0 0 10 0 c).report1 10 c
  else ((s.logPut 4 0 0 (localSrc (domUnit d) 2) 0 c).report1 (localSrc (domUnit d) 2) c).stopCore (domUnit d) 1

/-- A unit whose domain has left SHUTDOWN is called where no unit holds the token and none was called (R427, R558). -/
def thmCallable (d : Nat) (s : State) : State :=
  if d ≠ 0 && s.pwr.dramUp && s.holder.isNone && s.islandOnly .a && s.islandOnly .b && decide (s.tknState ≠ 4) then s.switchOn (domUnit d) else s

/-- A domain has moved or changed its level (R555, R556); a level that a new mode caps at `cap` is reported by no run (log entries 157 DEDUCED, 160 DEDUCED). -/
def thmMoved (d c : Nat) (t : Int) (st lv cap st' lv' : Nat) (s : State) : State :=
  if st' = st then
    if lv' = lv then s
    else
      let s1 := s.thmEvent d 0x91 c t
      if d = 0 ∨ lv' = cap then s1 else s1.report1 (localSrc (domUnit d) 1) c
  else
    let s1 : State := if st' = 0 then s else s.orReg Reg.THM_STATUS (2 ^ (1 + st'))
    let s2 : State := if st < st' then s1.thmEvent d (0x8F + st') c t
      else
        let s3 := s1.thmEvent d 0x93 c t
        if st' = 2 then s3.thmEvent d 0x91 c t else s3
    let s3 : State := if st = 0 then s2.report1 (warnSrc d) c else if st' = 0 then s2.levelEnd (warnSrc d) else s2
    let s4 : State := if d = 0 then s3.setReg Reg.THM_STATUS (putBit (s3.reg Reg.THM_STATUS) 7 (decide (st' = 3))) else s3
    if st' = 3 then s4.thmShutdown d c else if st = 3 then s4.thmCallable d else s4

/-- THM_DOMAINd (R565). -/
def showDomain (d st c : Nat) (t : Int) (s : State) : State :=
  let x := s.thmDom d
  s.setReg (Reg.THM_DOMAIN d) (word (2 ^ 30 * st + 2 ^ 28 * (if x.us.isEmpty then x.deep else x.us.length) + 2 ^ 24 * s.shownLevel d + 2 ^ 16 * c + low 16 t))

/-- A domain is judged at the end of a round (R549, R554). -/
def judgeDomain (s : State) (d : Nat) : State :=
  let valid := ((domDiodes d).filterMap s.diode).length
  let s0 : State := if d = 0 then s else s.setReg Reg.THM_STATUS (putBit (s.reg Reg.THM_STATUS) (7 + d) (decide (valid < 3)))
  let x := s0.thmDom d
  let x1 : ThmDom := { x with level := min x.level s0.deepest }
  let st := s0.fld (Reg.THM_DOMAIN d) 31 30
  match s0.hottest d with
  | none => (s0.setThmDom d x1).setField (Reg.THM_DOMAIN d) 27 24 ((s0.setThmDom d x1).shownLevel d)
  | some (c, t) =>
    let r := thmJudge x1 st (s0.thmCalls 0 t) (s0.thmCalls 400 t) s0.deepest (decide (s0.thrOf 2 ≤ t))
    ((s0.setThmDom d r.1).showDomain d r.2 c t).thmMoved d c t st x.level x1.level r.2 r.1.level

/-! ### The round's effects elsewhere -/

/-- A tile whose temperature has moved by CAL_RETEMP gets a pending correction update from the set in force (R321) (log entry 164 DEDUCED). -/
def retemp (s : State) : State :=
  if !s.rbit Reg.CAL_CTRL 0 || decide (s.rnat Reg.CAL_GEN = 0) then s
  else
    let lim := clampN (s.fld Reg.CAL_RETEMP 15 0) 5 1000
    let moved := (List.range s.part.tiles).filter (fun t => decide (lim ≤ (s.tileTemp t - sext 16 (s.rnat (Reg.CAL_TILE t))).natAbs))
    if moved.isEmpty then s
    else
      (({ s with cal := { s.cal with upd := moved.foldl (fun l t => Tab.set t (s.tileTemp t) l) s.cal.upd } }).orReg Reg.CAL_STATUS 4).requestBoundary

/-- The HK record (R571). -/
def recHk (s : State) : State :=
  s.recAppend 0x03 ((List.range 192).flatMap (fun c => bytesOf 4 (if c < 176 then s.rnat (Reg.HK_VALUE c) else 0)))

/-- The oscillator counts of the round (R553): index, TEMP and COUNT; none for a unit whose core is off. -/
def takeLegs (legs : List (Nat × Nat × Nat)) (s : State) : State :=
  [0, 1, 2, 3, 4, 5].foldl (fun (s : State) i =>
    let off := (decide (i = 4) && s.islandOnly .a) || (decide (i = 5) && s.islandOnly .b)
    match legs.find? (fun e => decide (e.1 = i)) with
    | some e => if off then s.clrReg (Reg.THM_LEG i) 0x80000000 else s.setReg (Reg.THM_LEG i) (word (2 ^ 31 + 2 ^ 16 * (e.2.1 % 4096) + e.2.2 % 65536))
    | none => s.clrReg (Reg.THM_LEG i) 0x80000000) s

/-- The end of a housekeeping round (R547, R548, R553, R554, R321). -/
def roundEnd (legs : List (Nat × Nat × Nat)) (s : State) : State :=
  let s0 : State := { s with thm := { s.thm with slot := 0, ctl := s.rnat Reg.THM_CTRL % 512 } }
  let named := match s0.fab.fdr with | some f => f.sense.map (fun e => 144 + e.1) | none => []
  let checks := (List.range 144 ++ named).map (fun d => (d, s0.checkDiode d))
  let s1 := (s0.takeLegs legs).takeTiles
  let temps := (List.range 64).map s1.tileTemp
  let rounds := s1.drt.rounds ++ [(s1.clk, temps)]
  let s2 : State := { s1 with drt := { s1.drt with rounds := rounds.drop (rounds.length - 4), cuSteps := [] } }
  let s3 := [0, 1, 2].foldl judgeDomain s2
  let s4 := s3.takeChecks checks
  ((s4.recHk).setReg64 Reg.THM_ROUND_LO Reg.THM_ROUND_HI (s4.rnat64 Reg.THM_ROUND_LO Reg.THM_ROUND_HI + 1)).retemp

/-! ### Slots of the round (R550–R552) -/

/-- The sense pad a slot reads this round. -/
def slotPad (s : State) (k : Nat) : Nat := 16 * (s.rnat Reg.THM_ROUND_LO % 8) + (k - 144)

/-- A slot that the list gives to no channel, or to a sense pad the record does not name (R550). -/
def slotFree (s : State) (k : Nat) : Bool :=
  decide (176 ≤ k) || (decide (144 ≤ k) && decide (k < 160) && !(s.senseNamed (s.slotPad k) && s.rbit Reg.SITE_CTRL 1)) ||
    (decide (k = 165) && decide (s.part = .wl2564))

/-- A free slot serves the injected conversion that is pending (R311, R552): not while the run it found BUSY goes on (log entry 162 DEDUCED). -/
def slotInject (value : Option Int) (s : State) : State :=
  match s.thm.inj with
  | none => s
  | some (tgt, waits) =>
    if waits && s.rbit Reg.CAL_STATUS 0 then s
    else
      let w := match value with | some v => 2 ^ 31 + low 20 v | none => 0
      let s1 := (({ s with thm := { s.thm with inj := none } }).setReg Reg.HK_INJ_RES (word w)).setReg64 Reg.HK_INJ_G_LO Reg.HK_INJ_G_HI s.time.g
      s1.recEvent 14 (bytesOf 4 tgt ++ bytesOf 4 w)

/-- The conversion of a listed slot enters HK_VALUEc (R550, R564): SUSPECT and NO_CHECK stand. -/
def slotListed (k : Nat) (value : Option Int) (s : State) : State :=
  let key := Reg.HK_VALUE k
  if k < 144 ∨ 160 ≤ k then
    s.setReg key (word (s.rnat key / 2 ^ 29 % 4 * 2 ^ 29 + match value with | some v => 2 ^ 31 + low 20 v | none => 0))
  else
    let pad := s.slotPad k
    let s1 := s.setReg key (word (2 ^ 30 * b2n (s.rbit (Reg.THM_PSUSPECT (pad / 32)) (pad % 32)) + match value with | some v => 2 ^ 31 + low 20 v | none => 0))
    { s1 with thm := { s1.thm with pic := match value with | some v => Tab.set pad v s1.thm.pic | none => Tab.erase pad s1.thm.pic } }

/-- One slot (R550–R552). -/
def hkSlot (value : Option Int) (s : State) : State :=
  let k := s.thm.slot
  if !s.rbit Reg.PWR_BOOT 0 || decide (192 ≤ k) then s
  else
    let s1 : State := { s with thm := { s.thm with slot := k + 1 } }
    if s.slotFree k then
      (if 144 ≤ k ∧ k < 160 then s1.orReg (Reg.HK_VALUE k) 0x10000000 else s1).slotInject value
    else s1.slotListed k value

/-- A write of HK_INJ (R552). -/
def hkInj (v : Word) (s : State) : State :=
  let s1 := s.maskWrite Reg.HK_INJ 0xFFFF v
  if !bit v 31 then s1
  else if s.thm.inj.isSome then s1.orReg Reg.HK_STATUS 4
  else ({ s1 with thm := { s1.thm with inj := some (field v 15 0, s1.rbit Reg.CAL_STATUS 0) } }).setReg Reg.HK_INJ_RES 0x40000000

/-- A write of THM_CMD (R547, R564). -/
def thmCmd (v : Word) (s : State) : State :=
  let d := field v 7 0
  let s1 : State := if bit v 31 && decide (d < 144) then
      let s' := ((s.clrReg (Reg.THM_SUSPECT (d / 32)) (2 ^ (d % 32))).clrReg (Reg.HK_VALUE d) 0x40000000)
      { s' with thm := { s'.thm with off := Tab.erase d s'.thm.off } }
    else s
  let p := field v 6 0
  if bit v 30 then
    let s' := s1.clrReg (Reg.THM_PSUSPECT (p / 32)) (2 ^ (p % 32))
    let s2 : State := match s'.diodeReg (144 + p) with | some k => s'.clrReg k 0x40000000 | none => s'
    { s2 with thm := { s2.thm with off := Tab.erase (144 + p) s2.thm.off } }
  else s1

end State

open State

/-- HK_SLOT (R550–R552): the next slot of the round converts, and `value` is what the converter gave, in 0.01 °C or 0.1 mV. -/
def execHkSlot (value : Option Int) (s : State) : Res := .next (if s.inReplay then s else s.hkSlot value)

/-- HK_ROUND_END (R547–R549, R553–R559, R321). -/
def execHkRoundEnd (legs : List (Nat × Nat × Nat)) (s : State) : Res := .next (if s.rbit Reg.PWR_BOOT 0 && !s.inReplay then s.roundEnd legs else s)

/-- HK_INJ_START (R552): HK_INJ with START. -/
def execHkInjStart (u : Cu) (v : Word) (s : State) : Res :=
  .next (s.baseWrite u Reg.HK_INJ (putBit v 31 true) (fun s => s.hkInj (putBit v 31 true)))

/-- THM_CLR_SUSPECT (R564): THM_CMD with CLR_SUSPECT. -/
def execThmClrSuspect (u : Cu) (v : Word) (s : State) : Res :=
  .next (s.baseWrite u Reg.THM_CMD (putBit v 31 true) (fun s => s.thmCmd (putBit v 31 true)))

/-- THM_CLR_PIC (R564): THM_CMD with CLR_PIC. -/
def execThmClrPic (u : Cu) (v : Word) (s : State) : Res :=
  .next (s.baseWrite u Reg.THM_CMD (putBit v 30 true) (fun s => s.thmCmd (putBit v 30 true)))

end Sys2Proof.Machine
end

