-- ==== Sys2Proof/Machine/RegHub.lean ====
section
/-! DEFINITION. One aligned 32-bit write to a register of the device, whichever block holds it (R11–R15, R341, R342). -/
namespace Sys2Proof.Machine

namespace State

/-- A write with no effect beyond its register (R11, R12, R14): its RW bits, its RWL bits while the block is not enabled, and its W1C bits. -/
def genWrite (r : RegRow) (k : Nat) (enabled : Bool) (cfgKey cfgMask : Nat) (v : Word) (s : State) : State :=
  (s.rwlWrite k r.rw r.rwl enabled cfgKey cfgMask v).clrReg k (v.toNat &&& r.w1c)

/-- The same in a block with no RWL fields. -/
def plainWrite (r : RegRow) (k : Nat) (v : Word) (s : State) : State := s.genWrite r k false 0 0 v

/-- A write of FLT_SRC_CFG or FLT_U_SRC_CFG (R543): BASE 3 is ignored with CFG_IGNORED, a FIXED source keeps its REACTION. -/
def srcCfgWrite (src k statusKey : Nat) (v : Word) (s : State) : State :=
  if !srcExists src then s
  else if field v 25 24 = 3 then s.orReg statusKey 1
  else s.maskWrite k (if s.rbit k 31 then 0x030000FF else 0x330000FF) v

/-- A spare entry is written (R116): with EN a substitution is asked for, without it a release. -/
def spareWrite (mon : Bool) (tile j : Nat) (v : Word) (s : State) : State :=
  let k : SpKey := { mon := mon, tile := tile, j := j }
  if bit v 31 then s.spRequest k (field v 7 0) none false else s.spRelease k (field v 7 0) none false

/-- Registers of the tile window (R113, R117, R152, R154). -/
def tileWrite (r : RegRow) (t j k : Nat) (v : Word) (s : State) : State :=
  if r.base = Reg.DRV_TCTRL 0 then s.tctrlWrite t v
  else if r.base = Reg.DRV_SPARE 0 0 then s.spareWrite false t j v
  else if r.base = Reg.DRV_SLEW 0 0 then s.slewWrite (240 * t + j) v
  else if r.base = Reg.DRV_PE 0 0 then (if relieved (240 * t + j) (s.chan (240 * t + j)) then s else s.plainWrite r k v)
  else if r.base = Reg.DRV_QUEUE 0 0 then s.queueWrite (240 * t + j) v
  else if r.base = Reg.MON_TCTRL 0 then (if bit v 0 then s.setReg (Reg.MON_TCNT t) 0 else s)
  else if r.base = Reg.MON_SPARE 0 0 then s.spareWrite true t j v
  else if r.base = Reg.MON_INJ 0 then s.injWrite t v
  else if r.base = Reg.MON_CFG 0 0 then s.monCfgWrite (96 * t + j) v
  else s.plainWrite r k v

/-- Registers of the fabric and its site. -/
def fabWrite (r : RegRow) (i k : Nat) (v : Word) (s : State) : State :=
  if k = Reg.FAB_CTRL then s.fabCtrl v
  else if r.base = Reg.FAB_HEALTH 0 then s.healthWrite i v
  else s.genWrite r k s.fabOn Reg.FAB_STATUS 8 v

def siteWrite (r : RegRow) (k : Nat) (v : Word) (s : State) : State :=
  if k = Reg.SITE_CTRL then s.siteCtrl v
  else if k = Reg.SITE_CHECK_CTRL then s.siteCheckCtrl v
  else s.genWrite r k (s.fabOn || s.site.check.isSome) Reg.SITE_STATUS 0x40 v

/-- Device-wide monitor registers, result queues and ports (R156). -/
def monWideWrite (r : RegRow) (k : Nat) (v : Word) (s : State) : State :=
  if k = Reg.MON_GCTRL then (if bit v 0 then s.alignRequest else s)
  else if k = Reg.MON_DIAG_CTRL then s.diagCtrl v
  else s.plainWrite r k v

def rqWrite (r : RegRow) (q k : Nat) (v : Word) (s : State) : State :=
  if r.base = Reg.MON_RQ_CTRL 0 then s.rqCtrl q v
  else s.genWrite r k (s.rbit (Reg.MON_RQ_CTRL q) 31) (Reg.MON_RQ_STATUS q) 0x80000 v

def portRegWrite (r : RegRow) (p k : Nat) (v : Word) (s : State) : State :=
  if r.base = Reg.MON_PORT_CFG 0 then s.portWrite p false false v
  else if r.base = Reg.MON_PORT_CFG_OUT 0 then s.portWrite p true false v
  else if r.base = Reg.MON_PORT_DWELL 0 then s.portWrite p false true v
  else if r.base = Reg.MON_PORT_DWELL_OUT 0 then s.portWrite p true true v
  else s.plainWrite r k v

/-- Registers of Gusts, loops and Draught (R208, R241, R243, R268). -/
def gstWrite (r : RegRow) (k : Nat) (v : Word) (s : State) : State :=
  if k = Reg.GST_CMD then (if bit v 0 then (s.setReg Reg.GST_CNT0 0).setReg Reg.GST_CNT1 0 else s) else s.plainWrite r k v

def loopWrite (r : RegRow) (k : Nat) (v : Word) (s : State) : State :=
  if k = Reg.LOOP_CMD then (if bit v 0 then s.setReg Reg.LOOP_CNT 0 else s)
  else if k = Reg.LOOP_SQ_CTRL then s.squallCtrl v
  else s.genWrite r k (s.rbit Reg.LOOP_CTRL 0) Reg.LOOP_STATUS 4 v

def drtWrite (r : RegRow) (k : Nat) (v : Word) (s : State) : State :=
  if k = Reg.DRT_CMD then s.drtCmd v
  else if Reg.DRT_TAU0 ≤ k ∧ k ≤ Reg.DRT_TAU2 then s.tauWrite ((k - Reg.DRT_TAU0) / 4) v
  else s.plainWrite r k v

/-- Registers of time, TOUT and the schedule (R299, R301). -/
def timWrite (r : RegRow) (k : Nat) (v : Word) (s : State) : State :=
  if k = Reg.TIM_CTRL then s.timCtrl v
  else if k = Reg.TIM_SEC_SET_HI then s.secSetWrite v
  else if k = Reg.TIM_FREQ then s.freqWrite v
  else s.plainWrite r k v

def toutWrite (r : RegRow) (i k : Nat) (v : Word) (s : State) : State :=
  if r.base = Reg.TIM_TOUT_CFG 0 then s.toutCfgWrite i v
  else s.genWrite r k (s.rbit (Reg.TIM_TOUT_CFG i) 31) Reg.TIM_STATUS 0x800 v

/-- Registers of the token, power, memory and faults (R445, R467, R500, R541). -/
def tknWrite (r : RegRow) (k : Nat) (v : Word) (s : State) : State :=
  if k = Reg.TKN_RESUME then s.resumeWrite v
  else if k = Reg.TKN_REH_CTRL then s.rehCtrlWrite v
  else s.plainWrite r k v

def memWrite (r : RegRow) (k : Nat) (v : Word) (s : State) : State :=
  if k = Reg.MEM_CTRL then s.memCtrl v
  else if k = Reg.MEM_CMD then s.memCmd v
  else if k = Reg.MEM_PROBE_HI then s.memProbe v
  else s.plainWrite r k v

def fltWrite (u : Cu) (r : RegRow) (i k : Nat) (v : Word) (s : State) : State :=
  if k = Reg.FLT_CMD then s.fltCmd u v
  else if r.base = Reg.FLT_SRC_CFG 0 then s.srcCfgWrite i k Reg.FLT_STATUS v
  else if r.base = Reg.FLT_SRC_WIN 0 then (if srcExists i then s.plainWrite r k v else s)
  else if r.base = Reg.FLT_SRC_CLR 0 then (if bit v 0 then s.srcClear i else s)
  else s.plainWrite r k v

def recRegWrite (r : RegRow) (k : Nat) (v : Word) (s : State) : State :=
  if k = Reg.REC_CTRL then s.recCtrlWrite v
  else if k = Reg.REC_SIZE then s.recSizeWrite v
  else if k = Reg.REC_PULL_CTRL then s.recPullWrite v
  else if k = Reg.REC_RP_CTRL then s.rpCtrl v
  else s.plainWrite r k v

/-- An accepted write to a base or tile register by the unit that holds the token. -/
def baseEffect (u : Cu) (r : RegRow) (ix : List Nat) (k : Nat) (v : Word) (s : State) : State :=
  let i := ix.getD 0 0
  let j := ix.getD 1 0
  match r.blk with
  | .kFab => s.fabWrite r i k v
  | .kSite => s.siteWrite r k v
  | .kDrv | .kMon => s.tileWrite r i j k v
  | .kMonw => s.monWideWrite r k v
  | .kRq | .kRqmap => s.rqWrite r i k v
  | .kPort => s.portRegWrite r i k v
  | .kRte => if k = Reg.RTE_CACHE_CTRL then s.rteCtrl v else s.plainWrite r k v
  | .kGst => s.gstWrite r k v
  | .kLoop => s.loopWrite r k v
  | .kDrt => s.drtWrite r k v
  | .kTim => s.timWrite r k v
  | .kTout => s.toutWrite r i k v
  | .kSch => if k = Reg.SCH_CTRL then s.schCtrl v else s.plainWrite r k v
  | .kSchp => s.genWrite r k (s.rbit Reg.SCH_STATUS 1) Reg.SCH_STATUS 0x100 v
  | .kCal => if k = Reg.CAL_CMD then s.calCmd v else s.plainWrite r k v
  | .kTkn => s.tknWrite r k v
  | .kPwr => if k = Reg.PWR_RST_CTRL then s.rstCtrlWrite v else s.plainWrite r k v
  | .kMem => s.memWrite r k v
  | .kFlt => s.fltWrite u r i k v
  | .kThm => if k = Reg.THM_CMD then s.thmCmd v else s.plainWrite r k v
  | .kHk => if k = Reg.HK_INJ then s.hkInj v else s.plainWrite r k v
  | .kRec => s.recRegWrite r k v
  | _ => s.plainWrite r k v

/-- A write to a base or tile register (R342, R423): the four registers both units may write, else the holder's only. -/
def baseRegWrite (u : Cu) (r : RegRow) (ix : List Nat) (k : Nat) (v : Word) (s : State) : State :=
  if k = Reg.TKN_CLAIM then s.claim u v
  else if k = Reg.TKN_RENEW then s.renewWrite u v
  else if k = Reg.TKN_RELEASE then s.releaseWrite u v
  else if k = Reg.TKN_REH_REPORT then s.rehReport u v
  else s.baseWrite u k v (fun s => s.baseEffect u r ix k v)

/-- Registers of a unit's queues (R378, R379): an SQ that a plain write enables takes a slot VALUE the write does not carry, a free value (log entry 175 DESIGN CHOICE). -/
def queueRegWrite (u : Cu) (r : RegRow) (ix : List Nat) (k : Nat) (v : Word) (s : State) : State :=
  let f := ix.getD 0 0
  let q := ix.getD 1 0
  if r.base = Reg.Q_CTRL .a 0 - unitKey .a 0 then s.qCtrl u f v
  else if r.base = Reg.Q_SQ_CFG .a 0 0 - unitKey .a 0 then (let d := s.drawNat; d.2.sqCfgWrite u f q v d.1)
  else if r.base = Reg.Q_CQ_CFG .a 0 0 - unitKey .a 0 then s.cqCfgWrite u f q v
  else if r.base = Reg.Q_EQ_CFG .a 0 - unitKey .a 0 then s.eqCfgWrite u f v
  else if r.base = Reg.Q_TR_CFG .a 0 0 - unitKey .a 0 then s.trCfgWrite u f q v
  else
    let on : Bool := match r.blk with
      | .kQf => s.rbit (Reg.Q_CTRL u f) 0
      | .kQeq => s.rbit (Reg.Q_EQ_CFG u f) 31
      | .kQsq => s.rbit (Reg.Q_SQ_CFG u f q) 31
      | .kQcq => s.rbit (Reg.Q_CQ_CFG u f q) 31
      | .kQtr => s.rbit (Reg.Q_TR_CFG u f q) 31
      | _ => false
    (s.genWrite r k on (Reg.Q_STATUS u f) 4 v).refreshAll u

/-- Registers of a data-mover channel (R518): RWL writes to a BUSY channel are ignored. -/
def dmchWrite (u : Cu) (r : RegRow) (n k : Nat) (v : Word) (s : State) : State :=
  if r.base = Reg.DM_CTL .a 0 - unitKey .a 0 then s.dmCtl u n v
  else if (s.dmChan u n).isSome && decide ((s.reg k ^^^ v) &&& BitVec.ofNat 32 r.rwl ≠ 0) then (s.maskWrite k r.rw v).dmIgnored u n
  else s.plainWrite r k v

/-- Registers of a unit's local fault sources (R544). -/
def fltuWrite (u : Cu) (r : RegRow) (i k : Nat) (v : Word) (s : State) : State :=
  if r.base = Reg.FLT_U_SRC_CFG .a 0 - unitKey .a 0 then s.srcCfgWrite (localSrc u i) k (Reg.FLT_U_STATUS u) v
  else if r.base = Reg.FLT_U_SRC_WIN .a 0 - unitKey .a 0 then (if srcExists (localSrc u i) then s.plainWrite r k v else s)
  else if r.base = Reg.FLT_U_SRC_CLR .a 0 - unitKey .a 0 then (if bit v 0 then s.srcClear (localSrc u i) else s)
  else s.plainWrite r k v

/-- Registers of the trust functions (R610): SEC_BUF takes its bytes. -/
def secWrite (u : Cu) (r : RegRow) (i k : Nat) (v : Word) (s : State) : State :=
  if k = Reg.SEC_CMD u then s.secCmd u v
  else if r.base = Reg.SEC_BUF .a 0 - unitKey .a 0 then
    let x := s.unit u
    let buf := ((bytesOf 4 v.toNat).foldl (fun (a : Nat × List Host.Cell) b => (a.1 + 1, Tab.put 0 a.1 b a.2)) (4 * i, x.sec.buf)).2
    s.setUnit u { x with sec := { x.sec with buf := buf } }
  else s.plainWrite r k v

/-- Registers of the performance counters (R619). -/
def pmcWrite (u : Cu) (r : RegRow) (i k : Nat) (v : Word) (s : State) : State :=
  if k = Reg.PMC_CTRL u then s.pmcCtrl u v
  else if k = Reg.PMC_WIN_CTRL u then s.pmcWinCtrl u v
  else if r.base = Reg.PMC_CNT .a 0 - unitKey .a 0 then s.pmcCntWrite u i v
  else if r.base = Reg.PMC_EVT .a 0 - unitKey .a 0 then s.pmcEvtWrite u i v
  else s.plainWrite r k v

/-- A write to a unit's own registers, which needs no token; the core's ignore writes while the core is off. -/
def unitRegWrite (u : Cu) (r : RegRow) (ix : List Nat) (k : Nat) (v : Word) (s : State) : State :=
  let i := ix.getD 0 0
  if s.islandOnly u && coreReg u k && !(match r.blk with | .kCell => true | _ => false) then s
  else match r.blk with
  | .kHl => if k = Reg.HL_CTRL u then s.hlCtrl u v else s.plainWrite r k v
  | .kPwru => s.cuSelfWrite u v
  | .kQ => (s.plainWrite r k v).refreshAll u
  | .kQf | .kQeq | .kQsq | .kQcq | .kQtr => s.queueRegWrite u r ix k v
  | .kSp => if k = Reg.SP_CMD u then s.spCmdWrite u v
            else if r.base = Reg.SP_BANK .a 0 - unitKey .a 0 then s.spBankWrite u i v else s.plainWrite r k v
  | .kDm => if k = Reg.DM_CTRL u then s.dmCtrl u v else s.plainWrite r k v
  | .kDmch => s.dmchWrite u r i k v
  | .kFltu => s.fltuWrite u r i k v
  | .kSec => s.secWrite u r i k v
  | .kPmc | .kPmcw => s.pmcWrite u r i k v
  | .kCell => if r.base = Reg.LOOP_CELL_CFG .a 0 - unitKey .a 0 then s.cellCfgWrite u i v else s
  | _ => s.plainWrite r k v

/-- One aligned 32-bit write by unit `u` to register `k` (R15, R341): an offset without a register ignores it. -/
def regWrite (u : Cu) (k : Nat) (v : Word) (s : State) : State :=
  if absentKey s.part k then s
  else match keyRow k with
  | none => s
  | some (r, ix) =>
    match keyUnit k with
    | none => s.baseRegWrite u r ix k v
    | some _ => s.unitRegWrite u r ix k v

end State

end Sys2Proof.Machine
end

