-- ==== Sys2Proof/Machine/Dm.lean ====
section
/-! DEFINITION. MOVE (R406) and the rows of the data mover (R505–R521). What a transfer read comes with the row that ends a stretch of it; the bytes go
where the channel's position says. -/
namespace Sys2Proof.Machine

namespace State

/-! ### Writing what was read (R407, R471, R507) -/

/-- The words of a byte string, for writes to registers at an aligned address. -/
def wordsOf : List Byte → List Word
  | a :: b :: c :: d :: r => word (leAll [a, b, c, d]) :: wordsOf r
  | _ => []

/-- Whole words written to registers from key `k` on (log entry 191 DEDUCED). -/
def regWords (u : Cu) (k : Nat) (bs : List Byte) (s : State) : State :=
  if k % 4 ≠ 0 then s else ((wordsOf bs).foldl (fun (a : Nat × State) v => (a.1 + 4, a.2.regWrite u a.1 v)) (k, s)).2

/-- One stretch of bytes inside a copy reaches its target: host memory, DRAM, the unit's scratchpad and registers, and of the holder the tile window and
the base registers (log entry 140 DEDUCED). -/
def dmStore (u : Cu) (host : Bool) (a : Nat) (bs : List Byte) (s : State) : State :=
  if host then (if (s.unit u).linkUp then s.hostWrite u a bs else s)
  else match targetOf s.part a with
  | .dram => s.dramWrite u a bs
  | .scratch => s.spWrite u (a - 0x4000000000) bs
  | .ownRegs => s.regWords u (unitKey u (a - 0x6000000000)) bs
  | .tile => if s.holds u then s.regWords u (0x800000 + (a - 0x5010000000)) bs else s
  | .baseRegs => if s.holds u then s.regWords u (0x100000 + (a - 0x7000000000)) bs else s
  | _ => s

/-- Bytes `data` of a transfer are written from its position on, copy by copy; `fuel` bounds the copies. -/
def dmScatter (u : Cu) (n : Nat) (host : Bool) : Nat → Nat → List Byte → State → State
  | 0, _, _, s => s
  | _, _, [], s => s
  | fuel + 1, m, data, s =>
    let len := min (s.dmElem u n - m % s.dmElem u n) data.length
    dmScatter u n host fuel (m + len) (data.drop len) (s.dmStore u host (s.dmDst u n m) (data.take len))

/-- A transfer moves on by `data`, or a hardware request by as many bytes of its own (R509, R613): the bytes are written and counted. -/
def dmAdvance (u : Cu) (n : Nat) (x : DmChan) (data : List Byte) (s : State) : DmChan × State :=
  let k := min data.length (s.dmTotal u n x - x.moved)
  let s1 : State := match x.hw with
    | some r => s.dmStore u true (r.dst + x.moved) ((r.data.drop x.moved).take k)
    | none => dmScatter u n x.dstHost k x.moved (data.take k) s
  ({ x with moved := x.moved + k }, (s1.pmcEvent u 0x18 n k).pmcEvent u 0x19 n k)

/-- What a transfer has still to move. -/
def dmLeft (s : State) (u : Cu) (n : Nat) (x : DmChan) : Nat := s.dmTotal u n x - x.moved

/-- A channel's transfer that moves: not paused, not halted, not waiting to retry. -/
def dmMoving (s : State) (u : Cu) (n : Nat) : Option DmChan :=
  match s.dmChan u n with
  | some x => if x.paused || x.halted || x.retryAt.isSome then none else some x
  | none => none

/-! ### MOVE (R406) -/

/-- A channel that MOVE may take: free and bound to no hardware source (R515). -/
def dmFree (s : State) (u : Cu) (n : Nat) : Bool := (s.dmChan u n).isNone && decide (s.dmHwsrc u n = 0)

/-- The channel a MOVE names, or the lowest free one (R406). -/
def moveChannel (s : State) (c : Cmd) : Option Nat :=
  if c.b 4 = 0xFF then (List.range 16).find? (s.dmFree c.unit) else if s.dmFree c.unit (c.b 4) then some (c.b 4) else none

/-- The status that refuses a MOVE, if one does: the token, the operands, then the channel (R387, R406) (log entry 188 DEDUCED). -/
def moveRefusal (s : State) (c : Cmd) : Option Nat :=
  let dstHost := (c.b 5).testBit 1
  let t := targetOf s.part (c.q 24)
  if !s.holds c.unit && !dstHost && decide (t ≠ .dram) && decide (t ≠ .scratch) then some 0x04
  else if ((c.b 5).testBit 0 && dstHost) || (decide (15 < c.b 4) && decide (c.b 4 ≠ 0xFF)) then some 0x05
  else if s.holds c.unit && !dstHost && decide (t = .shadow) then some 0x05
  else if (s.moveChannel c).isNone then some 0x11
  else none

/-- A channel's parameters as a MOVE gives them (log entry 149 DEDUCED). -/
def moveLoad (c : Cmd) (n : Nat) (s : State) : State :=
  let u := c.unit
  let s1 := s.setReg (Reg.DM_ELEM u n) (word (c.h 6))
  let s2 := (s1.setReg64 (Reg.DM_SRC_LO u n) (Reg.DM_SRC_HI u n) (c.q 16)).setReg64 (Reg.DM_DST_LO u n) (Reg.DM_DST_HI u n) (c.q 24)
  let s3 := [0, 1, 2].foldl (fun (s : State) i =>
    ((s.setReg (dmLoop u n i) (word (c.h (32 + 10 * i)))).setReg (dmSstep u n i) (word (c.w (34 + 10 * i)))).setReg (dmDstep u n i)
      (word (c.w (38 + 10 * i)))) s2
  s3.setReg (Reg.DM_OWN u n) (word (2 ^ 16 * c.func + c.tag))

/-- MOVE begins its transfer, or is refused. -/
def moveStart (c : Cmd) (s : State) : State :=
  match s.moveRefusal c with
  | some st => s.refuse c st
  | none => match s.moveChannel c with
    | none => s.refuse c 0x11
    | some n => (s.moveLoad c n).dmBegin c.unit n
        { cmd := some c, func := c.func, srcHost := (c.b 5).testBit 0, dstHost := (c.b 5).testBit 1 }

/-! ### What ends a stretch of a transfer (R510–R514) -/

/-- A drain ends (R510, R521): the position is exact; the transfer is paused, or ends SHORT where END asked for it, or is complete. -/
def dmPausedAt (u : Cu) (n : Nat) (data : List Byte) (s : State) : State :=
  match s.dmMoving u n with
  | none => s
  | some x =>
    if !s.dmDraining u n x then s
    else
      let a := s.dmAdvance u n x data
      if s.dmTotal u n x ≤ a.1.moved then a.2.dmFinish u n a.1 1 0
      else if x.ending then a.2.dmFinish u n a.1 3 0x10
      else a.2.putDm u n { a.1 with paused := true }

/-- The last write response returns OKAY (R512). -/
def dmDone (u : Cu) (n : Nat) (data : List Byte) (s : State) : State :=
  match s.dmMoving u n with
  | none => s
  | some x =>
    if x.hw.isNone && decide (data.length < s.dmLeft u n x) then s
    else
      let all : List Byte := if x.hw.isNone then data else List.replicate (s.dmLeft u n x) 0
      let a := s.dmAdvance u n x all
      a.2.dmFinish u n a.1 1 0

/-- A burst fails after `data` was written (R511, R513): it is issued again after 1 µs, doubled each time, or the channel halts. -/
def dmFail (u : Cu) (n : Nat) (data : List Byte) (addr cause : Nat) (s : State) : State :=
  match s.dmMoving u n with
  | none => s
  | some x =>
    if s.dmLeft u n x ≤ data.length then s
    else
      let a := s.dmAdvance u n x data
      let tries := (if data.isEmpty then x.tries else 0) + 1
      let x1 : DmChan := { a.1 with tries := tries }
      let s1 := a.2.burstTrace u addr cause
      if s.fld (Reg.DM_CTRL u) 2 0 < tries then s1.dmHalt u n addr cause x1
      else s1.putDm u n { x1 with retryAt := some (s.clk + clksUs (2 ^ (tries - 1))) }

/-- The back-off ends and the burst is issued again (R511). -/
def dmRetry (u : Cu) (n : Nat) (s : State) : State :=
  match s.dmChan u n with
  | none => s
  | some x =>
    match x.retryAt with
    | none => s
    | some t =>
      if s.clk < t then s
      else
        let s1 := ((s.putDm u n { x with retryAt := none }).bump (Reg.DM_CNT u) 31 16 1).orReg (Reg.DM_STATUS u) 2
        (s1.setField (Reg.DM_ST u n) 26 24 (max (s.fld (Reg.DM_ST u n) 26 24) x.tries)).pmcEvent u 0x1A n 1

/-- A line of DRAM that a read found poisoned or could not correct (R482, R501). -/
def poisonRead (addr : Nat) (s : State) : State :=
  match targetOf s.part addr with
  | .dram => (s.memUe (addr / 2 ^ 36) (addr % 2 ^ 36 / 64)).orReg Reg.MEM_STATUS 8
  | _ => s

/-- A read returns POISON after `data` was written (R514). -/
def dmPoison (u : Cu) (n : Nat) (data : List Byte) (addr : Nat) (s : State) : State :=
  match s.dmMoving u n with
  | none => s
  | some x =>
    if s.dmLeft u n x ≤ data.length then s
    else
      let a := s.dmAdvance u n x data
      let s1 := ((a.2.poisonRead addr).pmcEvent u 0x22 (dmPort u) 1).dmHalt u n addr 1 a.1
      (s1.orReg (Reg.DM_ST u n) 0x80).orReg (Reg.DM_STATUS u) 0x10

/-! ### Hardware requests (R515, R516) -/

/-- A queue whose oldest result has waited AGE µs asks too (R144). -/
def rqWants (s : State) (q : Nat) : Bool :=
  let x := s.rq q
  let age := s.fld (Reg.MON_RQ_WM q) 27 16
  s.rbit (Reg.MON_RQ_CTRL q) 31 && !x.store.isEmpty &&
    (x.asked || (decide (age ≠ 0) && (match x.store.head? with | some r => decide (r.at_ + clksUs age ≤ s.clk) | none => false)))

/-- The queue served next: in turn by queue number from the one after the last (R515). -/
def rqNext (s : State) : Option Nat := ((List.range 16).map (fun i => (s.mon.turn + i) % 16)).find? s.rqWants

/-- One result as its 16 bytes (R134). -/
def resBytes (r : MonRes) : List Byte := bytesOf 4 r.tag ++ bytesOf 4 (low 32 r.value) ++ bytesOf 8 r.g

/-- A result queue asks for its results to be moved (R144, R367, R515): to its ring's end at most; a full ring stalls it (log entry 153 DEDUCED). -/
def rqRequest (u : Cu) (n q : Nat) (s : State) : State :=
  let f := s.fld (Reg.MON_RQ_CTRL q) 11 8
  let r := s.fld (Reg.MON_RQ_CTRL q) 2 0
  let size := s.trSize u f r
  let x := s.tr u f r
  let room := size - dist32 x.tail x.head
  if !s.rbit (Reg.Q_TR_CFG u f r) 31 then s
  else if room = 0 then s.orReg (Reg.Q_TR_STATUS u f r) 0x10000
  else
    let rq := s.rq q
    let k := min (min rq.store.length room) (size - x.tail % size)
    let take := rq.store.take k
    let rest := rq.store.drop k
    let s1 := (s.clrReg (Reg.Q_TR_STATUS u f r) 0x10000).setRq q { rq with store := rest, asked := !rest.isEmpty }
    let s2 : State := { s1 with mon := { s1.mon with turn := (q + 1) % 16 } }
    let req : DmReq := { src := 1, queue := q, func := f,
                         dst := s.rnat64 (Reg.Q_TR_LO u f r) (Reg.Q_TR_HI u f r) + 16 * (x.tail % size),
                         data := take.flatMap resBytes, gs := take.map MonRes.g }
    s2.dmBegin u n { func := f, dstHost := true, hw := some req }

/-- The recorder asks for the next block of a pull to be moved (R579): it travels whole, and what lies behind its records is open (log entry 1) (log entry 190 DESIGN CHOICE). -/
def pullRequest (u : Cu) (n : Nat) (s : State) : State :=
  match s.recd.pull with
  | some (b :: _) =>
    match s.recd.ring.find? (fun e => decide (e.2.bseq = b)) with
    | none => s
    | some e =>
      let d := s.drawNat
      let body := blockBytes e.2
      let tail := (List.range (2 ^ 20 - body.length)).map (fun i => BitVec.ofNat 8 (d.1 / 256 ^ i))
      let req : DmReq := { src := 2, queue := 0, func := s.fld Reg.REC_PULL_CTRL 27 24,
                           dst := s.rnat64 Reg.REC_PULL_DST_LO Reg.REC_PULL_DST_HI + 2 ^ 20 * s.recd.pulled, data := body ++ tail, gs := [] }
      d.2.dmBegin u n { func := req.func, srcHost := false, dstHost := true, hw := some req }
  | _ => s

/-- A source asks a channel bound to it (R515): of the token holder, free, its core on. -/
def hwRequest (u : Cu) (n : Nat) (s : State) : State :=
  if !s.holds u || s.islandOnly u || decide (16 ≤ n) || (s.dmChan u n).isSome then s
  else match s.dmHwsrc u n with
  | 1 => (match s.rqNext with | some q => s.rqRequest u n q | none => s)
  | 2 => s.pullRequest u n
  | _ => s

/-- A source withdraws its request (R516): dropped where no burst has been issued, else it ends SHORT after `beats` of its beats. -/
def hwWithdraw (u : Cu) (n : Nat) (beats : Option Nat) (s : State) : State :=
  match s.dmMoving u n with
  | none => s
  | some x =>
    match x.hw with
    | none => s
    | some _ =>
      match beats with
      | none => if x.moved = 0 then ((s.freeDm u n).dmShow u n).hwSettle u x else s
      | some b =>
        let a := s.dmAdvance u n x (List.replicate (16 * b - x.moved) 0)
        (a.2.orReg (Reg.DM_ST u n) 0x40).dmFinish u n a.1 3 0x10

end State

open State

/-- MOVE (R406). -/
def execMove (c : Cmd) (s : State) : Res := .next (s.runDesc c 0x0D (fun s => s.moveStart c))

/-- DM_START (R507, R518). -/
def execDmStart (u : Cu) (n : Nat) (v : Word) (s : State) : Res := .next (s.dmCtl u n (putBit v 0 true))

/-- DM_PAUSE (R510). -/
def execDmPause (u : Cu) (n : Nat) (v : Word) (s : State) : Res := .next (s.dmCtl u n (putBit v 1 true))

/-- DM_PAUSED (R510). -/
def execDmPaused (u : Cu) (n : Nat) (data : List Byte) (s : State) : Res := .next (s.dmPausedAt u n data)

/-- DM_UNPAUSE (R510). -/
def execDmUnpause (u : Cu) (n : Nat) (v : Word) (s : State) : Res := .next (s.dmCtl u n (putBit v 1 false))

/-- DM_RESUME (R513). -/
def execDmResume (u : Cu) (n : Nat) (v : Word) (s : State) : Res := .next (s.dmCtl u n (putBit v 2 true))

/-- DM_END (R513, R521). -/
def execDmEnd (u : Cu) (n : Nat) (v : Word) (s : State) : Res := .next (s.dmCtl u n (putBit v 3 true))

/-- DM_BURST_FAIL (R511–R513). -/
def execDmBurstFail (u : Cu) (n : Nat) (data : List Byte) (addr cause : Nat) (s : State) : Res := .next (s.dmFail u n data addr cause)

/-- DM_RETRY_TIMER (R511). -/
def execDmRetryTimer (u : Cu) (n : Nat) (s : State) : Res := .next (s.dmRetry u n)

/-- DM_POISON_HALT (R514). -/
def execDmPoisonHalt (u : Cu) (n : Nat) (data : List Byte) (addr : Nat) (s : State) : Res := .next (s.dmPoison u n data addr)

/-- DM_TRANSFER_DONE (R512). -/
def execDmTransferDone (u : Cu) (n : Nat) (data : List Byte) (s : State) : Res := .next (s.dmDone u n data)

/-- DM_HW_REQUEST (R515). -/
def execDmHwRequest (u : Cu) (n : Nat) (s : State) : Res := .next (s.hwRequest u n)

/-- DM_HW_WITHDRAW (R516). -/
def execDmHwWithdraw (u : Cu) (n : Nat) (beats : Option Nat) (s : State) : Res := .next (s.hwWithdraw u n beats)

/-- DM_COUNT_CLEAR (R517). -/
def execDmCountClear (u : Cu) (v : Word) (s : State) : Res := .next (s.dmCtrl u (putBit v 31 true))

end Sys2Proof.Machine
end

