-- ==== Sys2Proof/Machine/Hub.lean ====
section
/-! DEFINITION. Host accesses to the BARs (R15, R340, R341, R343): register writes, and reads that change something. -/
namespace Sys2Proof.Machine

namespace State

/-- The register an access reaches (R340): the PF's BAR0 maps the unit's registers, the base and the tile window; a VF's its own function registers. -/
def accessKey (a : Access) (off : Nat) : Option Nat :=
  if a.bar ≠ 0 then none
  else if a.func = 0 then
    (if off < 0x100000 then some (unitKey a.unit off) else if off < 0x1000000 then some off else none)
  else if off < 0x4000 then some (unitKey a.unit (0xC0000 + 0x4000 * a.func + off)) else none

/-- A shape R341 forbids: longer than 8 bytes, or across an 8-byte boundary. -/
def badShape (a : Access) : Bool := decide (8 < a.len) || decide (8 < a.off % 8 + a.len)

/-- The access covers one or two whole registers (R15) (log entry 174 DEDUCED). -/
def wholeRegs (a : Access) : Bool := decide (a.off % 4 = 0) && (decide (a.len = 4) || decide (a.len = 8))

/-- A write of one word of the MSI-X table (R340, R343): address, data, or the mask of a vector; an unmasked pending vector is sent (log entry 138 PRESUMED). -/
def msixWrite (u : Cu) (f off : Nat) (v : Word) (s : State) : State :=
  let x := s.fn u f
  if 0x400 ≤ off then s
  else if off % 16 = 12 then
    let m := 2 ^ (off / 16)
    let rest := if x.msixMask.testBit (off / 16) then x.msixMask - m else x.msixMask
    (s.setFn u f { x with msixMask := if bit v 0 then rest + m else rest }).drainMsix u f
  else s.setFn u f { x with msixTab := Tab.put 0 (off / 4) v.toNat x.msixTab }

/-- One word of an access is written. -/
def wordWrite (a : Access) (off : Nat) (v : Word) (s : State) : State :=
  if a.bar = 2 then s.msixWrite a.unit a.func off v
  else match accessKey a off with
  | some k => s.regWrite a.unit k v
  | none => s

/-- A host write (R15, R341): a forbidden shape sets BAD_ACCESS, one that does not cover whole registers NARROW_WR; 64 bits go lower address first (log entry 187 DEDUCED). -/
def hostRegWrite (a : Access) (v : Nat) (s : State) : State :=
  if badShape a then s.orReg (Reg.HL_STATUS a.unit) 0x10
  else if !wholeRegs a then s.orReg (Reg.HL_STATUS a.unit) 0x8
  else
    let s1 := s.wordWrite a a.off (word v)
    if a.len = 8 then s1.wordWrite a (a.off + 4) (word (v / 2 ^ 32)) else s1

/-- A host read (R15, R341): a forbidden shape answers Completer Abort and sets BAD_ACCESS; else the registers it touches are read, lower address first. -/
def hostRegRead (a : Access) (s : State) : State :=
  if badShape a then s.orReg (Reg.HL_STATUS a.unit) 0x10
  else
    let words := (a.off % 4 + a.len + 3) / 4
    (List.range words).foldl (fun (s : State) i =>
      match accessKey a (a.off / 4 * 4 + 4 * i) with
      | some k => s.readEffect k
      | none => s) s

end State

open State

/-- REGISTER_WRITE (R12, R15, R341, R342). -/
def execRegisterWrite (a : Access) (v : Nat) (s : State) : Res := .next (s.hostRegWrite a v)

/-- BAD_ACCESS_READ (R341): Completer Abort, and BAD_ACCESS set. -/
def execBadAccessRead (a : Access) (s : State) : Res := .next (s.hostRegRead a)

/-- LATCHING_READ (R299, R616). -/
def execLatchingRead (a : Access) (s : State) : Res := .next (s.hostRegRead a)

/-- CLEAR_ON_READ (R378, R500). -/
def execClearOnRead (a : Access) (s : State) : Res := .next (s.hostRegRead a)

end Sys2Proof.Machine
end

