-- ==== Sys2Proof/Machine/Timed.lean ====
section
/-! DEFINITION. Timed commands whose action time comes (R285–R287). -/
namespace Sys2Proof.Machine

namespace State

/-- A held command takes effect at its action time; a step that passed it makes it late, and without LATE_EXEC it is discarded (R285, R286) (log entry 45 DESIGN CHOICE). -/
def performTimed (t : Timed) (s : State) : State :=
  let c := t.cmd
  if t.late && !c.lateExec then s.refuse c 0x02
  else if t.op = 0x06 then s.schedAct c t.due t.late
  else if t.op = 0x08 then s.loopSetAct c t.late
  else if t.op = 0x09 then (if c.b 4 = 3 then s.squallAct c t.late else s.modeAct (c.b 4) c t.late)
  else if t.op = 0x11 then s.codesAct c t.late
  else if t.op = 0x12 then (if c.b 4 = 0 then s.substAct c t.late else s.releaseAct c t.late)
  else s

/-- The commands of one unit that are due now take effect in order of acceptance. -/
def unitTimed (u : Cu) (s : State) : State :=
  let x := s.unit u
  let due := x.timed.filter (fun t => decide (t.due ≤ s.now))
  let s1 := s.setUnit u { x with timed := x.timed.filter (fun t => decide (s.now < t.due)) }
  due.foldl (fun (s : State) t => s.performTimed t) s1

end State

/-- TIMED_ACTION_DUE (R285): on the first drive clock whose device time is at or after the action time. -/
def execTimedActionDue (s : State) : Res := .next ((s.unitTimed .a).unitTimed .b)

end Sys2Proof.Machine
end

