-- ==== Sys2Proof/Machine/Replay.lean ====
section
/-! DEFINITION. The update tick, and what a replay makes of it: the recorded inputs at their grid index, the comparison of what the bench computes with
the recording, and the end of a replay (R580–R585). -/
namespace Sys2Proof.Machine

namespace State

/-! ### Differences (R584, R586) -/

/-- The replay is to end, with a RESULT (log entry 208 DESIGN CHOICE). -/
def rpStop (result : Nat) (s : State) : State := { s with recd := { s.recd with rpEnd := result } }

/-- One difference: the first is latched, every one counted; with STOP_ON_DIFF the replay stops at the first (log entry 196 DEDUCED). -/
def rpDiff (what idx recorded produced : Nat) (s : State) : State :=
  if s.recd.rpEnd ≠ 0 then s
  else
    let s1 : State := if s.rnat Reg.REC_RP_DIFFS ≠ 0 then s
      else ((s.setReg64 Reg.REC_RP_DIFF_G_LO Reg.REC_RP_DIFF_G_HI s.time.g).setReg Reg.REC_RP_DIFF (word (2 ^ 28 * what + idx % 2 ^ 14))).setReg Reg.REC_RP_DIFF_VAL
        (word (2 ^ 16 * (recorded % 2 ^ 16) + produced % 2 ^ 16))
    let s2 := s1.bump Reg.REC_RP_DIFFS 31 0 1
    if s.rbit Reg.REC_RP_CTRL 1 then s2.rpStop 2 else s2

/-- Where two values are equal nothing happens. -/
def rpSame (what idx recorded produced : Nat) (s : State) : State := if recorded = produced then s else s.rpDiff what idx recorded produced

/-- The index, recorded and produced values of a compared record: each code of a DRIVE, a refined coefficient by its source, a health register by
its first cell that differs, each cell of a Squall run. -/
def rpPairs (what : Nat) (a b : List Byte) : List (Nat × Nat × Nat) :=
  match what with
  | 1 => (List.range (max (le a 0 2) (le b 0 2))).map (fun i => (i, le a (8 + 2 * i) 2, le b (8 + 2 * i) 2))
  | 3 => if a = b then [] else [(le a 8 2, le a 16 2, if a.take 16 = b.take 16 then le b 16 2 else 0x10000 + le b 16 2)]
  | 4 =>
    let i := (le a 8 4 - Reg.FAB_HEALTH 0) / 4
    if a = b then [] else [(8 * i + ((List.range 8).find? (fun j => decide (le a 16 4 / 2 ^ (4 * j) % 16 ≠ le b 16 4 / 2 ^ (4 * j) % 16))).getD 0, le a 16 4, 2 ^ 32 + le b 16 4)]
  | _ => (List.range ((max a.length b.length - 9) / 4)).map (fun i => (le a (9 + 4 * i) 2, le a (11 + 4 * i) 2, le b (11 + 4 * i) 2))

/-- The oldest record of a kind that waits is compared with the oldest the bench has made. -/
def rpCompare (s : State) (what : Nat) : State :=
  let is (e : Nat × List Byte) : Bool := decide (e.1 = what)
  match s.recd.rpWant.find? is, s.recd.rpMade.find? is with
  | some a, some b =>
    let s1 : State := { s with recd := { s.recd with rpWant := s.recd.rpWant.eraseP is, rpMade := s.recd.rpMade.eraseP is } }
    (rpPairs what a.2 b.2).foldl (fun (s : State) e => s.rpSame what e.1 e.2.1 e.2.2) s1
  | _, _ => s

/-- Every record that can be compared is. -/
def rpJudge : Nat → State → State
  | 0, s => s
  | n + 1, s => rpJudge n ([1, 3, 4, 5].foldl rpCompare s)

/-- A record waits to be compared. -/
def rpAwait (what : Nat) (p : List Byte) (s : State) : State := { s with recd := { s.recd with rpWant := s.recd.rpWant ++ [(what, p)] } }

/-! ### Recorded inputs (R574, R583) -/

/-- FINE in place of fine-lane results: the values by pad, OVER from a clamped one. -/
def rpFine (p : List Byte) (s : State) : State :=
  let pads := (s.results true).map Prod.fst
  let vals : List (Nat × Int) := (pads.zip (List.range (le p 0 2))).map (fun e => (e.1, sext 24 (le p (8 + 3 * e.2) 3)))
  let one (s : State) (ch : Nat) : State :=
    let m := s.monCh ch
    if !monServes ch m then s
    else
      let v := Tab.get 0 (padOf ch m) vals
      s.finePut ch m v (decide (v = 2 ^ 23 - 1) || decide (v = -(2 ^ 23))) false
  (s.fineWith one).tapsIn

/-- HK in place of the round: the readings, the tile temperatures, and what Draught and the correction updates take from them. -/
def rpHk (p : List Byte) (s : State) : State :=
  let s1 : State := (List.range 176).foldl (fun (s : State) c => s.setReg (Reg.HK_VALUE c) (word (le p (4 * c) 4))) s
  let s2 := s1.takeTiles
  let rounds := s2.drt.rounds ++ [(s2.clk, (List.range 64).map s2.tileTemp)]
  ({ s2 with drt := { s2.drt with rounds := rounds.drop (rounds.length - 4), cuSteps := [] } }).retemp

/-- COMMAND at its grid index, the bytes from the record: the commands whose effect the control computation takes in (log entry 200 DEDUCED). -/
def rpCommand (p : List Byte) (s : State) : State :=
  let c : Cmd := { unit := s.tknUnit, func := (le p 1 1) % 16, sq := le p 2 1, desc := fit 64 (p.drop 8) }
  let d : HostData := .bytes (p.drop 72)
  match c.op with
  | 0x02 => s.basteTake c d []
  | 0x08 => if setBad c then s else s.timed c (fun late s => s.loopSetAct c late)
  | 0x09 => if c.b 4 = 3 then s.timed c (fun late s => s.squallAct c late) else if c.b 4 = 1 ∨ c.b 4 = 2 then s.timed c (fun late s => s.modeAct (c.b 4) c late) else s
  | 0x0B => s.setLoad c d
  | 0x11 => if c.b 4 ≠ 0 ∨ c.b 5 = 0 ∨ 16 < c.b 5 then s else s.timed c (fun late s => s.codesAct c late)
  | _ => s

/-- Blocks that serve the bench itself and are no input of the control computation: writes to them are not repeated. -/
def rpOwn (b : Blk) : Bool := match b with | .kRec | .kTkn | .kPwr | .kMem | .kFlt | .kThm | .kHk => true | _ => false

/-- REGWRITE at its grid index. FAB_CTRL.EN stays as it is (log entry 199 DEDUCED). -/
def rpRegWrite (p : List Byte) (s : State) : State :=
  let k := s.rpKey (le p 0 8)
  let v := word (le p 8 4)
  match keyRow k with
  | none => s
  | some (r, _) => if rpOwn r.blk then s else s.regWrite s.tknUnit k (if k = Reg.FAB_CTRL then putBit v 0 s.fabOn else v)

/-- TIME: device time follows the record; INC from here on is the recorded one (log entry 202 DEDUCED). -/
def rpTime (p : List Byte) (s : State) : State :=
  let t : TimeSt := if byteAt p 32 % 2 = 1 then { s.time with sec := le p 0 8 % 2 ^ 48, ns := le p 8 4, frac := le p 12 4 } else s.time
  { s with time := { t with ph := (le p 24 8 : Int) - 0x4E2000000 - s.freq, phLeft := 2 ^ 62 } }

/-- GUST: its slot, armed at once, fires with the recorded verdicts; the BGEN is compared (log entry 201 DEDUCED). -/
def rpGustRec (p : List Byte) (s : State) : State :=
  let i := le p 8 2 % 256
  let last := le p 12 4
  let s1 := s.rpSame 2 i (le p 10 2) (s.slot i).bgen
  if s1.recd.rpEnd ≠ 0 then s1
  else
    let t := s1.formTnow
    let src : GustSrc := if last / 2 ^ 30 = 1 then .sched else .keep (last / 2 ^ 28 % 4)
    let g : Preload := { req := { src := src, slot := i, partl := last.testBit 27, due := none, late := false }, startClk := s1.clk, tnow := t.1,
                         noDraught := last.testBit 25, stale := last.testBit 26, calOld := last.testBit 24 }
    let s2 := (t.2.loadNext (t.2.slot i).img).fireGust g
    { s2 with recd := { s2.recd with rpGust := p } }

/-- GAIN: the setting of a pad's channel comes into force (R136). -/
def rpGain (p : List Byte) (s : State) : State :=
  match s.mon.chans.find? (fun e => monServes e.1 e.2 && decide (padOf e.1 e.2 = le p 8 2)) with
  | none => s
  | some (ch, m) =>
    let filt := decide (byteAt p 11 = 1)
    s.setMon ch { m with gain := byteAt p 10 % 4, filt := filt, auto := (match m.req with | some r => r.testBit 3 | none => m.auto), req := none, step := 0, subst := false,
                         setFast := (if byteAt p 10 % 4 = m.gain then m.setFast else 3), setFine := (if filt = m.filt then 4 else 5) }

/-- SUBST: the channel that serves an element from here on (R109, R146). -/
def rpSubst (p : List Byte) (s : State) : State :=
  let a := le p 8 4
  let to_ := le p 12 2
  match s.padSite (a / 2 ^ 29) (a / 2 ^ 16 % 2 ^ 13) with
  | none => s
  | some (mon, t, prim) =>
    let first := if mon then 92 else 228
    let width := if mon then 96 else 240
    if to_ % width < first then
      match (spEntries mon t).find? (fun k => s.spForce k && decide (s.fld (spReg k) 7 0 = prim)) with
      | some k => s.spSwitch k
      | none => s
    else
      let k : SpKey := { mon := mon, tile := t, j := to_ % width - first }
      if s.spForce k then s else ((s.setField (spReg k) 7 0 prim).orReg (spReg k) (2 ^ 31)).spSwitch k

/-- SAFE: the datapaths enter and leave hold as the field's did (R104–R106). -/
def rpSafe (p : List Byte) (s : State) : State :=
  if byteAt p 9 = 1 then (if byteAt p 8 = 2 then s.parkData else s.holdData).abortSquall
  else if byteAt p 8 = 3 then s.unhold else (s.presetHeld).unhold

/-- CLASS: a class register takes effect (R230) (log entry 198 DEDUCED). -/
def rpClass (p : List Byte) (s : State) : State :=
  let k := clsKey (byteAt p 8 % 16) (byteAt p 9)
  if !clsOffs.contains (byteAt p 9) then s
  else
    let s1 : State := { s with loop := { s.loop with clsVals := Tab.put (regReset s.part k) k (word (le p 10 4)) s.loop.clsVals } }
    s1.ditherClasses s

/-- CLOCK: a unit of the field changed its power state (R253). -/
def rpClock (p : List Byte) (s : State) : State :=
  let u := Cu.ofBit (decide (byteAt p 8 = 1))
  let f := byteAt p 9
  let power (f : Nat) : Int := if f = 0 then 0 else ((80 * s.fld Reg.DRT_CU_PWR 31 16 + 10 * s.fld Reg.DRT_CU_PWR 15 0 * f : Nat) : Int).fdiv 8
  let was := match u with | .a => s.thm.fA | .b => s.thm.fB
  let thm : ThmSt := match u with | .a => { s.thm with fA := f } | .b => { s.thm with fB := f }
  { s with thm := thm, drt := { s.drt with cuSteps := s.drt.cuSteps ++ [{ unit := u, at_ := s.clk, dP := power f - power was }] } }

/-- INJECT: a test current starts, or ends at level 0 (R139, R140). -/
def rpInject (p : List Byte) (s : State) : State :=
  let t := byteAt p 8
  let l : List (Nat × Inj) := if le p 10 2 = 0
    then (match Tab.find t s.mon.inj with | some i => Tab.set t { i with untilClk := some s.clk } s.mon.inj | none => s.mon.inj)
    else Tab.set t { index := byteAt p 9, fromClk := s.clk + 4, untilClk := none } s.mon.inj
  { s with mon := { s.mon with inj := l } }

/-- An EVENT record: applied, or compared (R574). -/
def rpEvent (p : List Byte) (s : State) : State :=
  match le p 0 2 with
  | 1 => s.rpGain p
  | 2 => s.rpSubst p
  | 3 => s.rpSafe p
  | 4 => s.calBoundary
  | 5 => s.rpClass p
  | 6 => s.setReg Reg.LOOP_CLS_STAT (word (le p 8 2))
  | 7 => { s with loop := { s.loop with instAt := some s.time.g } }
  | 8 => s.rpClock p
  | 10 =>
    if byteAt p 8 = 2 then s.rpAwait 5 p
    else if s.loop.squall.isSome then s
    else
      let cells := (List.range ((p.length - 11) / 2)).map (fun i => le p (11 + 2 * i) 2)
      s.squallBegin (s.loopCell (cells.headD 0)).cls (le p 9 2) cells none
  | 11 => s.rpAwait 3 p
  | 12 => if byteAt p 24 = 1 then s.rpAwait 4 p else s.healthPut false ((le p 8 4 - Reg.FAB_HEALTH 0) / 4) (word (le p 16 4))
  | 13 => s.rpInject p
  | 14 => (s.setReg Reg.HK_INJ_RES (word (le p 12 4))).setReg64 Reg.HK_INJ_G_LO Reg.HK_INJ_G_HI s.time.g
  | _ => s

/-- One record takes effect (R583) (log entry 205 DEDUCED). -/
def rpApply (typ : Nat) (p : List Byte) (s : State) : State :=
  match typ with
  | 0x01 => s.rpFine p
  | 0x02 => s.rpAwait 1 p
  | 0x03 => s.rpHk p
  | 0x04 => s.rpCommand p
  | 0x05 => s.rpRegWrite p
  | 0x06 => s.rpTime p
  | 0x08 => s.rpGustRec p
  | 0x0A => s.rpEvent p
  | 0x0C => s.rpStop 1
  | _ => s

/-! ### Reading the recording (R569, R570, R584) -/

/-- The full grid index of a record of block `n`: the value nearest to its G_FIRST (R570). -/
def fullG (s : State) (n g : Nat) : Nat :=
  let gf := s.blockField n 16 8
  let d := (g + 2 ^ 32 - gf % 2 ^ 32) % 2 ^ 32
  if d < 2 ^ 31 then gf + d else gf + d - 2 ^ 32

/-- The next block is opened (R569, R572, R584): END at the newest, INPUT_GAP where records are missing, MODE1 where it holds no FINE records. -/
def rpOpen (n m : Nat) (s : State) : State :=
  let was := s.blockField n 8 8
  if !s.blockOk m || decide (s.blockField m 8 8 ≤ was) then s.rpStop 1
  else if s.blockField m 8 8 ≠ was + 1 || decide (s.blockField m 38 1 % 2 = 1) then s.rpStop 3
  else if s.blockField m 7 1 = 1 then s.rpStop 5
  else { s with recd := { s.recd with rpAt := (m, 8) } }

/-- Records up to the present grid index take effect in order; a DRIVE record ends the reading, since its loop instant comes first. `fuel` bounds
their number. -/
def rpFeed : Nat → State → State
  | 0, s => s
  | fuel + 1, s =>
    if s.recd.rpEnd ≠ 0 then s
    else
      let at_ := s.recd.rpAt
      let nx := s.recNext at_.1 at_.2
      if nx ≠ at_ then rpFeed fuel (s.rpOpen at_.1 nx.1)
      else
        let r := s.recAt at_.1 at_.2
        if s.time.g < s.fullG at_.1 r.g then s
        else
          let w := s.recWhole 64 at_
          let s1 := ({ s with recd := { s.recd with rpAt := w.2 } }).rpApply r.typ w.1
          if r.typ = 2 then s1 else rpFeed fuel s1

/-- Records the engine may read between two ticks (log entry 195 DEDUCED). -/
def rpFuel : Nat := 65536

/-- A loop instant that a DRIVE record waits for and that has not been carried out is (log entry 197 DEDUCED). -/
def rpInstant (s : State) : State :=
  if s.recd.rpWant.any (fun e => decide (e.1 = 1)) && !s.recd.rpMade.any (fun e => decide (e.1 = 1)) then s.loopInstant else s

/-- An update tick of a replay (R583, R584): what the last tick left is compared and read, then the datapaths compute at the new grid index and
its inputs are presented. The bench's converters are disconnected; compliance and parity are those of its own pads. -/
def rpTick (low parity : List Nat) (s : State) : State :=
  let s0 := s.rpInstant
  let s1 := ((s0.rpJudge (s0.recd.rpWant.length + 1)).rpFeed rpFuel).tickOn
  let chs := low.filter (fun ch => s1.complies ch)
  let s2 := ((s1.takeShape).evalWhere true false (fun _ _ => true)).rpFeed rpFuel
  let c := s2.noteCompliance chs
  let s3 := c.1.setReg64 Reg.REC_RP_G_LO Reg.REC_RP_G_HI c.1.time.g
  let reps := c.2 ++ parity.map (fun ch => ({ src := 24, detail := ch } : FaultRep))
  if reps.isEmpty then s3 else s3.report reps

end State

open State

/-- UPDATE_TICK (R93, R583): the drive clock must run. -/
def execUpdateTick (fast : List (Nat × MonRaw)) (low parity : List Nat) (s : State) : Res :=
  .next (if !s.time.on then s else if s.inReplay then s.rpTick low parity else s.tick fast low parity)

/-- REPLAY_START (R582). -/
def execReplayStart (u : Cu) (v : Word) (s : State) : Res :=
  .next (s.baseWrite u Reg.REC_RP_CTRL (putBit v 31 true) (fun s => s.rpCtrl (putBit v 31 true)))

/-- REPLAY_STOP (R585). -/
def execReplayStop (u : Cu) (v : Word) (s : State) : Res :=
  .next (s.baseWrite u Reg.REC_RP_CTRL (putBit v 30 true) (fun s => s.rpCtrl (putBit v 30 true)))

/-- REPLAY_END (R584, R585): at the FREEZE record or the newest block, at a gap, at a block of mode 1, or at a difference under STOP_ON_DIFF; what has
been produced up to here is compared first. -/
def execReplayEnd (s : State) : Res :=
  if !s.inReplay || decide (s.recd.rpEnd = 0) then .next s
  else
    let s1 : State := if s.recd.rpEnd = 2 then s else (s.rpStop 0).rpJudge (s.recd.rpWant.length + 1)
    .next (s1.endReplay (if s1.recd.rpEnd = 0 then s.recd.rpEnd else 2))

end Sys2Proof.Machine
end

