-- ==== Sys2Proof/Machine/Dispatch.lean ====
section
/-! DEFINITION. One arm per command: what each does to everything but the queue. -/
namespace Sys2Proof.Machine

/-- The effect of one command (R-numbers stand at each meaning). -/
def exec (i : Instr) (s : State) : Host.Outcome State Fault Refusal :=
  match i with
  | .fabLoad u v => Sys2Proof.Machine.execFabLoad u v s
  | .fabLoadDeferredRead => Sys2Proof.Machine.execFabLoadDeferredRead s
  | .fabLoadEnd d => Sys2Proof.Machine.execFabLoadEnd d s
  | .fabEnable u v => Sys2Proof.Machine.execFabEnable u v s
  | .fabDisable u v => Sys2Proof.Machine.execFabDisable u v s
  | .healthMarkWrite u idx v => Sys2Proof.Machine.execHealthMarkWrite u idx v s
  | .siteBiasEnable u v => Sys2Proof.Machine.execSiteBiasEnable u v s
  | .siteSenseEnable u v => Sys2Proof.Machine.execSiteSenseEnable u v s
  | .siteBiasFault tiles => Sys2Proof.Machine.execSiteBiasFault tiles s
  | .siteCheckStart u v => Sys2Proof.Machine.execSiteCheckStart u v s
  | .siteCheckStop u v => Sys2Proof.Machine.execSiteCheckStop u v s
  | .siteCheckDone meas => Sys2Proof.Machine.execSiteCheckDone meas s
  | .updateTick fast low parity => Sys2Proof.Machine.execUpdateTick fast low parity s
  | .drvQueueWrite u ch v => Sys2Proof.Machine.execDrvQueueWrite u ch v s
  | .drvQueueFlush u ch v => Sys2Proof.Machine.execDrvQueueFlush u ch v s
  | .drvSlewWrite u ch v => Sys2Proof.Machine.execDrvSlewWrite u ch v s
  | .drvCountClear u tile v => Sys2Proof.Machine.execDrvCountClear u tile v s
  | .preEmphasisEnd ch => Sys2Proof.Machine.execPreEmphasisEnd ch s
  | .drvSpareRequest u tile j v => Sys2Proof.Machine.execDrvSpareRequest u tile j v s
  | .drvSpareRelease u tile j v => Sys2Proof.Machine.execDrvSpareRelease u tile j v s
  | .drvSpareTrackingDone tile j agree => Sys2Proof.Machine.execDrvSpareTrackingDone tile j agree s
  | .fineLaneInstant raw => Sys2Proof.Machine.execFineLaneInstant raw s
  | .resultQueueAgeExpiry q => Sys2Proof.Machine.execResultQueueAgeExpiry q s
  | .monCfgWrite u ch v => Sys2Proof.Machine.execMonCfgWrite u ch v s
  | .monGridAlignRequest u v => Sys2Proof.Machine.execMonGridAlignRequest u v s
  | .gridAlign => Sys2Proof.Machine.execGridAlign s
  | .monInjectStart u tile v => Sys2Proof.Machine.execMonInjectStart u tile v s
  | .monInjectStop u tile v => Sys2Proof.Machine.execMonInjectStop u tile v s
  | .monDiagStart u v => Sys2Proof.Machine.execMonDiagStart u v s
  | .monDiagStop u v => Sys2Proof.Machine.execMonDiagStop u v s
  | .monDiagDone res => Sys2Proof.Machine.execMonDiagDone res s
  | .monCountClear u tile v => Sys2Proof.Machine.execMonCountClear u tile v s
  | .resultQueueEnable u q v => Sys2Proof.Machine.execResultQueueEnable u q v s
  | .resultQueueDisable u q v => Sys2Proof.Machine.execResultQueueDisable u q v s
  | .monSpareRequest u tile j v => Sys2Proof.Machine.execMonSpareRequest u tile j v s
  | .monSpareRelease u tile j v => Sys2Proof.Machine.execMonSpareRelease u tile j v s
  | .monSpareReadinessDone tile j agree => Sys2Proof.Machine.execMonSpareReadinessDone tile j agree s
  | .monPortCfgWrite u port out dwell v => Sys2Proof.Machine.execMonPortCfgWrite u port out dwell v s
  | .routeLookup c d badWays => Sys2Proof.Machine.execRouteLookup c d badWays s
  | .routePreload c d badWays => Sys2Proof.Machine.execRoutePreload c d badWays s
  | .routeSolve c d => Sys2Proof.Machine.execRouteSolve c d s
  | .routeInvalidate c d => Sys2Proof.Machine.execRouteInvalidate c d s
  | .routeFlush c => Sys2Proof.Machine.execRouteFlush c s
  | .routeRehash c => Sys2Proof.Machine.execRouteRehash c s
  | .cacheInsert u => Sys2Proof.Machine.execCacheInsert u s
  | .cacheAgeSweep bad => Sys2Proof.Machine.execCacheAgeSweep bad s
  | .rehashDone bad => Sys2Proof.Machine.execRehashDone bad s
  | .cacheClearDone => Sys2Proof.Machine.execCacheClearDone s
  | .routeCountClear u v => Sys2Proof.Machine.execRouteCountClear u v s
  | .mapBaste c d badWays => Sys2Proof.Machine.execMapBaste c d badWays s
  | .basteComplete u => Sys2Proof.Machine.execBasteComplete u s
  | .gust c => Sys2Proof.Machine.execGust c s
  | .gustPreloadStart => Sys2Proof.Machine.execGustPreloadStart s
  | .gustArmed => Sys2Proof.Machine.execGustArmed s
  | .gustTrigger => Sys2Proof.Machine.execGustTrigger s
  | .trigInEdge pin frac => Sys2Proof.Machine.execTrigInEdge pin frac s
  | .gustVerify => Sys2Proof.Machine.execGustVerify s
  | .gustReverify => Sys2Proof.Machine.execGustReverify s
  | .lullEnd => Sys2Proof.Machine.execLullEnd s
  | .draughtPoint poison => Sys2Proof.Machine.execDraughtPoint poison s
  | .draughtEnd => Sys2Proof.Machine.execDraughtEnd s
  | .gustCountClear u v => Sys2Proof.Machine.execGustCountClear u v s
  | .loopInstant overrun => Sys2Proof.Machine.execLoopInstant overrun s
  | .loopOutputApply => Sys2Proof.Machine.execLoopOutputApply s
  | .loopModeManual c => Sys2Proof.Machine.execLoopModeManual c s
  | .loopModeAuto c => Sys2Proof.Machine.execLoopModeAuto c s
  | .loopCellModeWrite u cell v => Sys2Proof.Machine.execLoopCellModeWrite u cell v s
  | .clrStrike u cell v => Sys2Proof.Machine.execClrStrike u cell v s
  | .loopClsHoldWrite u v => Sys2Proof.Machine.execLoopClsHoldWrite u v s
  | .loopClassWrite u cls off v => Sys2Proof.Machine.execLoopClassWrite u cls off v s
  | .loopSet c => Sys2Proof.Machine.execLoopSet c s
  | .squallStart via => Sys2Proof.Machine.execSquallStart via s
  | .squallStop u v => Sys2Proof.Machine.execSquallStop u v s
  | .squallEnd => Sys2Proof.Machine.execSquallEnd s
  | .loopCountClear u v => Sys2Proof.Machine.execLoopCountClear u v s
  | .drtTauWrite u k v => Sys2Proof.Machine.execDrtTauWrite u k v s
  | .drtCommit u v => Sys2Proof.Machine.execDrtCommit u v s
  | .drtInvalidate u v => Sys2Proof.Machine.execDrtInvalidate u v s
  | .drtCountClear u v => Sys2Proof.Machine.execDrtCountClear u v s
  | .ppsEdge frac => Sys2Proof.Machine.execPpsEdge frac s
  | .ppsLost => Sys2Proof.Machine.execPpsLost s
  | .ppsPhaseEnd => Sys2Proof.Machine.execPpsPhaseEnd s
  | .secondsArm u v => Sys2Proof.Machine.execSecondsArm u v s
  | .timedActionDue => Sys2Proof.Machine.execTimedActionDue s
  | .schedLoad c d => Sys2Proof.Machine.execSchedLoad c d s
  | .schedCommit via => Sys2Proof.Machine.execSchedCommit via s
  | .schedStop via => Sys2Proof.Machine.execSchedStop via s
  | .schedStopAtEnd via => Sys2Proof.Machine.execSchedStopAtEnd via s
  | .schedCancel via => Sys2Proof.Machine.execSchedCancel via s
  | .schedStart => Sys2Proof.Machine.execSchedStart s
  | .scheduleEdge => Sys2Proof.Machine.execScheduleEdge s
  | .timePulse c => Sys2Proof.Machine.execTimePulse c s
  | .toutEnable u idx v => Sys2Proof.Machine.execToutEnable u idx v s
  | .toutPulse idx => Sys2Proof.Machine.execToutPulse idx s
  | .calRun c => Sys2Proof.Machine.execCalRun c s
  | .calRunEnd res => Sys2Proof.Machine.execCalRunEnd res s
  | .calSetLoad c d => Sys2Proof.Machine.execCalSetLoad c d s
  | .charTable c => Sys2Proof.Machine.execCharTable c s
  | .charCoupling c d => Sys2Proof.Machine.execCharCoupling c d s
  | .charTrimSweep c d => Sys2Proof.Machine.execCharTrimSweep c d s
  | .charThrowSweep c d => Sys2Proof.Machine.execCharThrowSweep c d s
  | .couplingRunEnd res => Sys2Proof.Machine.execCouplingRunEnd res s
  | .charRunEnd res => Sys2Proof.Machine.execCharRunEnd res s
  | .calIdle u v => Sys2Proof.Machine.execCalIdle u v s
  | .calIdleLapse => Sys2Proof.Machine.execCalIdleLapse s
  | .calAbort u v => Sys2Proof.Machine.execCalAbort u v s
  | .calSeqStop u v => Sys2Proof.Machine.execCalSeqStop u v s
  | .calHashDrt u v => Sys2Proof.Machine.execCalHashDrt u v s
  | .drtHashDone => Sys2Proof.Machine.execDrtHashDone s
  | .perstAssert u => Sys2Proof.Machine.execPerstAssert u s
  | .perstRelease u => Sys2Proof.Machine.execPerstRelease u s
  | .hotReset u => Sys2Proof.Machine.execHotReset u s
  | .linkDown u => Sys2Proof.Machine.execLinkDown u s
  | .flrPf u => Sys2Proof.Machine.execFlrPf u s
  | .flrVf u f => Sys2Proof.Machine.execFlrVf u f s
  | .linkRetrain u rate width reversed l0p flit => Sys2Proof.Machine.execLinkRetrain u rate width reversed l0p flit s
  | .d3hotEntry u f => Sys2Proof.Machine.execD3hotEntry u f s
  | .d3hotExit u f => Sys2Proof.Machine.execD3hotExit u f s
  | .linkError u uncorrectable => Sys2Proof.Machine.execLinkError u uncorrectable s
  | .hlCountClear u v => Sys2Proof.Machine.execHlCountClear u v s
  | .registerWrite a v => Sys2Proof.Machine.execRegisterWrite a v s
  | .badAccessRead a => Sys2Proof.Machine.execBadAccessRead a s
  | .latchingRead a => Sys2Proof.Machine.execLatchingRead a s
  | .clearOnRead a => Sys2Proof.Machine.execClearOnRead a s
  | .hostReadFail u w => Sys2Proof.Machine.execHostReadFail u w s
  | .queuePoll u p rtt => Sys2Proof.Machine.execQueuePoll u p rtt s
  | .descriptorFetch u f sqn ds rtt => Sys2Proof.Machine.execDescriptorFetch u f sqn ds rtt s
  | .arbitrationGrant u => Sys2Proof.Machine.execArbitrationGrant u s
  | .bucketRefill => Sys2Proof.Machine.execBucketRefill s
  | .completionPost u f c head => Sys2Proof.Machine.execCompletionPost u f c head s
  | .ringInterruptTimer u f q => Sys2Proof.Machine.execRingInterruptTimer u f q s
  | .functionEnable u f v => Sys2Proof.Machine.execFunctionEnable u f v s
  | .functionDisable u f v => Sys2Proof.Machine.execFunctionDisable u f v s
  | .sqEnable u f sqn v slot => Sys2Proof.Machine.execSqEnable u f sqn v slot s
  | .sqDisable u f sqn v => Sys2Proof.Machine.execSqDisable u f sqn v s
  | .cqEnable u f q v => Sys2Proof.Machine.execCqEnable u f q v s
  | .cqDisable u f q v => Sys2Proof.Machine.execCqDisable u f q v s
  | .eqEnable u f v => Sys2Proof.Machine.execEqEnable u f v s
  | .trEnable u f q v => Sys2Proof.Machine.execTrEnable u f q v s
  | .qCountClear u f v => Sys2Proof.Machine.execQCountClear u f v s
  | .nop c => Sys2Proof.Machine.execNop c s
  | .mapQuery c => Sys2Proof.Machine.execMapQuery c s
  | .move c => Sys2Proof.Machine.execMove c s
  | .telemCtrl c d => Sys2Proof.Machine.execTelemCtrl c d s
  | .elementDirectCodes c => Sys2Proof.Machine.execElementDirectCodes c s
  | .elementDirectRead c => Sys2Proof.Machine.execElementDirectRead c s
  | .spareMapSubstitute c => Sys2Proof.Machine.execSpareMapSubstitute c s
  | .spareMapRelease c => Sys2Proof.Machine.execSpareMapRelease c s
  | .faultCtrlRead c => Sys2Proof.Machine.execFaultCtrlRead c s
  | .faultCtrlClear c => Sys2Proof.Machine.execFaultCtrlClear c s
  | .faultCtrlConfig c => Sys2Proof.Machine.execFaultCtrlConfig c s
  | .stateSave c => Sys2Proof.Machine.execStateSave c s
  | .attest c => Sys2Proof.Machine.execAttest c s
  | .fwStageStage c d => Sys2Proof.Machine.execFwStageStage c d s
  | .fwStageActivate c => Sys2Proof.Machine.execFwStageActivate c s
  | .fwStageDiscard c => Sys2Proof.Machine.execFwStageDiscard c s
  | .flashWriteDone u code => Sys2Proof.Machine.execFlashWriteDone u code s
  | .recCtrlStatus c => Sys2Proof.Machine.execRecCtrlStatus c s
  | .recFreeze via => Sys2Proof.Machine.execRecFreeze via s
  | .recRelease via => Sys2Proof.Machine.execRecRelease via s
  | .recSizeSet c => Sys2Proof.Machine.execRecSizeSet c s
  | .recModeSet c => Sys2Proof.Machine.execRecModeSet c s
  | .recTriggersSet c => Sys2Proof.Machine.execRecTriggersSet c s
  | .recPostExpiry => Sys2Proof.Machine.execRecPostExpiry s
  | .recPullStart u v => Sys2Proof.Machine.execRecPullStart u v s
  | .recPullEnd => Sys2Proof.Machine.execRecPullEnd s
  | .replayStart u v => Sys2Proof.Machine.execReplayStart u v s
  | .replayStop u v => Sys2Proof.Machine.execReplayStop u v s
  | .replayEnd => Sys2Proof.Machine.execReplayEnd s
  | .tknClaim u v => Sys2Proof.Machine.execTknClaim u v s
  | .tknRenew u v => Sys2Proof.Machine.execTknRenew u v s
  | .tknRelease u v => Sys2Proof.Machine.execTknRelease u v s
  | .tknResume u v => Sys2Proof.Machine.execTknResume u v s
  | .tknRehStart u v => Sys2Proof.Machine.execTknRehStart u v s
  | .tknRehCall u v => Sys2Proof.Machine.execTknRehCall u v s
  | .tknRehDismiss u v => Sys2Proof.Machine.execTknRehDismiss u v s
  | .tknRehReport u v => Sys2Proof.Machine.execTknRehReport u v s
  | .leaseExpiry cause => Sys2Proof.Machine.execLeaseExpiry cause s
  | .firmwareVerified u bank fail hdr => Sys2Proof.Machine.execFirmwareVerified u bank fail hdr s
  | .graceEnd => Sys2Proof.Machine.execGraceEnd s
  | .claimDeadline => Sys2Proof.Machine.execClaimDeadline s
  | .unitBootFail u cause => Sys2Proof.Machine.execUnitBootFail u cause s
  | .reservationExpiry => Sys2Proof.Machine.execReservationExpiry s
  | .imageSavePeriodic => Sys2Proof.Machine.execImageSavePeriodic s
  | .imageSaveEvent => Sys2Proof.Machine.execImageSaveEvent s
  | .rehearsalAutoDue => Sys2Proof.Machine.execRehearsalAutoDue s
  | .rehearsalTimeout => Sys2Proof.Machine.execRehearsalTimeout s
  | .revertRehearsalDue => Sys2Proof.Machine.execRevertRehearsalDue s
  | .wtrExpiry => Sys2Proof.Machine.execWtrExpiry s
  | .successorReadyTimeout => Sys2Proof.Machine.execSuccessorReadyTimeout s
  | .porRise prefB testmode => Sys2Proof.Machine.execPorRise prefB testmode s
  | .coldReset => Sys2Proof.Machine.execColdReset s
  | .pllLock => Sys2Proof.Machine.execPllLock s
  | .dramTrained vcoreOk => Sys2Proof.Machine.execDramTrained vcoreOk s
  | .dramInitDone => Sys2Proof.Machine.execDramInitDone s
  | .peerCallTimeout => Sys2Proof.Machine.execPeerCallTimeout s
  | .resetNAssert lowNs => Sys2Proof.Machine.execResetNAssert lowNs s
  | .pwrRstDevice u v => Sys2Proof.Machine.execPwrRstDevice u v s
  | .pwrRstUnit u v => Sys2Proof.Machine.execPwrRstUnit u v s
  | .pwrCuSelfReset u v => Sys2Proof.Machine.execPwrCuSelfReset u v s
  | .warmResetRelease => Sys2Proof.Machine.execWarmResetRelease s
  | .drivePowerDown => Sys2Proof.Machine.execDrivePowerDown s
  | .vanaLow => Sys2Proof.Machine.execVanaLow s
  | .vcoreLow u => Sys2Proof.Machine.execVcoreLow u s
  | .vphyLow u v12 => Sys2Proof.Machine.execVphyLow u v12 s
  | .driveRailLow vhtr => Sys2Proof.Machine.execDriveRailLow vhtr s
  | .vioLow => Sys2Proof.Machine.execVioLow s
  | .supplyMonitorRelease rail u => Sys2Proof.Machine.execSupplyMonitorRelease rail u s
  | .dramScrub stack e => Sys2Proof.Machine.execDramScrub stack e s
  | .rowCopyDone => Sys2Proof.Machine.execRowCopyDone s
  | .bankCopyDone => Sys2Proof.Machine.execBankCopyDone s
  | .memSpareBank u v => Sys2Proof.Machine.execMemSpareBank u v s
  | .fuseCommitDone ok => Sys2Proof.Machine.execFuseCommitDone ok s
  | .memProbe u v => Sys2Proof.Machine.execMemProbe u v s
  | .memCountClear u v => Sys2Proof.Machine.execMemCountClear u v s
  | .spPstateWrite u b v => Sys2Proof.Machine.execSpPstateWrite u b v s
  | .spPstateDone u b => Sys2Proof.Machine.execSpPstateDone u b s
  | .spOwnerWrite u b v => Sys2Proof.Machine.execSpOwnerWrite u b v s
  | .spRetireCmd u v => Sys2Proof.Machine.execSpRetireCmd u v s
  | .spRetireDone u b zeros => Sys2Proof.Machine.execSpRetireDone u b zeros s
  | .dmStart u n v => Sys2Proof.Machine.execDmStart u n v s
  | .dmPause u n v => Sys2Proof.Machine.execDmPause u n v s
  | .dmPaused u n data => Sys2Proof.Machine.execDmPaused u n data s
  | .dmUnpause u n v => Sys2Proof.Machine.execDmUnpause u n v s
  | .dmResume u n v => Sys2Proof.Machine.execDmResume u n v s
  | .dmEnd u n v => Sys2Proof.Machine.execDmEnd u n v s
  | .dmBurstFail u n data addr cause => Sys2Proof.Machine.execDmBurstFail u n data addr cause s
  | .dmRetryTimer u n => Sys2Proof.Machine.execDmRetryTimer u n s
  | .dmPoisonHalt u n data addr => Sys2Proof.Machine.execDmPoisonHalt u n data addr s
  | .dmTransferDone u n data => Sys2Proof.Machine.execDmTransferDone u n data s
  | .dmHwRequest u n => Sys2Proof.Machine.execDmHwRequest u n s
  | .dmHwWithdraw u n beats => Sys2Proof.Machine.execDmHwWithdraw u n beats s
  | .dmCountClear u v => Sys2Proof.Machine.execDmCountClear u v s
  | .faultReport reports => Sys2Proof.Machine.execFaultReport reports s
  | .fltRelease u v => Sys2Proof.Machine.execFltRelease u v s
  | .fltClrAll u v => Sys2Proof.Machine.execFltClrAll u v s
  | .fltClrFirst u v => Sys2Proof.Machine.execFltClrFirst u v s
  | .fltSrcClr u src v => Sys2Proof.Machine.execFltSrcClr u src v s
  | .logCommit ok => Sys2Proof.Machine.execLogCommit ok s
  | .hkSlot value => Sys2Proof.Machine.execHkSlot value s
  | .hkRoundEnd legs => Sys2Proof.Machine.execHkRoundEnd legs s
  | .hkInjStart u v => Sys2Proof.Machine.execHkInjStart u v s
  | .thmClrSuspect u v => Sys2Proof.Machine.execThmClrSuspect u v s
  | .thmClrPic u v => Sys2Proof.Machine.execThmClrPic u v s
  | .secPassword u v => Sys2Proof.Machine.execSecPassword u v s
  | .secChallenge u v => Sys2Proof.Machine.execSecChallenge u v s
  | .secRespond u v => Sys2Proof.Machine.execSecRespond u v s
  | .secClose u v => Sys2Proof.Machine.execSecClose u v s
  | .secEnrol u v => Sys2Proof.Machine.execSecEnrol u v s
  | .secRaiseFloor u v => Sys2Proof.Machine.execSecRaiseFloor u v s
  | .fuseProgramDone u ok => Sys2Proof.Machine.execFuseProgramDone u ok s
  | .nonceExpiry u => Sys2Proof.Machine.execNonceExpiry u s
  | .pmcClrAll u v => Sys2Proof.Machine.execPmcClrAll u v s
  | .pmcFreeze u v => Sys2Proof.Machine.execPmcFreeze u v s
  | .pmcUnfreeze u v => Sys2Proof.Machine.execPmcUnfreeze u v s
  | .pmcCntWrite u n v => Sys2Proof.Machine.execPmcCntWrite u n v s
  | .pmcEvtWrite u n v => Sys2Proof.Machine.execPmcEvtWrite u n v s
  | .pmcCounterWrap u n => Sys2Proof.Machine.execPmcCounterWrap u n s
  | .pmcWindowEnd u bytes => Sys2Proof.Machine.execPmcWindowEnd u bytes s
  | .pllUnlock => Sys2Proof.Machine.execPllUnlock s
  | .pllRelock => Sys2Proof.Machine.execPllRelock s
  | .jtagInstruction ir => Sys2Proof.Machine.execJtagInstruction ir s
  | .watchdog u => Sys2Proof.Machine.execWatchdog u s
  | .linkUp u rate width reversed l0p flit => Sys2Proof.Machine.execLinkUp u rate width reversed l0p flit s
  | .toutPulseEnd idx => Sys2Proof.Machine.execToutPulseEnd idx s

end Sys2Proof.Machine
end

