-- ==== Sys2Proof/WellFormed.lean ====
section
/-! DEFINITION. Which commands are well formed: every index lies in the range of what it names, and a descriptor is 64 bytes. -/
namespace Sys2Proof

/-- A descriptor comes through one of 16 functions and 64 SQs and is 64 bytes (R338, R357, R385). -/
def Cmd.wf (c : Cmd) : Bool := decide (c.func < 16) && decide (c.sq < 64) && decide (c.desc.length = 64)

/-- A register write needs nothing more; a descriptor is well formed. -/
def Via.wf (x : Via) : Bool := match x with | .reg _ _ => true | .desc c => c.wf

/-- A host access names one of 16 functions and a BAR, and is not empty (R338, R340). -/
def Access.wf (a : Access) : Bool := decide (a.func < 16) && decide (a.bar < 6) && decide (0 < a.len)

/-- Every index of a command lies in the range of what it names. -/
def Instr.wf (i : Instr) : Bool :=
  match i with
  | .fabLoad _ _ => true
  | .fabLoadDeferredRead => true
  | .fabLoadEnd _ => true
  | .fabEnable _ _ => true
  | .fabDisable _ _ => true
  | .healthMarkWrite _ i _ => decide (i < 608)
  | .siteBiasEnable _ _ => true
  | .siteSenseEnable _ _ => true
  | .siteBiasFault _ => true
  | .siteCheckStart _ _ => true
  | .siteCheckStop _ _ => true
  | .siteCheckDone _ => true
  | .updateTick _ _ _ => true
  | .drvQueueWrite _ ch _ => decide (ch < 15360)
  | .drvQueueFlush _ ch _ => decide (ch < 15360)
  | .drvSlewWrite _ ch _ => decide (ch < 15360)
  | .drvCountClear _ tile _ => decide (tile < 64)
  | .preEmphasisEnd ch => decide (ch < 15360)
  | .drvSpareRequest _ tile j _ => decide (tile < 64) && decide (j < 12)
  | .drvSpareRelease _ tile j _ => decide (tile < 64) && decide (j < 12)
  | .drvSpareTrackingDone tile j _ => decide (tile < 64) && decide (j < 12)
  | .fineLaneInstant _ => true
  | .resultQueueAgeExpiry q => decide (q < 16)
  | .monCfgWrite _ ch _ => decide (ch < 6144)
  | .monGridAlignRequest _ _ => true
  | .gridAlign => true
  | .monInjectStart _ tile _ => decide (tile < 64)
  | .monInjectStop _ tile _ => decide (tile < 64)
  | .monDiagStart _ _ => true
  | .monDiagStop _ _ => true
  | .monDiagDone _ => true
  | .monCountClear _ tile _ => decide (tile < 64)
  | .resultQueueEnable _ q _ => decide (q < 16)
  | .resultQueueDisable _ q _ => decide (q < 16)
  | .monSpareRequest _ tile j _ => decide (tile < 64) && decide (j < 4)
  | .monSpareRelease _ tile j _ => decide (tile < 64) && decide (j < 4)
  | .monSpareReadinessDone tile j _ => decide (tile < 64) && decide (j < 4)
  | .monPortCfgWrite _ port _ _ _ => decide (port < 512)
  | .routeLookup c _ _ => c.wf
  | .routePreload c _ _ => c.wf
  | .routeSolve c _ => c.wf
  | .routeInvalidate c _ => c.wf
  | .routeFlush c => c.wf
  | .routeRehash c => c.wf
  | .cacheInsert _ => true
  | .cacheAgeSweep _ => true
  | .rehashDone _ => true
  | .cacheClearDone => true
  | .routeCountClear _ _ => true
  | .mapBaste c _ _ => c.wf
  | .basteComplete _ => true
  | .gust c => c.wf
  | .gustPreloadStart => true
  | .gustArmed => true
  | .gustTrigger => true
  | .trigInEdge pin frac => decide (pin < 4) && decide (frac < 64)
  | .gustVerify => true
  | .gustReverify => true
  | .lullEnd => true
  | .draughtPoint _ => true
  | .draughtEnd => true
  | .gustCountClear _ _ => true
  | .loopInstant _ => true
  | .loopOutputApply => true
  | .loopModeManual c => c.wf
  | .loopModeAuto c => c.wf
  | .loopCellModeWrite _ cell _ => decide (cell < 4864)
  | .clrStrike _ cell _ => decide (cell < 4864)
  | .loopClsHoldWrite _ _ => true
  | .loopClassWrite _ cls off _ => decide (cls < 16) && decide (off < 64)
  | .loopSet c => c.wf
  | .squallStart via => via.wf
  | .squallStop _ _ => true
  | .squallEnd => true
  | .loopCountClear _ _ => true
  | .drtTauWrite _ k _ => decide (k < 3)
  | .drtCommit _ _ => true
  | .drtInvalidate _ _ => true
  | .drtCountClear _ _ => true
  | .ppsEdge frac => decide (frac < 64)
  | .ppsLost => true
  | .ppsPhaseEnd => true
  | .secondsArm _ _ => true
  | .timedActionDue => true
  | .schedLoad c _ => c.wf
  | .schedCommit via => via.wf
  | .schedStop via => via.wf
  | .schedStopAtEnd via => via.wf
  | .schedCancel via => via.wf
  | .schedStart => true
  | .scheduleEdge => true
  | .timePulse c => c.wf
  | .toutEnable _ i _ => decide (i < 4)
  | .toutPulse i => decide (i < 4)
  | .calRun c => c.wf
  | .calRunEnd _ => true
  | .calSetLoad c _ => c.wf
  | .charTable c => c.wf
  | .charCoupling c _ => c.wf
  | .charTrimSweep c _ => c.wf
  | .charThrowSweep c _ => c.wf
  | .couplingRunEnd _ => true
  | .charRunEnd _ => true
  | .calIdle _ _ => true
  | .calIdleLapse => true
  | .calAbort _ _ => true
  | .calSeqStop _ _ => true
  | .calHashDrt _ _ => true
  | .drtHashDone => true
  | .perstAssert _ => true
  | .perstRelease _ => true
  | .hotReset _ => true
  | .linkDown _ => true
  | .flrPf _ => true
  | .flrVf _ f => decide (f < 16)
  | .linkRetrain _ _ _ _ _ _ => true
  | .d3hotEntry _ f => decide (f < 16)
  | .d3hotExit _ f => decide (f < 16)
  | .linkError _ _ => true
  | .hlCountClear _ _ => true
  | .registerWrite a _ => a.wf
  | .badAccessRead a => a.wf
  | .latchingRead a => a.wf
  | .clearOnRead a => a.wf
  | .hostReadFail _ _ => true
  | .queuePoll _ _ _ => true
  | .descriptorFetch _ f s _ _ => decide (f < 16) && decide (s < 64)
  | .arbitrationGrant _ => true
  | .bucketRefill => true
  | .completionPost _ f c _ => decide (f < 16) && decide (c < 64)
  | .ringInterruptTimer _ f q => decide (f < 16) && decide (64 ≤ q) && decide (q < 137)
  | .functionEnable _ f _ => decide (f < 16)
  | .functionDisable _ f _ => decide (f < 16)
  | .sqEnable _ f s _ _ => decide (f < 16) && decide (s < 64)
  | .sqDisable _ f s _ => decide (f < 16) && decide (s < 64)
  | .cqEnable _ f q _ => decide (f < 16) && decide (q < 64)
  | .cqDisable _ f q _ => decide (f < 16) && decide (q < 64)
  | .eqEnable _ f _ => decide (f < 16)
  | .trEnable _ f q _ => decide (f < 16) && decide (q < 8)
  | .qCountClear _ f _ => decide (f < 16)
  | .nop c => c.wf
  | .mapQuery c => c.wf
  | .move c => c.wf
  | .telemCtrl c _ => c.wf
  | .elementDirectCodes c => c.wf
  | .elementDirectRead c => c.wf
  | .spareMapSubstitute c => c.wf
  | .spareMapRelease c => c.wf
  | .faultCtrlRead c => c.wf
  | .faultCtrlClear c => c.wf
  | .faultCtrlConfig c => c.wf
  | .stateSave c => c.wf
  | .attest c => c.wf
  | .fwStageStage c _ => c.wf
  | .fwStageActivate c => c.wf
  | .fwStageDiscard c => c.wf
  | .flashWriteDone _ _ => true
  | .recCtrlStatus c => c.wf
  | .recFreeze via => via.wf
  | .recRelease via => via.wf
  | .recSizeSet c => c.wf
  | .recModeSet c => c.wf
  | .recTriggersSet c => c.wf
  | .recPostExpiry => true
  | .recPullStart _ _ => true
  | .recPullEnd => true
  | .replayStart _ _ => true
  | .replayStop _ _ => true
  | .replayEnd => true
  | .tknClaim _ _ => true
  | .tknRenew _ _ => true
  | .tknRelease _ _ => true
  | .tknResume _ _ => true
  | .tknRehStart _ _ => true
  | .tknRehCall _ _ => true
  | .tknRehDismiss _ _ => true
  | .tknRehReport _ _ => true
  | .leaseExpiry cause => decide (cause < 3)
  | .firmwareVerified _ _ _ _ => true
  | .graceEnd => true
  | .claimDeadline => true
  | .unitBootFail _ cause => decide (cause < 4)
  | .reservationExpiry => true
  | .imageSavePeriodic => true
  | .imageSaveEvent => true
  | .rehearsalAutoDue => true
  | .rehearsalTimeout => true
  | .revertRehearsalDue => true
  | .wtrExpiry => true
  | .successorReadyTimeout => true
  | .porRise _ _ => true
  | .coldReset => true
  | .pllLock => true
  | .dramTrained _ => true
  | .dramInitDone => true
  | .peerCallTimeout => true
  | .resetNAssert _ => true
  | .pwrRstDevice _ _ => true
  | .pwrRstUnit _ _ => true
  | .pwrCuSelfReset _ _ => true
  | .warmResetRelease => true
  | .drivePowerDown => true
  | .vanaLow => true
  | .vcoreLow _ => true
  | .vphyLow _ _ => true
  | .driveRailLow _ => true
  | .vioLow => true
  | .supplyMonitorRelease _ _ => true
  | .dramScrub stack _ => decide (stack < 2)
  | .rowCopyDone => true
  | .bankCopyDone => true
  | .memSpareBank _ _ => true
  | .fuseCommitDone _ => true
  | .memProbe _ _ => true
  | .memCountClear _ _ => true
  | .spPstateWrite _ b _ => decide (b < 32)
  | .spPstateDone _ b => decide (b < 32)
  | .spOwnerWrite _ b _ => decide (b < 32)
  | .spRetireCmd _ _ => true
  | .spRetireDone _ b _ => decide (b < 32)
  | .dmStart _ n _ => decide (n < 16)
  | .dmPause _ n _ => decide (n < 16)
  | .dmPaused _ n _ => decide (n < 16)
  | .dmUnpause _ n _ => decide (n < 16)
  | .dmResume _ n _ => decide (n < 16)
  | .dmEnd _ n _ => decide (n < 16)
  | .dmBurstFail _ n _ _ _ => decide (n < 16)
  | .dmRetryTimer _ n => decide (n < 16)
  | .dmPoisonHalt _ n _ _ => decide (n < 16)
  | .dmTransferDone _ n _ => decide (n < 16)
  | .dmHwRequest _ n => decide (n < 16)
  | .dmHwWithdraw _ n _ => decide (n < 16)
  | .dmCountClear _ _ => true
  | .faultReport _ => true
  | .fltRelease _ _ => true
  | .fltClrAll _ _ => true
  | .fltClrFirst _ _ => true
  | .fltSrcClr _ src _ => decide (src < 128)
  | .logCommit _ => true
  | .hkSlot _ => true
  | .hkRoundEnd _ => true
  | .hkInjStart _ _ => true
  | .thmClrSuspect _ _ => true
  | .thmClrPic _ _ => true
  | .secPassword _ _ => true
  | .secChallenge _ _ => true
  | .secRespond _ _ => true
  | .secClose _ _ => true
  | .secEnrol _ _ => true
  | .secRaiseFloor _ _ => true
  | .fuseProgramDone _ _ => true
  | .nonceExpiry _ => true
  | .pmcClrAll _ _ => true
  | .pmcFreeze _ _ => true
  | .pmcUnfreeze _ _ => true
  | .pmcCntWrite _ n _ => decide (n < 256)
  | .pmcEvtWrite _ n _ => decide (n < 256)
  | .pmcCounterWrap _ n => decide (n < 256)
  | .pmcWindowEnd _ _ => true
  | .pllUnlock => true
  | .pllRelock => true
  | .jtagInstruction _ => true
  | .watchdog _ => true
  | .linkUp _ _ _ _ _ _ => true
  | .toutPulseEnd i => decide (i < 4)

end Sys2Proof
end

