-- ==== Sys2Proof/Safety.lean ====
section
/-! DEFINITION. What counts as a safe run, in the terms claims use: no fault, no refusal, and the tables keep their canonical form. -/
namespace Sys2Proof.Machine
open State

/-- A command completes in a state: it has a next state. -/
def Completes (i : Instr) (s : State) : Prop := ∃ t, exec i s = .next t

/-- Every step of `n` from a state answers a next state. -/
def SafeRun : Nat → State → Prop
  | 0, _ => True
  | n + 1, s => ∃ t, step s = .next t ∧ SafeRun n t

/-- What a byte of DRAM reads as where nothing is listed (R477): a function of the part and of the last change of SIZE. -/
def openByte (p : Part) (free : Option Nat) (a : Nat) : Byte :=
  match free with
  | some n => if State.recRegion p a then BitVec.ofNat 8 (Config.freeNat n / 256 ^ a) else 0
  | none => 0

/-- The canonical form of the register file and of DRAM: addresses strictly rising, no entry equal to what an unlisted address reads as. -/
def Tables (p : Part) (regs : List (Nat × Word)) (dram : List Host.Cell) (free : Option Nat) : Prop :=
  Tab.wf (regReset p) regs = true ∧ Tab.wf (openByte p free) dram = true

/-- A state with queue `q` on part `p` whose register file and DRAM are canonical. -/
def Kept (q : List Instr) (p : Part) (s : State) : Prop :=
  s.pending = q ∧ s.part = p ∧ Tables p s.regs s.mem.dram s.mem.userFree

/-- An outcome of a command that leaves the queue, the part and the canonical form alone. -/
def KeptRes (q : List Instr) (p : Part) (r : Res) : Prop := ∀ t, r = .next t → Kept q p t

/-- The invariant of every state: the register file and DRAM are canonical, and every waiting command is well formed. -/
def State.Sound (s : State) : Prop :=
  Tables s.part s.regs s.mem.dram s.mem.userFree ∧ ∀ c ∈ s.pending, c.wf = true

/-- The registers that show the recorder's ring: they move when a block closes (R568, R586). -/
def recKeys : List Nat := [Reg.REC_WPTR, Reg.REC_BSEQ_LO, Reg.REC_BSEQ_HI, Reg.REC_FILL]

/-- `t` is `s` but for what a record written by the recorder changes: the open block, the ring, and the four registers that show it (R568–R571). -/
structure RecOnly (s t : State) : Prop where
  regs : ∀ k, k ∉ recKeys → t.reg k = s.reg k
  rest : { t with regs := s.regs, recd := s.recd } = s
  recd : { t.recd with ring := s.recd.ring, open_ := s.recd.open_, used := s.recd.used, mode := s.recd.mode, gap := s.recd.gap,
                       lost := s.recd.lost, bseq := s.recd.bseq, rpMade := s.recd.rpMade } = s.recd

/-- `t` is `s` but for one or both units' own parts and registers: the base, the tiles and the memory are as before (R331). -/
structure UnitOnly (s t : State) : Prop where
  regs : ∀ k, k < 0x1000000 → t.reg k = s.reg k
  rest : { t with regs := s.regs, ua := s.ua, ub := s.ub } = s

/-- `t` is `s` but for the registers `ks` and what one record of the recorder changes. -/
structure OnlyRegs (ks : List Nat) (s t : State) : Prop where
  regs : ∀ k, k ∉ ks → k ∉ recKeys → t.reg k = s.reg k
  rest : { t with regs := s.regs, recd := s.recd } = s

/-- An accepted descriptor that has not started, of opcode `op`, which checks 3 to 5 let through: its own effect follows (R368, R387). -/
structure Ready (c : Cmd) (op : Nat) (s : State) : Prop where
  waits : s.waiting c = true
  free : (s.startFlight c).descCheck c = none
  opcode : c.op = op

/-- The map a ROUTE of sub-operation `sub` names is there and allowed: the checks of R399 that come before the bytes are used. -/
structure MapGood (c : Cmd) (sub : Nat) (l : List Byte) (s : State) : Prop where
  sub_ : c.b 4 = sub
  map : s.graph = false
  valid : s.fabValid = true
  addr : hostAddrOk (c.q 16) = true
  len : c.w 24 = 2 * s.nPorts
  out : sub ≤ 2 → c.q 32 % 8 = 0
  bytes : l.length = c.w 24
  fits : s.mapAccepted (wideMap l) = true

end Sys2Proof.Machine
end

