-- ==== Sys2Proof/Certificates/Slice0/Obligations.lean ====
section
/-! DEFINITION. The statements for the provers. Each docstring names the rules of spec/ that the statement formalises or rests on. -/
open Sys2Proof Sys2Proof.Machine Sys2Proof.Machine.State


/-! ### The step and the invariant -/

/-- A step runs the command at the front of the queue on the state with the queue's rest, and idles for one drive clock on an empty queue (log entry 40: the
idle step is the model's choice). -/
def Obligations.StepRunsFront : Prop :=
  (∀ (c : Instr) (rest : List Instr) (s : State), s.pending = c :: rest → step s = exec c { s with pending := rest }) ∧
  ∀ s : State, s.pending = [] → step s = .next s.idle

/-- The register file and DRAM are canonical and every waiting command is well formed in the state after reset. Reset values that the register tables give
(R40–R42, R421, R446, R455, R499, R500, R541): read by their fields on the machine after a cold reset. -/
def Obligations.ResetState : Prop :=
  (State.reset.Sound) ∧
  let s := State.reset
  s.reg Reg.MEM_CTRL = 5 ∧ s.reg Reg.MEM_SCRUB = 0x18 ∧ s.reg Reg.MEM_CE_THR = 0x00180204 ∧ s.reg Reg.MEM_ERR_SYM = 0x7F7F ∧ s.reg (retMapReg .a) = 0xFFFFFFFF ∧
  s.reg (Reg.MEM_CE_CNT 0) = 0 ∧ s.reg Reg.FLT_FIRST = 0 ∧ s.fabOn = false ∧ s.fabValid = false ∧ s.holder = none ∧
  (∀ u : Cu, s.islandOnly u = true) ∧ s.mem.dram = [] ∧ s.pending = []

/-- Every step keeps the invariant: from every sound state, whatever command is in front, an answered state is sound. -/
def Obligations.StepKeepsSound : Prop :=
  ∀ s t : State, s.Sound → step s = .next t → t.Sound

/-- No command touches the queue or changes the part, every command answers a next state, and the register file and DRAM stay canonical. -/
def Obligations.CommandsLeaveTheQueue : Prop :=
  ∀ (c : Instr) (s : State), Tables s.part s.regs s.mem.dram s.mem.userFree →
    ∃ t, exec c s = .next t ∧ t.pending = s.pending ∧ t.part = s.part ∧ Tables t.part t.regs t.mem.dram t.mem.userFree

/-! ### The fabric record and the site (R41–R53, R67–R84). `w` is the state once the holder's write is recorded (R571). -/

/-- FAB_LOAD with EN 0 and BUSY 0 (R44), the deferred read (R45), a load whose host read failed, with code 0x0E (R47), and a load whose record the check
accepts, which ends with DONE 1 and BUSY 0 (R48). EN written 1 with VALID 1, no load running, no SHUTDOWN of the base domain and no safe state (R46): a site
check ends, EN reads 1, the drive is powered at the park image and Breeze starts. EN written 0: Thimble PARK with cause 2, EN reads 0, and the drive powers
down (R46, R533). -/
def Obligations.FabricRecordAndDrive : Prop :=
  ((∀ (u : Cu) (v : Word) (s : State), s.holds u = true → bit v 0 = false →
     let w := (s.recWrite u Reg.FAB_CTRL (v ||| 2)).setReg Reg.FAB_CTRL (putBit (s.reg Reg.FAB_CTRL) 2 (bit v 2))
     s.fabOn = false → w.fabOn = false → w.rbit Reg.FAB_STATUS 1 = false →
     let l : FabLoad := { stored := w.rbit Reg.FAB_CTRL 2, addr := w.rnat64 Reg.FAB_SRC_LO Reg.FAB_SRC_HI, len := w.rnat Reg.FAB_LEN,
                          waitDown := w.fab.downAt.isSome, startClk := w.clk }
     exec (.fabLoad u v) s = .next (({ w with fab := { w.fab with load := some l } } : State).orReg Reg.FAB_STATUS 2)) ∧
   (∀ (l : FabLoad) (s : State), s.fab.load = some l → l.waitDown = true → s.fab.powered = false →
     exec .fabLoadDeferredRead s = .next { s with fab := { s.fab with load := some { l with waitDown := false } } }) ∧
   (∀ (l : FabLoad) (off : Nat) (s : State), s.fab.load = some l → l.waitDown = false →
     exec (.fabLoadEnd (.failed off)) s = .next ((((({ s with fab := { s.fab with load := none } } : State).setReg Reg.FAB_ERR_CODE
       (word 0x0E)).setReg Reg.FAB_ERR_OFFSET (word off)).orReg Reg.FAB_STATUS 0x20).clrReg Reg.FAB_STATUS 2)) ∧
   (∀ (l : FabLoad) (b : List Byte) (f : Fdr) (s : State), s.fab.load = some l → l.waitDown = false → l.stored = false →
     FdrRead.check s.part (fit l.len b) l.len = .ok f →
     ∃ t, exec (.fabLoadEnd (.bytes b)) s = .next t ∧
       t = ({ s with fab := { s.fab with load := none } } : State).acceptFdr f (fit l.len b) ∧
       t.rbit Reg.FAB_STATUS 1 = false ∧ t.rbit Reg.FAB_STATUS 4 = true)) ∧
  (∀ (u : Cu) (v : Word) (s : State), s.holds u = true → bit v 1 = false → s.fabOn = false →
    let w := (s.recWrite u Reg.FAB_CTRL (v ||| 1)).setReg Reg.FAB_CTRL (putBit (s.reg Reg.FAB_CTRL) 2 (bit v 2))
    w.fld (Reg.THM_DOMAIN 0) 31 30 ≠ 3 → w.fabValid = true → w.rbit Reg.FAB_STATUS 1 = false → w.safeState ≠ 3 → w.gap = false →
    let w1 := (w.abortSite 0).orReg Reg.FAB_CTRL 1
    let w2 := ((({ w1 with fab := { w1.fab with powered := true, downAt := none, stagesDown := 0 } } : State).drivePark).startBreeze).showPark
    exec (.fabEnable u v) s = .next (if (w2.drvKeys ++ w2.monKeys).isEmpty then w2 else w2.requestBoundary)) ∧
  (∀ (u : Cu) (v : Word) (s : State), s.holds u = true → s.fabOn = false → bit v 1 = false →
    let w := (s.recWrite u Reg.FAB_CTRL (v ||| 1)).setReg Reg.FAB_CTRL (putBit (s.reg Reg.FAB_CTRL) 2 (bit v 2))
    w.fld (Reg.THM_DOMAIN 0) 31 30 ≠ 3 → w.fabValid = false → exec (.fabEnable u v) s = .next (w.orReg Reg.FAB_STATUS 4)) ∧
  (∀ (u : Cu) (v : Word) (s : State), s.holds u = true → bit v 1 = false → s.fabOn = true →
    let w := s.recWrite u Reg.FAB_CTRL (v &&& 0xFFFFFFFE)
    bit v 2 = s.rbit Reg.FAB_CTRL 2 →
    exec (.fabDisable u v) s = .next ((((w.enterPark 0xFFFF 2 true).clrReg Reg.FAB_CTRL 1).scheduleDown).showOff).spDisable)

/-- A write of FAB_HEALTHi that changes no nibble changes nothing; one with a reserved MARK in a cell the fabric has is discarded with CFG_IGNORED; one that
changes a nibble sets the word, moves the epoch on once, and is followed by its events, its record, a new park image and an event save (R51–R53, R57). -/
def Obligations.HealthMarks : Prop :=
  ∀ (u : Cu) (i : Nat) (v : Word) (s : State), s.holds u = true → i < 608 →
    let w := s.recWrite u (Reg.FAB_HEALTH i) v
    let bad := (List.range 8).any (fun j => decide (8 * i + j < w.nCells) && decide (5 ≤ nibble v j % 8))
    let old := w.reg (Reg.FAB_HEALTH i)
    let new := w.healthWord i v
    (bad = true → exec (.healthMarkWrite u i v) s = .next (w.orReg Reg.FAB_STATUS 8)) ∧
    (bad = false → old = new → exec (.healthMarkWrite u i v) s = .next w) ∧
    (bad = false → old ≠ new →
      let w2 := (List.range 8).foldl (fun (s : State) j =>
        if nibble old j = nibble new j then s else s.healthEvent false (8 * i + j) (nibble old j) (nibble new j)) ((w.setReg (Reg.FAB_HEALTH i) new).bumpEpoch)
      let w3 := (w2.recEvent 12 (bytesOf 4 (Reg.FAB_HEALTH i) ++ bytesOf 4 old.toNat ++ bytesOf 4 new.toNat ++
        bytesOf 4 (w2.rnat Reg.FAB_EPOCH) ++ bytesOf 1 0)).rebuildPark
      exec (.healthMarkWrite u i v) s = .next { w3 with tkn := { w3.tkn with eventSave := true } })

/-- SITE_CTRL takes BIAS_EN and SENSE_EN; BIAS_EN from 0 to 1 takes every tile's nets back (R67, R68, R70). A tile whose nets are driven and draw more than 2
mA lets them go and reports source 22 (R68). A site check starts while the fabric is not driven (R79), STOP ends it with ABORTED and cause 3 (R84), and its
end shows DONE and BUSY 0 and keeps the first bad pad in SITE_FIRST (R80). -/
def Obligations.SiteBiasAndChecks : Prop :=
  ((∀ (u : Cu) (v : Word) (s : State), s.holds u = true →
     let w := (s.recWrite u Reg.SITE_CTRL v).setReg Reg.SITE_CTRL (v &&& 3)
     let t := if bit v 0 && !s.rbit Reg.SITE_CTRL 0 then ({ w with site := { w.site with released := [] } } : State) else w
     exec (.siteBiasEnable u v) s = .next t ∧ exec (.siteSenseEnable u v) s = .next t) ∧
   ∀ (t : Nat) (s : State), s.rbit Reg.SITE_CTRL 0 = true → t < s.part.tiles → s.site.released.contains t = false →
     exec (.siteBiasFault [t]) s = .next ((({ s with site := { s.site with released := s.site.released ++ [t] } } : State).orReg
       Reg.SITE_STATUS 0x80).report [{ src := 22, detail := t }])) ∧
  (∀ (u : Cu) (v : Word) (s : State), s.holds u = true → bit v 1 = false →
    let w := (s.recWrite u Reg.SITE_CHECK_CTRL (v ||| 1)).maskWrite Reg.SITE_CHECK_CTRL (0 ||| 0x3C) (v ||| 1)
    let c := w.reg Reg.SITE_CHECK_CTRL
    s.fabOn = false → w.fabOn = false → s.site.check = none → (bit c 2 = true ∨ w.fabValid = true) → w.rnat64 Reg.SITE_RES_LO Reg.SITE_RES_HI ≠ 0 →
    let k : SiteCheck := { mode1 := bit c 2, drive := bit c 3, mon := bit c 4, sense := bit c 5,
                           dest := w.rnat64 Reg.SITE_RES_LO Reg.SITE_RES_HI, startClk := w.clk }
    exec (.siteCheckStart u v) s = .next (({ w with site := { w.site with check := some k } } : State).orReg Reg.SITE_STATUS 1)) ∧
  (∀ (u : Cu) (v : Word) (k : SiteCheck) (s : State), s.holds u = true → bit v 0 = false → s.site.check = some k →
    ∃ t, exec (.siteCheckStop u v) s = .next t ∧ t.site.check = none ∧ t.rbit Reg.SITE_STATUS 0 = false ∧ t.rbit Reg.SITE_STATUS 4 = true) ∧
  ∀ (m : List (Nat × PadMeas)) (k : SiteCheck) (s : State), s.site.check = some k →
    ∃ t, exec (.siteCheckDone m) s = .next t ∧ t = s.siteDone k m ∧ t.site.check = none ∧ t.rbit Reg.SITE_STATUS 0 = false ∧
      t.rbit Reg.SITE_STATUS 3 = true ∧
      t.reg Reg.SITE_FIRST = word (match (List.range 21632).find? (fun p => decide (1 ≤ s.padCode k m p) && decide (s.padCode k m p ≤ 6)) with
        | some p => p | none => 0xFFFF)

/-! ### Drive channels and spares (R92–R116) -/

/-- An update tick outside a replay (R92, R93): device time moves on to the tick, the grid index by one, then switch-overs, shapes, the datapaths,
compliance, the fast lane, result queues, the sequencer and captures, and what is to be reported is reported at the end. -/
def Obligations.UpdateTick : Prop :=
  ∀ (fast : List (Nat × MonRaw)) (low parity : List Nat) (s : State), s.time.on = true → s.inReplay = false →
    let n := s.time.lastTick + s.time.interval
    let a := if s.clk < n then s.advance (n - s.clk) else s
    let s0 : State := { a with time := { a.time with g := a.time.g + 1, lastTick := n, interval := 128 } }
    let s1 := (((s0.releases).calTick).trackTick).takeShape
    let s2 := if s1.fab.powered then s1.evalWhere true false (fun _ _ => true) else s1
    let c := s2.noteCompliance (low.filter (fun ch => s1.complies ch))
    let s3 := ((((c.1.fastAll fast).rqAll false).seqSample false).seqTick).capTick
    let reps := c.2 ++ parity.map (fun ch => ({ src := 24, detail := ch } : FaultRep))
    exec (.updateTick fast low parity) s = .next (if reps.isEmpty then s3 else s3.report reps)

/-- DRV_QUEUE: FLUSH empties the channel's queue (R98); a code goes to the end of a queue with room, and is dropped with Q_DROP, QUEUE and the drop count
where 16 wait; a write to a channel the host may not queue to is discarded (R97). DRV_SLEW clears the slew counter of a channel no spare of which stands in,
and takes its two fields (R94); CNT_CLR zeroes DRV_TCNT (R114); a pulse that has lasted its WIDTH ends (R102). -/
def Obligations.DriveRegisterWrites : Prop :=
  (∀ (u : Cu) (ch : Nat) (v : Word) (s : State), s.holds u = true → ch < 240 * s.part.tiles →
     (let w := s.recWrite u (Reg.DRV_QUEUE (ch / 240) (ch % 240)) (v ||| 0x80000000)
      exec (.drvQueueFlush u ch v) s = .next (w.setChan ch { w.chan ch with queue := [] })) ∧
     (let x := v &&& 0x7FFFFFFF
      let w := s.recWrite u (Reg.DRV_QUEUE (ch / 240) (ch % 240)) x
      (w.hostMayQueue ch = true → (w.chan ch).queue.length < 16 →
        exec (.drvQueueWrite u ch v) s = .next (w.setChan ch { w.chan ch with queue := (w.chan ch).queue ++ [field x 15 0] })) ∧
      (w.hostMayQueue ch = true → 16 ≤ (w.chan ch).queue.length →
        exec (.drvQueueWrite u ch v) s = .next (((w.orReg (Reg.DRV_QSTAT (drvTile ch) (drvIdx ch)) 0x100).orReg (Reg.DRV_STATUS (drvTile ch)) 2).bump
          (Reg.DRV_TCNT (drvTile ch)) 31 16 1)) ∧
      (w.hostMayQueue ch = false → exec (.drvQueueWrite u ch v) s = .next (w.orReg (Reg.DRV_STATUS (ch / 240)) 2)))) ∧
  (∀ (u : Cu) (ch : Nat) (v : Word) (s : State), s.holds u = true → ch < 240 * s.part.tiles →
    let w := s.recWrite u (Reg.DRV_SLEW (ch / 240) (ch % 240)) v
    ¬(ch % 240 < 228 ∧ (w.chan ch).partner.isSome) →
    exec (.drvSlewWrite u ch v) s = .next ((w.setChan ch { w.chan ch with cnt := 0 }).maskWrite (Reg.DRV_SLEW (ch / 240) (ch % 240)) 0x0FFF00FF v)) ∧
  (∀ (u : Cu) (tile : Nat) (v : Word) (s : State), s.holds u = true → tile < s.part.tiles →
    let w := s.recWrite u (Reg.DRV_TCTRL tile) (v ||| 4)
    exec (.drvCountClear u tile v) s = .next ((w.rwlWrite (Reg.DRV_TCTRL tile) 2 1 w.fabOn (Reg.DRV_STATUS tile) 1 (v ||| 4)).setReg
      (Reg.DRV_TCNT tile) 0)) ∧
  ∀ (ch : Nat) (p : Pulse) (s : State), (s.chan ch).pulse = some p → 4 * p.startClk + p.width ≤ 4 * s.clk →
    exec (.preEmphasisEnd ch) s = .next (s.setChan ch { s.chan ch with pulse := none })

/-- A spare entry, of drive channels or of monitors: a request for a usable primary sets P and EN and begins tracking (R108); EN 0 on an entry in force
begins its release, and on a pending request cancels it (R108, R112). `mon` says which of the two kinds the entry is of. 64 ticks of tracking that agree make
a drive spare READY; a comparison that does not agree ends the request with the entry BAD and reports source 23 (R108, R110). A monitor spare's check that
agrees makes it READY (R108, R138). THE MODEL'S CHOICES in it, with their log entries: a second RELEASE of a pending one is refused (50). -/
def Obligations.SpareSubstitution : Prop :=
  (∀ (mon : Bool) (u : Cu) (tile j : Nat) (v : Word) (s : State), s.holds u = true → tile < s.part.tiles → j < (if mon then 4 else 12) →
     let k : SpKey := { mon := mon, tile := tile, j := j }
     let req : Instr := if mon then .monSpareRequest u tile j v else .drvSpareRequest u tile j v
     let rel : Instr := if mon then .monSpareRelease u tile j v else .drvSpareRelease u tile j v
     (let w := s.recWrite u (spReg k) (v ||| 0x80000000)
      w.spEn k = false → w.spForce k = false → w.spUsable k (field v 7 0) = true →
      exec req s = .next (((w.setField (spReg k) 7 0 (field v 7 0)).orReg (spReg k) (2 ^ 31)).spBegin k false none false)) ∧
     (let w := s.recWrite u (spReg k) (v ||| 0x80000000)
      w.spEn k = false → w.spForce k = false → w.spUsable k (field v 7 0) = false →
      exec req s = .next (w.orReg (spStat k) (spRefBit k))) ∧
     (let w := s.recWrite u (spReg k) (v &&& 0x7FFFFFFF)
      w.spForce k = true → w.spPend k = false →
      exec rel s = .next ((w.clrReg (spReg k) (2 ^ 31)).spBegin k true none false)) ∧
     (let w := s.recWrite u (spReg k) (v &&& 0x7FFFFFFF)
      w.spForce k = false → w.spPend k = true →
      exec rel s = .next ((((w.spCancel k).clrReg (spReg k) (2 ^ 31)).spComplete none 0 0 true)))) ∧
  (∀ (tile j g : Nat) (t : SpareTrack) (s : State),
    let k : SpKey := { mon := false, tile := tile, j := j }
    Tab.find (spId k) s.drv.track = some t → t.startG = some g → s.fabOn = true → s.spPend k = true → s.spReady k = false → g + 64 ≤ s.time.g →
    tile < s.part.tiles → j < 12 →
    exec (.drvSpareTrackingDone tile j true) s = .next (s.orReg (spReg k) 0x200000) ∧
    exec (.drvSpareTrackingDone tile j false) s = .next (s.spTracked k false)) ∧
  (∀ (tile j : Nat) (s : State),
    let k : SpKey := { mon := true, tile := tile, j := j }
    tile < s.part.tiles → j < 4 → s.spPend k = true → s.spReady k = false → s.fabOn = true → s.dacUser tile ≠ 1 →
    ∃ t, exec (.monSpareReadinessDone tile j true) s = .next t ∧ t.reg (spReg k) = s.reg (spReg k) ||| 0x200000 ∧
      { t with mon := s.mon, regs := s.regs } = s) ∧
  ∀ (k : SpKey) (s : State), s.spForce k = false → (s.spCmd k).1 = none →
    s.spTracked k false = (((((s.clrReg (spReg k) 0x300000).spUntrack k).orReg (spStat k) (spFailBit k)).clrReg (spReg k) (2 ^ 31)).orReg
      (spReg k) 0x800000).report1 23 (spChan k)

/-! ### Monitors, result queues and ports (R123–R157) -/

/-- A fine-lane instant (R130): results, queues, the sequencer, the record, taps, autoranging and configuration, sweeps and injections, in that order, at
grid indices that are multiples of 32, once each. ALIGN is pending while EN is 0 and refused while it is 1; at the PPS-aligned second the interval changes by
the shift, ALIGNED is set and the request ends (R132). A manual injection starts at the next fine-lane instant where the tile's calibration DAC is free, is
refused with INJ_BUSY where it is not, and ends when EN is cleared (R138, R139). CNT_CLR zeroes MON_TCNT. A monitor diagnosis starts with its failure count
at zero, or is refused with DIAG_REFUSED while one runs, or in MODE 0 while the fabric is driven; STOP ends it; its end shows DONE 1 and BUSY 0 (R140, R141,
R157). THE MODEL'S CHOICES in it, with their log entries: the number of drive clocks of a grid shift (31), and that a running manual injection makes the DAC
busy (57). -/
def Obligations.MonitorLanes : Prop :=
  (∀ (raw : List (Nat × MonRaw)) (s : State), s.time.on = true → s.inReplay = false → s.time.g % 32 = 0 → s.mon.fineAt ≠ some s.time.g →
     let a := ((((s.fineWith (fineOne raw)).rqAll true).seqSample true).recFine).tapsIn
     let b : State := { a with mon := { a.mon with chans := Tab.mapAll (fun ch m => if monServes ch m then autoStep m else m) a.mon.chans } }
     exec (.fineLaneInstant raw) s = .next ((((b.mon.chans.map Prod.fst).foldl takeCfg b).spFine).injInstant)) ∧
  ((∀ (u : Cu) (v : Word) (s : State), s.holds u = true →
     let w := s.recWrite u Reg.MON_GCTRL (v ||| 1)
     exec (.monGridAlignRequest u v) s = .next (w.orReg Reg.MON_GSTAT (if w.fabOn then 4 else 2))) ∧
   ∀ s : State, s.rbit Reg.MON_GSTAT 1 = true → s.time.on = true →
     s.time.ns * 2 ^ 32 + s.time.frac < incOf s.freq (if s.time.phLeft = 0 then 0 else s.time.ph) → s.fld Reg.TIM_STATUS 2 0 = 2 →
     exec .gridAlign s = .next (((({ s with time := { s.time with interval := ((s.time.interval : Int) + s.alignShift).toNat } } : State).clrReg
       Reg.MON_GSTAT 2).orReg Reg.MON_GSTAT 1).setField Reg.MON_GSTAT 31 25 (low 7 ((s.fld Reg.MON_GSTAT 31 25 : Nat) + s.alignShift)))) ∧
  (∀ (u : Cu) (tile : Nat) (v : Word) (s : State), s.holds u = true → tile < s.part.tiles →
     (let w := s.recWrite u (Reg.MON_INJ tile) (v ||| 0x80000000)
      let x := w.setReg (Reg.MON_INJ tile) ((v ||| 0x80000000) &&& 0x807FFFFF)
      let i : Inj := { index := field (v ||| 0x80000000) 22 16, fromClk := x.nextFineClk + 4, untilClk := none }
      (w.dacUser tile = 0 → exec (.monInjectStart u tile v) s = .next { x with mon := { x.mon with inj := Tab.set tile i x.mon.inj } }) ∧
      (w.dacUser tile ≠ 0 → exec (.monInjectStart u tile v) s = .next (w.orReg (Reg.MON_STATUS tile) 0x100))) ∧
     (∃ t, exec (.monInjectStop u tile v) s = .next t ∧ t.reg (Reg.MON_INJ tile) = (v &&& 0x7FFFFFFF) &&& 0x007FFFFF) ∧
     (let w := s.recWrite u (Reg.MON_TCTRL tile) (v ||| 1)
      exec (.monCountClear u tile v) s = .next (w.setReg (Reg.MON_TCNT tile) 0))) ∧
  (∀ (u : Cu) (v : Word) (s : State), s.holds u = true → bit v 1 = false →
    let w := s.recWrite u Reg.MON_DIAG_CTRL (v ||| 1)
    let mode := field (v ||| 1) 2 2
    let x := w.maskWrite Reg.MON_DIAG_CTRL 4 (v ||| 1)
    (w.mon.diag = none → (mode = 0 → w.fabOn = false) →
      exec (.monDiagStart u v) s = .next ((({ x with mon := { x.mon with diag := some mode } } : State).setField Reg.MON_DIAG_STATUS 31 16 0).orReg
        Reg.MON_DIAG_STATUS 1)) ∧
    (w.mon.diag.isSome = true ∨ mode = 0 ∧ w.fabOn = true → exec (.monDiagStart u v) s = .next (x.orReg Reg.MON_DIAG_STATUS 8))) ∧
  (∀ (u : Cu) (v : Word) (m : Nat) (s : State), s.holds u = true → bit v 0 = false →
    let w := s.recWrite u Reg.MON_DIAG_CTRL (v ||| 2)
    w.mon.diag = some m →
    exec (.monDiagStop u v) s = .next (((({ w with mon := { w.mon with diag := none } } : State).clrReg Reg.MON_DIAG_STATUS 1).orReg
      Reg.MON_DIAG_STATUS 4).maskWrite Reg.MON_DIAG_CTRL 4 (v ||| 2))) ∧
  ∀ (r : List (Nat × List DiagRes)) (m : Nat) (s : State), s.mon.diag = some m →
    ∃ t, exec (.monDiagDone r) s = .next t ∧ t.mon.diag = none ∧ t.rbit Reg.MON_DIAG_STATUS 0 = false ∧ t.rbit Reg.MON_DIAG_STATUS 1 = true

/-- MON_CFG asks for gain, filter and autorange from after the next fine-lane instant; AUTO of a tap is discarded, and so is a GAIN that differs while AUTO
is asked for, both with CFG_IGNORED (R137, R155). A port side's CFG takes its writable bits and its DWELL the whole word; either write zeroes the side's
counts (R156). THE MODEL'S CHOICES in it, with their log entries: what a TAP channel takes of a write with AUTO (56). -/
def Obligations.MonitorConfiguration : Prop :=
  (∀ (u : Cu) (ch : Nat) (v : Word) (s : State), s.holds u = true → ch < 96 * s.part.tiles →
     let w := s.recWrite u (Reg.MON_CFG (ch / 96) (ch % 96)) v
     let m := w.monCh ch
     let cur := m.req.getD (m.gain + 4 * b2n m.filt + 8 * b2n m.auto)
     (m.role ≠ 8 → (bit v 11 = false ∨ field v 9 8 = cur % 4) →
       exec (.monCfgWrite u ch v) s = .next (w.setMon ch { m with req := some (field v 9 8 + 4 * field v 10 10 + 8 * b2n (bit v 11)) })) ∧
     (m.role ≠ 8 → bit v 11 = true → field v 9 8 ≠ cur % 4 →
       exec (.monCfgWrite u ch v) s = .next ((w.setMon ch { m with req := some (cur % 4 + 4 * field v 10 10 + 8) }).orReg (Reg.MON_STATUS (ch / 96)) 0x10)) ∧
     (m.role = 8 → bit v 11 = true →
       exec (.monCfgWrite u ch v) s = .next ((w.setMon ch { m with req := some (field v 9 8 + 4 * field v 10 10) }).orReg (Reg.MON_STATUS (ch / 96)) 0x10))) ∧
  ∀ (u : Cu) (p : Nat) (out : Bool) (v : Word) (s : State), s.holds u = true → p < s.part.ports →
    exec (.monPortCfgWrite u p out true v) s = .next (((s.recWrite u (sideDwell p out) v).setReg (sideDwell p out) v).setSide p out {}) ∧
    exec (.monPortCfgWrite u p out false v) s = .next (((s.recWrite u (sideCfg p out) v).maskWrite (sideCfg p out) 0x83FFFFFF v).setSide p out {})

/-- A result queue is enabled empty with no drops where its buffer fits, and refused with RATE_REFUSED where it does not (R142, R143); disabling discards
what it holds (R145); a result that has waited AGE µs asks for a move, once (R144). THE MODEL'S CHOICES in it, with their log entries: WM outside its range
(59). -/
def Obligations.ResultQueues : Prop :=
  (∀ (u : Cu) (q : Nat) (v : Word) (s : State), s.holds u = true → q < 16 →
    let w := (s.recWrite u (Reg.MON_RQ_CTRL q) (v ||| 0x80000000)).maskWrite (Reg.MON_RQ_CTRL q) (0 ||| 0x43FF0F07) (v ||| 0x80000000)
    (s.recWrite u (Reg.MON_RQ_CTRL q) (v ||| 0x80000000)).rbit (Reg.MON_RQ_CTRL q) 31 = false → w.rbit (Reg.MON_RQ_CTRL q) 31 = false →
    (w.rqFits q = true → exec (.resultQueueEnable u q v) s =
      .next (((w.orReg (Reg.MON_RQ_CTRL q) 0x80000000).setReg (Reg.MON_RQ_DROPS q) 0).setRq q {})) ∧
    (w.rqFits q = false → exec (.resultQueueEnable u q v) s = .next (w.orReg (Reg.MON_RQ_STATUS q) 0x10000))) ∧
  (∀ (u : Cu) (q : Nat) (v : Word) (s : State), s.holds u = true → q < 16 →
    let w := (s.recWrite u (Reg.MON_RQ_CTRL q) (v &&& 0x7FFFFFFF)).rwlWrite (Reg.MON_RQ_CTRL q) 0 0x43FF0F07
      ((s.recWrite u (Reg.MON_RQ_CTRL q) (v &&& 0x7FFFFFFF)).rbit (Reg.MON_RQ_CTRL q) 31) (Reg.MON_RQ_STATUS q) 0x80000 (v &&& 0x7FFFFFFF)
    w.rbit (Reg.MON_RQ_CTRL q) 31 = true →
    exec (.resultQueueDisable u q v) s = .next ((w.discardRq q).clrReg (Reg.MON_RQ_CTRL q) 0x80000000)) ∧
  ∀ (q : Nat) (r : MonRes) (rest : List MonRes) (s : State), q < 16 → (s.rq q).store = r :: rest → s.fld (Reg.MON_RQ_WM q) 27 16 ≠ 0 →
    r.at_ + clksUs (s.fld (Reg.MON_RQ_WM q) 27 16) ≤ s.clk → (s.rq q).asked = false →
    exec (.resultQueueAgeExpiry q) s = .next (s.setRq q { s.rq q with asked := true })

/-! ### The router (R158–R186). `x` is the state in which the command has started and its record is written. -/

/-- ROUTE LOOKUP, PRELOAD, SOLVE and INVALIDATE of a map that is there and allowed (R178, R393, R400): a hit answers with its result words and HIT; a solve
or a preload answers ROUTE_INFEASIBLE, TABLE_FULL or OK with the result and gives the vector only where one was found; invalidating drops every matching
entry. A map of the wrong sub-operation, or in graph mode, completes INVALID, one whose read failed BUS_ERROR. FLUSH moves the flush generation on and
answers OK; REHASH answers OK with the entries that are valid, BUSY while one runs, INVALID in graph mode; CNT_CLR zeroes the six counts (R175, R176, R178,
R179, R180, R400). THE MODEL'S CHOICES in it, with their log entries: the result words of INVALIDATE and FLUSH and of a miss (62). -/
def Obligations.RouteCommands : Prop :=
  (∀ (c : Cmd) (l : List Byte) (bad : List Nat) (s : State), Ready c 7 s →
     let x := (s.startFlight c).recReads c (.bytes l)
     let done (r : Routed × State) : State :=
       (if r.1.res.verdict = 0 then r.2.giveVector c r.1.res.vec else r.2).complete c
         (if r.1.res.verdict ≠ 0 then 0x06 else if r.1.full then 0x07 else 0) (routeFlags r.1.res r.1.full) (statOf r.1.res) r.1.res.epoch
         (extOf r.1.res) (routeWhere r.1.res.hit r.1.key)
     (∀ key e, MapGood c 0 l x →
       let q := x.rteLookup c.unit (x.rnat Reg.FAB_EPOCH) (wideMap l).length (Benes.packMap (wideMap l)) bad
       q.1.hit = some (key, e) →
       let v := x.hitResult e (x.rnat Reg.FAB_EPOCH)
       exec (.routeLookup c (.bytes l) bad) s = .next (((q.2.noteSolve c.unit (statOf v) (extOf v) (x.rnat Reg.FAB_EPOCH)).giveVector c v.vec).complete c 0
         (routeFlags v false) (statOf v) (x.rnat Reg.FAB_EPOCH) (extOf v) (routeWhere true (some key)))) ∧
     (MapGood c 0 l x →
       let q := x.rteLookup c.unit (x.rnat Reg.FAB_EPOCH) (wideMap l).length (Benes.packMap (wideMap l)) bad
       q.1.hit = none →
       exec (.routeLookup c (.bytes l) bad) s = .next ((q.2.noteSolve c.unit 0 0 (x.rnat Reg.FAB_EPOCH)).complete c (if q.1.failed then 0x0D else 0) 0 0
         (x.rnat Reg.FAB_EPOCH) 0 0)) ∧
     (MapGood c 1 l x → exec (.routePreload c (.bytes l) bad) s = .next (done (x.route c.unit true true (wideMap l) bad))) ∧
     (MapGood c 2 l x → exec (.routeSolve c (.bytes l)) s = .next (done (x.route c.unit false false (wideMap l) []))) ∧
     (MapGood c 3 l x → exec (.routeInvalidate c (.bytes l)) s = .next (x.cacheInvalidate c (wideMap l))) ∧
     (c.b 4 ≠ 2 ∨ x.graph = true → exec (.routeSolve c (.bytes l)) s = .next (x.refuse c 0x05))) ∧
  (∀ (c : Cmd) (s : State), Ready c 7 s → c.b 4 = 4 →
    let x := s.startFlight c
    exec (.routeFlush c) s = .next ((x.flushCache).complete c 0 0 0 (x.rnat Reg.FAB_EPOCH) 0 0)) ∧
  (∀ (c : Cmd) (s : State), Ready c 7 s → c.b 4 = 5 →
    let x := s.startFlight c
    (x.graph = true → exec (.routeRehash c) s = .next (x.refuse c 0x05)) ∧
    (x.graph = false → x.rteBusy = true → exec (.routeRehash c) s = .next (x.refuse c 0x11)) ∧
    (x.graph = false → x.rteBusy = false →
      exec (.routeRehash c) s = .next ((x.rehashStart (c.q 16)).complete c 0 0 x.rteValid (x.rnat Reg.FAB_EPOCH) 0 0))) ∧
  (∀ (u : Cu) (v : Word) (s : State), s.holds u = true →
    let w := (s.recWrite u Reg.RTE_CACHE_CTRL (v ||| 0x80000000)).setReg Reg.RTE_CACHE_CTRL ((v ||| 0x80000000) &&& 3)
    exec (.routeCountClear u v) s = .next ((((((w.setReg Reg.RTE_LOOKUPS 0).setReg Reg.RTE_HITS 0).setReg Reg.RTE_PARITY_MISS 0).setReg
      Reg.RTE_TABLE_FULL 0).setReg Reg.RTE_AGED_OUT 0).setReg Reg.RTE_REHASH_DROPS 0))

/-- A solved route goes into the table where the epoch still stands, the cache is usable and its set has room; a full set counts TABLE_FULL and raises event
0x31 (R173, R177). The sweep ages every live entry once its period is up (R174); a rehash ends with every live entry moved, BUSY 0, its position at 0x40000
and event 0x32 (R176; its position at the end is the model's choice, log entry 42); clearing ends with an empty, READY table (R175). THE MODEL'S CHOICES in
it, with their log entries: the way of an insert is the one free when it is commanded (61), and the rehash is one row (42). -/
def Obligations.CacheEngines : Prop :=
  (∀ (u : Cu) (i : RteInsert) (rest : List RteInsert) (s : State), s.inserts u = i :: rest →
     let w := s.setInserts u rest
     let h := w.rteHash false i.res.epoch w.nPorts i.map
     (w.rnat Reg.FAB_EPOCH ≠ i.res.epoch ∨ w.rteUsable = false → exec (.cacheInsert u) s = .next w) ∧
     (w.rnat Reg.FAB_EPOCH = i.res.epoch → w.rteUsable = true → w.rteFree (h % 2 ^ 18) = none →
       exec (.cacheInsert u) s = .next (((w.bump Reg.RTE_TABLE_FULL 31 0 1).orReg Reg.RTE_CACHE_STATUS 0x10).event 3 0x31 0 w.now (h % 2 ^ 18) i.res.epoch 0 0)) ∧
     (∀ key, w.rnat Reg.FAB_EPOCH = i.res.epoch → w.rteUsable = true → w.rteFree (h % 2 ^ 18) = some key →
       ∃ t e, exec (.cacheInsert u) s = .next t ∧ Tab.find key t.rte.table = some e ∧ e.map = i.map ∧ e.vec = i.res.vec ∧ e.epoch = i.res.epoch ∧ e.age = 0)) ∧
  (∀ (bad : List (Nat × Bool)) (s : State), s.rbit Reg.RTE_CACHE_STATUS 0 = true →
    s.rte.ageDue + clksS (max 4 (s.fld Reg.RTE_AGE_PERIOD 15 0)) ≤ s.clk →
    let a := s.walkBad bad
    let b := (a.rte.table.map Prod.fst).foldl ageOne a
    exec (.cacheAgeSweep bad) s = .next { b with rte := { b.rte with ageDue := b.clk } }) ∧
  (∀ (bad : List (Nat × Bool)) (s : State), s.rteBusy = true →
    let a := s.walkBad bad
    let b := (((((a.rte.table.map Prod.fst).foldl rehashMove a).clrReg Reg.RTE_CACHE_STATUS 2).orReg Reg.RTE_CACHE_STATUS 0x40).setReg
      Reg.RTE_REHASH_POS 0x40000)
    ∃ t, exec (.rehashDone bad) s = .next t ∧ t = b.event 3 0x32 0 b.now (b.rnat Reg.RTE_REHASH_DROPS) b.rteValid 0 0 ∧
      t.rteBusy = false ∧ t.reg Reg.RTE_REHASH_POS = 0x40000) ∧
  ∀ s : State, s.rbit Reg.RTE_CACHE_STATUS 2 = true →
    ∃ t, exec .cacheClearDone s = .next t ∧ t.rte.table = [] ∧ t.rbit Reg.RTE_CACHE_STATUS 2 = false ∧ t.rbit Reg.RTE_CACHE_STATUS 0 = true

/-! ### Basting, Gusts and Draught (R183–R214, R246–R269) -/

/-- MAP_BASTE joins its unit's list once its form is right (R395, R189); one at the front of the list that R189 refuses completes with the status its order
of checks gives, and one that passes in graph mode is taken up at once: its slot shows BASTING (R187). A Baste completes once its half of the trajectory area
is not replayed: the slot takes its content and the time, its descriptor answers with BGEN and slot, EPOCH, CELLS_CHANGED and the first stuck cell, and the
next of the unit's list is taken up (R187, R395). THE MODEL'S CHOICES in it, with their log entries: a slot whose preload runs counts as ARMED (41), an
infeasible Baste completes when it is taken up (71). -/
def Obligations.Bastes : Prop :=
  (∀ (c : Cmd) (l : List Byte) (bad : List Nat) (s : State), Ready c 2 s →
     let x := (s.startFlight c).recReads c (.bytes l)
     let b : Baste := { cmd := c, data := .bytes l, badWays := bad, work := none }
     let y := x.setBastes c.unit [b]
     (originOk (c.h 6) = false ∨ hostAddrOk (c.q 16) = false → exec (.mapBaste c (.bytes l) bad) s = .next (x.refuse c 0x05)) ∧
     (∀ b0 rest, originOk (c.h 6) = true → hostAddrOk (c.q 16) = true → x.bastes c.unit = b0 :: rest → b0.work.isSome = true →
       exec (.mapBaste c (.bytes l) bad) s = .next (x.setBastes c.unit (b0 :: rest ++ [b]))) ∧
     (∀ st, originOk (c.h 6) = true → hostAddrOk (c.q 16) = true → x.bastes c.unit = [] → y.basteRefusal c (.bytes l) = some st →
       exec (.mapBaste c (.bytes l) bad) s = .next ((y.setBastes c.unit []).refuse c st)) ∧
     (originOk (c.h 6) = true → hostAddrOk (c.q 16) = true → x.bastes c.unit = [] → y.basteRefusal c (.bytes l) = none → y.graph = true →
       let w := y.basteBuild c l (leAll l % 2 ^ y.nCells) none
       exec (.mapBaste c (.bytes l) bad) s = .next ((w.2.setSlot (c.b 4) { y.slot (c.b 4) with st := 1 }).setBastes c.unit [{ b with work := some w.1 }]))) ∧
  ∀ (u : Cu) (b : Baste) (w : BasteWork) (rest : List Baste) (s : State), s.bastes u = b :: rest → b.work = some w → s.halfBusy w = false →
    let s1 := (s.setBastes u rest).setSlot w.slot { w.new with sec := s.time.sec, ns := s.time.ns }
    let s2 := s1.complete b.cmd w.status w.flags (2 ^ 16 * w.new.bgen + w.slot) w.new.epoch
      (w.new.cellsChanged % 2 ^ 16 + 2 ^ 16 * (w.stuck.getD 0x1FFF % 2 ^ 13)) (w.verdict * 2 ^ 28 + min w.steps 0x4000)
    exec (.basteComplete u) s = .next ((s2.pmcEvent u 0x0B 0 1).takeBaste u (rest.length + 1)) ∧ s1.slot w.slot = { w.new with sec := s.time.sec, ns := s.time.ns }

/-- GUST waits with the others where its slot is BASTED and there is room; a slot BASTING answers BUSY, an empty one INVALID (R195, R396). The preload path
goes to a pin first, then to the schedule, then to a descriptor (R193, R194); a preload that ends arms its slot: the next registers take its image, STALE,
CAL_OLD and NO_DRAUGHT are judged, and GST_STATUS shows the slot (R192, R193). -/
def Obligations.GustWaitsAndPreloads : Prop :=
  (∀ (c : Cmd) (s : State), Ready c 3 s →
     let x := s.startFlight c
     let st := (x.slot (c.b 4)).st
     (x.fabOn = false ∨ st = 0 → exec (.gust c) s = .next (x.refuse c 0x05)) ∧
     (x.fabOn = true → st = 1 → exec (.gust c) s = .next (x.refuse c 0x11)) ∧
     (x.fabOn = true → st ≠ 0 → st ≠ 1 → (c.isNow = true ∨ (x.gst.reqs.filter (fun r => r.due.isSome)).length < 64) →
       let r : GustReq := { src := .desc c, slot := c.b 4, partl := (c.b 5).testBit 0,
                            due := if c.isNow then none else some (x.fullTime (c.w 8) (c.w 12)), late := false }
       exec (.gust c) s = .next { x with gst := { x.gst with reqs := x.gst.reqs ++ [r] } })) ∧
  (∀ s : State, s.inReplay = false →
    let w := s.takeLatched
    (∀ r rest, w.pathRank = 4 → w.gst.pins = r :: rest →
      exec .gustPreloadStart s = .next (({ w with gst := { w.gst with pins := rest } } : State).startPre r)) ∧
    (∀ r, w.pathRank = 4 → w.gst.pins = [] → w.schedReq = some r → exec .gustPreloadStart s = .next (w.startPre r)) ∧
    (∀ r, w.pathRank = 4 → w.gst.pins = [] → w.schedReq = none → w.descReq = some r → exec .gustPreloadStart s = .next (w.startDesc r))) ∧
  ∀ (p : Preload) (s : State), s.gst.pre = some p →
    let x := s.slot p.req.slot
    let p' : Preload := { p with stale := decide (x.epoch ≠ s.rnat Reg.FAB_EPOCH), calOld := decide (x.calset ≠ s.rnat Reg.CAL_GEN),
                                 noDraught := x.traj.isNone || decide (s.rnat Reg.GST_ACTIVE ≠ 2 ^ 16 * x.originBgen + x.originSlot) }
    (∀ c, p.req.src = .desc c → x.st = 2 ∧ (x.epoch = s.rnat Reg.FAB_EPOCH ∨ s.rbit Reg.GST_CTRL 1 = false)) →
    exec .gustArmed s = .next ((({ s.unpre with gst := { s.unpre.gst with armed := some p' } } : State).loadNext x.img).setReg Reg.GST_STATUS
      ((s.unpre.reg Reg.GST_STATUS &&& 0x7FFFFF) ||| word (2 ^ 24 * (p.req.slot % 256) + 2 ^ 23)))

/-- The trigger of an armed descriptor Gust: taken where the drive is on, the slot BASTED and no safe state stands; NOT_TAKEN with SAFE_STATE in hold, PARK
or a gap; WINDOW_SKIP where the schedule's edge is too near (R195, R214, R296). That of a pin: taken, dropped with its event, or MISSED (R197, R214). What a
Gust that is taken writes of GST_ACTIVE and GST_LAST_D is noteTaken's (R191, R208, R211). A pin edge that comes 4 µs or more after the last Gust of its pin
leaves a TRIG record and its request, or takes over the slot kept armed for it; an earlier one is MISSED (R197, R212). THE MODEL'S CHOICES in it, with their
log entries: what GST_LAST shows (68). -/
def Obligations.GustTriggers : Prop :=
  ((∀ (p : Preload) (c : Cmd) (s : State), s.inReplay = false → s.takeLatched.gst.armed = some p → p.req.src = .desc c →
     let w := s.takeLatched
     (match p.req.due with | none => true | some t => decide (t ≤ w.now)) = true →
     (w.windowTest p.req c = some none → exec .gustTrigger s = .next (((w.unarm).bump Reg.SCH_DEFER 15 0 1).endReq p.req 0x0E 0 0)) ∧
     (w.windowTest p.req c = none → w.fabOn = true → (w.slot p.req.slot).st = 2 → w.unsafeNow = true →
       exec .gustTrigger s = .next ((w.unarm.notTaken p.req).endReq p.req 0x0F (gustFlags p (w.slot p.req.slot) % 2048) (5 * 2 ^ 26))) ∧
     (w.windowTest p.req c = none → w.fabOn = true → (w.slot p.req.slot).st = 2 → w.unsafeNow = false →
       exec .gustTrigger s = .next ((w.unarm.dropReq p.req).fireGust p))) ∧
   (∀ (p : Preload) (i : Nat) (s : State), s.inReplay = false → s.takeLatched.gst.armed = some p → p.req.src = .pin i →
     let w := s.takeLatched
     p.req.edgeClk ≤ w.clk →
     (w.unsafeNow = true → w.rbit (Reg.GST_PIN_CFG i) 29 = true → exec .gustTrigger s = .next ((w.unarm.notTaken p.req).orReg Reg.GST_PIN_STATUS (2 ^ i))) ∧
     (w.unsafeNow = true → w.rbit (Reg.GST_PIN_CFG i) 29 = false → exec .gustTrigger s = .next ((w.unarm.notTaken p.req).pinMissed i 1)) ∧
     (w.unsafeNow = false → w.fabOn = true → (w.slot p.req.slot).st = 2 → exec .gustTrigger s = .next (w.unarm.fireGust p))) ∧
   ∀ (p : Preload) (x : Slot) (s : State),
     let t := s.noteTaken p x
     t.reg Reg.GST_ACTIVE = word (2 ^ 16 * x.bgen + p.req.slot) ∧ t.gst.activeVec = x.vec ∧ t.gst.activeImg = x.img ∧ t.rnat64 Reg.GST_LAST_D_LO Reg.GST_LAST_D_HI = s.clk % 2 ^ 64) ∧
  ∀ (pin frac : Nat) (s : State), pin < 4 → s.rbit (Reg.GST_PIN_CFG pin) 31 = true → s.pwr.warm = none → s.inReplay = false →
    let c := s.reg (Reg.GST_PIN_CFG pin)
    let dly := ((frac % 64 : Nat) : Int) - dlySteps (min 0 (sext 32 (s.rnat (Reg.TIM_DLY_TRIG pin))))
    let at_ := s.clk + ((dly + 63) / 64).toNat
    let rec_ (ok : Bool) := s.recAppend 0x07 (bytesOf 1 pin ++ bytesOf 1 (b2n ok) ++ bytesOf 1 (low 6 dly) ++ bytesOf 5 0 ++ bytesOf 8 at_)
    let r : GustReq := { src := .pin pin, slot := field c 7 0, partl := bit c 26, due := none, late := false, edgeClk := at_ }
    (∀ t0, Tab.find pin s.gst.pinLast = some t0 → s.clk < t0 + clksNs 4000 → exec (.trigInEdge pin frac) s = .next ((rec_ false).pinMissed pin 0)) ∧
    (Tab.find pin s.gst.pinLast = none → s.gst.armed = none → s.gst.pre = none →
      exec (.trigInEdge pin frac) s = .next { rec_ true with gst := { (rec_ true).gst with pins := (rec_ true).gst.pins ++ [r] } })

/-- At V every named changed port is judged; a Gust with nothing left to judge is final, and each of the next instants judges the failing ports again (R199,
R201, R203). A Lull ends: drt returns to zero, refinement, its event, then what waited for the boundary (R206, R260, R267, R320). The next trajectory point,
held where its row is poisoned, and the end of the replay (R205, R260, R263). GST_CMD.CNT_CLR zeroes both Gust counts (R208). DRT_TAUk is locked while
TABLE_VALID is 1, else its response is computed again (R12, R250, R268); COMMIT counts the table generation up and sets TABLE_VALID, INVALIDATE clears it,
CNT_CLR zeroes the Draught counts (R266, R268). THE MODEL'S CHOICES in it, with their log entries: an earlier Gust ends NOT_VERIFIED (36), unchanged ports in
graph mode (66), a Gust without verification completes at V (67). -/
def Obligations.GustVerification : Prop :=
  ((∀ (v : Verify) (s : State), s.gst.verify = some v → v.judged = false → v.vAt ≤ s.time.g → s.inReplay = false →
     let r := s.judge v
     let s1 : State := { r.2 with gst := { r.2.gst with verify := some { r.1 with vAt := s.time.g + 1 } } }
     (bit v.ctrl 0 = false → exec .gustVerify s = .next s.finishVerify) ∧
     (bit v.ctrl 0 = true → (s1.failing r.1).isEmpty = true → exec .gustVerify s = .next s1.finishVerify) ∧
     (bit v.ctrl 0 = true → (s1.failing r.1).isEmpty = false → r.1.left ≠ 0 → exec .gustVerify s = .next s1)) ∧
   ∀ (v : Verify) (s : State), s.gst.verify = some v → v.judged = true → v.left ≠ 0 → v.vAt ≤ s.time.g →
     let r := s.judge { v with left := v.left - 1 }
     let s1 : State := { r.2 with gst := { r.2.gst with verify := some { r.1 with vAt := s.time.g + 1 } } }
     exec .gustReverify s = .next (if (s1.failing r.1).isEmpty || decide (r.1.left = 0) then s1.finishVerify else s1)) ∧
  ((∀ (l l1 : Lull) (s : State), s.gst.lull = some l → l.endClk ≤ s.time.lastTick → s.inReplay = false →
     let s1 := s.drtFinish (fun _ => true)
     s1.gst.lull = some l1 →
     let s2 : State := match l.played with | some t => s1.refine l1 t | none => s1
     let s3 := ({ s2 with gst := { s2.gst with lull := none } } : State).clrReg Reg.GST_STATUS 0x300000
     let s4 := s3.event 4 0x43 (8 * b2n l.null) s3.now l.seq (if l.null then 0xFFFF else l.slot) l.len 0
     s4.inReplay = false → exec .lullEnd s = .next (((s4.calBoundary).spBoundary).handOver)) ∧
   (∀ (l : Lull) (p : Traj) (s : State), s.gst.lull = some l → l.play = some p → l.point < 199 → l.d + 2048 * (l.point + 1) ≤ s.clk →
     let l1 : Lull := { l with point := l.point + 1 }
     let w : State := { s with gst := { s.gst with lull := some l1 } }
     exec (.draughtPoint false) s = .next (w.drtApply l1 (l.point + 1)) ∧
     exec (.draughtPoint true) s = .next (((w.orReg Reg.DRT_STATUS 8).bump Reg.DRT_CNT1 15 0 1).report1 15 (trajAddr p))) ∧
   ∀ (l : Lull) (s : State), s.gst.lull = some l → l.play.isSome = true → l.d + 409600 ≤ s.clk → exec .draughtEnd s = .next (s.drtFinish (fun _ => true))) ∧
  ∀ (u : Cu) (v : Word) (s : State), s.holds u = true →
    (exec (.gustCountClear u v) s = .next (((s.recWrite u Reg.GST_CMD (v ||| 1)).setReg Reg.GST_CNT0 0).setReg Reg.GST_CNT1 0)) ∧
    (∀ k, k < 3 →
      let w := s.recWrite u (Reg.DRT_TAU0 + 4 * k) v
      (s.rbit Reg.DRT_STATUS 1 = false → exec (.drtTauWrite u k v) s = .next ((w.maskWrite (Reg.DRT_TAU0 + 4 * k) 0xFFFF v).drtFill k)) ∧
      (s.rbit Reg.DRT_STATUS 1 = true → (w.reg (Reg.DRT_TAU0 + 4 * k) ^^^ v) &&& 0xFFFF ≠ 0 →
        exec (.drtTauWrite u k v) s = .next ((w.maskWrite (Reg.DRT_TAU0 + 4 * k) 0 v).orReg Reg.DRT_STATUS 1))) ∧
    (bit v 0 = false → bit v 2 = false →
      exec (.drtCommit u v) s = .next (((s.recWrite u Reg.DRT_CMD (v ||| 2)).wrapInc Reg.DRT_TGEN).orReg Reg.DRT_STATUS 2)) ∧
    (bit v 0 = false → bit v 1 = false → exec (.drtInvalidate u v) s = .next ((s.recWrite u Reg.DRT_CMD (v ||| 4)).clrReg Reg.DRT_STATUS 2)) ∧
    (bit v 1 = false → bit v 2 = false →
      exec (.drtCountClear u v) s = .next (((s.recWrite u Reg.DRT_CMD (v ||| 1)).setReg Reg.DRT_CNT0 0).setReg Reg.DRT_CNT1 0))

/-! ### Element loops and Squall (R215–R245) -/

/-- A loop instant comes once, on a grid index that is a multiple of PERIOD (R218): what waits takes effect, the drive is recorded, and where the loops run
every AUTO cell and every relay makes its step, marks follow and saturation is reported. Updates that do not end in time leave it out, counted (R219). The
outputs of the last instant enter their channels' queues one tick before they are due; none does in a safe state (R218, R220). THE MODEL'S CHOICES in it,
with their log entries: loop instants fall while EN is 0 (72). -/
def Obligations.LoopInstants : Prop :=
  (∀ s : State, s.time.on = true → s.time.g % s.loopPeriod = 0 → s.loop.instAt ≠ some s.time.g →
     let s0 : State := { s with loop := { s.loop with instAt := some s.time.g } }
     let s1 := ((s0.throttleInstant).instantChanges).recDrive
     (s1.loopsRun = false → exec (.loopInstant false) s = .next s1) ∧
     (s1.loopsRun = true →
       let s2 := s1.wrapInc Reg.LOOP_INST
       let s3 : State := match s2.holder with | some u => s2.pmcEvent u 0x05 0 1 | none => s2
       let s4 : State := { s3 with loop := { s3.loop with outs := [], outAt := s3.time.g + 40 } }
       let auto := (s4.loop.cells.filter (fun e => e.2.hasLoop && decide (e.2.st.mode = 2))).map Prod.fst
       exec (.loopInstant false) s = .next ((((auto.foldl autoCell s4).squallInstant).markCells).satReports)) ∧
     (s.loopsRun = true → s.inReplay = false →
       let w := (((s0.throttleInstant).orReg Reg.LOOP_STATUS 8).bump Reg.LOOP_CNT 31 16 1).recEvent 7 []
       exec (.loopInstant true) s = .next (match w.holder with | some u => (w.pmcEvent u 0x06 0 1).report1 (localSrc u 9) 0 | none => w))) ∧
  ∀ s : State, s.loop.outs.isEmpty = false → s.loop.outAt ≤ s.time.g + 1 →
    let w : State := { s with loop := { s.loop with outs := [] } }
    (s.heldNow = true ∨ s.drv.held = true ∨ s.fabOn = false → exec .loopOutputApply s = .next w) ∧
    (s.heldNow = false → s.drv.held = false → s.fabOn = true → exec .loopOutputApply s = .next (s.loop.outs.foldl (fun (s : State) o =>
      match s.drvOf o.arm o.cell with | some ch => s.enqueue ch o.code | none => s) w))

/-- The code the control law of R225 gives lies within the channel's limits narrowed by AMP, and so does its integrator. -/
def Obligations.LoopLawStaysInLimits : Prop :=
  ∀ (v : ClsVals) (st : CellSt) (e : Int) (fresh lull : Bool) (lo hi : Nat), lo + v.amp + v.amp ≤ hi → hi ≤ 65535 →
    let r := loopLaw v st e fresh lull lo hi
    lo + v.amp ≤ r.2.1 ∧ r.2.1 + v.amp ≤ hi ∧
      (((lo + v.amp : Nat) : Int) * 65536 ≤ r.1.i ∧ r.1.i ≤ ((hi - v.amp : Nat) : Int) * 65536)

/-- LOOP_MODE asks for the mode in every cell it picks and waits for the next loop instant (R227, R228, R402); LOOP_SET writes its class, or asks for the
hold first (R232, R401). Operands out of range complete INVALID. The holder's writes of a cell's mode and light, of CLR_STRIKE, of a class and of the class
holds wait for the next loop instant (R227, R230, R231, R245), and CNT_CLR zeroes LOOP_CNT (R241). Squall: START with a run that R235 allows begins it, by
register and by descriptor; one it does not allow is refused; STOP aborts (R237); a run whose cells all have their result ends with DONE (R236). THE MODEL'S
CHOICES in it, with their log entries: a mode change takes the cell out of its run (32), a START in a safe state is aborted (74). -/
def Obligations.LoopCommands : Prop :=
  (∀ (c : Cmd) (s : State), c.isNow = true →
     let x := s.startFlight c
     let ask (mode : Nat) : State := (modeCells c).foldl (fun (s : State) i =>
       if s.modePicks c i then s.setLoopCell i { s.loopCell i with modeReq := some mode } else s) x
     let wait (t : State) : State := { t with loop := { t.loop with modeCmds := t.loop.modeCmds ++ [(c, false)] } }
     (Ready c 9 s → c.b 4 = 1 → c.h 16 + c.h 18 ≤ x.nCells → exec (.loopModeManual c) s = .next (wait (ask 1))) ∧
     (Ready c 9 s → c.b 4 = 2 → c.h 16 + c.h 18 ≤ x.nCells → exec (.loopModeAuto c) s = .next (wait (ask 2))) ∧
     (Ready c 9 s → c.h 16 + c.h 18 > x.nCells →
       exec (.loopModeManual c) s = .next (x.refuse c 0x05) ∧ exec (.loopModeAuto c) s = .next (x.refuse c 0x05)) ∧
     (Ready c 8 s → setBad c = true → exec (.loopSet c) s = .next (x.refuse c 0x05)) ∧
     (Ready c 8 s → setBad c = false →
       let wrap := (c.b 5).testBit 0 && !x.rbit Reg.LOOP_CLS_HOLD (c.b 4)
       let w : State := { x with loop := { x.loop with wraps := x.loop.wraps ++ [{ cmd := c, cls := c.b 4, late := false, stage := if wrap then 0 else 2, held := wrap }] } }
       exec (.loopSet c) s = .next (if wrap then w.orReg Reg.LOOP_CLS_HOLD (2 ^ c.b 4) else w.writeSet c))) ∧
  ((∀ (u : Cu) (cell : Nat) (v : Word) (s : State), cell < 4864 → s.holds u = true → (s.loopCell cell).hasLoop = true →
     let l := s.loopCell cell
     let req := if field v 1 0 = 1 ∨ field v 1 0 = 2 then some (field v 1 0) else l.modeReq
     (bit v 31 = false → exec (.loopCellModeWrite u cell v) s = .next ((s.recWrite u (Reg.LOOP_CELL_CFG u cell) v).setLoopCell cell
       { l with modeReq := req, lightReq := some (field v 5 4) })) ∧
     (exec (.clrStrike u cell v) s = .next ((s.recWrite u (Reg.LOOP_CELL_CFG u cell) (v ||| 0x80000000)).setLoopCell cell
       { l with modeReq := req, lightReq := some (field v 5 4), st := { l.st with strikes := 0 } }))) ∧
   ∀ (u : Cu) (v : Word) (s : State), s.holds u = true →
     (exec (.loopClsHoldWrite u v) s = .next ((s.recWrite u Reg.LOOP_CLS_HOLD v).setReg Reg.LOOP_CLS_HOLD (v &&& 0xFFFF))) ∧
     (∀ cls off, cls < 16 → clsOffs.contains off = true → exec (.loopClassWrite u cls off v) s =
       .next ((s.recWrite u (clsKey cls off) v).setReg (clsKey cls off) (v &&& BitVec.ofNat 32 (clsMask off)))) ∧
     exec (.loopCountClear u v) s = .next ((s.recWrite u Reg.LOOP_CMD (v ||| 1)).setReg Reg.LOOP_CNT 0)) ∧
  (∀ (u : Cu) (v : Word) (s : State), s.holds u = true → bit v 1 = false →
    let w := (s.recWrite u Reg.LOOP_SQ_CTRL (v ||| 1)).maskWrite Reg.LOOP_SQ_CTRL 0x0FFF0FF0 (v ||| 1)
    let cells := (List.range (field v 7 4 + 1)).map (fun j => w.fld (Reg.LOOP_SQ_CELL j) 12 0)
    (w.squallOk (field v 11 8) (field v 27 16) cells = false → exec (.squallStart (.reg u v)) s = .next (w.orReg Reg.LOOP_SQ_STATUS 8)) ∧
    (w.squallOk (field v 11 8) (field v 27 16) cells = true → (s.recWrite u Reg.LOOP_SQ_CTRL (v ||| 1)).heldNow = false →
      exec (.squallStart (.reg u v)) s = .next (w.squallBegin (field v 11 8) (field v 27 16) cells none))) ∧
  (∀ (c : Cmd) (s : State), Ready c 9 s → c.isNow = true → c.b 4 = 3 →
    let x := s.startFlight c
    let cells := (List.range (c.b 48)).map (fun j => c.h (16 + 2 * j))
    (x.loop.squall.isSome = true → exec (.squallStart (.desc c)) s = .next (x.refuse c 0x11)) ∧
    (1 ≤ c.b 48 → c.b 48 ≤ 16 → (∀ i ∈ cells, i < x.nCells) → x.squallOk (c.b 5) (c.h 6) cells = true → x.unsafeNow = true →
      exec (.squallStart (.desc c)) s = .next (x.refuse c 0x0F)) ∧
    (1 ≤ c.b 48 → c.b 48 ≤ 16 → (∀ i ∈ cells, i < x.nCells) → x.squallOk (c.b 5) (c.h 6) cells = true → x.unsafeNow = false →
      exec (.squallStart (.desc c)) s = .next (x.squallAct c false))) ∧
  (∀ (u : Cu) (v : Word) (s : State), s.holds u = true → bit v 0 = false →
    exec (.squallStop u v) s = .next (((s.recWrite u Reg.LOOP_SQ_CTRL (v ||| 2)).maskWrite Reg.LOOP_SQ_CTRL 0x0FFF0FF0 (v ||| 2)).abortSquall)) ∧
  ∀ (q : Squall) (s : State), s.loop.squall = some q → q.started = true → (q.cells.all (fun x => decide (x.result ≠ 0))) = true →
    exec .squallEnd s = .next (s.squallFinish q)

/-! ### Time, schedules and time outputs (R270–R301) -/

/-- PPS edges: one sooner than 900 ms after the last accepted is a glitch, counted (R272); the others are accepted at their compensated time (R273, R278).
1,100 ms without one, the time holds over, or is lost, with event and fault (R272, R276); ph ends (R275); seconds armed with PPS_EN 0 are applied at once,
else wait for the next edge (R277). A timed command whose action time has come is performed, in the order of acceptance and unit A first; the others stay
(R285). THE MODEL'S CHOICES in it, with their log entries: unit A's timed commands run first (45), from when PPS_LOST's 1,100 ms run (106). -/
def Obligations.TimeEdgesAndTimedCommands : Prop :=
  ((∀ (frac : Nat) (s : State), s.rbit Reg.TIM_CTRL 0 = true → s.time.on = true → s.pwr.warm = none → s.inReplay = false →
     (∀ t0, s.time.edge = some t0 → s.clk < t0 + 184320000 → exec (.ppsEdge frac) s = .next ((s.orReg Reg.TIM_STATUS 0x400).bump Reg.TIM_CNT 15 0 1)) ∧
     (s.time.edge = none →
       let off : Int := ((frac % 64 : Nat) : Int) - dlySteps (sext 32 (s.rnat Reg.TIM_DLY_PPS))
       exec (.ppsEdge frac) s = .next (s.acceptEdge ((s.fine : Int) + (off * s.incNow).fdiv 64).toNat))) ∧
   (∀ s : State, s.rbit Reg.TIM_CTRL 0 = true → s.time.lost = false → s.inReplay = false → s.time.ppsSince + 225280000 ≤ s.clk →
     let w : State := { s with time := { s.time with lost := true, ph := 0, phLeft := 0, goodEdges := 0 } }
     let w2 := (w.orReg Reg.TIM_STATUS 0x200).event 5 0x51 0 s.now s.sync 0 0 0
     exec .ppsLost s = .next (((if s.sync = 2 then w2.setSync 3 else w2).recTime s.fine 0 false).report1 25 0)) ∧
   (∀ s : State, s.time.ph ≠ 0 → s.time.phLeft = 0 → s.inReplay = false →
     exec .ppsPhaseEnd s = .next (({ s with time := { s.time with ph := 0 } } : State).recTime s.fine 0 false)) ∧
   ∀ (u : Cu) (v : Word) (s : State), s.holds u = true → bit v 31 = true →
     let w := ((s.recWrite u Reg.TIM_SEC_SET_HI v).setReg Reg.TIM_SEC_SET_HI (v &&& 0x8000FFFF)).orReg Reg.TIM_STATUS 0x10
     (s.rbit Reg.TIM_CTRL 0 = true → exec (.secondsArm u v) s = .next w) ∧
     (s.rbit Reg.TIM_CTRL 0 = false → w.armedSec ≠ s.time.sec →
       exec (.secondsArm u v) s = .next (w.stepTime (s.time.sec * 1000000000 * 2 ^ 32) w.armedSec))) ∧
  ∀ s : State,
    let due (u : Cu) (s : State) := (s.unit u).timed.filter (fun t => decide (t.due ≤ s.now))
    let left (u : Cu) (s : State) : State := s.setUnit u { s.unit u with timed := (s.unit u).timed.filter (fun t => decide (s.now < t.due)) }
    let a := (due .a s).foldl (fun (s : State) t => s.performTimed t) (left .a s)
    exec .timedActionDue s = .next ((due .b a).foldl (fun (s : State) t => s.performTimed t) (left .b a))

/-- SCHED_LOAD checks the whole list before it writes SCH_P_ registers: INVALID, BUSY while a list is armed, BUS_ERROR; a good list is written and answers OK
with its cycle, or commits (R398). The four controls of a schedule, by register and by descriptor: COMMIT arms the pending list with its start time and
cycle, or is refused and sets COMMIT_ERR; STOP, STOP_AT_END and CANCEL (R289, R290, R294, R301, R399). THE MODEL'S CHOICES in it, with their log entries:
when STOP and a boundary stop end a schedule (104, 105). -/
def Obligations.ScheduleCommands : Prop :=
  (∀ (c : Cmd) (l : List Byte) (s : State), Ready c 5 s →
     let x := (s.startFlight c).recReads c (.bytes l)
     let n := c.h 4
     let ents := loadEnts l n
     let w := (((((ents.zip (List.range n)).foldl (fun (s : State) (e : SchEnt × Nat) =>
       (s.setReg (Reg.SCH_P_DUR e.2) (word e.1.dur)).setReg (Reg.SCH_P_SLOT e.2) (word (e.1.slot % 256 + 256 * b2n e.1.partl))) x).setReg
         Reg.SCH_P_COUNT (word n)).setReg Reg.SCH_P_BASE_SEC (word (c.w 24))).setReg Reg.SCH_P_BASE_NS (word (c.w 28))).setReg Reg.SCH_P_CYCLES (word (c.w 32))
     (n = 0 ∨ 256 < n ∨ hostAddrOk (c.q 16) = false ∨ 1000000000 ≤ c.w 28 → exec (.schedLoad c (.bytes l)) s = .next (x.refuse c 0x05)) ∧
     (n ≠ 0 → n ≤ 256 → hostAddrOk (c.q 16) = true → c.w 28 < 1000000000 →
       (x.sch.pend.isSome = true → exec (.schedLoad c (.bytes l)) s = .next (x.refuse c 0x11)) ∧
       (x.sch.pend = none → listOk ents = false → exec (.schedLoad c (.bytes l)) s = .next (x.refuse c 0x05)) ∧
       (x.sch.pend = none → listOk ents = true → loadClean l n = true → 8 * n ≤ l.length → (c.b 6).testBit 0 = false →
         exec (.schedLoad c (.bytes l)) s = .next (w.complete c 0 0 (cycleOf ents) 0 0 0)) ∧
       (x.sch.pend = none → listOk ents = true → loadClean l n = true → 8 * n ≤ l.length → (c.b 6).testBit 0 = true →
         exec (.schedLoad c (.bytes l)) s = .next (w.schCommit w.now (some c) false)))) ∧
  (∀ (now : Nat) (c : Option Cmd) (late : Bool) (l : SchList) (s : State), s.commitList now = .inr l →
    s.schCommit now c late = ((({ s with sch := { s.sch with pend := some l } } : State).orReg Reg.SCH_STATUS 2).completeOpt c (okStatus late) 0
      (cycleOf l.ents) l.k (l.s % 1000000000) (l.s / 1000000000))) ∧
  (∀ (u : Cu) (v : Word) (s : State), s.holds u = true →
    let w (b : Word) := s.recWrite u Reg.SCH_CTRL (v ||| b)
    (bit v 1 = false → bit v 2 = false → bit v 3 = false → exec (.schedCommit (.reg u v)) s = .next ((w 1).schCommit (w 1).now none false)) ∧
    (bit v 0 = false → bit v 2 = false → bit v 3 = false → exec (.schedStop (.reg u v)) s = .next ((w 2).schStop none false)) ∧
    (bit v 0 = false → bit v 1 = false → bit v 3 = false → exec (.schedStopAtEnd (.reg u v)) s = .next ((w 4).schStopAtEnd none false)) ∧
    (bit v 0 = false → bit v 1 = false → bit v 2 = false → exec (.schedCancel (.reg u v)) s =
      .next ((({ w 8 with sch := { (w 8).sch with pend := none } } : State)).clrReg Reg.SCH_STATUS 2))) ∧
  ∀ (c : Cmd) (s : State), Ready c 6 s → c.isNow = true →
    let x := s.startFlight c
    (c.b 4 = 0 → exec (.schedCommit (.desc c)) s = .next (x.schCommit x.now (some c) false)) ∧
    (c.b 4 = 1 → exec (.schedStop (.desc c)) s = .next (x.schStop (some c) false)) ∧
    (c.b 4 = 2 → exec (.schedStopAtEnd (.desc c)) s = .next (x.schStopAtEnd (some c) false)) ∧
    (c.b 4 = 3 → exec (.schedCancel (.desc c)) s = .next ((x.schCancel).complete c 0 0 0 0 0 0))

/-- The pending list becomes active at S: what waited on the old one completes, and its registers show it (R291). An edge of the active list fires its entry;
a cycle boundary counts the cycle, or stops the list (R292–R294). TIME_PULSE programs an output that is off, BUSY on one that is on (R410). EN set by
register starts a mode 0 train at its start, 64 clocks on where none is given (R297, R298). A pulse at its instant raises the output for WIDTH, which its end
row takes back (R297). THE MODEL'S CHOICES in it, with their log entries: the order of the causes of a skip (69), the forms of the timing outputs (101, 102)
and the boundary (103). -/
def Obligations.ScheduleRuns : Prop :=
  ((∀ (l : SchList) (s : State), s.sch.pend = some l → l.s ≤ s.now → s.inReplay = false →
     let w := (s.flushSkips).dropSchedPre
     let w1 := w.sch.stopCmds.foldl (fun (s : State) c => s.complete c 0 0 (s.rnat Reg.SCH_POS) (s.rnat Reg.SCH_CYCLE_CNT) 0 0) w
     let w2 : State := { w1 with sch := { w1.sch with active := some l, pend := none, stopAtEnd := false, stopCmds := [] } }
     exec .schedStart s = .next ((((w2.clrReg Reg.SCH_STATUS 2).orReg Reg.SCH_STATUS 9).showActive l).startedEvent l 0)) ∧
   ∀ (l : SchList) (e : SchEnt) (s : State), s.sch.active = some l → l.ents[l.pos]? = some e → l.edge ≤ s.now → s.inReplay = false →
     (l.pos ≠ 0 → exec .scheduleEdge s = .next (s.schFire l e)) ∧
     (l.pos = 0 → (s.sch.stopAtEnd = true ∨ (l.cycles ≠ 0 ∧ l.cycles ≤ l.cyc)) → exec .scheduleEdge s = .next ((s.flushSkips).schedStop 2)) ∧
     (l.pos = 0 → s.sch.stopAtEnd = false → (l.cycles = 0 ∨ l.cyc < l.cycles) →
       exec .scheduleEdge s = .next ((((s.flushSkips).setReg Reg.SCH_CYCLE_CNT (word (l.cyc + 1))).toutFire 2 l.edge).schFire { l with cyc := l.cyc + 1 } e))) ∧
  (∀ (c : Cmd) (s : State), Ready c 0x10 s → c.b 4 ≤ 3 → 20 ≤ c.w 20 → (c.w 16 = 0 ∨ (40 ≤ c.w 16 ∧ c.w 20 + 20 ≤ c.w 16)) → c.w 24 ≤ 1000000 →
    let x := s.startFlight c
    (x.rbit (Reg.TIM_TOUT_CFG (c.b 4)) 31 = true → exec (.timePulse c) s = .next (x.refuse c 0x11)) ∧
    (x.rbit (Reg.TIM_TOUT_CFG (c.b 4)) 31 = false → exec (.timePulse c) s = .next (x.timePulseAct c))) ∧
  (∀ (u : Cu) (i : Nat) (v : Word) (s : State), i < 4 → s.holds u = true → s.rbit (Reg.TIM_TOUT_CFG i) 31 = false →
    let w := (s.recWrite u (Reg.TIM_TOUT_CFG i) (v ||| 0x80000000)).maskWrite (Reg.TIM_TOUT_CFG i) (0x80000000 ||| 0x63000000) (v ||| 0x80000000)
    (w.toutMode i = 0 → w.rnat (Reg.TIM_TOUT_SEC i) = 0 → w.rnat (Reg.TIM_TOUT_NS i) = 0 →
      exec (.toutEnable u i v) s = .next (w.toutGo i (w.now + nsOfClks 64) (bit v 30) none)) ∧
    (w.toutMode i ≠ 0 → exec (.toutEnable u i v) s = .next (w.setTout i { w.tout i with running := true, nextAt := 0 }))) ∧
  (∀ (i : Nat) (s : State), (s.tout i).running = true → s.rbit (Reg.TIM_TOUT_CFG i) 31 = true → s.toutMode i = 0 → s.toutDue i (s.tout i).nextAt = true →
    exec (.toutPulse i) s = .next ((s.setTout i { s.tout i with running := decide (s.toutPer i ≠ 0), nextAt := (s.tout i).nextAt + s.toutPer i }).toutStart i)) ∧
  ∀ (i : Nat) (s : State), (s.tout i).high = true → (s.tout i).endClk ≤ s.clk →
    exec (.toutPulseEnd i) s = .next (s.setTout i { s.tout i with high := false })

/-! ### Calibration and characterisation (R302–R333, R264, R265) -/

/-- CAL_RUN: INVALID for no step or a tile the part has not, BUSY while a run goes on, SAFE_STATE in one; else BUSY, its first step and the tiles' DACs
(R306, R407). Its end counts what was kept, disagreed and lacked its precondition, and answers CAL_DISAGREE, CAL_PRECOND or OK (R310). CAL_SET_LOAD: BUSY
during a run, INVALID for a count or a record it does not take, BUS_ERROR for a failed read; its records else form the pending set (R329, R408). CAL_CMD
(R320, R328, R331, R333): IDLE asks for a boundary, which lapses after 10 ms; ABORT ends a run; SEQ_STOP ends a table that loops, or aborts; HASH_DRT starts
the hash of the coupling table, whose end shows the digest and the generation and lets the waiting reports out. THE MODEL'S CHOICES in it, with their log
entries: which reference a run starts on (89) and how records are loaded (95). -/
def Obligations.Calibration : Prop :=
  ((∀ (c : Cmd) (s : State), Ready c 0x0A s →
     let x := s.startFlight c
     (c.b 4 = 0 ∨ 2 ^ x.part.tiles ≤ c.q 16 → exec (.calRun c) s = .next (x.refuse c 0x05)) ∧
     (c.b 4 ≠ 0 → c.q 16 < 2 ^ x.part.tiles → x.cal.run.isSome = true → exec (.calRun c) s = .next (x.refuse c 0x11)) ∧
     (c.b 4 ≠ 0 → c.q 16 < 2 ^ x.part.tiles → x.cal.run = none → x.heldNow = true → exec (.calRun c) s = .next (x.refuse c 0x0F)) ∧
     (c.b 4 ≠ 0 → c.q 16 < 2 ^ x.part.tiles → x.cal.run = none → x.heldNow = false →
       let step := ((List.range 8).filter (fun i => (c.b 4).testBit i)).headD 0 + 1
       let w := (x.runTiles c).foldl (fun (s : State) t => (s.setField (Reg.CAL_TILE t) 31 27 0).injPreempt t)
         ({ x with cal := { x.cal with run := some { cmd := c } } } : State)
       let w1 := (w.setField Reg.CAL_STATUS 15 12 step).orReg Reg.CAL_STATUS 1
       exec (.calRun c) s = .next (if (c.b 4) % 4 ≠ 0 then w1.orReg Reg.HK_STATUS 2 else w1))) ∧
   ∀ (r : CalRun) (res : List CalRes) (s : State), s.cal.run = some r →
     let a : CalAcc := (inOrder (res.filter (s.covered r.cmd))).foldl (s.calOne r.cmd)
       { kept := [], dis := [], pre := [], news := [], spares := [], refV := 0, refR := 0 }
     let w : State := { s with cal := { s.cal with run := none } }
     let w2 := ((w.setReg Reg.CAL_KEPT (word a.kept.length)).setReg Reg.CAL_DISAGREED (word a.dis.length)).setReg Reg.CAL_PRECONDS (word a.pre.length)
     let w3 : State := if a.refV = 0 then w2 else (w2.setReg Reg.CAL_REF_V (word a.refV)).setReg Reg.CAL_REF_R (word a.refR)
     let w4 : State := ((s.runTiles r.cmd).foldl (tileOutcome a) w3).spareMarks a.spares
     let st := if !a.dis.isEmpty then 8 else if !a.pre.isEmpty then 9 else 0
     let w5 := ((w4.clrReg Reg.CAL_STATUS 0xF001).orReg Reg.CAL_STATUS (0x10 + (if st = 8 then 0x20 else 0) + (if st = 9 then 0x40 else 0))).clrReg
       Reg.HK_STATUS 2
     let w6 : State := if a.news.isEmpty then w5 else w5.makePending (Tab.mapAll (fun _ x => w5.stampRec a x) a.news)
     exec (.calRunEnd res) s = .next (w6.complete r.cmd st 0 a.kept.length a.dis.length a.pre.length
       (if a.news.isEmpty then 0 else w6.rnat Reg.CAL_PEND_GEN % 2 ^ 31))) ∧
  (∀ (c : Cmd) (l : List Byte) (n : Nat) (s : State), Ready c 0x0B s →
     let x := (s.startFlight c).recReads c (.bytes l)
     let y := (s.startFlight c).recReads c (.failed n)
     (x.cal.run.isSome = true → exec (.calSetLoad c (.bytes l)) s = .next (x.refuse c 0x11)) ∧
     (x.cal.run = none → (c.w 24 = 0 ∨ 9 * x.part.tiles < c.w 24) → exec (.calSetLoad c (.bytes l)) s = .next (x.refuse c 0x05)) ∧
     (y.cal.run = none → c.w 24 ≠ 0 → c.w 24 ≤ 9 * y.part.tiles → exec (.calSetLoad c (.failed n)) s = .next (y.refuse c 0x0C)) ∧
     (x.cal.run = none → c.w 24 ≠ 0 → c.w 24 ≤ 9 * x.part.tiles → x.loadRecs (c.w 24) l [] = none →
       exec (.calSetLoad c (.bytes l)) s = .next (x.refuse c 0x05)) ∧
     (∀ news, x.cal.run = none → c.w 24 ≠ 0 → c.w 24 ≤ 9 * x.part.tiles → x.loadRecs (c.w 24) l [] = some news →
       exec (.calSetLoad c (.bytes l)) s = .next ((x.makePending news).complete c 0 0 news.length 0 0 ((x.makePending news).rnat Reg.CAL_PEND_GEN % 2 ^ 31)))) ∧
  (∀ (u : Cu) (v : Word) (s : State), s.holds u = true →
    let w (b : Word) := s.recWrite u Reg.CAL_CMD (v ||| b)
    (bit v 1 = false → bit v 2 = false → bit v 3 = false →
      exec (.calIdle u v) s = .next { w 1 with cal := { (w 1).cal with idleSince := some s.clk } }) ∧
    (bit v 0 = false → bit v 2 = false → bit v 3 = false → exec (.calAbort u v) s = .next ((w 2).abortCal)) ∧
    (bit v 0 = false → bit v 1 = false → bit v 3 = false →
      (∀ r, s.cal.char = some r → r.kind = 0 → endless r = true → exec (.calSeqStop u v) s = .next ((w 4).tableEnd { r with ended := 1 })) ∧
      (s.cal.char = none → exec (.calSeqStop u v) s = .next ((w 4).abortChar))) ∧
    (bit v 0 = false → bit v 1 = false → bit v 2 = false → s.drt.hashing = none →
      exec (.calHashDrt u v) s = .next { w 8 with drt := { (w 8).drt with hashing := some s.clk } })) ∧
  (∀ (t0 : Nat) (s : State), s.cal.idleSince = some t0 → t0 + clksMs 10 ≤ s.clk →
    exec .calIdleLapse s = .next (({ s with cal := { s.cal with idleSince := none } } : State).orReg Reg.CAL_STATUS 0x200)) ∧
  ∀ (t0 : Nat) (s : State), s.drt.hashing = some t0 →
    let dig := Crypto.shake256 s.tableBytes
    let w : State := { s with drt := { s.drt with hashing := none } }
    let w1 := ((List.range 16).foldl (fun (s : State) i => s.setReg (Reg.CAL_DHASH i) (word (le dig (4 * i) 4))) w).setReg Reg.CAL_DHASH_TGEN (s.reg Reg.DRT_TGEN)
    exec .drtHashDone s = .next (w1.attests.foldl (fun (s : State) a => s.attestNow true a.cmd) { w1 with attests := [] })

/-- The four kinds of CHAR_RUN (R264, R323–R325, R409): BUSY while one runs, SAFE_STATE in one, INVALID for operands out of range, BUS_ERROR for a failed
read of the list; what remains starts, a table, a coupling run, or a sweep. A coupling run, a sweep and a table end with what they measured (R265, R325,
R409): modes come back, the table takes its new coefficients and a new generation, a sweep's values form the pending set. -/
def Obligations.Characterisation : Prop :=
  ((∀ (c : Cmd) (s : State), Ready c 0x0C s → c.b 4 = 0 →
     let x := s.startFlight c
     (x.seqBusy = true → exec (.charTable c) s = .next (x.refuse c 0x11)) ∧
     (x.seqBusy = false → x.heldNow = true → exec (.charTable c) s = .next (x.refuse c 0x0F)) ∧
     (x.seqBusy = false → x.heldNow = false → (c.h 24 = 0 ∨ 4096 < c.h 24 ∨ 1 < c.b 5) → exec (.charTable c) s = .next (x.refuse c 0x05)) ∧
     (x.seqBusy = false → x.heldNow = false → c.h 24 ≠ 0 → c.h 24 ≤ 4096 → c.b 5 ≤ 1 → exec (.charTable c) s = .next (x.tableStart c))) ∧
   ∀ (c : Cmd) (l : List Byte) (n : Nat) (s : State), Ready c 0x0C s →
     let x := (s.startFlight c).recReads c (.bytes l)
     let y := (s.startFlight c).recReads c (.failed n)
     let xs := hostList (c.h 24) l
     let ok (limit : Nat) (good : Nat → Bool) : Prop := c.h 24 ≠ 0 ∧ c.h 24 ≤ limit ∧ 2 * c.h 24 ≤ l.length ∧ xs.all good = true
     (x.seqBusy = false → x.heldNow = false → c.b 4 = 1 → ok 14592 (fun a => decide (a / 3 < x.nCells)) →
       exec (.charCoupling c (.bytes l)) s = .next (x.couplingStart c xs)) ∧
     (x.seqBusy = false → x.heldNow = false → c.b 4 = 2 → ok 4864 (fun a => decide (a < x.nCells)) →
       exec (.charTrimSweep c (.bytes l)) s = .next (x.sweepStart c 2 xs)) ∧
     (x.seqBusy = false → x.heldNow = false → c.b 4 = 3 → ok 4864 (fun a => decide (a < x.nCells)) →
       exec (.charThrowSweep c (.bytes l)) s = .next (x.sweepStart c 3 xs)) ∧
     (y.seqBusy = false → y.heldNow = false → c.b 4 = 1 → exec (.charCoupling c (.failed n)) s = .next (y.refuse c 0x0C))) ∧
  (∀ (r : Coupling) (res : List CoupRes) (s : State), s.drt.coupling = some r →
    let x : State × List Nat := res.foldl (coupOne r) (s, [])
    let n (k : Nat) : Nat := (x.2.filter (fun o => decide (o = k))).length
    let w : State := { x.1 with drt := { x.1.drt with coupling := none } }
    let w2 := (((r.modes.foldl (fun (s : State) e => s.restoreMode e.1 e.2) w.seqOff).clrReg Reg.DRT_STATUS 0x100).orReg Reg.DRT_STATUS 0x200)
    let w3 := (w2.setReg Reg.DRT_CHAR_CNT0 (word (min (n 0) 0xFFFF * 2 ^ 16 + min (n 1) 0xFFFF))).setReg Reg.DRT_CHAR_CNT1
      (word (min (n 2) 0xFFFF * 2 ^ 16 + min (n 3) 0xFFFF))
    exec (.couplingRunEnd res) s = .next ((if n 0 = 0 then w3 else (w3.wrapInc Reg.DRT_TGEN).orReg Reg.DRT_STATUS 2).complete r.cmd
      (if n 2 ≠ 0 then 8 else 0) 0 (n 0) (n 1) (n 2) (min (n 3) 0xFFFF + 2 ^ 16 * min r.aborted.length 0x7FFF))) ∧
  (∀ (r : CharRun) (res : List SweepRes) (s : State), s.cal.char = some r → r.kind = 0 → r.ended ≠ 0 →
    let w : State := { s with cal := { s.cal with char := none } }
    exec (.charRunEnd res) s = .next ((r.modes.foldl (fun (s : State) e => s.restoreMode e.1 e.2) (w.seqOff.clrReg Reg.HK_STATUS 1)).complete r.cmd
      (if r.ended = 2 then 0x10 else 0) 0 r.count r.loops r.lost 0)) ∧
  ∀ (r : CharRun) (res : List SweepRes) (s : State), s.cal.char = some r → r.kind ≠ 0 → exec (.charRunEnd res) s = .next (s.sweepEnd r res)

/-! ### The host link and register accesses (R334–R356, R12–R15, R341–R343) -/

/-- Resets and states of a unit's link: PERST, hot reset, a loss of link, a function-level reset, training into L0, a recovery, D3hot and errors. Each says
which flags and counts of HL_STATUS and HL_RETRAIN it leaves, and that a lost link or an uncorrectable error is reported where HL_CTRL asks (R336, R345,
R347–R350, R353–R355). -/
def Obligations.LinkEvents : Prop :=
  ∀ (u : Cu) (s : State),
    ((s.unit u).linkUp = true →
      let w := (((((s.dropLink u).setUnit u { (s.dropLink u).unit u with perst := true }).orReg (Reg.HL_STATUS u) 0xC0).bump
        (Reg.HL_RETRAIN u) 31 16 1)).resetFns u
      exec (.perstAssert u) s = .next (if s.rbit (Reg.HL_CTRL u) 0 then w.report1 (localSrc u 5) 0 else w)) ∧
    exec (.perstRelease u) s = .next (s.setUnit u { s.unit u with perst := false }) ∧
    exec (.hotReset u) s = .next (((s.dropLink u).orReg (Reg.HL_STATUS u) 0x80).resetFns u) ∧
    ((s.unit u).linkUp = true →
      let w := (((s.dropLink u).orReg (Reg.HL_STATUS u) 0x40).bump (Reg.HL_RETRAIN u) 31 16 1).resetFns u
      exec (.linkDown u) s = .next (if s.rbit (Reg.HL_CTRL u) 0 then w.report1 (localSrc u 5) 0 else w)) ∧
    exec (.flrPf u) s = .next ((s.resetFns u).orReg (Reg.HL_STATUS u) 0x100) ∧
    (∀ f, 1 ≤ f → f ≤ 15 → exec (.flrVf u f) s = .next ((resetFn u s f).orReg (Reg.HL_STATUS u) 0x100)) ∧
    (∀ rate width rev l0p flit, linkOk rate width = true → (s.unit u).perst = false → (s.unit u).linkUp = false →
      let w := ((s.setUnit u { s.unit u with linkUp := true }).orReg (Reg.HL_STATUS u) 1).setReg (Reg.HL_LINK u) (word (hlLink rate width rev l0p flit))
      exec (.linkUp u rate width rev l0p flit) s = .next (if rate < 7 ∨ width < 16 then
        (w.orReg (Reg.HL_STATUS u) 0x1000).eventTo u 11 0xB0 0 w.now (hlLink rate width rev l0p flit) 0 0 0 else w)) ∧
    (∀ rate width rev l0p flit, linkOk rate width = true → (s.unit u).linkUp = true →
      exec (.linkRetrain u rate width rev l0p flit) s = .next ((s.bump (Reg.HL_RETRAIN u) 15 0 1).linkAt u rate width rev l0p flit)) ∧
    (∀ f, f < 16 → exec (.d3hotEntry u f) s = .next ((s.setFn u f { s.fn u f with d3 := true }).clrReg (Reg.Q_STATUS u f) 1)) ∧
    (∀ f, f < 16 →
      let w := s.setFn u f { s.fn u f with d3 := false }
      let w2 : State := if w.rbit (Reg.Q_CTRL u f) 0 && !(w.fn u f).halted then w.orReg (Reg.Q_STATUS u f) 1 else w
      exec (.d3hotExit u f) s = .next (((((w2.fn u f).cqs.map Prod.fst).foldl (fun (s : State) c => s.drainCq u f c) w2).drainEq u f).drainMsix u f)) ∧
    (exec (.linkError u false) s = .next ((s.bump (Reg.HL_CERR_CNT u) 31 0 1).orReg (Reg.HL_STATUS u) 0x400)) ∧
    (let w := (s.bump (Reg.HL_UERR_CNT u) 31 0 1).orReg (Reg.HL_STATUS u) 0x200
     exec (.linkError u true) s = .next (if s.rbit (Reg.HL_CTRL u) 1 then w.report1 (localSrc u 4) 0 else w)) ∧
    ∀ v : Word, bit v 31 = true →
      exec (.hlCountClear u v) s = .next (((((s.maskWrite (Reg.HL_CTRL u) 3 v).setReg (Reg.HL_REFUSED u) 0).setReg (Reg.HL_CERR_CNT u) 0).setReg
        (Reg.HL_UERR_CNT u) 0).setReg (Reg.HL_LOST u) 0)

/-- Host accesses: a forbidden shape sets BAD_ACCESS and does nothing else, a write that does not cover whole registers sets NARROW_WR (R15, R341); an
aligned write of one word reaches its register, and of two the lower first; a register write to the base by a unit that does not hold the token is dropped
(R342). A read has the effects of the registers it reaches; Q_RTT and MX_OUTm clear their largest value (R378, R500). -/
def Obligations.RegisterAccesses : Prop :=
  ∀ (a : Access) (v : Nat) (s : State),
    (badShape a = true →
      exec (.registerWrite a v) s = .next (s.orReg (Reg.HL_STATUS a.unit) 0x10) ∧ exec (.badAccessRead a) s = .next (s.orReg (Reg.HL_STATUS a.unit) 0x10) ∧
      exec (.latchingRead a) s = .next (s.orReg (Reg.HL_STATUS a.unit) 0x10) ∧ exec (.clearOnRead a) s = .next (s.orReg (Reg.HL_STATUS a.unit) 0x10)) ∧
    (badShape a = false → wholeRegs a = false → exec (.registerWrite a v) s = .next (s.orReg (Reg.HL_STATUS a.unit) 0x8)) ∧
    (∀ k, a.bar = 0 → a.off % 8 = 0 ∨ a.off % 8 = 4 → a.len = 4 → accessKey a a.off = some k →
      exec (.registerWrite a v) s = .next (s.regWrite a.unit k (word v)) ∧
      exec (.latchingRead a) s = .next (s.readEffect k) ∧ exec (.clearOnRead a) s = .next (s.readEffect k)) ∧
    (∀ k k', a.bar = 0 → a.off % 8 = 0 → a.len = 8 → accessKey a a.off = some k → accessKey a (a.off + 4) = some k' →
      exec (.registerWrite a v) s = .next ((s.regWrite a.unit k (word v)).regWrite a.unit k' (word (v / 2 ^ 32)))) ∧
    (∀ (u : Cu) (k : Nat) (x : Word) r ix, absentKey s.part k = false → keyRow k = some (r, ix) → keyUnit k = none → s.holds u = false →
      k ∉ [Reg.TKN_CLAIM, Reg.TKN_RENEW, Reg.TKN_RELEASE, Reg.TKN_REH_REPORT] → s.regWrite u k x = s.dropWrite u) ∧
    (∀ u : Cu, (s.readEffect (Reg.Q_RTT u)).fld (Reg.Q_RTT u) 31 16 = 0) ∧
    ∀ m : Nat, m < 12 → (s.readEffect (Reg.MX_OUT m)).fld (Reg.MX_OUT m) 24 16 = 0

/-! ### The queue engine (R357–R384) -/

/-- A poll takes the summaries given, with the round trip (R362, R378); a fetch moves the SQ's head by the descriptors it takes, at most 8 and no more than
the tail allows, and writes the head word (R359, R363); a completion queue takes the host's head where it neither moves back nor passes the tail, else DB_ERR
(R360, R365); failed reads are counted, the eighth poll halting the function, the second fetch stopping the SQ (R346, R377). Enables and disables (R362,
R364, R377, R379, R380, R382, R384): a function's EN ends its halt; an SQ takes head and tail from its slot and full buckets, or is ignored with CFG_IGNORED
where its CQ is off; a CQ in use stays on; rings start at tail 0; CNT_CLR clears the function's counts. -/
def Obligations.QueueReadsAndEnables : Prop :=
  (∀ (u : Cu) (f : Nat) (s : State),
     (∀ p rtt, exec (.queuePoll u p rtt) s = .next ((p.foldl (pollFn u) (s.noteRtt u rtt)).refreshAll u)) ∧
     (∀ q ds rtt, (ds.take (s.fetchable u f q)).isEmpty = false →
       let got := ds.take (s.fetchable u f q)
       let hd := ((s.sq u f q).head + got.length) % 2 ^ 32
       let w := (s.noteRtt u rtt).setSq u f q { s.sq u f q with head := hd, fetched := (s.sq u f q).fetched ++ got.map (fit 64), fetchFails := 0 }
       exec (.descriptorFetch u f q ds rtt) s =
         .next ((w.hostWrite u (s.rnat64 (Reg.Q_DB_LO u f) (Reg.Q_DB_HI u f) + 0x3200 + 4 * q) (bytesOf 4 hd)).refreshAll u)) ∧
     (∀ c h, c < 64 → s.rbit (Reg.Q_CQ_CFG u f c) 31 = true → dist32 h (s.cq u f c).head ≤ dist32 (s.cq u f c).tail (s.cq u f c).head →
       exec (.completionPost u f c h) s = .next (((s.setCq u f c { s.cq u f c with head := h }).drainCq u f c).refreshAll u)) ∧
     (∀ c h, c < 64 → s.rbit (Reg.Q_CQ_CFG u f c) 31 = true → dist32 (s.cq u f c).tail (s.cq u f c).head < dist32 h (s.cq u f c).head →
       exec (.completionPost u f c h) s = .next ((s.qSticky u f (Reg.Q_STATUS u f) 0x10).refreshAll u)) ∧
     ((s.fn u f).pollFails < 7 →
       exec (.hostReadFail u (.poll f)) s = .next (s.setFn u f { s.fn u f with pollFails := (s.fn u f).pollFails + 1 })) ∧
     (7 ≤ (s.fn u f).pollFails → exec (.hostReadFail u (.poll f)) s =
       .next ((((s.setFn u f { s.fn u f with pollFails := 0, halted := true }).clrReg (Reg.Q_STATUS u f) 1).qSticky u f (Reg.Q_STATUS u f) 0x120).report1
         (localSrc u 10) f)) ∧
     (∀ q, (s.sq u f q).fetchFails = 0 →
       exec (.hostReadFail u (.descriptor f q)) s = .next (s.setSq u f q { s.sq u f q with fetchFails := 1 })) ∧
     ∀ q, 1 ≤ (s.sq u f q).fetchFails → exec (.hostReadFail u (.descriptor f q)) s =
       .next ((((s.setSq u f q { s.sq u f q with fetchFails := 0 }).orReg (Reg.Q_SQ_STATUS u f q) 0x30).qSticky u f (Reg.Q_STATUS u f) 2).report1
         (localSrc u 10) (f * 64 + q))) ∧
  ∀ (u : Cu) (f : Nat) (v : Word) (s : State),
    (bit v 0 = true → bit v 31 = false → s.rbit (Reg.Q_CTRL u f) 0 = false → (s.fn u f).d3 = false →
      let w := s.setReg (Reg.Q_CTRL u f) (v &&& 1)
      exec (.functionEnable u f v) s = .next (((w.setFn u f { w.fn u f with halted := false, pollFails := 0 }).clrReg (Reg.Q_STATUS u f) 0x100).orReg
        (Reg.Q_STATUS u f) 1)) ∧
    (bit v 0 = false → bit v 31 = false →
      exec (.functionDisable u f v) s = .next ((s.setReg (Reg.Q_CTRL u f) (v &&& 1)).clrReg (Reg.Q_STATUS u f) 1)) ∧
    (bit v 0 = false → bit v 31 = true →
      exec (.qCountClear u f v) s = .next ((((s.setReg (Reg.Q_CTRL u f) (v &&& 1)).clrReg (Reg.Q_STATUS u f) 1)).clearFnCounts u f)) ∧
    (∀ q slot, bit v 31 = true → s.rbit (Reg.Q_SQ_CFG u f q) 31 = false →
      let w := s.maskWrite (Reg.Q_SQ_CFG u f q) (0x00FF0000 ||| 0x3F00001F) v
      let b := s.reg (Reg.Q_SQ_BURST u f q)
      (s.rbit (Reg.Q_CQ_CFG u f (w.cqOf u f q)) 31 = false → exec (.sqEnable u f q v slot) s = .next ((w.orReg (Reg.Q_STATUS u f) 4).refreshAll u)) ∧
      (s.rbit (Reg.Q_CQ_CFG u f (w.cqOf u f q)) 31 = true → exec (.sqEnable u f q v slot) s =
        .next ((((w.orReg (Reg.Q_SQ_CFG u f q) 0x80000000).clrReg (Reg.Q_SQ_STATUS u f q) 0x10).setSq u f q
          { head := slot % 2 ^ 32, tail := slot % 2 ^ 32, cBucket := fullBucket (field b 31 16), gBucket := fullBucket (field b 15 0) }).refreshAll u))) ∧
    (∀ q, bit v 31 = false →
      let w := s.rwlWrite (Reg.Q_SQ_CFG u f q) 0x00FF0000 0x3F00001F (s.rbit (Reg.Q_SQ_CFG u f q) 31) (Reg.Q_STATUS u f) 4 v
      exec (.sqDisable u f q v) s = .next (((w.clrReg (Reg.Q_SQ_CFG u f q) 0x80000000).setSq u f q { w.sq u f q with fetched := [] }).refreshAll u)) ∧
    (∀ c, bit v 31 = true → s.rbit (Reg.Q_CQ_CFG u f c) 31 = false →
      exec (.cqEnable u f c v) s = .next ((s.maskWrite (Reg.Q_CQ_CFG u f c) (0xA0000000 ||| 0x40003F1F) v).setCq u f c {})) ∧
    (∀ c, bit v 31 = false → s.rbit (Reg.Q_CQ_CFG u f c) 31 = true →
      (s.cqInUse u f c = true → exec (.cqDisable u f c v) s = .next ((s.rwlWrite (Reg.Q_CQ_CFG u f c) 0x20000000 0x40003F1F true (Reg.Q_STATUS u f) 4 v).orReg
        (Reg.Q_STATUS u f) 4)) ∧
      (s.cqInUse u f c = false → exec (.cqDisable u f c v) s = .next (s.rwlWrite (Reg.Q_CQ_CFG u f c) 0xA0000000 0x40003F1F true (Reg.Q_STATUS u f) 4 v))) ∧
    (bit v 31 = true → s.rbit (Reg.Q_EQ_CFG u f) 31 = false →
      let w := s.maskWrite (Reg.Q_EQ_CFG u f) (0x80000000 ||| 0x3F0F) v
      exec (.eqEnable u f v) s = .next (w.setFn u f { w.fn u f with eq := {} })) ∧
    ∀ r, bit v 31 = true → s.rbit (Reg.Q_TR_CFG u f r) 31 = false →
      exec (.trEnable u f r v) s = .next (((s.maskWrite (Reg.Q_TR_CFG u f r) (0x80000000 ||| 0x3F1F) v).setTr u f r {}).setReg (Reg.Q_TR_STATUS u f r) 0)

/-- A grant goes to the eligible function with the least finish tag and to its eligible SQ with the least, whose first descriptor is accepted; tags, V and
the grant count move on (R374). A ring interrupt timer that has run out sends its vector once (R376). THE MODEL'S CHOICES in it, with their log entries: each
BUCKET_REFILL is one rise (82), the descriptor row's part in acceptance (210). -/
def Obligations.GrantsAndTimers : Prop :=
  (∀ (u : Cu) (f q : Nat) (d : List Byte) (rest : List (List Byte)) (s : State),
    let w := s.refreshAll u
    w.unitFull u = false → w.grantee u = some (f, q) → (w.sq u f q).fetched = d :: rest →
    let w1 := (w.setSq u f q { w.sq u f q with fetched := rest }).chargeTags u f q
    exec (.arbitrationGrant u) s = .next (((((w1.wrapInc (Reg.Q_GRANTS u)).pmcEvent u 0x10 f 1).acceptDesc
      { unit := u, func := f, sq := q, desc := d }).noteQuota u f).refreshAll u)) ∧
  (∀ (u : Cu) (f q : Nat) (s : State), s.grantee u = some (f, q) → ∃ x ∈ (s.unit u).fns, x.1 = f ∧ x.2.eligible = true) ∧
  (∀ level rate burst : Nat, refill level rate burst ≤ (if burst = 0 then 1 else burst) * 1000000 ∧
    (level + 5 * rate ≤ (if burst = 0 then 1 else burst) * 1000000 → refill level rate burst = level + 5 * rate)) ∧
  (∀ s : State, exec .bucketRefill s = .next ([Cu.a, Cu.b].foldl (fun (s : State) u =>
    (s.unit u).fns.foldl (fun (s : State) fe =>
      fe.2.sqs.foldl (fun (s : State) qe =>
        s.setSq u fe.1 qe.1 { s.sq u fe.1 qe.1 with
          cBucket := refill qe.2.cBucket (s.fld (Reg.Q_SQ_CRATE u fe.1 qe.1) 23 0) (s.fld (Reg.Q_SQ_BURST u fe.1 qe.1) 31 16),
          gBucket := refill qe.2.gBucket (s.fld (Reg.Q_SQ_GRATE u fe.1 qe.1) 23 0) (s.fld (Reg.Q_SQ_BURST u fe.1 qe.1) 15 0) }) s) s) s)) ∧
  ∀ (u : Cu) (f c t0 : Nat) (s : State), c < 64 → (s.cq u f c).pendSince = some t0 →
    let t := s.fld (Reg.Q_CQ_MOD u f c) 27 16
    t ≠ 0 → t0 + clksUs t ≤ s.clk →
    exec (.ringInterruptTimer u f (64 + c)) s = .next ((s.setCq u f c { s.cq u f c with pendCount := 0, pendSince := none }).sendMsix u f
      (ringVector (s.reg (Reg.Q_CQ_CFG u f c))))

/-! ### Descriptors that read or set parts directly (R394, R397, R403–R406, R412, R413) -/

/-- NOP answers with its unit, the token, the core's state and its commands in flight (R394). MAP_QUERY of a slot BASTING answers BUSY, of nothing INVALID,
else the whole parts that fit its buffer, SHORT where one did not (R397). STATE_SAVE writes two generations, one to each copy (R413, R431). MOVE takes a free
channel and begins its transfer, or is refused (R406). ELEMENT_DIRECT (R403): CODES enter the channel's queue all or none, SAFE_STATE in one, BUSY without
room; READ answers the words of the channel that serves the element. SPARE_MAP (R404): SUBSTITUTE asks the named spare, or the lowest that is free; RELEASE
gives back the one that serves the element. TELEM_CTRL sets its queue, and starts it where it fits (R405). THE MODEL'S CHOICES in it, with their log entries:
the length of a saved image (110), a NOP's use of its fields (111), BUSY for a channel bound to a source (188). -/
def Obligations.QueryAndElementCommands : Prop :=
  ((∀ (c : Cmd) (s : State), Ready c 0x01 s →
     let x := s.startFlight c
     exec (.nop c) s = .next (x.complete c 0 0 (c.unit.num + 2 * b2n (x.holds c.unit) + 4 * b2n (x.islandOnly c.unit) +
       256 * (x.rnat (Reg.HL_ID c.unit) % 256)) (x.unit c.unit).flights.length 0 0)) ∧
   (∀ (c : Cmd) (s : State), Ready c 0x04 s → c.b 4 = 1 →
     let x := s.startFlight c
     let y := x.slot (c.b 5)
     ((x.slot (c.b 5)).st = 0 ∨ c.b 6 = 0 ∨ 15 < c.b 6 → exec (.mapQuery c) s = .next (x.refuse c 0x05)) ∧
     (y.st = 1 → c.b 6 ≠ 0 → c.b 6 ≤ 15 → ((c.b 6).testBit 2 = false ∨ x.graph = false) → exec (.mapQuery c) s = .next (x.refuse c 0x11)) ∧
     (y.st ≠ 0 → y.st ≠ 1 → c.b 6 ≠ 0 → c.b 6 ≤ 15 → ((c.b 6).testBit 2 = false ∨ x.graph = false) →
       let r := takeParts (c.w 24) (((List.range 4).filter (fun i => (c.b 6).testBit i)).map (x.queryPart (slotHeader y) y.vec y.img))
       exec (.mapQuery c) s = .next ((x.hostWrite c.unit (c.q 16) r.1).complete c (if r.2 then 0 else 0x10) 0 r.1.length (x.rnat Reg.GST_ACTIVE)
         (x.slotWord (c.b 5)).toNat 0))) ∧
   (∀ (c : Cmd) (s : State), Ready c 0x14 s →
     let w := ((s.startFlight c).saveImage 3).saveImage 3
     exec (.stateSave c) s = .next (w.complete c 0 0 (w.rnat Reg.TKN_IMG_GEN_LO) (2 * w.imageLen) 0 0)) ∧
   ∀ (c : Cmd) (s : State), Ready c 0x0D s →
     let x := s.startFlight c
     (∀ st, x.moveRefusal c = some st → exec (.move c) s = .next (x.refuse c st)) ∧
     (∀ n, x.moveRefusal c = none → x.moveChannel c = some n → exec (.move c) s = .next ((x.moveLoad c n).dmBegin c.unit n
       { cmd := some c, func := c.func, srcHost := (c.b 5).testBit 0, dstHost := (c.b 5).testBit 1 }))) ∧
  (∀ (c : Cmd) (ch : Nat) (s : State), Ready c 0x11 s → c.isNow = true → c.b 4 = 0 → 1 ≤ c.b 5 → c.b 5 ≤ 16 → (elKind c ≤ 2 ∨ elKind c = 6) →
    let x := s.startFlight c
    let q := (x.chan ch).queue
    x.drvOf (elKind c) (elIdx c) = some ch →
    (x.heldNow = true → exec (.elementDirectCodes c) s = .next (x.refuse c 0x0F)) ∧
    (x.heldNow = false → x.hostMayQueue ch = false → exec (.elementDirectCodes c) s = .next (x.refuse c 0x05)) ∧
    (x.heldNow = false → x.hostMayQueue ch = true → 16 < q.length + c.b 5 → exec (.elementDirectCodes c) s = .next (x.refuse c 0x11)) ∧
    (x.heldNow = false → x.hostMayQueue ch = true → q.length + c.b 5 ≤ 16 → exec (.elementDirectCodes c) s =
      .next ((x.setChan ch { x.chan ch with queue := q ++ codesOf c }).complete c 0 0 (x.time.g + 1 + q.length) ((x.time.g + 1 + q.length) / 2 ^ 32) 0 0))) ∧
  (∀ (c : Cmd) (ch : Nat) (s : State), Ready c 0x11 s → c.b 4 = 1 →
    let x := s.startFlight c
    x.servingOf (elKind c) (elIdx c) = some ch →
    (elKind c ≤ 2 ∨ elKind c = 6 → exec (.elementDirectRead c) s =
      .next (x.complete c 0 0 (x.drvActiveWord ch).toNat (x.drvOutWord ch).toNat (x.drvHoldWord ch).toNat ch)) ∧
    (3 ≤ elKind c → elKind c ≠ 6 → exec (.elementDirectRead c) s =
      .next (x.complete c 0 0 (x.monFineWord ch).toNat (x.monFastWord ch).toNat (x.monCfgWord ch).toNat ch))) ∧
  (∀ (c : Cmd) (mon : Bool) (t p : Nat) (k : SpKey) (s : State), Ready c 0x12 s → c.isNow = true →
    let x := s.startFlight c
    x.padSite (elKind c) (elIdx c) = some (mon, t, p) →
    (c.b 4 = 0 → c.b 5 = 0xFF → p < spFirst { mon := mon, tile := t, j := 99 } → x.spTaken { mon := mon, tile := t, j := 99 } p = false →
      (spEntries mon t).find? (fun k => x.spUsable k p && !x.spEn k && !x.spPend k && !x.spForce k) = some k →
      exec (.spareMapSubstitute c) s = .next (x.spRequest k p (some c) false)) ∧
    (c.b 4 = 1 → c.b 5 = 0xFF → (spEntries mon t).find? (fun k => (x.spForce k || x.spPend k) && decide (x.fld (spReg k) 7 0 = p)) = some k →
      (x.spForce k = false ∨ x.spPend k = false) → exec (.spareMapRelease c) s = .next (x.spRelease k p (some c) false))) ∧
  ∀ (c : Cmd) (l : List Byte) (s : State), Ready c 0x0F s →
    let x := (s.startFlight c).recReads c (.bytes l)
    c.b 4 ≤ 15 → c.b 5 ≤ 7 → c.b 6 ≤ 3 → c.h 16 ≤ 1024 → c.h 18 ≠ 0 → c.h 18 ≤ 2048 → c.h 20 ≤ 0xFFF →
    x.rbit (Reg.Q_TR_CFG c.unit c.func (c.b 5)) 31 = true →
    (x.rbit (Reg.MON_RQ_CTRL (c.b 4)) 31 = false ∨ x.fld (Reg.MON_RQ_CTRL (c.b 4)) 11 8 = c.func) →
    let w := x.telemSet c l
    ((c.b 6).testBit 0 = true → w.rqFits (c.b 4) = true → exec (.telemCtrl c (.bytes l)) s =
      .next ((w.rqEnable (c.b 4)).complete c 0 0 ((w.rqEnable (c.b 4)).rnat (Reg.MON_RQ_STATUS (c.b 4))) ((w.rqEnable (c.b 4)).rqRate (c.b 4)) 0 0)) ∧
    ((c.b 6).testBit 0 = true → w.rqFits (c.b 4) = false → exec (.telemCtrl c (.bytes l)) s = .next (x.refuse c 0x05)) ∧
    ((c.b 6).testBit 0 = false → exec (.telemCtrl c (.bytes l)) s =
      .next (w.complete c 0 0 (w.rnat (Reg.MON_RQ_STATUS (c.b 4))) (w.rqRate (c.b 4)) 0 0))

/-- FAULT_CTRL (R412, R535, R536): READ, CLEAR and CONFIG of a source within the unit's reach, with the token where the source is the base's; a level that
stands answers BUSY to CLEAR. THE MODEL'S CHOICES in it, with their log entries: which sources a unit reaches (112). -/
def Obligations.FaultCommands : Prop :=
  ∀ (c : Cmd) (s : State), Ready c 0x13 s →
    let x := s.startFlight c
    let src := c.h 16
    (c.b 4 = 0 → faultReach c = true → src ≠ 0xFFFE → exec (.faultCtrlRead c) s = .next (x.faultDone c)) ∧
    (c.b 4 = 0 → faultReach c = false → exec (.faultCtrlRead c) s = .next (x.refuse c 0x05)) ∧
    (c.b 4 = 1 → faultReach c = true → x.faultToken c = false → exec (.faultCtrlClear c) s = .next (x.refuse c 0x04)) ∧
    (c.b 4 = 1 → faultReach c = true → x.faultToken c = true → src = 0xFFFF → exec (.faultCtrlClear c) s = .next ((x.clearFirst).faultDone c)) ∧
    (c.b 4 = 1 → faultReach c = true → x.faultToken c = true → src = 0xFFFE → exec (.faultCtrlClear c) s = .next ((x.clearAll c.unit).faultDone c)) ∧
    (c.b 4 = 1 → faultReach c = true → x.faultToken c = true → src < 0xFFFE → x.levelOn src = true → exec (.faultCtrlClear c) s = .next (x.refuse c 0x11)) ∧
    (c.b 4 = 1 → faultReach c = true → x.faultToken c = true → src < 0xFFFE → x.levelOn src = false →
      exec (.faultCtrlClear c) s = .next ((x.clearSource src).faultDone c)) ∧
    (c.b 4 = 2 → faultReach c = true → x.faultToken c = true → src < 0xFFFE → c.h 18 ≤ 255 → c.b 24 ≤ 2 → (c.b 25 ≤ 3 ∨ src = 10) →
      let w := ((x.setField (srcReg src 0) 7 0 (c.h 18)).setField (srcReg src 0) 25 24 (c.b 24)).setReg (srcReg src 4) (word (c.w 20))
      exec (.faultCtrlConfig c) s = .next ((if src = 10 then w else w.setField (srcReg src 0) 29 28 (c.b 25)).faultDone c))

/-! ### The recorder and replay (R568–R588, R411) -/

/-- REC_CTRL by descriptor (R411): STATUS, FREEZE, RELEASE, SIZE while frozen and within R3, MODE, TRIGGERS; by register FREEZE and RELEASE (R576, R577). An
enabled trigger's POST time ends in a freeze (R576). A pull starts where the ring is frozen or off, takes the last BLOCKS blocks, and ends with DONE (R579).
A freeze stops the recording, once: STATUS shows FROZEN, the time is kept, POST is over (R576). A replay is refused while one runs, while the recorder runs,
or where PADS does not fit the drive (R582); STOP ends it with result 6 (R585); it starts from the blocks named, checked first (R582, R583), and ends with
its result once the engine has one (R585). THE MODEL'S CHOICES in it, with their log entries: the order of two command bits (176), the ring after a SIZE
change (177), commands in hand at START (207), the end of a replay is its own row (208). -/
def Obligations.RecorderAndReplay : Prop :=
  ((∀ (c : Cmd) (s : State), Ready c 0x0E s →
     let x := s.startFlight c
     (c.b 4 = 0 → exec (.recCtrlStatus c) s = .next (x.recComplete c 0)) ∧
     (c.b 4 = 1 → exec (.recFreeze (.desc c)) s = .next ((x.freeze 0 0xFF x.time.g).recComplete c 0)) ∧
     (c.b 4 = 2 → exec (.recRelease (.desc c)) s = .next ((x.recRelease).recComplete c 0)) ∧
     (c.b 4 = 3 → 1 ≤ c.q 16 → c.q 16 ≤ (match x.part with | .wl5128 => 112 | .wl2564 => 48) →
       (x.rbit Reg.REC_STATUS 2 = false → exec (.recSizeSet c) s = .next (x.recComplete c 0x11)) ∧
       (x.rbit Reg.REC_STATUS 2 = true → exec (.recSizeSet c) s = .next ((x.recSizeSet (c.q 16)).recComplete c 0))) ∧
     (c.b 4 = 4 → c.q 16 ≤ 1 → exec (.recModeSet c) s = .next ((x.maskWrite Reg.REC_CTRL 2 (word (2 * c.q 16))).recComplete c 0)) ∧
     (c.b 4 = 5 → c.q 16 ≤ 15 → exec (.recTriggersSet c) s = .next ((x.maskWrite Reg.REC_TRIG 0xF (word (c.q 16))).recComplete c 0))) ∧
   (∀ (u : Cu) (v : Word) (s : State), s.holds u = true →
     let w (k : Nat) := s.recWrite u k v
     (bit v 31 = true → bit v 30 = false →
       exec (.recFreeze (.reg u v)) s = .next (((w Reg.REC_CTRL).recCtrlBits v).freeze 0 0xFF s.time.g)) ∧
     (bit v 30 = true → bit v 31 = false → exec (.recRelease (.reg u v)) s = .next (((w Reg.REC_CTRL).recCtrlBits v).recRelease)) ∧
     (bit v 31 = true → s.rbit Reg.REC_PULL_STATUS 31 = false → s.rbit Reg.REC_CTRL 0 = true → s.rbit Reg.REC_STATUS 2 = false →
       exec (.recPullStart u v) s = .next (((w Reg.REC_PULL_CTRL).maskWrite Reg.REC_PULL_CTRL 0x0F01FFFF v).orReg Reg.REC_PULL_STATUS 0x20000000)) ∧
     (bit v 31 = true → s.rbit Reg.REC_PULL_STATUS 31 = false → (s.rbit Reg.REC_CTRL 0 = false ∨ s.rbit Reg.REC_STATUS 2 = true) → field v 16 0 = 0 →
       let y := (w Reg.REC_PULL_CTRL).maskWrite Reg.REC_PULL_CTRL 0x0F01FFFF v
       let blocks := (w Reg.REC_PULL_CTRL).recordingBlocks.map Block.bseq
       exec (.recPullStart u v) s = .next (({ y with recd := { y.recd with pull := some blocks, pulled := 0 } } : State).setReg Reg.REC_PULL_STATUS
         ((y.reg Reg.REC_PULL_STATUS &&& 0x60000000) ||| 0x80000000)))) ∧
   (∀ (due cause src g : Nat) (s : State), s.recd.postTrig = some (due, cause, src, g) → due ≤ s.clk → exec .recPostExpiry s = .next (s.freeze cause src g)) ∧
   ∀ s : State, s.recd.pull = some [] → exec .recPullEnd s =
     .next ((({ s with recd := { s.recd with pull := none } } : State).setReg Reg.REC_PULL_STATUS
       ((s.reg Reg.REC_PULL_STATUS &&& 0x60000000) ||| 0x40000000)).setField Reg.REC_PULL_STATUS 16 0 s.recd.pulled)) ∧
  (∀ (cause src g : Nat) (s : State),
     (s.rbit Reg.REC_STATUS 2 = true → s.freeze cause src g = s) ∧
     (s.rbit Reg.REC_STATUS 2 = false → (s.freeze cause src g).rbit Reg.REC_STATUS 2 = true ∧ (s.freeze cause src g).rbit Reg.REC_STATUS 3 = false ∧
       (s.freeze cause src g).recd.postTrig = none ∧ (s.freeze cause src g).rnat64 Reg.REC_FREEZE_G_LO Reg.REC_FREEZE_G_HI = s.time.g % 2 ^ 64)) ∧
  (∀ (u : Cu) (v : Word) (s : State), s.holds u = true →
    let w := (s.recWrite u Reg.REC_RP_CTRL v).maskWrite Reg.REC_RP_CTRL 3 v
    (bit v 31 = true → bit v 30 = false → w.rpRefused (bit v 0) = true → exec (.replayStart u v) s = .next (w.setField Reg.REC_RP_STATUS 31 28 7)) ∧
    (bit v 31 = true → bit v 30 = false → w.rpRefused (bit v 0) = false →
      let at_ := (w.fld Reg.REC_RP_FROM 16 0, w.fld Reg.REC_RP_FROM_OFF 16 0)
      let whole := w.recWhole 64 at_
      let check := w.rpCheck (w.recAt at_.1 at_.2) whole.1
      let y := (w.setField Reg.REC_RP_STATUS 31 28 0).setField Reg.REC_RP_STATUS 20 16 check
      (check ≠ 0 → exec (.replayStart u v) s = .next (y.endReplay 4)) ∧
      (check = 0 → y.blockField at_.1 7 1 = 1 → exec (.replayStart u v) s = .next (y.endReplay 5)) ∧
      (check = 0 → y.blockField at_.1 7 1 ≠ 1 → exec (.replayStart u v) s = .next (w.rpStart (bit v 0)))) ∧
    (bit v 30 = true → bit v 31 = false → s.recd.replay = true → exec (.replayStop u v) s = .next (w.endReplay 6))) ∧
  ∀ s : State, s.inReplay = true → s.recd.rpEnd = 2 → exec .replayEnd s = .next (s.endReplay 2)

/-! ### The token (R420–R449) -/

/-- A claim is refused for its UNIT, the STATE, then the GEN, with TKN_LAST and the sticky bit; a renewal likewise, and one in time puts the expiry at LEASE
from now (R421, R424, R425, R442, R445). An accepted claim shows HELD by the unit with the next generation (R421). A release is armed for the end of the next
Lull where a successor is READY (R442); TKN_RESUME releases a gap's hold (R428). THE MODEL'S CHOICES in it, with their log entries: each claim is judged when
it is commanded (20), and the renewals of 114 and 115. -/
def Obligations.TokenClaims : Prop :=
  (∀ (u : Cu) (v : Word) (s : State),
    let refuse (cause reg sticky : Nat) : State := (s.setReg Reg.TKN_LAST (word (cause + 256 * reg + 4096 * u.num))).orReg Reg.TKN_STATUS sticky
    (bit v 0 ≠ decide (u = .b) → exec (.tknClaim u v) s = .next (refuse 3 0 2)) ∧
    (bit v 0 = decide (u = .b) → s.mayClaim u = false → exec (.tknClaim u v) s = .next (refuse 1 0 2)) ∧
    (bit v 0 = decide (u = .b) → s.mayClaim u = true → field v 31 16 ≠ s.tgen → exec (.tknClaim u v) s = .next (refuse 2 0 2)) ∧
    (bit v 0 = decide (u = .b) → s.mayClaim u = true → field v 31 16 = s.tgen → s.tknState = 0 →
      let gen := if s.tgen = 0xFFFF then 1 else s.tgen + 1
      let w := (s.setReg Reg.TKN_STATE ((s.reg Reg.TKN_STATE &&& 0x1C020000) ||| word (2 ^ 29 + 2 ^ 16 * u.num + gen))).setPeerFail u (s.peerFail u)
      let reh := match s.tkn.rehearsal with | some r => if r.unit = u then none else some r | none => none
      let rev := if u ≠ s.preferred then some (s.clk + clksS 60) else none
      let k : TknSt := { w.tkn with leaseEnd := s.clk + clksMs s.leaseMs, handoverArmed := false, rehearsal := reh, wtrEnd := none, revertDue := rev }
      let w1 : State := { w with tkn := k }
      let w2 := (w1.tokenEvent u u 0x80 (s.imageFlags)).restoreLoops s.selectImage false
      exec (.tknClaim u v) s = .next (((w2.recEvent 9 ([1] ++ bytesOf 1 u.num ++ bytesOf 2 gen)).recResume).saveImage 4)) ∧
    (bit v 0 = decide (u = .b) → s.holds u = true → s.clk < s.tkn.leaseEnd → field v 31 16 = s.tgen → s.rbit Reg.TKN_STATUS 2 = false →
      let w := s.clrReg Reg.TKN_STATUS 4
      exec (.tknRenew u v) s = .next (({ w with tkn := { w.tkn with leaseEnd := s.clk + clksMs s.leaseMs } } : State).recWrite u Reg.TKN_RENEW v)) ∧
    (bit v 0 = decide (u = .b) → s.holds u = true → bit v 8 = true → s.succReady = true → field v 31 16 = s.tgen →
      let w := s.recWrite u Reg.TKN_RELEASE v
      exec (.tknRelease u v) s = .next (({ w with tkn := { w.tkn with handoverArmed := true } } : State).requestBoundary)) ∧
    (bit v 0 ≠ decide (u = .b) → exec (.tknRelease u v) s = .next (refuse 3 2 8))) ∧
  ∀ (u : Cu) (v : Word) (s : State), s.holds u = true → bit v 0 = true →
    let w := s.recWrite u Reg.TKN_RESUME v
    (s.gap = true → exec (.tknResume u v) s = .next { w with drv := { w.drv with relGap := true } }) ∧ (s.gap = false → exec (.tknResume u v) s = .next w)

/-- A lease that has run out lapses (R424, R427); a holder's core that stops ends it (R426, R428). Grace ends in FREE (R421); 1 s on, a called unit that has
not claimed has failed (R428); a reservation that nobody took goes back to the releaser, reported (R441, R443). Images are saved every PERIOD ms and 10 ms
after an event (R431). A unit whose core is switched on boots the bank its ROM found, with the boot and measurement registers, or fails (R428, R594, R595);
one that shows no firmware for 150 ms fails (R428). Rehearsals and successors (R435–R440): a start or a call is REFUSED in the cases of R435 and R440, else
the other unit is switched on with BUSY; its report, or 1 s without one, ends it; DISMISS drops a READY successor; the automatic and the reverting ones come
at their times, and wait-to-restore ends in a call. THE MODEL'S CHOICES in it, with their log entries: how a rehearsal is counted, tried, reported and ended
(116 to 120, 122), the wait to restore (121) and a failed call (123). -/
def Obligations.TokenTimersAndRehearsals : Prop :=
  ((∀ (u : Cu) (cause : Nat) (s : State), s.holder = some u →
     (cause = 0 → s.tkn.leaseEnd ≤ s.clk → exec (.leaseExpiry cause) s = .next (s.lapse 0)) ∧
     (cause = 1 ∨ cause = 2 → exec (.leaseExpiry cause) s = .next (s.stopCore u cause)) ∧
     (s.tkn.lastSave + clksMs s.imgPeriod ≤ s.clk → exec .imageSavePeriodic s = .next (s.saveImage 0)) ∧
     (s.tkn.eventSave = true → s.tkn.lastSave + clksMs 10 ≤ s.clk → exec .imageSaveEvent s = .next (s.saveImage 1))) ∧
   (∀ s : State, s.tknState = 2 → s.tkn.graceEnd ≤ s.clk →
     ∃ t, exec .graceEnd s = .next t ∧ t.tknState = 3 ∧ t.tkn.freeAt = s.tkn.graceEnd ∧ t.fld Reg.TKN_STATE 28 0 = s.fld Reg.TKN_STATE 28 0) ∧
   (∀ s : State, s.tknState = 3 → s.tkn.freeAt + clksS 1 ≤ s.clk → s.peerFail s.lapsedUnit.peer = false →
     exec .claimDeadline s = .next (s.failCall s.lapsedUnit.peer)) ∧
   ∀ s : State, s.tknState = 4 → s.tkn.resvEnd ≤ s.clk → s.tknUnit ≠ s.tkn.releaser →
     let w := (s.setReg Reg.TKN_STATE (putBit (s.reg Reg.TKN_STATE) 16 (decide (s.tkn.releaser = .b)))).orReg Reg.TKN_STATUS 0x100
     exec .reservationExpiry s = .next ((if s.rbit Reg.TKN_CFG 8 && decide (s.tkn.releaser ≠ s.preferred) then w.wtrStart else w).report1 13 0)) ∧
  ((∀ (u : Cu) (t0 fail b : Nat) (hdr : List Byte) (s : State), (s.unit u).core = .booting t0 →
     let m := Crypto.shake256 (fit 0x820 hdr)
     let p := s.primary u
     let w := s.setReg (Reg.SEC_BOOT u) (word (2 ^ 16 * (hdrSvn hdr % 128) + 2 ^ 12 * p + 2 ^ 8 * (fail % 16) + 4 * (hdrKey hdr % 2) + 2 * b2n (decide (b % 2 ≠ p)) + b % 2))
     let w1 := (List.range 16).foldl (fun (s : State) i => s.setReg (Reg.SEC_MEAS u i) (word (le m (4 * i) 4))) w
     let w2 := w1.setUnit u { w1.unit u with core := .running, sec := { (w1.unit u).sec with running := hdr } }
     exec (.firmwareVerified u (some b) fail hdr) s = .next { w2 with sec := { w2.sec with banks := Tab.set (b % 2) hdr w2.sec.banks } } ∧
     exec (.firmwareVerified u none fail hdr) s = .next ((s.setReg (Reg.SEC_BOOT u) (word (2 ^ 12 * p + 2 ^ 8 * (fail % 16)))).bootFailed u 3) ∧
     (t0 + clksMs 150 ≤ s.clk → exec (.unitBootFail u 0) s = .next (s.bootFailed u 2))) ∧
   ∀ (u : Cu) (cause : Nat) (s : State), cause = 1 ∨ cause = 2 → exec (.unitBootFail u cause) s = .next (s.stopCore u cause)) ∧
  (∀ (u : Cu) (v : Word) (s : State), s.holder = some u → s.holds u = true →
    let w (b : Word) := (s.recWrite u Reg.TKN_REH_CTRL (v ||| b)).maskWrite Reg.TKN_REH_CTRL 0xFFFFFF00 (v ||| b)
    (bit v 1 = false → bit v 2 = false →
      exec (.tknRehStart u v) s = .next (if (w 1).rehRefused then (w 1).orReg Reg.TKN_REH_STATUS 4 else (w 1).startRehearsal u.peer false false)) ∧
    (bit v 0 = false → bit v 2 = false →
      exec (.tknRehCall u v) s = .next (if (w 2).rehRefused || (w 2).succReady then (w 2).orReg Reg.TKN_REH_STATUS 4 else (w 2).startRehearsal u.peer true false)) ∧
    (bit v 0 = false → bit v 1 = false → s.succReady = true →
      exec (.tknRehDismiss u v) s = .next (((w 4).dropSuccessor).powerDown u.peer))) ∧
  (∀ (r : Rehearsal) (v : Word) (s : State), s.tkn.rehearsal = some r →
    (bit v 0 = true → r.succ = true → exec (.tknRehReport r.unit v) s = .next (s.succIsReady r)) ∧
    (bit v 0 = false → field v 31 28 ≠ 0 → exec (.tknRehReport r.unit v) s = .next (s.endRehearsal (field v 31 28) (field v 23 16))) ∧
    (r.start + clksS 1 ≤ s.clk → r.succ = false → exec .rehearsalTimeout s = .next (s.endRehearsal 8 0)) ∧
    (r.start + clksS 1 ≤ s.clk → r.succ = true → exec .successorReadyTimeout s = .next (s.endRehearsal 8 0))) ∧
  (∀ (h : Cu) (s : State), s.holder = some h → s.rbit Reg.TKN_CFG 9 = true → s.rehPeriod ≠ 0 → s.tkn.rehDue.getD s.tkn.resetAt + s.rehPeriod ≤ s.clk →
    exec .rehearsalAutoDue s = .next (({ s with tkn := { s.tkn with rehDue := some s.clk } } : State).rehTry false false h.peer)) ∧
  (∀ (t0 : Nat) (s : State), s.tkn.revertDue = some t0 → t0 ≤ s.clk → s.reverting = true →
    exec .revertRehearsalDue s = .next (({ s with tkn := { s.tkn with revertDue := some (s.clk + s.retryClks) } } : State).rehTry false false s.preferred)) ∧
  ∀ (t0 : Nat) (s : State), s.tkn.wtrEnd = some t0 → t0 ≤ s.clk → s.reverting = true →
    (s.rehRefused = true ∨ s.succReady = true → exec .wtrExpiry s = .next ((s.orReg Reg.TKN_REH_STATUS 4).wtrStop)) ∧
    (s.rehRefused = false → s.succReady = false → exec .wtrExpiry s =
      .next ((({ s with tkn := { s.tkn with wtrEnd := none } } : State).clrReg Reg.TKN_STATE 0x00400000).startRehearsal s.preferred true true))

/-! ### Power-up, resets and supplies (R450–R470, R560, R628) -/

/-- The start (R450, R454–R457): straps and rails at the rise of POR, with a seed the spec leaves open; the keeper at PLL lock; training, a cache that is
being cleared and a unit switched on; the end of initialisation; the peer called 1 s on. What a cold reset keeps: the log, the fuses, the flash, what stands
outside (R450). THE MODEL'S CHOICES in it, with their log entries: the levels of the rails at POR_RISE (128). -/
def Obligations.PowerUp : Prop :=
  (∀ (pb tm : Bool) (s : State), s.pwr.por = true → ∃ t, exec (.porRise pb tm) s = .next t ∧ t.pwr.por = false ∧ t.pwr.testmode = tm ∧
    t.reg Reg.PWR_STRAP = word (b2n pb) ∧ t.rbit Reg.TKN_CFG 16 = pb) ∧
  (∀ s : State, s.pwr.por = false → s.rbit Reg.PWR_BOOT 0 = false →
    exec .pllLock s = .next (({ s with time := { s.time with on := true } } : State).keeperUp)) ∧
  (∀ (ok : Bool) (s : State), s.baseUp = true → s.pwr.testmode = false → s.rbit Reg.PWR_BOOT 1 = false →
    let w : State := { (s.orReg Reg.PWR_BOOT 2).orReg Reg.RTE_CACHE_STATUS 4 with pwr := { s.pwr with dramUp := true } }
    exec (.dramTrained ok) s = .next ((if ok then w else w.clrReg Reg.PWR_RAIL (2 ^ (7 + s.preferred.num))).bootUnits)) ∧
  (∀ s : State, s.baseUp = true → s.rbit Reg.PWR_BOOT 1 = true → s.rbit Reg.PWR_BOOT 2 = false → s.rbit Reg.RTE_CACHE_STATUS 2 = true →
    ∃ t, exec .dramInitDone s = .next t ∧ t.rte.table = [] ∧ t.rbit Reg.RTE_CACHE_STATUS 0 = true ∧ t.rbit Reg.RTE_CACHE_STATUS 2 = false ∧
      t.rbit Reg.PWR_BOOT 2 = true) ∧
  (∀ s : State, s.baseUp = true → s.rbit Reg.PWR_BOOT 1 = true → s.tknState = 0 → s.rbit Reg.PWR_BOOT 7 = false → s.pwr.t0 + clksS 1 ≤ s.clk →
    let w : State := if s.islandOnly s.preferred then s.setPeerFail s.preferred true else s
    exec .peerCallTimeout s = .next ((w.orReg Reg.PWR_BOOT 0x80).switchOn s.preferred.peer)) ∧
  ∀ s : State, ∃ t, exec .coldReset s = .next t ∧ t.flt.log = s.flt.log ∧ t.flt.wear = s.flt.wear ∧ t.mem.fused = s.mem.fused ∧
    t.sec.ownerKey = s.sec.ownerKey ∧ t.sec.floor = s.sec.floor ∧ t.regs = State.reset.regs ∧ t.gst = State.reset.gst ∧ t.drv = State.reset.drv

/-- Resets (R450, R460–R463, R467, R470): RESET_N below 1 µs is never taken and from 10 µs always; KEY and DEVICE start a warm reset, KEY and a unit that
unit's; the drive powers down 100 µs after its park clock; the warm reset is released once every cause has gone. A watchdog resets its unit (R523). A TAP
instruction that is not available loads BYPASS (R628). Supplies and the PLL (R451, R523, R530, R560, R639): a rail that trips is flagged and reported, and
brings what R450 and R560 say with it; its release clears the flag once no monitor of it is tripped. The drive clock stands still without lock. THE MODEL'S
CHOICES in it, with their log entries: what a warm release keeps and starts (127), a rail below its level (129). -/
def Obligations.ResetsAndSupplies : Prop :=
  ((∀ (n : Nat) (s : State), (n < 1000 → exec (.resetNAssert n) s = .next s) ∧
     (10000 ≤ n → exec (.resetNAssert n) s = .next (s.warmStart 2 (clksNs n)))) ∧
   (∀ (u : Cu) (v : Word) (s : State), s.holds u = true →
     (field v 31 16 = 0xD1E5 → exec (.pwrRstDevice u v) s = .next ((s.recWrite u Reg.PWR_RST_CTRL (v ||| 4)).warmStart 3 0)) ∧
     (field v 31 16 = 0xD1E5 → bit v 2 = false → bit v 0 = true → bit v 1 = false →
       exec (.pwrRstUnit u v) s = .next ((s.recWrite u Reg.PWR_RST_CTRL v).unitReset .a)) ∧
     (field v 31 16 ≠ 0xD1E5 → exec (.pwrRstUnit u v) s = .next (s.recWrite u Reg.PWR_RST_CTRL v))) ∧
   (∀ (u : Cu) (v : Word) (s : State), field v 31 16 = 0xD1E5 → bit v 0 = true →
     exec (.pwrCuSelfReset u v) s = .next (((s.orReg Reg.PWR_RST_CAUSE (2 ^ (8 + u.num))).bump Reg.PWR_RST_CNT 15 0 1).stopCore u 2)) ∧
   (∀ (a b : Nat) (d : Bool) (s : State), s.pwr.warm = some (a, b, d) → s.pwr.relAt ≤ s.clk → s.pwr.low.contains 8 = false →
     exec .warmResetRelease s = .next ((if d then s else s.driveDown.warmHold).warmRelease)) ∧
   (∀ (t0 : Nat) (s : State), s.fab.downAt = some t0 → t0 ≤ s.clk → s.driveDown.pwr.warm = none → exec .drivePowerDown s = .next s.driveDown) ∧
   (∀ (u : Cu) (s : State), s.islandOnly u = false → exec (.watchdog u) s = .next ((s.report1 (localSrc u 3) 0).unitReset u)) ∧
   ∀ (ir : Nat) (s : State), exec (.jtagInstruction ir) s = .next { s with pwr := { s.pwr with ir := if s.tapAllowed ir then ir else 0 } }) ∧
  (∀ s : State, s.pwr.por = false →
    exec .vanaLow s = .next ((s.railLow 8 2).warmStart 4 0) ∧ exec .vioLow s = .next (s.railLow 2 3) ∧
    (∀ u, exec (.vcoreLow u) s = .next (((s.railLow (14 + 2 * u.num) (4 + u.num)).unitReset u).linkLost u)) ∧
    (∀ u, exec (.vphyLow u false) s = .next ((s.railLow (18 + u.num) (6 + u.num)).linkLost u) ∧
      exec (.vphyLow u true) s = .next ((s.railLow (20 + u.num) (6 + u.num)).linkLost u)) ∧
    (exec (.driveRailLow true) s = .next (({ s with fab := { s.fab with stagesDown := s.fab.stagesDown ||| 2 } } : State).railLow 12 1)) ∧
    (exec (.driveRailLow false) s = .next (({ s with fab := { s.fab with stagesDown := s.fab.stagesDown ||| 1 } } : State).railLow 10 0)) ∧
    (∀ u, let w : State := { s with pwr := { s.pwr with low := s.pwr.low.filter (· ≠ 2) } }
      w.pwr.low.any (fun m => decide (m / 2 = 1)) = false →
      exec (.supplyMonitorRelease 1 u) s = .next ((w.orReg Reg.PWR_RAIL 2).levelEnd 3))) ∧
  (∀ s : State, s.time.on = true →
    (let w := s.report1 8 0
     exec .pllUnlock s = .next { w with time := { w.time with on := false } })) ∧
  ∀ s : State, s.time.on = false → s.pwr.por = false → s.rbit Reg.PWR_BOOT 0 = true →
    exec .pllRelock s = .next (({ s with time := { s.time with on := true } } : State).levelEnd 8)

/-! ### Stacked memory and scratchpads (R471–R504) -/

/-- DRAM_SCRUB (R481–R486): a stack that is absent or down, and PERIOD 0 at the end of a pass, read no line. Else one line is read and the position advances:
a clean line has no effect; a corrected one is counted, recorded and reported, and its row is spared at the threshold within the window; an uncorrectable one
is poisoned, counted and reported once, its bank spared at its threshold; a line already poisoned is not counted again. THE MODEL'S CHOICES in it, with their
log entries: how a scrubbed line counts (143). -/
def Obligations.MemoryScrub : Prop :=
  ∀ (k : Nat) (s : State),
    let pos := s.fld (Reg.MEM_SCRUB_POS k) 29 0
    let line := k * 2 ^ 30 + pos
    let past (t : State) : State := (t.setReg (Reg.MEM_SCRUB_POS k) (word ((pos + 1) % 2 ^ 30))).orReg Reg.MEM_STATUS 0x200
    (∀ e, (s.stackUp k = false ∨ (pos = 0 ∧ s.fld Reg.MEM_SCRUB 15 0 = 0)) → exec (.dramScrub k e) s = .next (s.clrReg Reg.MEM_STATUS 0x200)) ∧
    (s.stackUp k = true → (pos ≠ 0 ∨ s.fld Reg.MEM_SCRUB 15 0 ≠ 0) →
      exec (.dramScrub k .clean) s = .next (past s) ∧
      (∀ syms, 1 ≤ syms.length → syms.length ≤ (if s.rbit Reg.MEM_CTRL 1 then 1 else 2) →
        let t := (((s.bump (Reg.MEM_CE_CNT k) 31 0 1).orReg Reg.MEM_STATUS 2).memErr (lineAddr k pos) (2 ^ 28 * syms.length)
          (syms.getD 0 0x7F % 128 + 256 * (syms.getD 1 0x7F % 128))).report1 14 k
        let row := rowOf k pos
        let l := t.within (Tab.get [] row t.mem.rowCe)
        (t.rbit Reg.MEM_CTRL 0 = true → t.rowThr ≤ l.length → exec (.dramScrub k (.corrected syms)) s =
          .next (past (({ t with mem := { t.mem with rowCe := Tab.erase row t.mem.rowCe } } : State).spareRow row))) ∧
        ((t.rbit Reg.MEM_CTRL 0 = false ∨ l.length < t.rowThr) → exec (.dramScrub k (.corrected syms)) s =
          .next (past { t with mem := { t.mem with rowCe := Tab.set row l t.mem.rowCe } }))) ∧
      (s.isPoison line = true → exec (.dramScrub k .uncorrectable) s = .next (past s)) ∧
      (s.isPoison line = false →
        let m := s.metaOf line
        let t := ((((m.2.setMeta line (m.1 + 2 ^ 24)).bump (Reg.MEM_UE_CNT k) 31 0 1).orReg Reg.MEM_STATUS 4).memErr (lineAddr k pos) 0x80000000 0x7F7F).report1 15 k
        let bank := bankOf k pos
        let l := t.within (Tab.get [] bank t.mem.bankUe)
        (t.bankThr ≤ l.length → exec (.dramScrub k .uncorrectable) s = .next (past ((t.setBankUe (Tab.erase bank t.mem.bankUe)).spareBank bank))) ∧
        (l.length < t.bankThr → exec (.dramScrub k .uncorrectable) s = .next (past (t.setBankUe (Tab.set bank l t.mem.bankUe))))))

/-- Sparing (R485–R487, R500): a row copy that ends remaps the row to the bank's next spare row, a bank copy its bank; each is counted, reported, logged, and
committed to the fuses where HARD_REPAIR is 1; a commit that fails sets REPAIR_FAIL. MEM_CMD spares a bank of a stack that is up: its copy starts, and with
the channel's spare bank in use it sets SPARE_EXHAUSTED and reports. MEM_PROBE_HI's write shows the metadata of the line it names (R479, R500): as last
written where it is listed. CNT_CLR zeroes the four error counts (R500). THE MODEL'S CHOICES in it, with their log entries: the remaps that a bank copy drops
(144), the counts that are cleared (145). -/
def Obligations.MemorySparing : Prop :=
  ((∀ (r : Nat) (rest : List Nat) (s : State), s.mem.rowCopy = r :: rest →
     let spare := ((s.mem.spareRows.filter (fun e => decide (e.1 / 65536 = r / 65536))).map (fun e => e.2 + 1)).foldl max 0
     let t : State := { s with mem := { s.mem with rowCopy := rest } }
     exec .rowCopyDone s = .next ((t.bump (Reg.MEM_SPARED (r / 2 ^ 25)) 15 0 1).remapped (.row r spare) (r / 2 ^ 25)
       (r / 2 ^ 25 + 256 * (r / 2 ^ 21 % 16) + 2 ^ 16 * (r / 65536 % 32) + 2 ^ 32 * (r % 65536)) 0x10)) ∧
   (∀ (b : Nat) (rest : List Nat) (s : State), s.mem.bankCopy = b :: rest →
     let t : State := ({ s with mem := { s.mem with bankCopy := rest } } : State).showBankCopy
     exec .bankCopyDone s = .next ((t.bump (Reg.MEM_SPARED (b / 512)) 23 16 1).remapped (.bank b) (b / 512)
       (b / 512 + 256 * (b / 32 % 16) + 2 ^ 16 * (b % 32)) 0x20)) ∧
   (∀ (r : Remap) (k detail st : Nat) (s : State),
     let t := (((s.applyRemap r).orReg Reg.MEM_STATUS st).report1 16 k).logPut 8 0 0 0xFFFF 0 detail
     (s.rbit Reg.MEM_CTRL 2 = true → s.remapped r k detail st = { t with mem := { t.mem with fuses := t.mem.fuses ++ [r] } }) ∧
     (s.rbit Reg.MEM_CTRL 2 = false → s.remapped r k detail st = t)) ∧
   (∀ (r : Remap) (rest : List Remap) (s : State), s.mem.fuses = r :: rest →
     exec (.fuseCommitDone true) s = .next { s with mem := { s.mem with fuses := rest, fused := s.mem.fused ++ [r] } } ∧
     exec (.fuseCommitDone false) s = .next (({ s with mem := { s.mem with fuses := rest } } : State).orReg Reg.MEM_STATUS 0x80)) ∧
   ∀ (u : Cu) (v : Word) (s : State), s.holds u = true →
     let w := s.recWrite u Reg.MEM_CMD (putBit v 31 true)
     let chan := 16 * field v 16 16 + field v 11 8
     let bank := 32 * chan + field v 4 0
     (s.stackUp (field v 16 16) = false → exec (.memSpareBank u v) s = .next w) ∧
     (s.stackUp (field v 16 16) = true → bank ∉ s.mem.bankCopy →
       (Tab.find chan s.mem.spareBanks ≠ none → exec (.memSpareBank u v) s = .next ((w.orReg Reg.MEM_STATUS 0x40).report1 16 (bank / 512))) ∧
       (Tab.find chan s.mem.spareBanks = none → (∀ b ∈ s.mem.bankCopy, b / 32 ≠ chan) → exec (.memSpareBank u v) s =
         .next (({ w with mem := { w.mem with bankCopy := w.mem.bankCopy ++ [bank] } } : State).showBankCopy)))) ∧
  (∀ (u : Cu) (v : Word) (m : Nat) (s : State), s.holds u = true →
    Tab.find ((s.rnat Reg.MEM_PROBE_LO + 2 ^ 32 * field v 15 0) / 64) s.mem.meta_ = some m →
    exec (.memProbe u v) s = .next (((s.recWrite u Reg.MEM_PROBE_HI v).maskWrite Reg.MEM_PROBE_HI 0xFFFF v).setReg Reg.MEM_PROBE_META (word m))) ∧
  (∀ (u : Cu) (v : Word) (s : State), s.holds u = true →
    let w := (s.recWrite u Reg.MEM_PROBE_HI v).maskWrite Reg.MEM_PROBE_HI 0xFFFF v
    let m := w.metaOf ((s.rnat Reg.MEM_PROBE_LO + 2 ^ 32 * field v 15 0) / 64)
    exec (.memProbe u v) s = .next (m.2.setReg Reg.MEM_PROBE_META (word m.1))) ∧
  ∀ (u : Cu) (v : Word) (s : State), s.holds u = true →
    let w := (s.recWrite u Reg.MEM_CTRL (putBit v 31 true)).maskWrite Reg.MEM_CTRL 7 (putBit v 31 true)
    exec (.memCountClear u v) s =
      .next ((((w.setReg (Reg.MEM_CE_CNT 0) 0).setReg (Reg.MEM_CE_CNT 1) 0).setReg (Reg.MEM_UE_CNT 0) 0).setReg (Reg.MEM_UE_CNT 1) 0)

/-- SP_BANKb of a core that is on (R495, R497, R503): OWNER is written; PSTATE 3 is ignored and flagged, the present state starts nothing, another starts its
change with BUSY_PS, and OFF loses the content. BUSY_PS falls when the change ends. RETIRE (R498) starts the copy of a bank that serves to the lowest free
pool bank, waits for another bank, and is refused with the pool used; the copy's end enters the retirement map (R499), and words it could not read are zero
and reported. THE MODEL'S CHOICES in it, with their log entries: when a bank's content is lost (146), a second retirement (147). -/
def Obligations.Scratchpads : Prop :=
  ∀ (u : Cu) (b : Nat) (s : State), b < 32 →
    (∀ v, s.islandOnly u = false →
      let w := s.maskWrite (Reg.SP_BANK u b) (if b < 4 then 0xF0F else 0xF) v
      exec (.spOwnerWrite u b v) s = exec (.spPstateWrite u b v) s ∧
      (field v 31 30 = 3 → exec (.spPstateWrite u b v) s = .next (w.orReg (Reg.SP_STATUS u) 1)) ∧
      (field v 31 30 = w.spState u b → exec (.spOwnerWrite u b v) s = .next w ∨ field v 31 30 = 3) ∧
      (field v 31 30 < 3 → field v 31 30 ≠ w.spState u b →
        let x := (w.setField (Reg.SP_BANK u b) 31 30 (field v 31 30)).orReg (Reg.SP_BANK u b) 0x20000000
        let sp := (x.unit u).sp
        let y := x.setUnit u { x.unit u with sp := { sp with change := if sp.change.contains b then sp.change else sp.change ++ [b] } }
        exec (.spPstateWrite u b v) s = .next (if field v 31 30 = 0 then y.spErase u b else y))) ∧
    (b ∈ (s.unit u).sp.change → b ∉ (s.unit u).sp.retireWait →
      let sp := (s.unit u).sp
      exec (.spPstateDone u b) s = .next ((s.setUnit u { s.unit u with sp := { sp with change := sp.change.filter (· ≠ b) } }).clrReg (Reg.SP_BANK u b) 0x20000000)) ∧
    (∀ v : Word, s.islandOnly u = false → field v 4 0 = b → (∀ r ∈ (s.unit u).sp.retiring, r.1 ≠ b) →
      (s.freePool u = none → exec (.spRetireCmd u v) s = .next ((s.orReg (Reg.SP_STATUS u) 0x80).report1 (localSrc u 7) b)) ∧
      (∀ k, s.freePool u = some k → s.spServes u b = true →
        let sp := (s.unit u).sp
        exec (.spRetireCmd u v) s = .next ((s.setUnit u { s.unit u with sp :=
          { sp with retiring := sp.retiring ++ [(b, k)], retireWait := sp.retireWait.filter (· ≠ b) } }).showRetiring u)) ∧
      (∀ k, s.freePool u = some k → s.spServes u b = false → b ∉ (s.unit u).sp.retireWait →
        let sp := (s.unit u).sp
        exec (.spRetireCmd u v) s = .next (s.setUnit u { s.unit u with sp := { sp with retireWait := sp.retireWait ++ [b] } }))) ∧
    ∀ (k : Nat) (zeros : List Nat), (s.unit u).sp.retiring.find? (fun r => decide (r.1 = b)) = some (b, k) →
      let sp := (s.unit u).sp
      let lost (e : Host.Cell) : Bool := decide (e.1 / 0x40000 = b) && zeros.contains (e.1 % 0x40000 / 8)
      let x := (s.setUnit u { s.unit u with sp :=
        { sp with bytes := sp.bytes.filter (fun e => !lost e), retiring := sp.retiring.filter (fun r => decide (r.1 ≠ b)) } }).showRetiring u
      let y := (((x.orReg (Reg.SP_STATUS u) 0x40).orReg (Reg.SP_BANK u b) 0x10000000).setField (retMapReg u) (8 * k + 7) (8 * k) b).logPut 9 0 0 0xFFFF 0
        (retDetail u b k)
      (zeros = [] → exec (.spRetireDone u b zeros) s = .next y) ∧
      (zeros ≠ [] → exec (.spRetireDone u b zeros) s = .next ((y.orReg (Reg.SP_STATUS u) 0x20).report1 (localSrc u 6) b))

/-! ### The data movers (R505–R521) -/

/-- DM_CTLn (R510, R513, R518, R521): START takes a free channel with no hardware source and not both sides in the host, else it is ignored and flagged;
PAUSE drains and UNPAUSE resumes, RESUME takes a halted channel on with a fresh retry count, END frees a halted channel and ends a paused one SHORT.
DM_CTRL's CNT_CLR zeroes the counts (R517). What ends a stretch of a transfer, after its bytes are written (R509–R516): a drain pauses it, completes it, or
ends it SHORT; the last response completes it; a burst that fails is issued again after a back-off that doubles, or halts the channel once its retries are
used; POISON halts it; a withdrawn hardware request ends SHORT. A back-off ends and the burst is issued again, counted (R511). A source bound to a free
channel of the holder, its core on, asks for it: the next queue with results, or the pull (R515). THE MODEL'S CHOICES in it, with their log entries: the rows
at which the position moves (150), the order of DM_CTL's bits (151), END of a halted channel (152). -/
def Obligations.DataMovers : Prop :=
  (∀ (u : Cu) (n : Nat) (v : Word) (s : State), s.islandOnly u = false → n < 16 →
     (bit v 0 = true → bit v 1 = false → bit v 2 = false → bit v 3 = false → s.dmChan u n = none →
       let w := s.setReg (Reg.DM_CTL u n) 0
       ((s.rbit (Reg.DM_CFG u n) 31 = false ∨ s.rbit (Reg.DM_CFG u n) 30 = false) → s.dmHwsrc u n = 0 →
         exec (.dmStart u n v) s = .next ((w.setReg (Reg.DM_OWN u n) 0x80000000).dmBegin u n
           { func := s.fld (Reg.DM_CFG u n) 27 24, srcHost := s.rbit (Reg.DM_CFG u n) 31, dstHost := s.rbit (Reg.DM_CFG u n) 30 })) ∧
       (s.dmHwsrc u n ≠ 0 → exec (.dmStart u n v) s = .next (w.dmIgnored u n))) ∧
     (∀ x, s.dmChan u n = some x →
       let on := s.setReg (Reg.DM_CTL u n) 2
       let off := s.setReg (Reg.DM_CTL u n) 0
       (bit v 0 = false → bit v 1 = true → bit v 2 = false → bit v 3 = false → exec (.dmPause u n v) s = .next (on.putDm u n x)) ∧
       (bit v 0 = false → bit v 1 = false → bit v 2 = false → bit v 3 = false →
         exec (.dmUnpause u n v) s = .next (off.putDm u n { x with paused := false })) ∧
       (bit v 0 = false → bit v 1 = false → bit v 2 = true → bit v 3 = false → x.halted = true → x.paused = false →
         let w := off.putDm u n { x with paused := false }
         exec (.dmResume u n v) s = .next (w.dmResumeBit u n)) ∧
       (bit v 0 = false → bit v 1 = false → bit v 2 = false → bit v 3 = true →
         exec (.dmEnd u n v) s = .next ((off.putDm u n { x with paused := false }).dmEndBit u n))) ∧
     (bit v 31 = true → exec (.dmCountClear u v) s = .next ((s.maskWrite (Reg.DM_CTRL u) 7 v).setReg (Reg.DM_CNT u) 0))) ∧
  (∀ (u : Cu) (n : Nat) (x : DmChan) (s : State), s.dmMoving u n = some x →
     (∀ data,
       let a := s.dmAdvance u n x data
       (s.dmDraining u n x = true → s.dmTotal u n x ≤ a.1.moved → exec (.dmPaused u n data) s = .next (a.2.dmFinish u n a.1 1 0)) ∧
       (s.dmDraining u n x = true → a.1.moved < s.dmTotal u n x → x.ending = true → exec (.dmPaused u n data) s = .next (a.2.dmFinish u n a.1 3 0x10)) ∧
       (s.dmDraining u n x = true → a.1.moved < s.dmTotal u n x → x.ending = false →
         exec (.dmPaused u n data) s = .next (a.2.putDm u n { a.1 with paused := true })) ∧
       (x.hw = none → s.dmLeft u n x ≤ data.length → exec (.dmTransferDone u n data) s = .next (a.2.dmFinish u n a.1 1 0)) ∧
       (∀ addr cause, data.length < s.dmLeft u n x →
         let tries := (if data.isEmpty then x.tries else 0) + 1
         let x1 : DmChan := { a.1 with tries := tries }
         let w := a.2.burstTrace u addr cause
         (s.fld (Reg.DM_CTRL u) 2 0 < tries → exec (.dmBurstFail u n data addr cause) s = .next (w.dmHalt u n addr cause x1)) ∧
         (tries ≤ s.fld (Reg.DM_CTRL u) 2 0 → exec (.dmBurstFail u n data addr cause) s =
           .next (w.putDm u n { x1 with retryAt := some (s.clk + clksUs (2 ^ (tries - 1))) }))) ∧
       (∀ addr, data.length < s.dmLeft u n x → exec (.dmPoisonHalt u n data addr) s =
         .next (((((a.2.poisonRead addr).pmcEvent u 0x22 (dmPort u) 1).dmHalt u n addr 1 a.1).orReg (Reg.DM_ST u n) 0x80).orReg (Reg.DM_STATUS u) 0x10))) ∧
     (∀ r b, x.hw = some r →
       let a := s.dmAdvance u n x (List.replicate (16 * b - x.moved) 0)
       exec (.dmHwWithdraw u n (some b)) s = .next ((a.2.orReg (Reg.DM_ST u n) 0x40).dmFinish u n a.1 3 0x10))) ∧
  (∀ (u : Cu) (n t0 : Nat) (x : DmChan) (s : State), s.dmChan u n = some x → x.retryAt = some t0 → t0 ≤ s.clk →
    let w := ((s.putDm u n { x with retryAt := none }).bump (Reg.DM_CNT u) 31 16 1).orReg (Reg.DM_STATUS u) 2
    exec (.dmRetryTimer u n) s = .next ((w.setField (Reg.DM_ST u n) 26 24 (max (s.fld (Reg.DM_ST u n) 26 24) x.tries)).pmcEvent u 0x1A n 1)) ∧
  ∀ (u : Cu) (n : Nat) (s : State), s.holds u = true → s.islandOnly u = false → n < 16 → s.dmChan u n = none →
    (∀ q, s.dmHwsrc u n = 1 → s.rqNext = some q → exec (.dmHwRequest u n) s = .next (s.rqRequest u n q)) ∧
    (s.dmHwsrc u n = 2 → exec (.dmHwRequest u n) s = .next (s.pullRequest u n)) ∧
    (s.holds u = true → s.dmHwsrc u n = 0 → exec (.dmHwRequest u n) s = .next s)

/-! ### The fault collector and the event log (R522–R545) -/

/-- FAULT_REPORT of one source (R522–R528): a reserved source reports nothing; else the source is classified, an ERROR or SEVERE report makes the first
record or is merged into the valid one, the class's effect is carried out, and a report of the preferred unit stops wait-to-restore (R438). Of several
reports on one clock all are classified first, and the first record names the worst. LOG_COMMIT (R540, R542): the oldest record of the buffer enters its slot
and the slot's wear counts; one that fails its read-back goes to the next slot with LOG_FAIL, the records after it with it (the numbers of the later records
are the model's reading). THE MODEL'S CHOICES in it, with their log entries: the units and the order of the log (135, 136). -/
def Obligations.FaultReports : Prop :=
  ((∀ (r : FaultRep) (s : State),
     let x := s.classify r.src
     let y := if x.srcClass r.src < 2 then x else if x.rbit Reg.FLT_FIRST 31 then x.mergeInto r.src else x.firstFrom r.src
     let z := y.react (s.srcClass r.src) r
     (srcExists r.src = false → exec (.faultReport [r]) s = .next s) ∧
     (srcExists r.src = true → s.ofPreferred r.src = false → exec (.faultReport [r]) s = .next z) ∧
     (srcExists r.src = true → s.ofPreferred r.src = true → exec (.faultReport [r]) s = .next z.wtrStop)) ∧
   ∀ (a b : FaultRep) (s : State), srcExists a.src = true → srcExists b.src = true → a.src ≠ b.src →
     let x := (s.classify a.src).classify b.src
     2 ≤ x.srcClass a.src → 2 ≤ x.srcClass b.src → x.rbit Reg.FLT_FIRST 31 = false →
     (x.srcClass b.src < x.srcClass a.src ∨ (x.srcClass a.src = x.srcClass b.src ∧ a.src < b.src)) →
     let z := (((x.firstFrom a.src).mergeInto b.src).react (s.srcClass a.src) a).react (s.srcClass b.src) b
     a.src < 64 → b.src < 64 → exec (.faultReport [a, b]) s = .next z) ∧
  ∀ (r : LogRec) (rest : List LogRec) (s : State), s.flt.buf = r :: rest →
    let slot := r.seq % 256
    let wear := Tab.set slot (Tab.get 0 slot s.flt.wear + 1) s.flt.wear
    let most := word ((wear.map Prod.snd).foldl max 0)
    let up (x : LogRec) : LogRec := { x with seq := (x.seq + 1) % 2 ^ 32 }
    let n := (s.flt.seq + 1) % 2 ^ 32
    let a : State := { s with flt := { s.flt with log := Tab.set slot r s.flt.log, buf := rest, wear := wear } }
    let b : State := { s with flt := { s.flt with log := Tab.erase slot s.flt.log, buf := (r :: rest).map up, seq := n, wear := wear } }
    exec (.logCommit true) s = .next (a.setReg Reg.FLT_LOG_WEAR most) ∧
    exec (.logCommit false) s = .next (((b.setReg Reg.FLT_LOG_SEQ (word n)).orReg Reg.FLT_STATUS 0x10).setReg Reg.FLT_LOG_WEAR most)

/-- What one report makes of its source (R524, R525): it is SEVERE from the first report whose WIN reaches N and stays so, else at its base class; WIN counts
this report; TOTAL counts it; at ERROR or SEVERE its record is open. A source that is cleared holds its base class with an empty window, no open record and
no merges; its TOTAL is kept (R535). -/
def Obligations.FaultClasses : Prop :=
  (∀ (src : Nat) (s : State), srcExists src = true →
     let times := (s.now :: Tab.get [] src s.flt.hist).take 255
     let win := s.srcWin src times
     let x := s.classify src
     (x.srcClass src = if s.srcClass src = 3 ∨ s.srcN src ≤ win then 3 else s.fld (srcReg src 0) 25 24) ∧
     x.fld (srcReg src 8) 7 0 = min win 255 ∧ x.rnat (srcReg src 0xC) = min (s.rnat (srcReg src 0xC) + 1) 0xFFFFFFFF ∧
     (2 ≤ x.srcClass src → x.rbit (srcReg src 8) 31 = true ∧ x.rbit (Reg.FLT_OPEN (src / 32)) (src % 32) = true) ∧
     x.reg Reg.FLT_FIRST = s.reg Reg.FLT_FIRST ∧ x.fld (srcReg src 0) 31 0 = s.fld (srcReg src 0) 31 0) ∧
  ∀ (src : Nat) (s : State), srcExists src = true →
    let x := s.clearSource src
    x.srcClass src = s.fld (srcReg src 0) 25 24 ∧ x.fld (srcReg src 8) 7 0 = 0 ∧ x.rbit (srcReg src 8) 31 = false ∧
    x.rbit (Reg.FLT_OPEN (src / 32)) (src % 32) = false ∧ x.reg (srcReg src 0x10) = 0 ∧ x.reg (srcReg src 0xC) = s.reg (srcReg src 0xC) ∧
    Tab.find src x.flt.hist = none ∧ src ∉ x.flt.callers

/-- FLT_CMD's bits (R534–R536): CLR_ALL clears what is in the unit's reach, CLR_FIRST the first record, and RELEASE, judged after the clears, is refused
while a source that called the safe state is open or the drive is down, else due on the next tick. FLT_SRC_CLR closes a source's record, refused while its
level stands; a unit's own source needs no token (R544). -/
def Obligations.FaultClears : Prop :=
  (∀ (u : Cu) (v : Word) (s : State), s.holds u = true →
    let w (b : Word) := s.recWrite u Reg.FLT_CMD (v ||| b)
    let cleared (t : State) : State := if bit v 1 then (if bit v 2 then t.clearAll u else t).clearFirst else if bit v 2 then t.clearAll u else t
    let a := cleared (w 1)
    (a.safeState = 0 → exec (.fltRelease u v) s = .next a) ∧
    (a.safeState ≠ 0 → (a.safeState = 3 ∨ ∃ q ∈ a.flt.callers, a.rbit (srcReg q 8) 31 = true) →
      exec (.fltRelease u v) s = .next (a.orReg Reg.FLT_STATUS 4)) ∧
    (a.safeState ≠ 0 → a.safeState ≠ 3 → (∀ q ∈ a.flt.callers, a.rbit (srcReg q 8) 31 = false) →
      exec (.fltRelease u v) s = .next { a with drv := { a.drv with relThimble := true } }) ∧
    (bit v 0 = false → bit v 1 = false → exec (.fltClrAll u v) s = .next ((w 4).clearAll u)) ∧
    (bit v 0 = false → bit v 2 = false → exec (.fltClrFirst u v) s = .next (w 2).clearFirst)) ∧
  ∀ (u : Cu) (src : Nat) (v : Word) (s : State), srcExists src = true → bit v 0 = true →
    (src < 64 → s.holds u = true →
      let w := s.recWrite u (Reg.FLT_SRC_CLR src) v
      (w.levelOn src = true → exec (.fltSrcClr u src v) s = .next (w.orReg Reg.FLT_STATUS 8)) ∧
      (w.levelOn src = false → exec (.fltSrcClr u src v) s = .next (w.clearSource src))) ∧
    (64 ≤ src → (if src < 96 then Cu.a else Cu.b) = u →
      (s.levelOn src = true → exec (.fltSrcClr u src v) s = .next (s.orReg (Reg.FLT_U_STATUS u) 4)) ∧
      (s.levelOn src = false → exec (.fltSrcClr u src v) s = .next (s.clearSource src)))

/-! ### Housekeeping and the thermal states (R546–R567) -/

/-- HK_SLOT (R550–R552): while a replay runs, before boot or past slot 191 nothing converts; a listed slot's conversion enters HK_VALUEc with SUSPECT and
NO_CHECK kept; a free slot serves the injected conversion that is pending, unless that waits for the run it met. HK_INJ's START asks for one; with one
pending it is ignored and sets INJ_BUSY. HK_ROUND_END (R547–R549, R553, R554): in this order the oscillator counts, tile temperatures, the round kept for
Draught, the three domains judged, the comparisons taken together, the HK record, the round's number, and the tiles' corrections (R321); not in replay or
before boot. THM_CMD (R547, R564): CLR_SUSPECT takes a device diode's SUSPECT mark and its count of rounds off the median away, CLR_PIC a PIC diode's. THE
MODEL'S CHOICES in it, with their log entries: a PIC diode is compared in every round (155), a mark counts from the next round (156). -/
def Obligations.Housekeeping : Prop :=
  ((∀ (v : Option Int) (s : State), (s.inReplay = true ∨ s.rbit Reg.PWR_BOOT 0 = false ∨ 192 ≤ s.thm.slot) → exec (.hkSlot v) s = .next s) ∧
   (∀ (v : Option Int) (s : State), s.inReplay = false → s.rbit Reg.PWR_BOOT 0 = true → s.thm.slot < 192 →
     let k := s.thm.slot
     let t : State := { s with thm := { s.thm with slot := k + 1 } }
     let kept := s.rnat (Reg.HK_VALUE k) / 2 ^ 29 % 4 * 2 ^ 29
     (∀ n, v = some n → (k < 144 ∨ (160 ≤ k ∧ k < 176 ∧ (k ≠ 165 ∨ s.part = .wl5128))) →
       exec (.hkSlot v) s = .next (t.setReg (Reg.HK_VALUE k) (word (kept + (2 ^ 31 + low 20 n))))) ∧
     (v = none → (k < 144 ∨ (160 ≤ k ∧ k < 176 ∧ (k ≠ 165 ∨ s.part = .wl5128))) → exec (.hkSlot v) s = .next (t.setReg (Reg.HK_VALUE k) (word kept))) ∧
     (∀ n, 144 ≤ k → k < 160 → s.slotFree k = false → v = some n →
       let pad := s.slotPad k
       let w := t.setReg (Reg.HK_VALUE k) (word (2 ^ 30 * b2n (s.rbit (Reg.THM_PSUSPECT (pad / 32)) (pad % 32)) + (2 ^ 31 + low 20 n)))
       exec (.hkSlot v) s = .next { w with thm := { w.thm with pic := Tab.set pad n w.thm.pic } }) ∧
     (176 ≤ k → s.thm.inj = none → exec (.hkSlot v) s = .next t) ∧
     (176 ≤ k → ∀ tgt, s.thm.inj = some (tgt, true) → s.rbit Reg.CAL_STATUS 0 = true → exec (.hkSlot v) s = .next t) ∧
     (176 ≤ k → ∀ tgt n waits, s.thm.inj = some (tgt, waits) → (waits = false ∨ s.rbit Reg.CAL_STATUS 0 = false) → v = some n →
       let w : State := { t with thm := { t.thm with inj := none } }
       exec (.hkSlot v) s = .next (((w.setReg Reg.HK_INJ_RES (word (2 ^ 31 + low 20 n))).setReg64 Reg.HK_INJ_G_LO Reg.HK_INJ_G_HI s.time.g).recEvent 14
         (bytesOf 4 tgt ++ bytesOf 4 (2 ^ 31 + low 20 n))))) ∧
   ∀ (u : Cu) (v : Word) (s : State), s.holds u = true →
     let w := (s.recWrite u Reg.HK_INJ (putBit v 31 true)).maskWrite Reg.HK_INJ 0xFFFF (putBit v 31 true)
     (s.thm.inj ≠ none → exec (.hkInjStart u v) s = .next (w.orReg Reg.HK_STATUS 4)) ∧
     (s.thm.inj = none → exec (.hkInjStart u v) s =
       .next (({ w with thm := { w.thm with inj := some (field v 15 0, s.rbit Reg.CAL_STATUS 0) } } : State).setReg Reg.HK_INJ_RES 0x40000000))) ∧
  (∀ (legs : List (Nat × Nat × Nat)) (s : State),
     (s.rbit Reg.PWR_BOOT 0 = true → s.inReplay = false →
       let a : State := { s with thm := { s.thm with slot := 0, ctl := s.rnat Reg.THM_CTRL % 512 } }
       let named := match s.fab.fdr with | some f => f.sense.map (fun e => 144 + e.1) | none => []
       let checks := (List.range 144 ++ named).map (fun d => (d, a.checkDiode d))
       let b := (a.takeLegs legs).takeTiles
       let rounds := b.drt.rounds ++ [(b.clk, (List.range 64).map b.tileTemp)]
       let c : State := { b with drt := { b.drt with rounds := rounds.drop (rounds.length - 4), cuSteps := [] } }
       let d := (((c.judgeDomain 0).judgeDomain 1).judgeDomain 2).takeChecks checks
       let e := d.recHk.setReg64 Reg.THM_ROUND_LO Reg.THM_ROUND_HI (d.rnat64 Reg.THM_ROUND_LO Reg.THM_ROUND_HI + 1)
       exec (.hkRoundEnd legs) s = .next e.retemp) ∧
     ((s.rbit Reg.PWR_BOOT 0 = false ∨ s.inReplay = true) → exec (.hkRoundEnd legs) s = .next s)) ∧
  ∀ (u : Cu) (v : Word) (s : State), s.holds u = true →
    (bit v 30 = false → field v 7 0 < 144 →
      let d := field v 7 0
      let w := s.recWrite u Reg.THM_CMD (putBit v 31 true)
      let t := (w.clrReg (Reg.THM_SUSPECT (d / 32)) (2 ^ (d % 32))).clrReg (Reg.HK_VALUE d) 0x40000000
      exec (.thmClrSuspect u v) s = .next { t with thm := { t.thm with off := Tab.erase d t.thm.off } }) ∧
    (bit v 30 = false → 144 ≤ field v 7 0 → exec (.thmClrSuspect u v) s = .next (s.recWrite u Reg.THM_CMD (putBit v 31 true))) ∧
    (bit v 31 = false →
      let p := field v 6 0
      let t := (s.recWrite u Reg.THM_CMD (putBit v 30 true)).clrReg (Reg.THM_PSUSPECT (p / 32)) (2 ^ (p % 32))
      (t.diodeReg (144 + p) = none → exec (.thmClrPic u v) s = .next { t with thm := { t.thm with off := Tab.erase (144 + p) t.thm.off } }) ∧
      (∀ k, t.diodeReg (144 + p) = some k →
        let y := t.clrReg k 0x40000000
        exec (.thmClrPic u v) s = .next { y with thm := { y.thm with off := Tab.erase (144 + p) y.thm.off } }))

/-- A domain's judgement (R554, R556): no direction resets the dwell; a round that is not the third in its direction moves nothing; the third moves to the
least U or the greatest D of the three, level 1 on entry to THROTTLE; within THROTTLE a run down raises the level back first, and a third hot round deepens
it to the deepest. THE MODEL'S CHOICES in it, with their log entries: the sources that a move reports (157), and the two runs counted apart (159). -/
def Obligations.ThermalJudgement : Prop :=
  ∀ (x : ThmDom) (st u d deep : Nat) (hot : Bool), d ≤ 3 → u ≤ 3 → u ≤ d →
    let r := thmJudge x st u d deep hot
    (u ≤ st → st ≤ d → (st ≠ 2 ∨ hot = false) → r = ({ dir := 0, us := [], deep := 0, level := x.level }, st)) ∧
    (u ≤ st → st ≤ d → st = 2 → hot = true → x.deep = 2 → r = ({ dir := 0, us := [], deep := 0, level := min (x.level + 1) deep }, st)) ∧
    (u ≤ st → st ≤ d → st = 2 → hot = true → x.deep < 2 → r = ({ dir := 0, us := [], deep := x.deep + 1, level := x.level }, st)) ∧
    (st < u → (x.dir ≠ 1 ∨ x.us.length < 2) → (st ≠ 2 ∨ hot = false) → r.2 = st ∧ r.1.level = x.level ∧ r.1.dir = 1) ∧
    (∀ a b, st < u → x.dir = 1 → x.us = [a, b] → a ≤ 3 → r =
      ({ dir := 1, us := [], deep := 0, level := if min a (min b u) = 2 then 1 else 0 }, min a (min b u))) ∧
    (∀ a b, u ≤ st → d < st → x.dir = 2 → x.us = [a, b] → (st ≠ 2 ∨ x.level ≤ 1) → r =
      ({ dir := 2, us := [], deep := 0, level := if max a (max b d) = 2 then 1 else 0 }, max a (max b d))) ∧
    (∀ a b, u ≤ st → d < st → x.dir = 2 → x.us = [a, b] → st = 2 → 1 < x.level → r = ({ dir := 2, us := [], deep := 0, level := x.level - 1 }, 2))

/-! ### Trust functions (R589–R612) -/

/-- FW_STAGE (R415, R596–R598): an image is staged with the first failure of its check; ACTIVATE without one staged answers INVALID with an open word, of one
that failed INVALID with its code, of a bank that holds it already at once, else it writes the bank that is PRIMARY of neither unit; DISCARD forgets. The
flash write ends with the bank's check. ATTEST answers at once, or after the table's hash (R414, R603). THE MODEL'S CHOICES in it, with their log entries:
ACTIVATE with nothing staged or nothing to write (171), an ATTEST while a hash runs (173). -/
def Obligations.FirmwareAndAttestation : Prop :=
  (∀ (c : Cmd) (l : List Byte) (n : Nat) (s : State), Ready c 0x16 s → c.b 4 = 0 → c.w 24 ≤ 0x800000 →
    let x := (s.startFlight c).recReads c (.bytes l)
    let y := (s.startFlight c).recReads c (.failed n)
    (∀ a b k, x.sec.flash = some (.activate a b k) → exec (.fwStageStage c (.bytes l)) s = .next (x.refuse c 0x11)) ∧
    (y.sec.flash = none → exec (.fwStageStage c (.failed n)) s = .next (y.refuse c 0x0C)) ∧
    (x.sec.flash = none →
      let img := fit (c.w 24) l
      let code := x.imgCheck img false
      let w : State := { x with sec := { x.sec with staged := some (fit 8192 img, c.w 24, code) } }
      (code = 0 → exec (.fwStageStage c (.bytes l)) s = .next (w.complete c 0 0 0 (c.w 24) 0 0)) ∧
      (code ≠ 0 → exec (.fwStageStage c (.bytes l)) s = .next (w.complete c 5 0 code 0 0 0)))) ∧
  (∀ (c : Cmd) (hdr : List Byte) (len code : Nat) (s : State), Ready c 0x16 s → c.b 4 = 1 → c.b 5 % 4 ≠ 0 →
    let x := s.startFlight c
    x.sec.staged = some (hdr, len, code) →
    let held := [0, 1].find? (fun b => decide ((x.bankHdr b).map measureOf = some (measureOf hdr)))
    (code ≠ 0 → exec (.fwStageActivate c) s = .next (x.complete c 5 0 code len 0 0)) ∧
    (∀ b, code = 0 → x.sec.flash = none → held = some b → exec (.fwStageActivate c) s = .next ((x.bootRecord b (c.b 5 % 4)).complete c 0 0 0 len 0 0)) ∧
    (code = 0 → x.sec.flash = none → held = none → x.sec.primaryA ≠ x.sec.primaryB → exec (.fwStageActivate c) s = .next (x.refuse c 0x11)) ∧
    (code = 0 → x.sec.flash = none → held = none → x.sec.primaryA = x.sec.primaryB → exec (.fwStageActivate c) s =
      .next { x with sec := { x.sec with flash := some (.activate c (1 - x.sec.primaryA) (c.b 5 % 4)) } })) ∧
  (∀ (c : Cmd) (s : State), Ready c 0x16 s → c.b 4 = 2 →
    let x := s.startFlight c
    exec (.fwStageDiscard c) s = .next (({ x with sec := { x.sec with staged := none } } : State).complete c 0 0 0 0 0 0)) ∧
  (∀ (c : Cmd) (b units code old : Nat) (hdr : List Byte) (len : Nat) (s : State), s.sec.flash = some (.activate c b units) →
    s.sec.staged = some (hdr, len, old) →
    let w : State := { s with sec := { s.sec with flash := none } }
    (code % 16 = 0 → exec (.flashWriteDone c.unit code) s =
      .next ((({ w with sec := { w.sec with banks := Tab.set b hdr w.sec.banks } } : State).bootRecord b units).complete c 0 0 0 len 0 0)) ∧
    (code % 16 ≠ 0 → exec (.flashWriteDone c.unit code) s =
      .next (({ w with sec := { w.sec with banks := Tab.erase b w.sec.banks } } : State).complete c 5 0 (code % 16) len 0 0))) ∧
  ∀ (c : Cmd) (s : State), Ready c 0x15 s →
    let x := s.startFlight c
    (c.w 56 < 3824 → exec (.attest c) s = .next (x.complete c 5 0 3824 0 0 0)) ∧
    (3824 ≤ c.w 56 → (c.b 4).testBit 0 = false → exec (.attest c) s = .next (x.attestNow false c)) ∧
    (3824 ≤ c.w 56 → (c.b 4).testBit 0 = true → exec (.attest c) s = .next { x.hashStart with attests := x.attests ++ [{ cmd := c }] })

/-- SEC_CMD with one bit, on a unit whose core is on (R591, R599, R600, R606–R610): a password opens scope 0 or fails; CHALLENGE draws a nonce, RESPOND opens
its scope where key and signature are right, and discards it; CLOSE; RAISE_FLOOR and ENROL begin a fuse job. The job's end and the nonce's 60 s. THE MODEL'S
CHOICES in it, with their log entries: a PASSWORD, CHALLENGE or RESPOND out of its range (166, 167, 168), and when the lockout's seconds move (172). -/
def Obligations.FieldAccess : Prop :=
  (∀ (u : Cu) (v : Word) (s : State), s.islandOnly u = false →
    (v &&& 0x7C = 0 → bit v 1 = true →
      let n := field v 23 16
      let dig := Crypto.shake256 (s.deviceId u ++ s.bufBytes u 0 n)
      let good := decide (1 ≤ n) && decide (n ≤ 64) && decide (field v 11 8 = 0) && !s.lockedOut &&
        (decide (dig = s.sec.diagOwner) || (!s.diagVendorOff && decide (dig = s.sec.diagVendor)))
      let w : State := if good then s.openScope u 0 else s.accessFail u
      exec (.secPassword u v) s = .next (w.setUnit u { w.unit u with sec := { (w.unit u).sec with buf := [] } })) ∧
    (v &&& 0x7A = 0 → bit v 2 = true → 1 ≤ field v 11 8 → field v 11 8 ≤ 3 →
      let d := s.drawNat
      let n := bytesOf 32 d.1
      let w := d.2.setUnit u { d.2.unit u with sec := { (d.2.unit u).sec with nonce := some (field v 11 8, s.clk) } }
      exec (.secChallenge u v) s = .next ((List.range 8).foldl (fun (s : State) i => s.setReg (Reg.SEC_NONCE u i) (word (le n (4 * i) 4))) w)) ∧
    (∀ sc t0, v &&& 0x76 = 0 → bit v 3 = true → (s.unit u).sec.nonce = some (sc, t0) → field v 11 8 = sc →
      let nonce := (List.range 8).flatMap (fun i => bytesOf 4 (s.rnat (Reg.SEC_NONCE u i)))
      let good := !s.lockedOut && s.scopeKey (s.bufBytes u 0 1952) && Config.sigValid (s.bufBytes u 0 1952)
        (nonce ++ s.deviceId u ++ bytesOf 1 u.num ++ bytesOf 1 sc) (s.bufBytes u 0x7A0 3309)
      exec (.secRespond u v) s = .next ((if good then s.openScope u sc else s.accessFail u).dropNonce u)) ∧
    (v &&& 0x6E = 0 → bit v 4 = true → field v 11 8 = 15 → exec (.secClose u v) s = .next (s.closeScopes u)) ∧
    (v &&& 0x6E = 0 → bit v 4 = true → field v 11 8 < 4 → exec (.secClose u v) s = .next (closeScope u s (field v 11 8))) ∧
    (v &&& 0x5E = 0 → bit v 5 = true → (s.holds u = false ∨ s.sec.primaryA ≠ s.sec.primaryB) →
      exec (.secRaiseFloor u v) s = .next (s.orReg (Reg.SEC_STATUS u) 0x20)) ∧
    (v &&& 0x5E = 0 → bit v 5 = true → s.holds u = true → s.sec.primaryA = s.sec.primaryB → s.sec.flash = none →
      let n := min (match Tab.find s.sec.primaryA s.sec.banks with | some h => le h 0x0C 4 | none => 0) 64
      (n ≤ s.sec.floor → exec (.secRaiseFloor u v) s = .next s) ∧
      (s.sec.floor < n → Tab.find (1 - s.sec.primaryA) s.sec.banks = none →
        exec (.secRaiseFloor u v) s = .next { s with sec := { s.sec with flash := some (.floor u n) } })) ∧
    (v &&& 0x3E = 0 → bit v 6 = true → s.enrolled = false → s.holds u = true → s.rbit (Reg.SEC_SCOPE u) 0 = true → s.sec.flash = none →
      let flags := (byteAt (s.bufBytes u 0x7E0 1) 0) / 2 % 8 * 2 + 1
      flags.testBit 3 = false →
      exec (.secEnrol u v) s = .next { s with sec := { s.sec with flash := some (.enrol u (Crypto.shake256 (s.bufBytes u 0 1952)) (s.bufBytes u 0x7A0 64) flags) } })) ∧
  (∀ (u : Cu) (n : Nat) (s : State), s.sec.flash = some (.floor u n) →
    exec (.fuseProgramDone u true) s = .next (({ s with sec := { s.sec with flash := none, floor := n } } : State).showFuses) ∧
    exec (.fuseProgramDone u false) s = .next (({ s with sec := { s.sec with flash := none, fuseErr := true } } : State).showFuses)) ∧
  ∀ (u : Cu) (sc t0 : Nat) (s : State), (s.unit u).sec.nonce = some (sc, t0) → t0 + clksS 60 ≤ s.clk → exec (.nonceExpiry u) s = .next (s.dropNonce u)

/-! ### Performance counters (R613–R620) -/

/-- PMC_CTRL by PMC_CLR_ALL, PMC_FREEZE and PMC_UNFREEZE (R613, R619): the counters are brought up to the present clock, EN and FREEZE are written, and
CLR_ALL zeroes every counter and overflow bit. Writes of a counter and of an event register (R12, R614, R615, R619, R620): a counter takes the value while
the block is not enabled, else it keeps its value, with CFG_IGNORED where the write would have changed it; an event register takes EVENT and QUAL, CHAIN on
even counters of the WL5128 only, and an event out of range is OFF with CFG_IGNORED. PMC_COUNTER_WRAP brings the counters up to the present clock.
PMC_WINDOW_END (R618): on the update tick with G mod TICKS = 0, with EN set, every result is latched, PMC_WIN_SEQ advances with PARTIAL in bit 31 and G is
stored; at another time, or with EN clear, nothing. THE MODEL'S CHOICES in it, with their log entries: the counts of a window are the command's operand
(179). -/
def Obligations.CounterCommands : Prop :=
  (∀ (u : Cu) (v : Word) (s : State),
     let w (v : Word) := (s.pmcSettle u).maskWrite (Reg.PMC_CTRL u) 3 v
     (exec (.pmcClrAll u v) s = .next ((w (putBit v 31 true)).resetRegs (fun k =>
       (decide (Reg.PMC_CNT u 0 ≤ k) && decide (k ≤ Reg.PMC_CNT u 255)) || (decide (Reg.PMC_OVF u 0 ≤ k) && decide (k ≤ Reg.PMC_OVF u 7))))) ∧
     (bit v 31 = false → exec (.pmcFreeze u v) s = .next (w (putBit v 1 true)) ∧ exec (.pmcUnfreeze u v) s = .next (w (putBit v 1 false))) ∧
     ∀ t, (exec (.pmcFreeze u v) s = .next t → t.pmcOn u = false) ∧
       (exec (.pmcUnfreeze u v) s = .next t → t.pmcOn u = bit v 0) ∧
       (exec (.pmcClrAll u v) s = .next t → ∀ n, n < 256 → t.rnat (Reg.PMC_CNT u n) = 0)) ∧
  (∀ (u : Cu) (n : Nat) (v : Word) (s : State), n < 256 →
     let w := s.pmcSettle u
     let chain : Word := if n % 2 = 0 ∧ s.part = .wl5128 then v &&& 0x80000000 else 0
     (s.pmcOn u = false → exec (.pmcCntWrite u n v) s = .next (w.setReg (Reg.PMC_CNT u n) v)) ∧
     (s.pmcOn u = true → w.reg (Reg.PMC_CNT u n) ≠ v → exec (.pmcCntWrite u n v) s =
       .next ((w.maskWrite (Reg.PMC_CNT u n) 0 v).orReg (Reg.PMC_STATUS u) 1)) ∧
     (s.pmcOn u = true → w.reg (Reg.PMC_CNT u n) = v → exec (.pmcCntWrite u n v) s = .next (w.maskWrite (Reg.PMC_CNT u n) 0 v)) ∧
     (pmcEvtOk u v = true → exec (.pmcEvtWrite u n v) s = .next (w.setReg (Reg.PMC_EVT u n) (chain ||| (v &&& 0xFFFF)))) ∧
       (pmcEvtOk u v = false → exec (.pmcEvtWrite u n v) s = .next ((w.setReg (Reg.PMC_EVT u n) chain).orReg (Reg.PMC_STATUS u) 1)) ∧
     exec (.pmcCounterWrap u n) s = .next w) ∧
  ∀ (u : Cu) (bytes : List Nat) (s : State),
    (s.rbit (Reg.PMC_WIN_CTRL u) 31 = true → s.time.g % s.winTicks u = 0 → s.clk = s.time.lastTick →
      let put (s : State) (i : Nat) : State := s.setReg64 (unitKey u (0x11100 + 8 * i)) (unitKey u (0x11104 + 8 * i)) (bytes.getD i 0)
      let x := (List.range 26).foldl put s
      let seq := (s.fld (Reg.PMC_WIN_SEQ u) 30 0 + 1) % 2 ^ 31
      let y := (x.setReg (Reg.PMC_WIN_SEQ u) (word (seq + 2 ^ 31 * b2n (s.unit u).winPartial))).setReg64 (Reg.PMC_WIN_G_LO u) (Reg.PMC_WIN_G_HI u) s.time.g
      exec (.pmcWindowEnd u bytes) s = .next (y.setUnit u { y.unit u with winPartial := false })) ∧
    ((s.rbit (Reg.PMC_WIN_CTRL u) 31 = false ∨ s.time.g % s.winTicks u ≠ 0 ∨ s.clk ≠ s.time.lastTick) → exec (.pmcWindowEnd u bytes) s = .next s)

/-- How a counter counts (R615): an unchained one adds modulo 2³² and a wrap sets its overflow bit; a chained pair adds as one 64-bit number. -/
def Obligations.CounterCarries : Prop :=
  ∀ (u : Cu) (n k : Nat) (s : State), n < 256 →
    let lo := s.rnat (Reg.PMC_CNT u n)
    let x := s.pmcAdd u n k
    x.rnat (Reg.PMC_CNT u n) = (lo + k) % 2 ^ 32 ∧
    (lo + k < 2 ^ 32 → x = s.setReg (Reg.PMC_CNT u n) (word (lo + k))) ∧
    (2 ^ 32 ≤ lo + k → bit (s.reg (Reg.PMC_EVT u n)) 31 = false → x.rbit (Reg.PMC_OVF u (n / 32)) (n % 32) = true) ∧
    (n % 2 = 0 → bit (s.reg (Reg.PMC_EVT u n)) 31 = true → k < 2 ^ 63 →
      x.rnat64 (Reg.PMC_CNT u n) (Reg.PMC_CNT u (n + 1)) = (s.rnat64 (Reg.PMC_CNT u n) (Reg.PMC_CNT u (n + 1)) + k) % 2 ^ 64)

/-! ### What holds of whole families -/

/-- A write of a base register or of the tile window by a unit that does not hold the token has no effect but to set NOT_HOLDER_WR and to count in HL_REFUSED
and TKN_CNT1, whichever register the row writes (R342, R423). -/
def Obligations.NonHolderWritesDropped : Prop :=
  ∀ (u : Cu) (v : Word) (s : State), s.holds u = false →
    (∀ c ∈ [Instr.fabLoad u v, .fabEnable u v, .fabDisable u v, .siteBiasEnable u v, .siteSenseEnable u v, .siteCheckStart u v, .siteCheckStop u v,
        .monGridAlignRequest u v, .monDiagStart u v, .monDiagStop u v, .routeCountClear u v, .gustCountClear u v, .loopClsHoldWrite u v,
        .squallStart (.reg u v), .squallStop u v, .loopCountClear u v, .drtCommit u v, .drtInvalidate u v, .drtCountClear u v, .secondsArm u v,
        .schedCommit (.reg u v), .schedStop (.reg u v), .schedStopAtEnd (.reg u v), .schedCancel (.reg u v), .calIdle u v, .calAbort u v, .calSeqStop u v,
        .calHashDrt u v, .recFreeze (.reg u v), .recRelease (.reg u v), .recPullStart u v, .replayStart u v, .replayStop u v, .tknResume u v,
        .tknRehStart u v, .tknRehCall u v, .tknRehDismiss u v, .pwrRstDevice u v, .pwrRstUnit u v, .memSpareBank u v, .memProbe u v, .memCountClear u v,
        .fltRelease u v, .fltClrAll u v, .fltClrFirst u v, .hkInjStart u v, .thmClrSuspect u v, .thmClrPic u v],
      exec c s = .next (s.dropWrite u)) ∧
    (∀ i, i < 608 → exec (.healthMarkWrite u i v) s = .next (s.dropWrite u)) ∧
    (∀ ch, ch < 240 * s.part.tiles → exec (.drvQueueWrite u ch v) s = .next (s.dropWrite u) ∧ exec (.drvQueueFlush u ch v) s = .next (s.dropWrite u) ∧
      exec (.drvSlewWrite u ch v) s = .next (s.dropWrite u)) ∧
    (∀ ch, ch < 96 * s.part.tiles → exec (.monCfgWrite u ch v) s = .next (s.dropWrite u)) ∧
    (∀ t, t < s.part.tiles → ∀ c ∈ [Instr.drvCountClear u t v, .monInjectStart u t v, .monInjectStop u t v, .monCountClear u t v],
      exec c s = .next (s.dropWrite u)) ∧
    (∀ t j, t < s.part.tiles → j < 12 → exec (.drvSpareRequest u t j v) s = .next (s.dropWrite u) ∧ exec (.drvSpareRelease u t j v) s = .next (s.dropWrite u)) ∧
    (∀ t j, t < s.part.tiles → j < 4 → exec (.monSpareRequest u t j v) s = .next (s.dropWrite u) ∧ exec (.monSpareRelease u t j v) s = .next (s.dropWrite u)) ∧
    (∀ q, q < 16 → exec (.resultQueueEnable u q v) s = .next (s.dropWrite u) ∧ exec (.resultQueueDisable u q v) s = .next (s.dropWrite u)) ∧
    (∀ i, i < 4 → exec (.toutEnable u i v) s = .next (s.dropWrite u)) ∧
    (∀ k, k < 3 → exec (.drtTauWrite u k v) s = .next (s.dropWrite u)) ∧
    (∀ src, src < 64 → exec (.fltSrcClr u src v) s = .next (s.dropWrite u)) ∧
    (s.dropWrite u).rbit (Reg.HL_STATUS u) 5 = true ∧
    (s.dropWrite u).rnat (Reg.HL_REFUSED u) = min (s.rnat (Reg.HL_REFUSED u) + 1) 0xFFFFFFFF ∧
    (s.dropWrite u).fld Reg.TKN_CNT1 15 0 = min (s.fld Reg.TKN_CNT1 15 0 + 1) 0xFFFF ∧
    (∀ k, k ≠ Reg.HL_STATUS u → k ≠ Reg.HL_REFUSED u → k ≠ Reg.TKN_CNT1 → (s.dropWrite u).reg k = s.reg k) ∧
    { s.dropWrite u with regs := s.regs } = s

/-- A descriptor that a check of R387 stops executes nothing and completes at once with that check's status, whatever its opcode: only the units' own parts
and registers change (R387, R392). Check 5 is the token's: an opcode that needs it is refused NOT_HOLDER to a unit that does not hold it. -/
def Obligations.RefusedDescriptors : Prop :=
  ∀ (c : Cmd) (d : HostData) (l : List Nat) (st fl : Nat) (s : State), s.waiting c = true → (s.startFlight c).descCheck c = some (st, fl) →
    let t := (s.startFlight c).complete c st fl 0 0 0 0
    (∀ i ∈ [Instr.routeLookup c d l, .routePreload c d l, .routeSolve c d, .routeInvalidate c d, .routeFlush c, .routeRehash c, .mapBaste c d l, .gust c,
        .loopModeManual c, .loopModeAuto c, .loopSet c, .squallStart (.desc c), .schedLoad c d, .schedCommit (.desc c), .schedStop (.desc c),
        .schedStopAtEnd (.desc c), .schedCancel (.desc c), .timePulse c, .calRun c, .calSetLoad c d, .charTable c, .charCoupling c d, .charTrimSweep c d,
        .charThrowSweep c d, .nop c, .mapQuery c, .move c, .telemCtrl c d, .elementDirectCodes c, .elementDirectRead c, .spareMapSubstitute c,
        .spareMapRelease c, .faultCtrlRead c, .faultCtrlClear c, .faultCtrlConfig c, .stateSave c, .attest c, .fwStageStage c d, .fwStageActivate c,
        .fwStageDiscard c, .recCtrlStatus c, .recFreeze (.desc c), .recRelease (.desc c), .recSizeSet c, .recModeSet c, .recTriggersSet c],
      exec i s = .next t) ∧
    UnitOnly s t ∧
    (check3 c.desc = true → s.islandOnly c.unit = false → needsToken c.desc = true → s.holds c.unit = false → st = 4 ∧ fl = 0)

/-- Commands that write counters and coefficients change the registers named and what the record of the write changes, and nothing else: every other
register, every memory and every other part of the state is as before. -/
def Obligations.RegisterFrames : Prop :=
  ∀ (u : Cu) (v : Word) (s t : State), s.holds u = true →
    (exec (.routeCountClear u v) s = .next t → OnlyRegs [Reg.RTE_CACHE_CTRL, Reg.RTE_LOOKUPS, Reg.RTE_HITS, Reg.RTE_PARITY_MISS, Reg.RTE_TABLE_FULL,
      Reg.RTE_AGED_OUT, Reg.RTE_REHASH_DROPS] s t) ∧
    (exec (.gustCountClear u v) s = .next t → OnlyRegs [Reg.GST_CNT0, Reg.GST_CNT1] s t) ∧
    (exec (.loopClsHoldWrite u v) s = .next t → OnlyRegs [Reg.LOOP_CLS_HOLD] s t) ∧
    (exec (.loopCountClear u v) s = .next t → OnlyRegs [Reg.LOOP_CNT] s t) ∧
    (∀ cls off, exec (.loopClassWrite u cls off v) s = .next t → OnlyRegs [clsKey cls off] s t) ∧
    (exec (.drtCountClear u v) s = .next t → OnlyRegs [Reg.DRT_CNT0, Reg.DRT_CNT1, Reg.DRT_TGEN, Reg.DRT_STATUS] s t) ∧
    (exec (.drtCommit u v) s = .next t → OnlyRegs [Reg.DRT_CNT0, Reg.DRT_CNT1, Reg.DRT_TGEN, Reg.DRT_STATUS] s t) ∧
    (exec (.drtInvalidate u v) s = .next t → OnlyRegs [Reg.DRT_CNT0, Reg.DRT_CNT1, Reg.DRT_TGEN, Reg.DRT_STATUS] s t) ∧
    (∀ tile, exec (.monCountClear u tile v) s = .next t → OnlyRegs [Reg.MON_TCNT tile] s t) ∧
    (exec (.memCountClear u v) s = .next t → OnlyRegs [Reg.MEM_CTRL, Reg.MEM_CE_CNT 0, Reg.MEM_CE_CNT 1, Reg.MEM_UE_CNT 0, Reg.MEM_UE_CNT 1] s t) ∧
    (bit v 0 = false → bit v 2 = false → exec (.fltClrFirst u v) s = .next t → OnlyRegs [Reg.FLT_FIRST, Reg.FLT_FIRST_NS, Reg.FLT_FIRST_SEC,
      Reg.FLT_FIRST_MERGE, Reg.FLT_FIRST_LAST_NS, Reg.FLT_FIRST_LAST_SEC, Reg.FLT_FIRST_SRC 0, Reg.FLT_FIRST_SRC 1, Reg.FLT_FIRST_SRC 2,
      Reg.FLT_FIRST_SRC 3] s t)

/-- Commands on the counters, the scratchpads' power and the probe store nothing in DRAM: every byte reads as before. The counters' commands change nothing
outside the unit's own counters and registers (R613–R620). A byte stored by a data mover changes no other byte. -/
def Obligations.MemoryFrames : Prop :=
  ∀ (u : Cu) (n : Nat) (v : Word) (l : List Nat) (s t : State),
    (∀ i ∈ [Instr.pmcClrAll u v, .pmcFreeze u v, .pmcUnfreeze u v, .pmcCntWrite u n v, .pmcEvtWrite u n v, .pmcCounterWrap u n, .pmcWindowEnd u l],
      exec i s = .next t → (∀ a, t.dramAt a = s.dramAt a) ∧ UnitOnly s t ∧ (t.unit u).flights = (s.unit u).flights ∧ (t.unit u).host = (s.unit u).host ∧
        t.unit u.peer = s.unit u.peer) ∧
    (∀ i ∈ [Instr.spPstateWrite u n v, .spOwnerWrite u n v, .memProbe u v, .memCountClear u v],
      exec i s = .next t → ∀ a, t.dramAt a = s.dramAt a) ∧
    (∀ (a a' : Nat) (b : Byte), a' ≠ a → (s.dramByte a b).dramAt a' = s.dramAt a')

/-! ### Rules stated whole -/

/-- START of a site check is ignored and sets REFUSED in each of the four cases of R79; `w` is the state once the holder's write is recorded and the scope is
taken. -/
def Obligations.SiteCheckRefused : Prop :=
  ∀ (u : Cu) (v : Word) (s : State), s.holds u = true → bit v 1 = false →
    let w := (s.recWrite u Reg.SITE_CHECK_CTRL (v ||| 1)).rwlWrite Reg.SITE_CHECK_CTRL 0 0x3C (s.fabOn || s.site.check.isSome) Reg.SITE_STATUS 0x40 (v ||| 1)
    (s.fabOn = true ∨ s.site.check ≠ none ∨ (w.rbit Reg.SITE_CHECK_CTRL 2 = false ∧ s.fabValid = false) ∨
      s.rnat64 Reg.SITE_RES_LO Reg.SITE_RES_HI = 0) →
    exec (.siteCheckStart u v) s = .next (w.orReg Reg.SITE_STATUS 0x20) ∧ (w.orReg Reg.SITE_STATUS 0x20).rbit Reg.SITE_STATUS 5 = true ∧
      (w.orReg Reg.SITE_STATUS 0x20).site = s.site

/-- FW_STAGE with OP 2 forgets the staged image and completes OK (R598). -/
def Obligations.StagedImageDiscarded : Prop :=
  ∀ (c : Cmd) (s : State), Ready c 0x16 s → c.b 4 = 2 →
    let x := s.startFlight c
    let t := ({ x with sec := { x.sec with staged := none } } : State).complete c 0 0 0 0 0 0
    exec (.fwStageDiscard c) s = .next t ∧ t.sec.staged = none ∧ t.sec.flash = s.sec.flash ∧ t.sec.banks = s.sec.banks

/-- Where FAB_EPOCH wraps to zero, every route-cache entry is invalid and EPOCH_WRAP is set; a change that does not wrap it leaves the cache and adds one
(R54). -/
def Obligations.EpochWrapEmptiesCache : Prop :=
  ∀ s : State,
    (s.rnat Reg.FAB_EPOCH = 0xFFFFFFFF →
      (s.bumpEpoch).rnat Reg.FAB_EPOCH = 0 ∧ (s.bumpEpoch).rbit Reg.FAB_STATUS 6 = true ∧ ∀ k, s.rteLive k ≠ none → s.bumpEpoch.rteLive k = none) ∧
    (s.rnat Reg.FAB_EPOCH < 0xFFFFFFFF →
      (s.bumpEpoch).rnat Reg.FAB_EPOCH = s.rnat Reg.FAB_EPOCH + 1 ∧ (s.bumpEpoch).rte = s.rte ∧ (s.bumpEpoch).reg Reg.FAB_STATUS = s.reg Reg.FAB_STATUS)

/-- The reports of one drive clock with FLT_FIRST not valid: all are classified; of those that leave their source at ERROR or SEVERE the most severe source,
the lower number in a tie, makes the first record, and the others are merged into it, before any class has its effect (R527). -/
def Obligations.FirstRecordIsTheWorst : Prop :=
  ∀ (rs : List FaultRep) (w : Nat) (s : State), (∀ r ∈ rs, srcExists r.src = true) → s.rbit Reg.FLT_FIRST 31 = false →
    let x := rs.foldl (fun (t : State) r => t.classify r.src) s
    let hot := (rs.map FaultRep.src).eraseDups.filter (fun a => decide (2 ≤ x.srcClass a))
    w ∈ hot → (∀ a ∈ hot, x.srcClass a < x.srcClass w ∨ (x.srcClass a = x.srcClass w ∧ w ≤ a)) →
    let y := (hot.erase w).foldl (fun (t : State) a => t.mergeInto a) (x.firstFrom w)
    let z := (rs.map (fun r => (s.srcClass r.src, r))).foldl (fun (t : State) e => t.react e.1 e.2) y
    x.rbit Reg.FLT_FIRST 31 = false ∧ y.fld Reg.FLT_FIRST 15 0 = w ∧ y.rbit Reg.FLT_FIRST 31 = true ∧
    exec (.faultReport rs) s = .next (if rs.any (fun r => s.ofPreferred r.src) then z.wtrStop else z)
end

