-- ==== Sys2Proof/Laws/Tab.lean ====
section
/-! SUPPORT. Tables: what reading gives after writing, and that writing keeps the canonical form. -/
namespace Sys2Proof.Machine.Tab

variable {α : Type}

theorem find_erase_self (k : Nat) (l : List (Nat × α)) : find k (erase k l) = none := by
  induction l with
  | nil => rfl
  | cons e r ih => obtain ⟨i, v⟩ := e; by_cases h : i = k <;> simp [erase, find, h, ih]

theorem find_erase_ne {k j : Nat} (h : j ≠ k) (l : List (Nat × α)) : find j (erase k l) = find j l := by
  induction l with
  | nil => rfl
  | cons e r ih =>
    obtain ⟨i, v⟩ := e
    by_cases hk : i = k
    · subst hk; simp [erase, find, ih, Ne.symm h]
    · rw [erase, if_neg hk]; by_cases hj : i = j <;> simp [find, hj, ih]

theorem find_ins_self (k : Nat) (v : α) (l : List (Nat × α)) (h : find k l = none) : find k (ins k v l) = some v := by
  induction l with
  | nil => simp [ins, find]
  | cons e r ih =>
    obtain ⟨i, w⟩ := e
    have hi : i ≠ k := by rintro rfl; simp [find] at h
    by_cases hlt : k < i
    · simp [ins, find, hlt]
    · simp only [find, hi, if_false] at h
      simp [ins, find, hlt, hi, ih h]

theorem find_ins_ne {k j : Nat} (h : j ≠ k) (v : α) (l : List (Nat × α)) : find j (ins k v l) = find j l := by
  induction l with
  | nil => simp [ins, find, Ne.symm h]
  | cons e r ih =>
    obtain ⟨i, w⟩ := e
    by_cases hlt : k < i
    · simp [ins, find, hlt, Ne.symm h]
    · rw [ins, if_neg hlt]; by_cases hj : i = j <;> simp [find, hj, ih]

/-- Read after write: the same key gives the value written. -/
@[simp] theorem find_set_self (k : Nat) (v : α) (l : List (Nat × α)) : find k (set k v l) = some v :=
  find_ins_self k v _ (find_erase_self k l)

/-- Read after write: another key reads as before. -/
theorem find_set_ne {k j : Nat} (h : j ≠ k) (v : α) (l : List (Nat × α)) : find j (set k v l) = find j l := by
  unfold set; rw [find_ins_ne h, find_erase_ne h]

@[simp] theorem get_set_self (d : α) (k : Nat) (v : α) (l : List (Nat × α)) : get d k (set k v l) = v := by simp [get]

theorem get_set_ne (d : α) {k j : Nat} (h : j ≠ k) (v : α) (l : List (Nat × α)) : get d j (set k v l) = get d j l := by
  simp [get, find_set_ne h]

@[simp] theorem get_put_self [DecidableEq α] (d : α) (k : Nat) (v : α) (l : List (Nat × α)) : get d k (put d k v l) = v := by
  unfold put; split
  · rename_i h; simp [get, find_erase_self, h]
  · simp

theorem get_put_ne [DecidableEq α] (d d' : α) {k j : Nat} (h : j ≠ k) (v : α) (l : List (Nat × α)) : get d' j (put d k v l) = get d' j l := by
  unfold put; split
  · simp [get, find_erase_ne h]
  · exact get_set_ne _ h v l

/-! ### The canonical form -/

theorem rising_mono {a b : Option Nat} {l : List (Nat × α)} (h : risingFrom a l = true)
    (hab : ∀ j, b = some j → ∃ i, a = some i ∧ j ≤ i) : risingFrom b l = true := by
  cases l with
  | nil => rfl
  | cons e r =>
    obtain ⟨i, v⟩ := e
    simp only [risingFrom, Bool.and_eq_true] at h ⊢
    refine ⟨?_, h.2⟩
    cases b with
    | none => rfl
    | some j =>
      obtain ⟨x, hx, hle⟩ := hab j rfl
      subst hx
      have := h.1
      simp only [decide_eq_true_eq] at this ⊢
      omega

theorem rising_erase {a : Option Nat} {k : Nat} {l : List (Nat × α)} (h : risingFrom a l = true) : risingFrom a (erase k l) = true := by
  induction l generalizing a with
  | nil => rfl
  | cons e r ih =>
    obtain ⟨i, v⟩ := e
    simp only [risingFrom, Bool.and_eq_true] at h
    by_cases hk : i = k
    · simp only [erase, hk, if_true]
      refine ih (rising_mono h.2 ?_)
      rintro j rfl
      exact ⟨i, rfl, by have := h.1; simp only [decide_eq_true_eq] at this; omega⟩
    · simp only [erase, hk, if_false, risingFrom, Bool.and_eq_true]
      exact ⟨h.1, ih h.2⟩

theorem rising_ins {a : Option Nat} {k : Nat} {v : α} {l : List (Nat × α)} (h : risingFrom a l = true) (hn : find k l = none)
    (ha : ∀ j, a = some j → j < k) : risingFrom a (ins k v l) = true := by
  induction l generalizing a with
  | nil =>
    simp only [ins, risingFrom, Bool.and_eq_true]
    exact ⟨by cases a with | none => rfl | some j => simpa using ha j rfl, trivial⟩
  | cons e r ih =>
    obtain ⟨i, w⟩ := e
    have hi : i ≠ k := by rintro rfl; simp [find] at hn
    simp only [risingFrom, Bool.and_eq_true] at h
    by_cases hlt : k < i
    · simp only [ins, hlt, if_true, risingFrom, Bool.and_eq_true, decide_eq_true_eq]
      exact ⟨by cases a with | none => rfl | some j => simpa using ha j rfl, trivial, h.2⟩
    · simp only [ins, hlt, if_false, risingFrom, Bool.and_eq_true]
      simp only [find, hi, if_false] at hn
      exact ⟨h.1, ih h.2 hn (by rintro j ⟨⟩; omega)⟩

theorem noDefault_erase [DecidableEq α] {d : Nat → α} {k : Nat} {l : List (Nat × α)} (h : noDefault d l = true) : noDefault d (erase k l) = true := by
  induction l with
  | nil => rfl
  | cons e r ih =>
    obtain ⟨i, v⟩ := e
    simp only [noDefault, Bool.and_eq_true] at h
    by_cases hk : i = k
    · simp only [erase, hk, if_true]; exact ih h.2
    · simp only [erase, hk, if_false, noDefault, Bool.and_eq_true]; exact ⟨h.1, ih h.2⟩

theorem noDefault_ins [DecidableEq α] {d : Nat → α} {k : Nat} {v : α} {l : List (Nat × α)} (h : noDefault d l = true) (hv : v ≠ d k) :
    noDefault d (ins k v l) = true := by
  induction l with
  | nil => simp [ins, noDefault, hv]
  | cons e r ih =>
    obtain ⟨i, w⟩ := e
    simp only [noDefault, Bool.and_eq_true] at h
    by_cases hlt : k < i
    · simp only [ins, hlt, if_true, noDefault, Bool.and_eq_true, decide_eq_true_eq]
      exact ⟨hv, by simpa using h.1, h.2⟩
    · simp only [ins, hlt, if_false, noDefault, Bool.and_eq_true]; exact ⟨h.1, ih h.2⟩

/-- Writing a key keeps the canonical form. -/
theorem wf_put [DecidableEq α] {d : Nat → α} (k : Nat) (v : α) {l : List (Nat × α)} (h : wf d l = true) : wf d (put (d k) k v l) = true := by
  simp only [wf, Bool.and_eq_true] at h ⊢
  unfold put; split
  · exact ⟨rising_erase h.1, noDefault_erase h.2⟩
  · rename_i hv
    exact ⟨rising_ins (rising_erase h.1) (find_erase_self k l) (by simp), noDefault_ins (noDefault_erase h.2) hv⟩

theorem wf_erase [DecidableEq α] {d : Nat → α} {k : Nat} {l : List (Nat × α)} (h : wf d l = true) : wf d (erase k l) = true := by
  simp only [wf, Bool.and_eq_true] at h ⊢; exact ⟨rising_erase h.1, noDefault_erase h.2⟩

theorem rising_filter {a : Option Nat} {p : Nat × α → Bool} {l : List (Nat × α)} (h : risingFrom a l = true) : risingFrom a (l.filter p) = true := by
  induction l generalizing a with
  | nil => rfl
  | cons e r ih =>
    obtain ⟨i, v⟩ := e
    simp only [risingFrom, Bool.and_eq_true] at h
    by_cases hp : p (i, v) = true
    · simp only [List.filter, hp, risingFrom, Bool.and_eq_true]; exact ⟨h.1, ih h.2⟩
    · simp only [List.filter, hp]
      refine ih (rising_mono h.2 ?_)
      rintro j rfl
      exact ⟨i, rfl, by have := h.1; simp only [decide_eq_true_eq] at this; omega⟩

theorem noDefault_filter [DecidableEq α] {d : Nat → α} {p : Nat × α → Bool} {l : List (Nat × α)} (h : noDefault d l = true) :
    noDefault d (l.filter p) = true := by
  induction l with
  | nil => rfl
  | cons e r ih =>
    obtain ⟨i, v⟩ := e
    simp only [noDefault, Bool.and_eq_true] at h
    by_cases hp : p (i, v) = true
    · simp only [List.filter, hp, noDefault, Bool.and_eq_true]; exact ⟨h.1, ih h.2⟩
    · simp only [List.filter, hp]; exact ih h.2

/-- Leaving entries out keeps the canonical form. -/
theorem wf_filter [DecidableEq α] {d : Nat → α} (p : Nat × α → Bool) {l : List (Nat × α)} (h : wf d l = true) : wf d (l.filter p) = true := by
  simp only [wf, Bool.and_eq_true] at h ⊢; exact ⟨rising_filter h.1, noDefault_filter h.2⟩

/-- A table is not changed by its default at the keys it does not list. -/
theorem noDefault_congr [DecidableEq α] {d e : Nat → α} {l : List (Nat × α)} (h : noDefault d l = true) (he : ∀ x ∈ l, e x.1 = d x.1) :
    noDefault e l = true := by
  induction l with
  | nil => rfl
  | cons x r ih =>
    obtain ⟨i, v⟩ := x
    simp only [noDefault, Bool.and_eq_true] at h ⊢
    refine ⟨?_, ih h.2 (fun y hy => he y (List.mem_cons_of_mem _ hy))⟩
    have := he (i, v) List.mem_cons_self
    simp only at this
    rw [this]; exact h.1

end Sys2Proof.Machine.Tab
end

