-- ==== Sys2Proof/Laws/State.lean ====
section
/-! SUPPORT. One lemma per field per update: which fields of the state a write of a register or of a unit leaves alone, and what a register reads
after a write. No later proof unfolds an update. -/
namespace Sys2Proof.Machine.State

variable (s : State)

/-! ### Writes of registers touch the register file only -/

@[simp] theorem setReg_pending (k : Nat) (v : Word) : (s.setReg k v).pending = s.pending := rfl
@[simp] theorem setReg_part (k : Nat) (v : Word) : (s.setReg k v).part = s.part := rfl
@[simp] theorem setReg_fresh (k : Nat) (v : Word) : (s.setReg k v).fresh = s.fresh := rfl
@[simp] theorem setReg_latch (k : Nat) (v : Word) : (s.setReg k v).latch = s.latch := rfl
@[simp] theorem setReg_time (k : Nat) (v : Word) : (s.setReg k v).time = s.time := rfl
@[simp] theorem setReg_fab (k : Nat) (v : Word) : (s.setReg k v).fab = s.fab := rfl
@[simp] theorem setReg_site (k : Nat) (v : Word) : (s.setReg k v).site = s.site := rfl
@[simp] theorem setReg_drv (k : Nat) (v : Word) : (s.setReg k v).drv = s.drv := rfl
@[simp] theorem setReg_mon (k : Nat) (v : Word) : (s.setReg k v).mon = s.mon := rfl
@[simp] theorem setReg_rte (k : Nat) (v : Word) : (s.setReg k v).rte = s.rte := rfl
@[simp] theorem setReg_gst (k : Nat) (v : Word) : (s.setReg k v).gst = s.gst := rfl
@[simp] theorem setReg_loop (k : Nat) (v : Word) : (s.setReg k v).loop = s.loop := rfl
@[simp] theorem setReg_drt (k : Nat) (v : Word) : (s.setReg k v).drt = s.drt := rfl
@[simp] theorem setReg_cal (k : Nat) (v : Word) : (s.setReg k v).cal = s.cal := rfl
@[simp] theorem setReg_sch (k : Nat) (v : Word) : (s.setReg k v).sch = s.sch := rfl
@[simp] theorem setReg_tkn (k : Nat) (v : Word) : (s.setReg k v).tkn = s.tkn := rfl
@[simp] theorem setReg_flt (k : Nat) (v : Word) : (s.setReg k v).flt = s.flt := rfl
@[simp] theorem setReg_pwr (k : Nat) (v : Word) : (s.setReg k v).pwr = s.pwr := rfl
@[simp] theorem setReg_recd (k : Nat) (v : Word) : (s.setReg k v).recd = s.recd := rfl
@[simp] theorem setReg_mem (k : Nat) (v : Word) : (s.setReg k v).mem = s.mem := rfl
@[simp] theorem setReg_thm (k : Nat) (v : Word) : (s.setReg k v).thm = s.thm := rfl
@[simp] theorem setReg_sec (k : Nat) (v : Word) : (s.setReg k v).sec = s.sec := rfl
@[simp] theorem setReg_attests (k : Nat) (v : Word) : (s.setReg k v).attests = s.attests := rfl
@[simp] theorem setReg_ua (k : Nat) (v : Word) : (s.setReg k v).ua = s.ua := rfl
@[simp] theorem setReg_ub (k : Nat) (v : Word) : (s.setReg k v).ub = s.ub := rfl

@[simp] theorem orReg_pending (k m : Nat) : (s.orReg k m).pending = s.pending := rfl
@[simp] theorem orReg_part (k m : Nat) : (s.orReg k m).part = s.part := rfl
@[simp] theorem orReg_fresh (k m : Nat) : (s.orReg k m).fresh = s.fresh := rfl
@[simp] theorem orReg_latch (k m : Nat) : (s.orReg k m).latch = s.latch := rfl
@[simp] theorem orReg_time (k m : Nat) : (s.orReg k m).time = s.time := rfl
@[simp] theorem orReg_fab (k m : Nat) : (s.orReg k m).fab = s.fab := rfl
@[simp] theorem orReg_site (k m : Nat) : (s.orReg k m).site = s.site := rfl
@[simp] theorem orReg_drv (k m : Nat) : (s.orReg k m).drv = s.drv := rfl
@[simp] theorem orReg_mon (k m : Nat) : (s.orReg k m).mon = s.mon := rfl
@[simp] theorem orReg_rte (k m : Nat) : (s.orReg k m).rte = s.rte := rfl
@[simp] theorem orReg_gst (k m : Nat) : (s.orReg k m).gst = s.gst := rfl
@[simp] theorem orReg_loop (k m : Nat) : (s.orReg k m).loop = s.loop := rfl
@[simp] theorem orReg_drt (k m : Nat) : (s.orReg k m).drt = s.drt := rfl
@[simp] theorem orReg_cal (k m : Nat) : (s.orReg k m).cal = s.cal := rfl
@[simp] theorem orReg_sch (k m : Nat) : (s.orReg k m).sch = s.sch := rfl
@[simp] theorem orReg_tkn (k m : Nat) : (s.orReg k m).tkn = s.tkn := rfl
@[simp] theorem orReg_flt (k m : Nat) : (s.orReg k m).flt = s.flt := rfl
@[simp] theorem orReg_pwr (k m : Nat) : (s.orReg k m).pwr = s.pwr := rfl
@[simp] theorem orReg_recd (k m : Nat) : (s.orReg k m).recd = s.recd := rfl
@[simp] theorem orReg_mem (k m : Nat) : (s.orReg k m).mem = s.mem := rfl
@[simp] theorem orReg_thm (k m : Nat) : (s.orReg k m).thm = s.thm := rfl
@[simp] theorem orReg_sec (k m : Nat) : (s.orReg k m).sec = s.sec := rfl
@[simp] theorem orReg_attests (k m : Nat) : (s.orReg k m).attests = s.attests := rfl
@[simp] theorem orReg_ua (k m : Nat) : (s.orReg k m).ua = s.ua := rfl
@[simp] theorem orReg_ub (k m : Nat) : (s.orReg k m).ub = s.ub := rfl

@[simp] theorem clrReg_pending (k m : Nat) : (s.clrReg k m).pending = s.pending := rfl
@[simp] theorem clrReg_part (k m : Nat) : (s.clrReg k m).part = s.part := rfl
@[simp] theorem clrReg_fresh (k m : Nat) : (s.clrReg k m).fresh = s.fresh := rfl
@[simp] theorem clrReg_latch (k m : Nat) : (s.clrReg k m).latch = s.latch := rfl
@[simp] theorem clrReg_time (k m : Nat) : (s.clrReg k m).time = s.time := rfl
@[simp] theorem clrReg_fab (k m : Nat) : (s.clrReg k m).fab = s.fab := rfl
@[simp] theorem clrReg_site (k m : Nat) : (s.clrReg k m).site = s.site := rfl
@[simp] theorem clrReg_drv (k m : Nat) : (s.clrReg k m).drv = s.drv := rfl
@[simp] theorem clrReg_mon (k m : Nat) : (s.clrReg k m).mon = s.mon := rfl
@[simp] theorem clrReg_rte (k m : Nat) : (s.clrReg k m).rte = s.rte := rfl
@[simp] theorem clrReg_gst (k m : Nat) : (s.clrReg k m).gst = s.gst := rfl
@[simp] theorem clrReg_loop (k m : Nat) : (s.clrReg k m).loop = s.loop := rfl
@[simp] theorem clrReg_drt (k m : Nat) : (s.clrReg k m).drt = s.drt := rfl
@[simp] theorem clrReg_cal (k m : Nat) : (s.clrReg k m).cal = s.cal := rfl
@[simp] theorem clrReg_sch (k m : Nat) : (s.clrReg k m).sch = s.sch := rfl
@[simp] theorem clrReg_tkn (k m : Nat) : (s.clrReg k m).tkn = s.tkn := rfl
@[simp] theorem clrReg_flt (k m : Nat) : (s.clrReg k m).flt = s.flt := rfl
@[simp] theorem clrReg_pwr (k m : Nat) : (s.clrReg k m).pwr = s.pwr := rfl
@[simp] theorem clrReg_recd (k m : Nat) : (s.clrReg k m).recd = s.recd := rfl
@[simp] theorem clrReg_mem (k m : Nat) : (s.clrReg k m).mem = s.mem := rfl
@[simp] theorem clrReg_thm (k m : Nat) : (s.clrReg k m).thm = s.thm := rfl
@[simp] theorem clrReg_sec (k m : Nat) : (s.clrReg k m).sec = s.sec := rfl
@[simp] theorem clrReg_attests (k m : Nat) : (s.clrReg k m).attests = s.attests := rfl
@[simp] theorem clrReg_ua (k m : Nat) : (s.clrReg k m).ua = s.ua := rfl
@[simp] theorem clrReg_ub (k m : Nat) : (s.clrReg k m).ub = s.ub := rfl

@[simp] theorem setField_pending (k hi lo v : Nat) : (s.setField k hi lo v).pending = s.pending := rfl
@[simp] theorem setField_part (k hi lo v : Nat) : (s.setField k hi lo v).part = s.part := rfl
@[simp] theorem setField_fresh (k hi lo v : Nat) : (s.setField k hi lo v).fresh = s.fresh := rfl
@[simp] theorem setField_latch (k hi lo v : Nat) : (s.setField k hi lo v).latch = s.latch := rfl
@[simp] theorem setField_time (k hi lo v : Nat) : (s.setField k hi lo v).time = s.time := rfl
@[simp] theorem setField_fab (k hi lo v : Nat) : (s.setField k hi lo v).fab = s.fab := rfl
@[simp] theorem setField_site (k hi lo v : Nat) : (s.setField k hi lo v).site = s.site := rfl
@[simp] theorem setField_drv (k hi lo v : Nat) : (s.setField k hi lo v).drv = s.drv := rfl
@[simp] theorem setField_mon (k hi lo v : Nat) : (s.setField k hi lo v).mon = s.mon := rfl
@[simp] theorem setField_rte (k hi lo v : Nat) : (s.setField k hi lo v).rte = s.rte := rfl
@[simp] theorem setField_gst (k hi lo v : Nat) : (s.setField k hi lo v).gst = s.gst := rfl
@[simp] theorem setField_loop (k hi lo v : Nat) : (s.setField k hi lo v).loop = s.loop := rfl
@[simp] theorem setField_drt (k hi lo v : Nat) : (s.setField k hi lo v).drt = s.drt := rfl
@[simp] theorem setField_cal (k hi lo v : Nat) : (s.setField k hi lo v).cal = s.cal := rfl
@[simp] theorem setField_sch (k hi lo v : Nat) : (s.setField k hi lo v).sch = s.sch := rfl
@[simp] theorem setField_tkn (k hi lo v : Nat) : (s.setField k hi lo v).tkn = s.tkn := rfl
@[simp] theorem setField_flt (k hi lo v : Nat) : (s.setField k hi lo v).flt = s.flt := rfl
@[simp] theorem setField_pwr (k hi lo v : Nat) : (s.setField k hi lo v).pwr = s.pwr := rfl
@[simp] theorem setField_recd (k hi lo v : Nat) : (s.setField k hi lo v).recd = s.recd := rfl
@[simp] theorem setField_mem (k hi lo v : Nat) : (s.setField k hi lo v).mem = s.mem := rfl
@[simp] theorem setField_thm (k hi lo v : Nat) : (s.setField k hi lo v).thm = s.thm := rfl
@[simp] theorem setField_sec (k hi lo v : Nat) : (s.setField k hi lo v).sec = s.sec := rfl
@[simp] theorem setField_attests (k hi lo v : Nat) : (s.setField k hi lo v).attests = s.attests := rfl
@[simp] theorem setField_ua (k hi lo v : Nat) : (s.setField k hi lo v).ua = s.ua := rfl
@[simp] theorem setField_ub (k hi lo v : Nat) : (s.setField k hi lo v).ub = s.ub := rfl

@[simp] theorem bump_pending (k hi lo n : Nat) : (s.bump k hi lo n).pending = s.pending := rfl
@[simp] theorem bump_part (k hi lo n : Nat) : (s.bump k hi lo n).part = s.part := rfl
@[simp] theorem bump_fresh (k hi lo n : Nat) : (s.bump k hi lo n).fresh = s.fresh := rfl
@[simp] theorem bump_latch (k hi lo n : Nat) : (s.bump k hi lo n).latch = s.latch := rfl
@[simp] theorem bump_time (k hi lo n : Nat) : (s.bump k hi lo n).time = s.time := rfl
@[simp] theorem bump_fab (k hi lo n : Nat) : (s.bump k hi lo n).fab = s.fab := rfl
@[simp] theorem bump_site (k hi lo n : Nat) : (s.bump k hi lo n).site = s.site := rfl
@[simp] theorem bump_drv (k hi lo n : Nat) : (s.bump k hi lo n).drv = s.drv := rfl
@[simp] theorem bump_mon (k hi lo n : Nat) : (s.bump k hi lo n).mon = s.mon := rfl
@[simp] theorem bump_rte (k hi lo n : Nat) : (s.bump k hi lo n).rte = s.rte := rfl
@[simp] theorem bump_gst (k hi lo n : Nat) : (s.bump k hi lo n).gst = s.gst := rfl
@[simp] theorem bump_loop (k hi lo n : Nat) : (s.bump k hi lo n).loop = s.loop := rfl
@[simp] theorem bump_drt (k hi lo n : Nat) : (s.bump k hi lo n).drt = s.drt := rfl
@[simp] theorem bump_cal (k hi lo n : Nat) : (s.bump k hi lo n).cal = s.cal := rfl
@[simp] theorem bump_sch (k hi lo n : Nat) : (s.bump k hi lo n).sch = s.sch := rfl
@[simp] theorem bump_tkn (k hi lo n : Nat) : (s.bump k hi lo n).tkn = s.tkn := rfl
@[simp] theorem bump_flt (k hi lo n : Nat) : (s.bump k hi lo n).flt = s.flt := rfl
@[simp] theorem bump_pwr (k hi lo n : Nat) : (s.bump k hi lo n).pwr = s.pwr := rfl
@[simp] theorem bump_recd (k hi lo n : Nat) : (s.bump k hi lo n).recd = s.recd := rfl
@[simp] theorem bump_mem (k hi lo n : Nat) : (s.bump k hi lo n).mem = s.mem := rfl
@[simp] theorem bump_thm (k hi lo n : Nat) : (s.bump k hi lo n).thm = s.thm := rfl
@[simp] theorem bump_sec (k hi lo n : Nat) : (s.bump k hi lo n).sec = s.sec := rfl
@[simp] theorem bump_attests (k hi lo n : Nat) : (s.bump k hi lo n).attests = s.attests := rfl
@[simp] theorem bump_ua (k hi lo n : Nat) : (s.bump k hi lo n).ua = s.ua := rfl
@[simp] theorem bump_ub (k hi lo n : Nat) : (s.bump k hi lo n).ub = s.ub := rfl

@[simp] theorem wrapInc_pending (k : Nat) : (s.wrapInc k).pending = s.pending := rfl
@[simp] theorem wrapInc_part (k : Nat) : (s.wrapInc k).part = s.part := rfl
@[simp] theorem wrapInc_fresh (k : Nat) : (s.wrapInc k).fresh = s.fresh := rfl
@[simp] theorem wrapInc_latch (k : Nat) : (s.wrapInc k).latch = s.latch := rfl
@[simp] theorem wrapInc_time (k : Nat) : (s.wrapInc k).time = s.time := rfl
@[simp] theorem wrapInc_fab (k : Nat) : (s.wrapInc k).fab = s.fab := rfl
@[simp] theorem wrapInc_site (k : Nat) : (s.wrapInc k).site = s.site := rfl
@[simp] theorem wrapInc_drv (k : Nat) : (s.wrapInc k).drv = s.drv := rfl
@[simp] theorem wrapInc_mon (k : Nat) : (s.wrapInc k).mon = s.mon := rfl
@[simp] theorem wrapInc_rte (k : Nat) : (s.wrapInc k).rte = s.rte := rfl
@[simp] theorem wrapInc_gst (k : Nat) : (s.wrapInc k).gst = s.gst := rfl
@[simp] theorem wrapInc_loop (k : Nat) : (s.wrapInc k).loop = s.loop := rfl
@[simp] theorem wrapInc_drt (k : Nat) : (s.wrapInc k).drt = s.drt := rfl
@[simp] theorem wrapInc_cal (k : Nat) : (s.wrapInc k).cal = s.cal := rfl
@[simp] theorem wrapInc_sch (k : Nat) : (s.wrapInc k).sch = s.sch := rfl
@[simp] theorem wrapInc_tkn (k : Nat) : (s.wrapInc k).tkn = s.tkn := rfl
@[simp] theorem wrapInc_flt (k : Nat) : (s.wrapInc k).flt = s.flt := rfl
@[simp] theorem wrapInc_pwr (k : Nat) : (s.wrapInc k).pwr = s.pwr := rfl
@[simp] theorem wrapInc_recd (k : Nat) : (s.wrapInc k).recd = s.recd := rfl
@[simp] theorem wrapInc_mem (k : Nat) : (s.wrapInc k).mem = s.mem := rfl
@[simp] theorem wrapInc_thm (k : Nat) : (s.wrapInc k).thm = s.thm := rfl
@[simp] theorem wrapInc_sec (k : Nat) : (s.wrapInc k).sec = s.sec := rfl
@[simp] theorem wrapInc_attests (k : Nat) : (s.wrapInc k).attests = s.attests := rfl
@[simp] theorem wrapInc_ua (k : Nat) : (s.wrapInc k).ua = s.ua := rfl
@[simp] theorem wrapInc_ub (k : Nat) : (s.wrapInc k).ub = s.ub := rfl

@[simp] theorem setReg64_pending (kLo kHi v : Nat) : (s.setReg64 kLo kHi v).pending = s.pending := rfl
@[simp] theorem setReg64_part (kLo kHi v : Nat) : (s.setReg64 kLo kHi v).part = s.part := rfl
@[simp] theorem setReg64_fresh (kLo kHi v : Nat) : (s.setReg64 kLo kHi v).fresh = s.fresh := rfl
@[simp] theorem setReg64_latch (kLo kHi v : Nat) : (s.setReg64 kLo kHi v).latch = s.latch := rfl
@[simp] theorem setReg64_time (kLo kHi v : Nat) : (s.setReg64 kLo kHi v).time = s.time := rfl
@[simp] theorem setReg64_fab (kLo kHi v : Nat) : (s.setReg64 kLo kHi v).fab = s.fab := rfl
@[simp] theorem setReg64_site (kLo kHi v : Nat) : (s.setReg64 kLo kHi v).site = s.site := rfl
@[simp] theorem setReg64_drv (kLo kHi v : Nat) : (s.setReg64 kLo kHi v).drv = s.drv := rfl
@[simp] theorem setReg64_mon (kLo kHi v : Nat) : (s.setReg64 kLo kHi v).mon = s.mon := rfl
@[simp] theorem setReg64_rte (kLo kHi v : Nat) : (s.setReg64 kLo kHi v).rte = s.rte := rfl
@[simp] theorem setReg64_gst (kLo kHi v : Nat) : (s.setReg64 kLo kHi v).gst = s.gst := rfl
@[simp] theorem setReg64_loop (kLo kHi v : Nat) : (s.setReg64 kLo kHi v).loop = s.loop := rfl
@[simp] theorem setReg64_drt (kLo kHi v : Nat) : (s.setReg64 kLo kHi v).drt = s.drt := rfl
@[simp] theorem setReg64_cal (kLo kHi v : Nat) : (s.setReg64 kLo kHi v).cal = s.cal := rfl
@[simp] theorem setReg64_sch (kLo kHi v : Nat) : (s.setReg64 kLo kHi v).sch = s.sch := rfl
@[simp] theorem setReg64_tkn (kLo kHi v : Nat) : (s.setReg64 kLo kHi v).tkn = s.tkn := rfl
@[simp] theorem setReg64_flt (kLo kHi v : Nat) : (s.setReg64 kLo kHi v).flt = s.flt := rfl
@[simp] theorem setReg64_pwr (kLo kHi v : Nat) : (s.setReg64 kLo kHi v).pwr = s.pwr := rfl
@[simp] theorem setReg64_recd (kLo kHi v : Nat) : (s.setReg64 kLo kHi v).recd = s.recd := rfl
@[simp] theorem setReg64_mem (kLo kHi v : Nat) : (s.setReg64 kLo kHi v).mem = s.mem := rfl
@[simp] theorem setReg64_thm (kLo kHi v : Nat) : (s.setReg64 kLo kHi v).thm = s.thm := rfl
@[simp] theorem setReg64_sec (kLo kHi v : Nat) : (s.setReg64 kLo kHi v).sec = s.sec := rfl
@[simp] theorem setReg64_attests (kLo kHi v : Nat) : (s.setReg64 kLo kHi v).attests = s.attests := rfl
@[simp] theorem setReg64_ua (kLo kHi v : Nat) : (s.setReg64 kLo kHi v).ua = s.ua := rfl
@[simp] theorem setReg64_ub (kLo kHi v : Nat) : (s.setReg64 kLo kHi v).ub = s.ub := rfl

@[simp] theorem maskWrite_pending (k mask : Nat) (v : Word) : (s.maskWrite k mask v).pending = s.pending := rfl
@[simp] theorem maskWrite_part (k mask : Nat) (v : Word) : (s.maskWrite k mask v).part = s.part := rfl
@[simp] theorem maskWrite_fresh (k mask : Nat) (v : Word) : (s.maskWrite k mask v).fresh = s.fresh := rfl
@[simp] theorem maskWrite_latch (k mask : Nat) (v : Word) : (s.maskWrite k mask v).latch = s.latch := rfl
@[simp] theorem maskWrite_time (k mask : Nat) (v : Word) : (s.maskWrite k mask v).time = s.time := rfl
@[simp] theorem maskWrite_fab (k mask : Nat) (v : Word) : (s.maskWrite k mask v).fab = s.fab := rfl
@[simp] theorem maskWrite_site (k mask : Nat) (v : Word) : (s.maskWrite k mask v).site = s.site := rfl
@[simp] theorem maskWrite_drv (k mask : Nat) (v : Word) : (s.maskWrite k mask v).drv = s.drv := rfl
@[simp] theorem maskWrite_mon (k mask : Nat) (v : Word) : (s.maskWrite k mask v).mon = s.mon := rfl
@[simp] theorem maskWrite_rte (k mask : Nat) (v : Word) : (s.maskWrite k mask v).rte = s.rte := rfl
@[simp] theorem maskWrite_gst (k mask : Nat) (v : Word) : (s.maskWrite k mask v).gst = s.gst := rfl
@[simp] theorem maskWrite_loop (k mask : Nat) (v : Word) : (s.maskWrite k mask v).loop = s.loop := rfl
@[simp] theorem maskWrite_drt (k mask : Nat) (v : Word) : (s.maskWrite k mask v).drt = s.drt := rfl
@[simp] theorem maskWrite_cal (k mask : Nat) (v : Word) : (s.maskWrite k mask v).cal = s.cal := rfl
@[simp] theorem maskWrite_sch (k mask : Nat) (v : Word) : (s.maskWrite k mask v).sch = s.sch := rfl
@[simp] theorem maskWrite_tkn (k mask : Nat) (v : Word) : (s.maskWrite k mask v).tkn = s.tkn := rfl
@[simp] theorem maskWrite_flt (k mask : Nat) (v : Word) : (s.maskWrite k mask v).flt = s.flt := rfl
@[simp] theorem maskWrite_pwr (k mask : Nat) (v : Word) : (s.maskWrite k mask v).pwr = s.pwr := rfl
@[simp] theorem maskWrite_recd (k mask : Nat) (v : Word) : (s.maskWrite k mask v).recd = s.recd := rfl
@[simp] theorem maskWrite_mem (k mask : Nat) (v : Word) : (s.maskWrite k mask v).mem = s.mem := rfl
@[simp] theorem maskWrite_thm (k mask : Nat) (v : Word) : (s.maskWrite k mask v).thm = s.thm := rfl
@[simp] theorem maskWrite_sec (k mask : Nat) (v : Word) : (s.maskWrite k mask v).sec = s.sec := rfl
@[simp] theorem maskWrite_attests (k mask : Nat) (v : Word) : (s.maskWrite k mask v).attests = s.attests := rfl
@[simp] theorem maskWrite_ua (k mask : Nat) (v : Word) : (s.maskWrite k mask v).ua = s.ua := rfl
@[simp] theorem maskWrite_ub (k mask : Nat) (v : Word) : (s.maskWrite k mask v).ub = s.ub := rfl

@[simp] theorem resetRegs_pending (p : Nat → Bool) : (s.resetRegs p).pending = s.pending := rfl
@[simp] theorem resetRegs_part (p : Nat → Bool) : (s.resetRegs p).part = s.part := rfl
@[simp] theorem resetRegs_fresh (p : Nat → Bool) : (s.resetRegs p).fresh = s.fresh := rfl
@[simp] theorem resetRegs_latch (p : Nat → Bool) : (s.resetRegs p).latch = s.latch := rfl
@[simp] theorem resetRegs_time (p : Nat → Bool) : (s.resetRegs p).time = s.time := rfl
@[simp] theorem resetRegs_fab (p : Nat → Bool) : (s.resetRegs p).fab = s.fab := rfl
@[simp] theorem resetRegs_site (p : Nat → Bool) : (s.resetRegs p).site = s.site := rfl
@[simp] theorem resetRegs_drv (p : Nat → Bool) : (s.resetRegs p).drv = s.drv := rfl
@[simp] theorem resetRegs_mon (p : Nat → Bool) : (s.resetRegs p).mon = s.mon := rfl
@[simp] theorem resetRegs_rte (p : Nat → Bool) : (s.resetRegs p).rte = s.rte := rfl
@[simp] theorem resetRegs_gst (p : Nat → Bool) : (s.resetRegs p).gst = s.gst := rfl
@[simp] theorem resetRegs_loop (p : Nat → Bool) : (s.resetRegs p).loop = s.loop := rfl
@[simp] theorem resetRegs_drt (p : Nat → Bool) : (s.resetRegs p).drt = s.drt := rfl
@[simp] theorem resetRegs_cal (p : Nat → Bool) : (s.resetRegs p).cal = s.cal := rfl
@[simp] theorem resetRegs_sch (p : Nat → Bool) : (s.resetRegs p).sch = s.sch := rfl
@[simp] theorem resetRegs_tkn (p : Nat → Bool) : (s.resetRegs p).tkn = s.tkn := rfl
@[simp] theorem resetRegs_flt (p : Nat → Bool) : (s.resetRegs p).flt = s.flt := rfl
@[simp] theorem resetRegs_pwr (p : Nat → Bool) : (s.resetRegs p).pwr = s.pwr := rfl
@[simp] theorem resetRegs_recd (p : Nat → Bool) : (s.resetRegs p).recd = s.recd := rfl
@[simp] theorem resetRegs_mem (p : Nat → Bool) : (s.resetRegs p).mem = s.mem := rfl
@[simp] theorem resetRegs_thm (p : Nat → Bool) : (s.resetRegs p).thm = s.thm := rfl
@[simp] theorem resetRegs_sec (p : Nat → Bool) : (s.resetRegs p).sec = s.sec := rfl
@[simp] theorem resetRegs_attests (p : Nat → Bool) : (s.resetRegs p).attests = s.attests := rfl
@[simp] theorem resetRegs_ua (p : Nat → Bool) : (s.resetRegs p).ua = s.ua := rfl
@[simp] theorem resetRegs_ub (p : Nat → Bool) : (s.resetRegs p).ub = s.ub := rfl

/-! ### A write of a unit touches that unit only -/

@[simp] theorem setUnit_pending (u : Cu) (x : UnitSt) : (s.setUnit u x).pending = s.pending := by cases u <;> rfl
@[simp] theorem setUnit_part (u : Cu) (x : UnitSt) : (s.setUnit u x).part = s.part := by cases u <;> rfl
@[simp] theorem setUnit_fresh (u : Cu) (x : UnitSt) : (s.setUnit u x).fresh = s.fresh := by cases u <;> rfl
@[simp] theorem setUnit_latch (u : Cu) (x : UnitSt) : (s.setUnit u x).latch = s.latch := by cases u <;> rfl
@[simp] theorem setUnit_time (u : Cu) (x : UnitSt) : (s.setUnit u x).time = s.time := by cases u <;> rfl
@[simp] theorem setUnit_fab (u : Cu) (x : UnitSt) : (s.setUnit u x).fab = s.fab := by cases u <;> rfl
@[simp] theorem setUnit_site (u : Cu) (x : UnitSt) : (s.setUnit u x).site = s.site := by cases u <;> rfl
@[simp] theorem setUnit_drv (u : Cu) (x : UnitSt) : (s.setUnit u x).drv = s.drv := by cases u <;> rfl
@[simp] theorem setUnit_mon (u : Cu) (x : UnitSt) : (s.setUnit u x).mon = s.mon := by cases u <;> rfl
@[simp] theorem setUnit_rte (u : Cu) (x : UnitSt) : (s.setUnit u x).rte = s.rte := by cases u <;> rfl
@[simp] theorem setUnit_gst (u : Cu) (x : UnitSt) : (s.setUnit u x).gst = s.gst := by cases u <;> rfl
@[simp] theorem setUnit_loop (u : Cu) (x : UnitSt) : (s.setUnit u x).loop = s.loop := by cases u <;> rfl
@[simp] theorem setUnit_drt (u : Cu) (x : UnitSt) : (s.setUnit u x).drt = s.drt := by cases u <;> rfl
@[simp] theorem setUnit_cal (u : Cu) (x : UnitSt) : (s.setUnit u x).cal = s.cal := by cases u <;> rfl
@[simp] theorem setUnit_sch (u : Cu) (x : UnitSt) : (s.setUnit u x).sch = s.sch := by cases u <;> rfl
@[simp] theorem setUnit_tkn (u : Cu) (x : UnitSt) : (s.setUnit u x).tkn = s.tkn := by cases u <;> rfl
@[simp] theorem setUnit_flt (u : Cu) (x : UnitSt) : (s.setUnit u x).flt = s.flt := by cases u <;> rfl
@[simp] theorem setUnit_pwr (u : Cu) (x : UnitSt) : (s.setUnit u x).pwr = s.pwr := by cases u <;> rfl
@[simp] theorem setUnit_recd (u : Cu) (x : UnitSt) : (s.setUnit u x).recd = s.recd := by cases u <;> rfl
@[simp] theorem setUnit_mem (u : Cu) (x : UnitSt) : (s.setUnit u x).mem = s.mem := by cases u <;> rfl
@[simp] theorem setUnit_thm (u : Cu) (x : UnitSt) : (s.setUnit u x).thm = s.thm := by cases u <;> rfl
@[simp] theorem setUnit_sec (u : Cu) (x : UnitSt) : (s.setUnit u x).sec = s.sec := by cases u <;> rfl
@[simp] theorem setUnit_attests (u : Cu) (x : UnitSt) : (s.setUnit u x).attests = s.attests := by cases u <;> rfl
@[simp] theorem setUnit_regs (u : Cu) (x : UnitSt) : (s.setUnit u x).regs = s.regs := by cases u <;> rfl
@[simp] theorem unit_setUnit (u : Cu) (x : UnitSt) : (s.setUnit u x).unit u = x := by cases u <;> rfl
@[simp] theorem unit_setUnit_peer (u : Cu) (x : UnitSt) : (s.setUnit u x).unit u.peer = s.unit u.peer := by cases u <;> rfl
theorem unit_setUnit_ne {u w : Cu} (h : w ≠ u) (x : UnitSt) : (s.setUnit u x).unit w = s.unit w := by cases u <;> cases w <;> first | rfl | exact absurd rfl h
@[simp] theorem reg_setUnit (u : Cu) (x : UnitSt) (k : Nat) : (s.setUnit u x).reg k = s.reg k := by cases u <;> rfl

@[simp] theorem unit_setReg (k : Nat) (v : Word) (u : Cu) : (s.setReg k v).unit u = s.unit u := rfl
@[simp] theorem unit_orReg (k m : Nat) (u : Cu) : (s.orReg k m).unit u = s.unit u := rfl
@[simp] theorem unit_clrReg (k m : Nat) (u : Cu) : (s.clrReg k m).unit u = s.unit u := rfl
@[simp] theorem unit_setField (k hi lo v : Nat) (u : Cu) : (s.setField k hi lo v).unit u = s.unit u := rfl
@[simp] theorem unit_bump (k hi lo n : Nat) (u : Cu) : (s.bump k hi lo n).unit u = s.unit u := rfl
@[simp] theorem unit_wrapInc (k : Nat) (u : Cu) : (s.wrapInc k).unit u = s.unit u := rfl
@[simp] theorem unit_setReg64 (kLo kHi v : Nat) (u : Cu) : (s.setReg64 kLo kHi v).unit u = s.unit u := rfl
@[simp] theorem unit_maskWrite (k mask : Nat) (v : Word) (u : Cu) : (s.maskWrite k mask v).unit u = s.unit u := rfl
@[simp] theorem unit_resetRegs (p : Nat → Bool) (u : Cu) : (s.resetRegs p).unit u = s.unit u := rfl

/-! ### What a register reads after a write -/

@[simp] theorem reg_setReg (k : Nat) (v : Word) : (s.setReg k v).reg k = v := Tab.get_put_self _ k v _

theorem reg_setReg_ne {j k : Nat} (h : j ≠ k) (v : Word) : (s.setReg k v).reg j = s.reg j := Tab.get_put_ne _ _ h v _

@[simp] theorem reg_orReg (k m : Nat) : (s.orReg k m).reg k = s.reg k ||| BitVec.ofNat 32 m := reg_setReg s k _

theorem reg_orReg_ne {j k : Nat} (h : j ≠ k) (m : Nat) : (s.orReg k m).reg j = s.reg j := reg_setReg_ne s h _

@[simp] theorem reg_clrReg (k m : Nat) : (s.clrReg k m).reg k = s.reg k &&& ~~~(BitVec.ofNat 32 m) := reg_setReg s k _

theorem reg_clrReg_ne {j k : Nat} (h : j ≠ k) (m : Nat) : (s.clrReg k m).reg j = s.reg j := reg_setReg_ne s h _

@[simp] theorem reg_setField (k hi lo v : Nat) : (s.setField k hi lo v).reg k = putField (s.reg k) hi lo v := reg_setReg s k _

theorem reg_setField_ne {j k : Nat} (h : j ≠ k) (hi lo v : Nat) : (s.setField k hi lo v).reg j = s.reg j := reg_setReg_ne s h _

@[simp] theorem reg_bump (k hi lo n : Nat) :
    (s.bump k hi lo n).reg k = putField (s.reg k) hi lo (satAdd (s.fld k hi lo) n (2 ^ (hi - lo + 1) - 1)) := reg_setField s k hi lo _

theorem reg_bump_ne {j k : Nat} (h : j ≠ k) (hi lo n : Nat) : (s.bump k hi lo n).reg j = s.reg j := reg_setField_ne s h hi lo _

@[simp] theorem reg_wrapInc (k : Nat) : (s.wrapInc k).reg k = s.reg k + 1 := reg_setReg s k _

theorem reg_wrapInc_ne {j k : Nat} (h : j ≠ k) : (s.wrapInc k).reg j = s.reg j := reg_setReg_ne s h _

@[simp] theorem reg_maskWrite (k mask : Nat) (v : Word) :
    (s.maskWrite k mask v).reg k = (s.reg k &&& ~~~(BitVec.ofNat 32 mask)) ||| (v &&& BitVec.ofNat 32 mask) := reg_setReg s k _

theorem reg_maskWrite_ne {j k : Nat} (h : j ≠ k) (mask : Nat) (v : Word) : (s.maskWrite k mask v).reg j = s.reg j := reg_setReg_ne s h _

theorem reg_setReg64_ne {j kLo kHi : Nat} (h : j ≠ kLo) (h' : j ≠ kHi) (v : Nat) : (s.setReg64 kLo kHi v).reg j = s.reg j := by
  unfold setReg64; rw [reg_setReg_ne _ h', reg_setReg_ne _ h]

theorem reg_setReg64_lo {kLo kHi : Nat} (h : kLo ≠ kHi) (v : Nat) : (s.setReg64 kLo kHi v).reg kLo = word v := by
  unfold setReg64; rw [reg_setReg_ne _ h, reg_setReg]

@[simp] theorem reg_setReg64_hi (kLo kHi v : Nat) : (s.setReg64 kLo kHi v).reg kHi = word (v / 2 ^ 32) := by
  unfold setReg64; rw [reg_setReg]

end Sys2Proof.Machine.State
end

