-- ==== Sys2Proof/Laws/Bits.lean ====
section
/-! SUPPORT. What a bit of a register reads after a write of bits: no later proof unfolds a mask. -/
namespace Sys2Proof.Machine

theorem bit_or (x y : Word) (i : Nat) : bit (x ||| y) i = (bit x i || bit y i) := by simp [bit]

theorem bit_and (x y : Word) (i : Nat) : bit (x &&& y) i = (bit x i && bit y i) := by simp [bit]

theorem bit_ofNat (m i : Nat) : bit (BitVec.ofNat 32 m) i = (decide (i < 32) && m.testBit i) := by simp [bit, BitVec.getLsbD_ofNat]

theorem bit_word (m i : Nat) : bit (word m) i = (decide (i < 32) && m.testBit i) := bit_ofNat m i

theorem bit_andNot (x : Word) (m i : Nat) : bit (x &&& ~~~(BitVec.ofNat 32 m)) i = (bit x i && !m.testBit i) := by
  simp only [bit, BitVec.getLsbD_and, BitVec.getLsbD_not, BitVec.getLsbD_ofNat]
  by_cases h : i < 32
  · simp [h]
  · simp [BitVec.getLsbD_of_ge x i (by omega)]

theorem bit_maskOf (i j : Nat) (h : i < 32) : bit (maskOf i i) j = decide (j = i) := by
  unfold maskOf
  rw [bit_ofNat]
  have e : (2 ^ (i - i + 1) - 1) * 2 ^ i = 2 ^ i := by simp
  rw [e, Nat.testBit_two_pow]
  by_cases hj : j = i
  · subst hj; simp [h]
  · simp [hj, Ne.symm hj]

theorem bit_putBit (w : Word) (i j : Nat) (b : Bool) (h : i < 32) : bit (putBit w i b) j = if j = i then b else bit w j := by
  unfold putBit
  by_cases hj : j = i
  · subst hj
    cases b
    · have := bit_maskOf j j h
      simp only [decide_true] at this
      simp only [bit, BitVec.getLsbD_and, BitVec.getLsbD_not, Bool.false_eq_true, if_false, if_true] at this ⊢
      rw [this]; simp
    · simp [bit_or, bit_maskOf j j h]
  · cases b
    · simp only [Bool.false_eq_true, if_false, if_neg hj]
      have := bit_maskOf i j h
      simp only [hj, decide_false] at this
      simp only [bit, BitVec.getLsbD_and, BitVec.getLsbD_not] at this ⊢
      rw [this]
      by_cases h32 : j < 32
      · simp [h32]
      · simp [BitVec.getLsbD_of_ge w j (by omega)]
    · simp [bit_or, bit_maskOf i j h, hj]

/-- A bit that already has its value may be put again. -/
theorem putBit_of_bit (w : Word) (i : Nat) (b : Bool) (hi : i < 32) (h : bit w i = b) : putBit w i b = w := by
  apply BitVec.eq_of_getLsbD_eq
  intro j _
  show bit (putBit w i b) j = bit w j
  rw [bit_putBit w i j b hi]
  split
  · rename_i e; rw [e, h]
  · rfl

/-- A field below a bit does not see the bit. -/
theorem field_putBit (w : Word) (i hi lo : Nat) (b : Bool) (h : i < 32) (hl : hi < i) (hh : lo ≤ hi) :
    field (putBit w i b) hi lo = field w hi lo := by
  unfold field
  apply Nat.eq_of_testBit_eq
  intro j
  simp only [Nat.testBit_mod_two_pow, Nat.testBit_shiftRight]
  by_cases hj : j < hi - lo + 1
  · have e := bit_putBit w i (lo + j) b h
    rw [if_neg (by omega)] at e
    have e' : (putBit w i b).toNat.testBit (lo + j) = w.toNat.testBit (lo + j) := e
    rw [e']
  · simp [hj]

namespace State
variable (s : State)

@[simp] theorem rbit_orReg (k m i : Nat) : (s.orReg k m).rbit k i = (s.rbit k i || (decide (i < 32) && m.testBit i)) := by
  unfold rbit; rw [reg_orReg, bit_or, bit_ofNat]

@[simp] theorem rbit_clrReg (k m i : Nat) : (s.clrReg k m).rbit k i = (s.rbit k i && !m.testBit i) := by
  unfold rbit; rw [reg_clrReg, bit_andNot]

@[simp] theorem rbit_setReg (k i : Nat) (v : Word) : (s.setReg k v).rbit k i = bit v i := by unfold rbit; rw [reg_setReg]

theorem rbit_setReg_ne {j k : Nat} (h : j ≠ k) (v : Word) (i : Nat) : (s.setReg k v).rbit j i = s.rbit j i := by
  unfold rbit; rw [reg_setReg_ne _ h]
theorem rbit_orReg_ne {j k : Nat} (h : j ≠ k) (m i : Nat) : (s.orReg k m).rbit j i = s.rbit j i := s.rbit_setReg_ne h _ i
theorem rbit_clrReg_ne {j k : Nat} (h : j ≠ k) (m i : Nat) : (s.clrReg k m).rbit j i = s.rbit j i := s.rbit_setReg_ne h _ i
theorem rbit_setField_ne {j k : Nat} (h : j ≠ k) (hi lo v i : Nat) : (s.setField k hi lo v).rbit j i = s.rbit j i := s.rbit_setReg_ne h _ i

end State
end Sys2Proof.Machine
end

