-- ==== Sys2Proof/Laws/Completes.lean ====
section
/-! SUPPORT. Every meaning answers a next state: one lemma per command, and `exec` as a whole. -/
namespace Sys2Proof.Machine

theorem execFabLoad_next {a0 a1 a2} : ∃ t, execFabLoad a0 a1 a2 = .next t := ⟨_, rfl⟩
theorem execFabLoadDeferredRead_next {a0} : ∃ t, execFabLoadDeferredRead a0 = .next t := by
  unfold execFabLoadDeferredRead
  try dsimp only
  repeat' first | exact ⟨_, rfl⟩ | split
theorem execFabLoadEnd_next {a0 a1} : ∃ t, execFabLoadEnd a0 a1 = .next t := ⟨_, rfl⟩
theorem execFabEnable_next {a0 a1 a2} : ∃ t, execFabEnable a0 a1 a2 = .next t := ⟨_, rfl⟩
theorem execFabDisable_next {a0 a1 a2} : ∃ t, execFabDisable a0 a1 a2 = .next t := ⟨_, rfl⟩
theorem execHealthMarkWrite_next {a0 a1 a2 a3} : ∃ t, execHealthMarkWrite a0 a1 a2 a3 = .next t := by
  unfold execHealthMarkWrite
  try dsimp only
  repeat' first | exact ⟨_, rfl⟩ | split
theorem execSiteBiasEnable_next {a0 a1 a2} : ∃ t, execSiteBiasEnable a0 a1 a2 = .next t := ⟨_, rfl⟩
theorem execSiteSenseEnable_next {a0 a1 a2} : ∃ t, execSiteSenseEnable a0 a1 a2 = .next t := ⟨_, rfl⟩
theorem execSiteBiasFault_next {a0 a1} : ∃ t, execSiteBiasFault a0 a1 = .next t := by
  unfold execSiteBiasFault
  try dsimp only
  repeat' first | exact ⟨_, rfl⟩ | split
theorem execSiteCheckStart_next {a0 a1 a2} : ∃ t, execSiteCheckStart a0 a1 a2 = .next t := ⟨_, rfl⟩
theorem execSiteCheckStop_next {a0 a1 a2} : ∃ t, execSiteCheckStop a0 a1 a2 = .next t := ⟨_, rfl⟩
theorem execSiteCheckDone_next {a0 a1} : ∃ t, execSiteCheckDone a0 a1 = .next t := by
  unfold execSiteCheckDone
  try dsimp only
  repeat' first | exact ⟨_, rfl⟩ | split
theorem execUpdateTick_next {a0 a1 a2 a3} : ∃ t, execUpdateTick a0 a1 a2 a3 = .next t := ⟨_, rfl⟩
theorem execDrvQueueWrite_next {a0 a1 a2 a3} : ∃ t, execDrvQueueWrite a0 a1 a2 a3 = .next t := by
  unfold execDrvQueueWrite
  try dsimp only
  repeat' first | exact ⟨_, rfl⟩ | split
theorem execDrvQueueFlush_next {a0 a1 a2 a3} : ∃ t, execDrvQueueFlush a0 a1 a2 a3 = .next t := by
  unfold execDrvQueueFlush
  try dsimp only
  repeat' first | exact ⟨_, rfl⟩ | split
theorem execDrvSlewWrite_next {a0 a1 a2 a3} : ∃ t, execDrvSlewWrite a0 a1 a2 a3 = .next t := by
  unfold execDrvSlewWrite
  try dsimp only
  repeat' first | exact ⟨_, rfl⟩ | split
theorem execDrvCountClear_next {a0 a1 a2 a3} : ∃ t, execDrvCountClear a0 a1 a2 a3 = .next t := by
  unfold execDrvCountClear
  try dsimp only
  repeat' first | exact ⟨_, rfl⟩ | split
theorem execPreEmphasisEnd_next {a0 a1} : ∃ t, execPreEmphasisEnd a0 a1 = .next t := by
  unfold execPreEmphasisEnd
  try dsimp only
  repeat' first | exact ⟨_, rfl⟩ | split
theorem execDrvSpareRequest_next {a0 a1 a2 a3 a4} : ∃ t, execDrvSpareRequest a0 a1 a2 a3 a4 = .next t := by
  unfold execDrvSpareRequest
  try dsimp only
  repeat' first | exact ⟨_, rfl⟩ | split
theorem execDrvSpareRelease_next {a0 a1 a2 a3 a4} : ∃ t, execDrvSpareRelease a0 a1 a2 a3 a4 = .next t := by
  unfold execDrvSpareRelease
  try dsimp only
  repeat' first | exact ⟨_, rfl⟩ | split
theorem execDrvSpareTrackingDone_next {a0 a1 a2 a3} : ∃ t, execDrvSpareTrackingDone a0 a1 a2 a3 = .next t := by
  unfold execDrvSpareTrackingDone
  try dsimp only
  repeat' first | exact ⟨_, rfl⟩ | split
theorem execFineLaneInstant_next {a0 a1} : ∃ t, execFineLaneInstant a0 a1 = .next t := ⟨_, rfl⟩
theorem execResultQueueAgeExpiry_next {a0 a1} : ∃ t, execResultQueueAgeExpiry a0 a1 = .next t := by
  unfold execResultQueueAgeExpiry
  try dsimp only
  repeat' first | exact ⟨_, rfl⟩ | split
theorem execMonCfgWrite_next {a0 a1 a2 a3} : ∃ t, execMonCfgWrite a0 a1 a2 a3 = .next t := by
  unfold execMonCfgWrite
  try dsimp only
  repeat' first | exact ⟨_, rfl⟩ | split
theorem execMonGridAlignRequest_next {a0 a1 a2} : ∃ t, execMonGridAlignRequest a0 a1 a2 = .next t := ⟨_, rfl⟩
theorem execGridAlign_next {a0} : ∃ t, execGridAlign a0 = .next t := by
  unfold execGridAlign
  try dsimp only
  repeat' first | exact ⟨_, rfl⟩ | split
theorem execMonInjectStart_next {a0 a1 a2 a3} : ∃ t, execMonInjectStart a0 a1 a2 a3 = .next t := by
  unfold execMonInjectStart
  try dsimp only
  repeat' first | exact ⟨_, rfl⟩ | split
theorem execMonInjectStop_next {a0 a1 a2 a3} : ∃ t, execMonInjectStop a0 a1 a2 a3 = .next t := by
  unfold execMonInjectStop
  try dsimp only
  repeat' first | exact ⟨_, rfl⟩ | split
theorem execMonDiagStart_next {a0 a1 a2} : ∃ t, execMonDiagStart a0 a1 a2 = .next t := ⟨_, rfl⟩
theorem execMonDiagStop_next {a0 a1 a2} : ∃ t, execMonDiagStop a0 a1 a2 = .next t := ⟨_, rfl⟩
theorem execMonDiagDone_next {a0 a1} : ∃ t, execMonDiagDone a0 a1 = .next t := by
  unfold execMonDiagDone
  try dsimp only
  repeat' first | exact ⟨_, rfl⟩ | split
theorem execMonCountClear_next {a0 a1 a2 a3} : ∃ t, execMonCountClear a0 a1 a2 a3 = .next t := by
  unfold execMonCountClear
  try dsimp only
  repeat' first | exact ⟨_, rfl⟩ | split
theorem execResultQueueEnable_next {a0 a1 a2 a3} : ∃ t, execResultQueueEnable a0 a1 a2 a3 = .next t := by
  unfold execResultQueueEnable
  try dsimp only
  repeat' first | exact ⟨_, rfl⟩ | split
theorem execResultQueueDisable_next {a0 a1 a2 a3} : ∃ t, execResultQueueDisable a0 a1 a2 a3 = .next t := by
  unfold execResultQueueDisable
  try dsimp only
  repeat' first | exact ⟨_, rfl⟩ | split
theorem execMonSpareRequest_next {a0 a1 a2 a3 a4} : ∃ t, execMonSpareRequest a0 a1 a2 a3 a4 = .next t := by
  unfold execMonSpareRequest
  try dsimp only
  repeat' first | exact ⟨_, rfl⟩ | split
theorem execMonSpareRelease_next {a0 a1 a2 a3 a4} : ∃ t, execMonSpareRelease a0 a1 a2 a3 a4 = .next t := by
  unfold execMonSpareRelease
  try dsimp only
  repeat' first | exact ⟨_, rfl⟩ | split
theorem execMonSpareReadinessDone_next {a0 a1 a2 a3} : ∃ t, execMonSpareReadinessDone a0 a1 a2 a3 = .next t := by
  unfold execMonSpareReadinessDone
  try dsimp only
  repeat' first | exact ⟨_, rfl⟩ | split
theorem execMonPortCfgWrite_next {a0 a1 a2 a3 a4 a5} : ∃ t, execMonPortCfgWrite a0 a1 a2 a3 a4 a5 = .next t := by
  unfold execMonPortCfgWrite
  try dsimp only
  repeat' first | exact ⟨_, rfl⟩ | split
theorem execRouteLookup_next {a0 a1 a2 a3} : ∃ t, execRouteLookup a0 a1 a2 a3 = .next t := ⟨_, rfl⟩
theorem execRoutePreload_next {a0 a1 a2 a3} : ∃ t, execRoutePreload a0 a1 a2 a3 = .next t := ⟨_, rfl⟩
theorem execRouteSolve_next {a0 a1 a2} : ∃ t, execRouteSolve a0 a1 a2 = .next t := ⟨_, rfl⟩
theorem execRouteInvalidate_next {a0 a1 a2} : ∃ t, execRouteInvalidate a0 a1 a2 = .next t := ⟨_, rfl⟩
theorem execRouteFlush_next {a0 a1} : ∃ t, execRouteFlush a0 a1 = .next t := ⟨_, rfl⟩
theorem execRouteRehash_next {a0 a1} : ∃ t, execRouteRehash a0 a1 = .next t := ⟨_, rfl⟩
theorem execCacheInsert_next {a0 a1} : ∃ t, execCacheInsert a0 a1 = .next t := by
  unfold execCacheInsert
  try dsimp only
  repeat' first | exact ⟨_, rfl⟩ | split
theorem execCacheAgeSweep_next {a0 a1} : ∃ t, execCacheAgeSweep a0 a1 = .next t := by
  unfold execCacheAgeSweep
  try dsimp only
  repeat' first | exact ⟨_, rfl⟩ | split
theorem execRehashDone_next {a0 a1} : ∃ t, execRehashDone a0 a1 = .next t := by
  unfold execRehashDone
  try dsimp only
  repeat' first | exact ⟨_, rfl⟩ | split
theorem execCacheClearDone_next {a0} : ∃ t, execCacheClearDone a0 = .next t := by
  unfold execCacheClearDone
  try dsimp only
  repeat' first | exact ⟨_, rfl⟩ | split
theorem execRouteCountClear_next {a0 a1 a2} : ∃ t, execRouteCountClear a0 a1 a2 = .next t := ⟨_, rfl⟩
theorem execMapBaste_next {a0 a1 a2 a3} : ∃ t, execMapBaste a0 a1 a2 a3 = .next t := ⟨_, rfl⟩
theorem execBasteComplete_next {a0 a1} : ∃ t, execBasteComplete a0 a1 = .next t := by
  unfold execBasteComplete
  try dsimp only
  repeat' first | exact ⟨_, rfl⟩ | split
theorem execGust_next {a0 a1} : ∃ t, execGust a0 a1 = .next t := ⟨_, rfl⟩
theorem execGustPreloadStart_next {a0} : ∃ t, execGustPreloadStart a0 = .next t := ⟨_, rfl⟩
theorem execGustArmed_next {a0} : ∃ t, execGustArmed a0 = .next t := by
  unfold execGustArmed
  try dsimp only
  repeat' first | exact ⟨_, rfl⟩ | split
theorem execGustTrigger_next {a0} : ∃ t, execGustTrigger a0 = .next t := by
  unfold execGustTrigger
  try dsimp only
  repeat' first | exact ⟨_, rfl⟩ | split
theorem execTrigInEdge_next {a0 a1 a2} : ∃ t, execTrigInEdge a0 a1 a2 = .next t := by
  unfold execTrigInEdge
  try dsimp only
  repeat' first | exact ⟨_, rfl⟩ | split
theorem execGustVerify_next {a0} : ∃ t, execGustVerify a0 = .next t := by
  unfold execGustVerify
  try dsimp only
  repeat' first | exact ⟨_, rfl⟩ | split
theorem execGustReverify_next {a0} : ∃ t, execGustReverify a0 = .next t := by
  unfold execGustReverify
  try dsimp only
  repeat' first | exact ⟨_, rfl⟩ | split
theorem execLullEnd_next {a0} : ∃ t, execLullEnd a0 = .next t := by
  unfold execLullEnd
  try dsimp only
  repeat' first | exact ⟨_, rfl⟩ | split
theorem execDraughtPoint_next {a0 a1} : ∃ t, execDraughtPoint a0 a1 = .next t := by
  unfold execDraughtPoint
  try dsimp only
  repeat' first | exact ⟨_, rfl⟩ | split
theorem execDraughtEnd_next {a0} : ∃ t, execDraughtEnd a0 = .next t := by
  unfold execDraughtEnd
  try dsimp only
  repeat' first | exact ⟨_, rfl⟩ | split
theorem execGustCountClear_next {a0 a1 a2} : ∃ t, execGustCountClear a0 a1 a2 = .next t := ⟨_, rfl⟩
theorem execLoopInstant_next {a0 a1} : ∃ t, execLoopInstant a0 a1 = .next t := ⟨_, rfl⟩
theorem execLoopOutputApply_next {a0} : ∃ t, execLoopOutputApply a0 = .next t := ⟨_, rfl⟩
theorem execLoopModeManual_next {a0 a1} : ∃ t, execLoopModeManual a0 a1 = .next t := ⟨_, rfl⟩
theorem execLoopModeAuto_next {a0 a1} : ∃ t, execLoopModeAuto a0 a1 = .next t := ⟨_, rfl⟩
theorem execLoopCellModeWrite_next {a0 a1 a2 a3} : ∃ t, execLoopCellModeWrite a0 a1 a2 a3 = .next t := by
  unfold execLoopCellModeWrite
  try dsimp only
  repeat' first | exact ⟨_, rfl⟩ | split
theorem execClrStrike_next {a0 a1 a2 a3} : ∃ t, execClrStrike a0 a1 a2 a3 = .next t := by
  unfold execClrStrike
  try dsimp only
  repeat' first | exact ⟨_, rfl⟩ | split
theorem execLoopClsHoldWrite_next {a0 a1 a2} : ∃ t, execLoopClsHoldWrite a0 a1 a2 = .next t := ⟨_, rfl⟩
theorem execLoopClassWrite_next {a0 a1 a2 a3 a4} : ∃ t, execLoopClassWrite a0 a1 a2 a3 a4 = .next t := by
  unfold execLoopClassWrite
  try dsimp only
  repeat' first | exact ⟨_, rfl⟩ | split
theorem execLoopSet_next {a0 a1} : ∃ t, execLoopSet a0 a1 = .next t := ⟨_, rfl⟩
theorem execSquallStart_next {a0 a1} : ∃ t, execSquallStart a0 a1 = .next t := by
  unfold execSquallStart
  try dsimp only
  repeat' first | exact ⟨_, rfl⟩ | split
theorem execSquallStop_next {a0 a1 a2} : ∃ t, execSquallStop a0 a1 a2 = .next t := ⟨_, rfl⟩
theorem execSquallEnd_next {a0} : ∃ t, execSquallEnd a0 = .next t := by
  unfold execSquallEnd
  try dsimp only
  repeat' first | exact ⟨_, rfl⟩ | split
theorem execLoopCountClear_next {a0 a1 a2} : ∃ t, execLoopCountClear a0 a1 a2 = .next t := ⟨_, rfl⟩
theorem execDrtTauWrite_next {a0 a1 a2 a3} : ∃ t, execDrtTauWrite a0 a1 a2 a3 = .next t := by
  unfold execDrtTauWrite
  try dsimp only
  repeat' first | exact ⟨_, rfl⟩ | split
theorem execDrtCommit_next {a0 a1 a2} : ∃ t, execDrtCommit a0 a1 a2 = .next t := ⟨_, rfl⟩
theorem execDrtInvalidate_next {a0 a1 a2} : ∃ t, execDrtInvalidate a0 a1 a2 = .next t := ⟨_, rfl⟩
theorem execDrtCountClear_next {a0 a1 a2} : ∃ t, execDrtCountClear a0 a1 a2 = .next t := ⟨_, rfl⟩
theorem execPpsEdge_next {a0 a1} : ∃ t, execPpsEdge a0 a1 = .next t := by
  unfold execPpsEdge
  try dsimp only
  repeat' first | exact ⟨_, rfl⟩ | split
theorem execPpsLost_next {a0} : ∃ t, execPpsLost a0 = .next t := by
  unfold execPpsLost
  try dsimp only
  repeat' first | exact ⟨_, rfl⟩ | split
theorem execPpsPhaseEnd_next {a0} : ∃ t, execPpsPhaseEnd a0 = .next t := by
  unfold execPpsPhaseEnd
  try dsimp only
  repeat' first | exact ⟨_, rfl⟩ | split
theorem execSecondsArm_next {a0 a1 a2} : ∃ t, execSecondsArm a0 a1 a2 = .next t := ⟨_, rfl⟩
theorem execTimedActionDue_next {a0} : ∃ t, execTimedActionDue a0 = .next t := ⟨_, rfl⟩
theorem execSchedLoad_next {a0 a1 a2} : ∃ t, execSchedLoad a0 a1 a2 = .next t := ⟨_, rfl⟩
theorem execSchedCommit_next {a0 a1} : ∃ t, execSchedCommit a0 a1 = .next t := by
  unfold execSchedCommit
  try dsimp only
  repeat' first | exact ⟨_, rfl⟩ | split
theorem execSchedStop_next {a0 a1} : ∃ t, execSchedStop a0 a1 = .next t := by
  unfold execSchedStop
  try dsimp only
  repeat' first | exact ⟨_, rfl⟩ | split
theorem execSchedStopAtEnd_next {a0 a1} : ∃ t, execSchedStopAtEnd a0 a1 = .next t := by
  unfold execSchedStopAtEnd
  try dsimp only
  repeat' first | exact ⟨_, rfl⟩ | split
theorem execSchedCancel_next {a0 a1} : ∃ t, execSchedCancel a0 a1 = .next t := by
  unfold execSchedCancel
  try dsimp only
  repeat' first | exact ⟨_, rfl⟩ | split
theorem execSchedStart_next {a0} : ∃ t, execSchedStart a0 = .next t := by
  unfold execSchedStart
  try dsimp only
  repeat' first | exact ⟨_, rfl⟩ | split
theorem execScheduleEdge_next {a0} : ∃ t, execScheduleEdge a0 = .next t := by
  unfold execScheduleEdge
  try dsimp only
  repeat' first | exact ⟨_, rfl⟩ | split
theorem execTimePulse_next {a0 a1} : ∃ t, execTimePulse a0 a1 = .next t := ⟨_, rfl⟩
theorem execToutEnable_next {a0 a1 a2 a3} : ∃ t, execToutEnable a0 a1 a2 a3 = .next t := by
  unfold execToutEnable
  try dsimp only
  repeat' first | exact ⟨_, rfl⟩ | split
theorem execToutPulse_next {a0 a1} : ∃ t, execToutPulse a0 a1 = .next t := by
  unfold execToutPulse
  try dsimp only
  repeat' first | exact ⟨_, rfl⟩ | split
theorem execCalRun_next {a0 a1} : ∃ t, execCalRun a0 a1 = .next t := ⟨_, rfl⟩
theorem execCalRunEnd_next {a0 a1} : ∃ t, execCalRunEnd a0 a1 = .next t := ⟨_, rfl⟩
theorem execCalSetLoad_next {a0 a1 a2} : ∃ t, execCalSetLoad a0 a1 a2 = .next t := ⟨_, rfl⟩
theorem execCharTable_next {a0 a1} : ∃ t, execCharTable a0 a1 = .next t := ⟨_, rfl⟩
theorem execCharCoupling_next {a0 a1 a2} : ∃ t, execCharCoupling a0 a1 a2 = .next t := ⟨_, rfl⟩
theorem execCharTrimSweep_next {a0 a1 a2} : ∃ t, execCharTrimSweep a0 a1 a2 = .next t := ⟨_, rfl⟩
theorem execCharThrowSweep_next {a0 a1 a2} : ∃ t, execCharThrowSweep a0 a1 a2 = .next t := ⟨_, rfl⟩
theorem execCouplingRunEnd_next {a0 a1} : ∃ t, execCouplingRunEnd a0 a1 = .next t := ⟨_, rfl⟩
theorem execCharRunEnd_next {a0 a1} : ∃ t, execCharRunEnd a0 a1 = .next t := ⟨_, rfl⟩
theorem execCalIdle_next {a0 a1 a2} : ∃ t, execCalIdle a0 a1 a2 = .next t := ⟨_, rfl⟩
theorem execCalIdleLapse_next {a0} : ∃ t, execCalIdleLapse a0 = .next t := ⟨_, rfl⟩
theorem execCalAbort_next {a0 a1 a2} : ∃ t, execCalAbort a0 a1 a2 = .next t := ⟨_, rfl⟩
theorem execCalSeqStop_next {a0 a1 a2} : ∃ t, execCalSeqStop a0 a1 a2 = .next t := ⟨_, rfl⟩
theorem execCalHashDrt_next {a0 a1 a2} : ∃ t, execCalHashDrt a0 a1 a2 = .next t := ⟨_, rfl⟩
theorem execDrtHashDone_next {a0} : ∃ t, execDrtHashDone a0 = .next t := ⟨_, rfl⟩
theorem execPerstAssert_next {a0 a1} : ∃ t, execPerstAssert a0 a1 = .next t := by
  unfold execPerstAssert
  try dsimp only
  repeat' first | exact ⟨_, rfl⟩ | split
theorem execPerstRelease_next {a0 a1} : ∃ t, execPerstRelease a0 a1 = .next t := ⟨_, rfl⟩
theorem execHotReset_next {a0 a1} : ∃ t, execHotReset a0 a1 = .next t := by
  unfold execHotReset
  try dsimp only
  repeat' first | exact ⟨_, rfl⟩ | split
theorem execLinkDown_next {a0 a1} : ∃ t, execLinkDown a0 a1 = .next t := ⟨_, rfl⟩
theorem execFlrPf_next {a0 a1} : ∃ t, execFlrPf a0 a1 = .next t := ⟨_, rfl⟩
theorem execFlrVf_next {a0 a1 a2} : ∃ t, execFlrVf a0 a1 a2 = .next t := ⟨_, rfl⟩
theorem execLinkRetrain_next {a0 a1 a2 a3 a4 a5 a6} : ∃ t, execLinkRetrain a0 a1 a2 a3 a4 a5 a6 = .next t := by
  unfold execLinkRetrain
  try dsimp only
  repeat' first | exact ⟨_, rfl⟩ | split
theorem execD3hotEntry_next {a0 a1 a2} : ∃ t, execD3hotEntry a0 a1 a2 = .next t := ⟨_, rfl⟩
theorem execD3hotExit_next {a0 a1 a2} : ∃ t, execD3hotExit a0 a1 a2 = .next t := by
  unfold execD3hotExit
  try dsimp only
  repeat' first | exact ⟨_, rfl⟩ | split
theorem execLinkError_next {a0 a1 a2} : ∃ t, execLinkError a0 a1 a2 = .next t := by
  unfold execLinkError
  try dsimp only
  repeat' first | exact ⟨_, rfl⟩ | split
theorem execHlCountClear_next {a0 a1 a2} : ∃ t, execHlCountClear a0 a1 a2 = .next t := ⟨_, rfl⟩
theorem execRegisterWrite_next {a0 a1 a2} : ∃ t, execRegisterWrite a0 a1 a2 = .next t := ⟨_, rfl⟩
theorem execBadAccessRead_next {a0 a1} : ∃ t, execBadAccessRead a0 a1 = .next t := ⟨_, rfl⟩
theorem execLatchingRead_next {a0 a1} : ∃ t, execLatchingRead a0 a1 = .next t := ⟨_, rfl⟩
theorem execClearOnRead_next {a0 a1} : ∃ t, execClearOnRead a0 a1 = .next t := ⟨_, rfl⟩
theorem execHostReadFail_next {a0 a1 a2} : ∃ t, execHostReadFail a0 a1 a2 = .next t := by
  unfold execHostReadFail
  try dsimp only
  repeat' first | exact ⟨_, rfl⟩ | split
theorem execQueuePoll_next {a0 a1 a2 a3} : ∃ t, execQueuePoll a0 a1 a2 a3 = .next t := ⟨_, rfl⟩
theorem execDescriptorFetch_next {a0 a1 a2 a3 a4 a5} : ∃ t, execDescriptorFetch a0 a1 a2 a3 a4 a5 = .next t := by
  unfold execDescriptorFetch
  try dsimp only
  repeat' first | exact ⟨_, rfl⟩ | split
theorem execArbitrationGrant_next {a0 a1} : ∃ t, execArbitrationGrant a0 a1 = .next t := by
  unfold execArbitrationGrant
  try dsimp only
  repeat' first | exact ⟨_, rfl⟩ | split
theorem execBucketRefill_next {a0} : ∃ t, execBucketRefill a0 = .next t := ⟨_, rfl⟩
theorem execCompletionPost_next {a0 a1 a2 a3 a4} : ∃ t, execCompletionPost a0 a1 a2 a3 a4 = .next t := ⟨_, rfl⟩
theorem execRingInterruptTimer_next {a0 a1 a2 a3} : ∃ t, execRingInterruptTimer a0 a1 a2 a3 = .next t := by
  unfold execRingInterruptTimer
  try dsimp only
  repeat' first | exact ⟨_, rfl⟩ | split
theorem execFunctionEnable_next {a0 a1 a2 a3} : ∃ t, execFunctionEnable a0 a1 a2 a3 = .next t := ⟨_, rfl⟩
theorem execFunctionDisable_next {a0 a1 a2 a3} : ∃ t, execFunctionDisable a0 a1 a2 a3 = .next t := ⟨_, rfl⟩
theorem execSqEnable_next {a0 a1 a2 a3 a4 a5} : ∃ t, execSqEnable a0 a1 a2 a3 a4 a5 = .next t := ⟨_, rfl⟩
theorem execSqDisable_next {a0 a1 a2 a3 a4} : ∃ t, execSqDisable a0 a1 a2 a3 a4 = .next t := ⟨_, rfl⟩
theorem execCqEnable_next {a0 a1 a2 a3 a4} : ∃ t, execCqEnable a0 a1 a2 a3 a4 = .next t := ⟨_, rfl⟩
theorem execCqDisable_next {a0 a1 a2 a3 a4} : ∃ t, execCqDisable a0 a1 a2 a3 a4 = .next t := ⟨_, rfl⟩
theorem execEqEnable_next {a0 a1 a2 a3} : ∃ t, execEqEnable a0 a1 a2 a3 = .next t := ⟨_, rfl⟩
theorem execTrEnable_next {a0 a1 a2 a3 a4} : ∃ t, execTrEnable a0 a1 a2 a3 a4 = .next t := ⟨_, rfl⟩
theorem execQCountClear_next {a0 a1 a2 a3} : ∃ t, execQCountClear a0 a1 a2 a3 = .next t := ⟨_, rfl⟩
theorem execNop_next {a0 a1} : ∃ t, execNop a0 a1 = .next t := ⟨_, rfl⟩
theorem execMapQuery_next {a0 a1} : ∃ t, execMapQuery a0 a1 = .next t := ⟨_, rfl⟩
theorem execMove_next {a0 a1} : ∃ t, execMove a0 a1 = .next t := ⟨_, rfl⟩
theorem execTelemCtrl_next {a0 a1 a2} : ∃ t, execTelemCtrl a0 a1 a2 = .next t := ⟨_, rfl⟩
theorem execElementDirectCodes_next {a0 a1} : ∃ t, execElementDirectCodes a0 a1 = .next t := ⟨_, rfl⟩
theorem execElementDirectRead_next {a0 a1} : ∃ t, execElementDirectRead a0 a1 = .next t := ⟨_, rfl⟩
theorem execSpareMapSubstitute_next {a0 a1} : ∃ t, execSpareMapSubstitute a0 a1 = .next t := ⟨_, rfl⟩
theorem execSpareMapRelease_next {a0 a1} : ∃ t, execSpareMapRelease a0 a1 = .next t := ⟨_, rfl⟩
theorem execFaultCtrlRead_next {a0 a1} : ∃ t, execFaultCtrlRead a0 a1 = .next t := ⟨_, rfl⟩
theorem execFaultCtrlClear_next {a0 a1} : ∃ t, execFaultCtrlClear a0 a1 = .next t := ⟨_, rfl⟩
theorem execFaultCtrlConfig_next {a0 a1} : ∃ t, execFaultCtrlConfig a0 a1 = .next t := ⟨_, rfl⟩
theorem execStateSave_next {a0 a1} : ∃ t, execStateSave a0 a1 = .next t := ⟨_, rfl⟩
theorem execAttest_next {a0 a1} : ∃ t, execAttest a0 a1 = .next t := ⟨_, rfl⟩
theorem execFwStageStage_next {a0 a1 a2} : ∃ t, execFwStageStage a0 a1 a2 = .next t := ⟨_, rfl⟩
theorem execFwStageActivate_next {a0 a1} : ∃ t, execFwStageActivate a0 a1 = .next t := ⟨_, rfl⟩
theorem execFwStageDiscard_next {a0 a1} : ∃ t, execFwStageDiscard a0 a1 = .next t := ⟨_, rfl⟩
theorem execFlashWriteDone_next {a0 a1 a2} : ∃ t, execFlashWriteDone a0 a1 a2 = .next t := by
  unfold execFlashWriteDone
  try dsimp only
  repeat' first | exact ⟨_, rfl⟩ | split
theorem execRecCtrlStatus_next {a0 a1} : ∃ t, execRecCtrlStatus a0 a1 = .next t := ⟨_, rfl⟩
theorem execRecFreeze_next {a0 a1} : ∃ t, execRecFreeze a0 a1 = .next t := by
  unfold execRecFreeze
  try dsimp only
  repeat' first | exact ⟨_, rfl⟩ | split
theorem execRecRelease_next {a0 a1} : ∃ t, execRecRelease a0 a1 = .next t := by
  unfold execRecRelease
  try dsimp only
  repeat' first | exact ⟨_, rfl⟩ | split
theorem execRecSizeSet_next {a0 a1} : ∃ t, execRecSizeSet a0 a1 = .next t := ⟨_, rfl⟩
theorem execRecModeSet_next {a0 a1} : ∃ t, execRecModeSet a0 a1 = .next t := ⟨_, rfl⟩
theorem execRecTriggersSet_next {a0 a1} : ∃ t, execRecTriggersSet a0 a1 = .next t := ⟨_, rfl⟩
theorem execRecPostExpiry_next {a0} : ∃ t, execRecPostExpiry a0 = .next t := by
  unfold execRecPostExpiry
  try dsimp only
  repeat' first | exact ⟨_, rfl⟩ | split
theorem execRecPullStart_next {a0 a1 a2} : ∃ t, execRecPullStart a0 a1 a2 = .next t := ⟨_, rfl⟩
theorem execRecPullEnd_next {a0} : ∃ t, execRecPullEnd a0 = .next t := by
  unfold execRecPullEnd
  try dsimp only
  repeat' first | exact ⟨_, rfl⟩ | split
theorem execReplayStart_next {a0 a1 a2} : ∃ t, execReplayStart a0 a1 a2 = .next t := ⟨_, rfl⟩
theorem execReplayStop_next {a0 a1 a2} : ∃ t, execReplayStop a0 a1 a2 = .next t := ⟨_, rfl⟩
theorem execReplayEnd_next {a0} : ∃ t, execReplayEnd a0 = .next t := by
  unfold execReplayEnd
  try dsimp only
  repeat' first | exact ⟨_, rfl⟩ | split
theorem execTknClaim_next {a0 a1 a2} : ∃ t, execTknClaim a0 a1 a2 = .next t := ⟨_, rfl⟩
theorem execTknRenew_next {a0 a1 a2} : ∃ t, execTknRenew a0 a1 a2 = .next t := ⟨_, rfl⟩
theorem execTknRelease_next {a0 a1 a2} : ∃ t, execTknRelease a0 a1 a2 = .next t := ⟨_, rfl⟩
theorem execTknResume_next {a0 a1 a2} : ∃ t, execTknResume a0 a1 a2 = .next t := ⟨_, rfl⟩
theorem execTknRehStart_next {a0 a1 a2} : ∃ t, execTknRehStart a0 a1 a2 = .next t := ⟨_, rfl⟩
theorem execTknRehCall_next {a0 a1 a2} : ∃ t, execTknRehCall a0 a1 a2 = .next t := ⟨_, rfl⟩
theorem execTknRehDismiss_next {a0 a1 a2} : ∃ t, execTknRehDismiss a0 a1 a2 = .next t := ⟨_, rfl⟩
theorem execTknRehReport_next {a0 a1 a2} : ∃ t, execTknRehReport a0 a1 a2 = .next t := ⟨_, rfl⟩
theorem execLeaseExpiry_next {a0 a1} : ∃ t, execLeaseExpiry a0 a1 = .next t := by
  unfold execLeaseExpiry
  try dsimp only
  repeat' first | exact ⟨_, rfl⟩ | split
theorem execFirmwareVerified_next {a0 a1 a2 a3 a4} : ∃ t, execFirmwareVerified a0 a1 a2 a3 a4 = .next t := by
  unfold execFirmwareVerified
  try dsimp only
  repeat' first | exact ⟨_, rfl⟩ | split
theorem execGraceEnd_next {a0} : ∃ t, execGraceEnd a0 = .next t := ⟨_, rfl⟩
theorem execClaimDeadline_next {a0} : ∃ t, execClaimDeadline a0 = .next t := by
  unfold execClaimDeadline
  try dsimp only
  repeat' first | exact ⟨_, rfl⟩ | split
theorem execUnitBootFail_next {a0 a1 a2} : ∃ t, execUnitBootFail a0 a1 a2 = .next t := by
  unfold execUnitBootFail
  try dsimp only
  repeat' first | exact ⟨_, rfl⟩ | split
theorem execReservationExpiry_next {a0} : ∃ t, execReservationExpiry a0 = .next t := by
  unfold execReservationExpiry
  try dsimp only
  repeat' first | exact ⟨_, rfl⟩ | split
theorem execImageSavePeriodic_next {a0} : ∃ t, execImageSavePeriodic a0 = .next t := ⟨_, rfl⟩
theorem execImageSaveEvent_next {a0} : ∃ t, execImageSaveEvent a0 = .next t := ⟨_, rfl⟩
theorem execRehearsalAutoDue_next {a0} : ∃ t, execRehearsalAutoDue a0 = .next t := by
  unfold execRehearsalAutoDue
  try dsimp only
  repeat' first | exact ⟨_, rfl⟩ | split
theorem execRehearsalTimeout_next {a0} : ∃ t, execRehearsalTimeout a0 = .next t := by
  unfold execRehearsalTimeout
  try dsimp only
  repeat' first | exact ⟨_, rfl⟩ | split
theorem execRevertRehearsalDue_next {a0} : ∃ t, execRevertRehearsalDue a0 = .next t := by
  unfold execRevertRehearsalDue
  try dsimp only
  repeat' first | exact ⟨_, rfl⟩ | split
theorem execWtrExpiry_next {a0} : ∃ t, execWtrExpiry a0 = .next t := by
  unfold execWtrExpiry
  try dsimp only
  repeat' first | exact ⟨_, rfl⟩ | split
theorem execSuccessorReadyTimeout_next {a0} : ∃ t, execSuccessorReadyTimeout a0 = .next t := by
  unfold execSuccessorReadyTimeout
  try dsimp only
  repeat' first | exact ⟨_, rfl⟩ | split
theorem execPorRise_next {a0 a1 a2} : ∃ t, execPorRise a0 a1 a2 = .next t := by
  unfold execPorRise
  try dsimp only
  repeat' first | exact ⟨_, rfl⟩ | split
theorem execColdReset_next {a0} : ∃ t, execColdReset a0 = .next t := ⟨_, rfl⟩
theorem execPllLock_next {a0} : ∃ t, execPllLock a0 = .next t := by
  unfold execPllLock
  try dsimp only
  repeat' first | exact ⟨_, rfl⟩ | split
theorem execDramTrained_next {a0 a1} : ∃ t, execDramTrained a0 a1 = .next t := by
  unfold execDramTrained
  try dsimp only
  repeat' first | exact ⟨_, rfl⟩ | split
theorem execDramInitDone_next {a0} : ∃ t, execDramInitDone a0 = .next t := by
  unfold execDramInitDone
  try dsimp only
  repeat' first | exact ⟨_, rfl⟩ | split
theorem execPeerCallTimeout_next {a0} : ∃ t, execPeerCallTimeout a0 = .next t := by
  unfold execPeerCallTimeout
  try dsimp only
  repeat' first | exact ⟨_, rfl⟩ | split
theorem execResetNAssert_next {a0 a1} : ∃ t, execResetNAssert a0 a1 = .next t := by
  unfold execResetNAssert
  try dsimp only
  repeat' first | exact ⟨_, rfl⟩ | split
theorem execPwrRstDevice_next {a0 a1 a2} : ∃ t, execPwrRstDevice a0 a1 a2 = .next t := ⟨_, rfl⟩
theorem execPwrRstUnit_next {a0 a1 a2} : ∃ t, execPwrRstUnit a0 a1 a2 = .next t := ⟨_, rfl⟩
theorem execPwrCuSelfReset_next {a0 a1 a2} : ∃ t, execPwrCuSelfReset a0 a1 a2 = .next t := ⟨_, rfl⟩
theorem execWarmResetRelease_next {a0} : ∃ t, execWarmResetRelease a0 = .next t := by
  unfold execWarmResetRelease
  try dsimp only
  repeat' first | exact ⟨_, rfl⟩ | split
theorem execDrivePowerDown_next {a0} : ∃ t, execDrivePowerDown a0 = .next t := by
  unfold execDrivePowerDown
  try dsimp only
  repeat' first | exact ⟨_, rfl⟩ | split
theorem execVanaLow_next {a0} : ∃ t, execVanaLow a0 = .next t := ⟨_, rfl⟩
theorem execVcoreLow_next {a0 a1} : ∃ t, execVcoreLow a0 a1 = .next t := ⟨_, rfl⟩
theorem execVphyLow_next {a0 a1 a2} : ∃ t, execVphyLow a0 a1 a2 = .next t := ⟨_, rfl⟩
theorem execDriveRailLow_next {a0 a1} : ∃ t, execDriveRailLow a0 a1 = .next t := by
  unfold execDriveRailLow
  try dsimp only
  repeat' first | exact ⟨_, rfl⟩ | split
theorem execVioLow_next {a0} : ∃ t, execVioLow a0 = .next t := ⟨_, rfl⟩
theorem execSupplyMonitorRelease_next {a0 a1 a2} : ∃ t, execSupplyMonitorRelease a0 a1 a2 = .next t := ⟨_, rfl⟩
theorem execDramScrub_next {a0 a1 a2} : ∃ t, execDramScrub a0 a1 a2 = .next t := by
  unfold execDramScrub
  try dsimp only
  repeat' first | exact ⟨_, rfl⟩ | split
theorem execRowCopyDone_next {a0} : ∃ t, execRowCopyDone a0 = .next t := by
  unfold execRowCopyDone
  try dsimp only
  repeat' first | exact ⟨_, rfl⟩ | split
theorem execBankCopyDone_next {a0} : ∃ t, execBankCopyDone a0 = .next t := by
  unfold execBankCopyDone
  try dsimp only
  repeat' first | exact ⟨_, rfl⟩ | split
theorem execMemSpareBank_next {a0 a1 a2} : ∃ t, execMemSpareBank a0 a1 a2 = .next t := ⟨_, rfl⟩
theorem execFuseCommitDone_next {a0 a1} : ∃ t, execFuseCommitDone a0 a1 = .next t := by
  unfold execFuseCommitDone
  try dsimp only
  repeat' first | exact ⟨_, rfl⟩ | split
theorem execMemProbe_next {a0 a1 a2} : ∃ t, execMemProbe a0 a1 a2 = .next t := ⟨_, rfl⟩
theorem execMemCountClear_next {a0 a1 a2} : ∃ t, execMemCountClear a0 a1 a2 = .next t := ⟨_, rfl⟩
theorem execSpPstateWrite_next {a0 a1 a2 a3} : ∃ t, execSpPstateWrite a0 a1 a2 a3 = .next t := ⟨_, rfl⟩
theorem execSpPstateDone_next {a0 a1 a2} : ∃ t, execSpPstateDone a0 a1 a2 = .next t := by
  unfold execSpPstateDone
  try dsimp only
  repeat' first | exact ⟨_, rfl⟩ | split
theorem execSpOwnerWrite_next {a0 a1 a2 a3} : ∃ t, execSpOwnerWrite a0 a1 a2 a3 = .next t := ⟨_, rfl⟩
theorem execSpRetireCmd_next {a0 a1 a2} : ∃ t, execSpRetireCmd a0 a1 a2 = .next t := ⟨_, rfl⟩
theorem execSpRetireDone_next {a0 a1 a2 a3} : ∃ t, execSpRetireDone a0 a1 a2 a3 = .next t := by
  unfold execSpRetireDone
  try dsimp only
  repeat' first | exact ⟨_, rfl⟩ | split
theorem execDmStart_next {a0 a1 a2 a3} : ∃ t, execDmStart a0 a1 a2 a3 = .next t := ⟨_, rfl⟩
theorem execDmPause_next {a0 a1 a2 a3} : ∃ t, execDmPause a0 a1 a2 a3 = .next t := ⟨_, rfl⟩
theorem execDmPaused_next {a0 a1 a2 a3} : ∃ t, execDmPaused a0 a1 a2 a3 = .next t := ⟨_, rfl⟩
theorem execDmUnpause_next {a0 a1 a2 a3} : ∃ t, execDmUnpause a0 a1 a2 a3 = .next t := ⟨_, rfl⟩
theorem execDmResume_next {a0 a1 a2 a3} : ∃ t, execDmResume a0 a1 a2 a3 = .next t := ⟨_, rfl⟩
theorem execDmEnd_next {a0 a1 a2 a3} : ∃ t, execDmEnd a0 a1 a2 a3 = .next t := ⟨_, rfl⟩
theorem execDmBurstFail_next {a0 a1 a2 a3 a4 a5} : ∃ t, execDmBurstFail a0 a1 a2 a3 a4 a5 = .next t := ⟨_, rfl⟩
theorem execDmRetryTimer_next {a0 a1 a2} : ∃ t, execDmRetryTimer a0 a1 a2 = .next t := ⟨_, rfl⟩
theorem execDmPoisonHalt_next {a0 a1 a2 a3 a4} : ∃ t, execDmPoisonHalt a0 a1 a2 a3 a4 = .next t := ⟨_, rfl⟩
theorem execDmTransferDone_next {a0 a1 a2 a3} : ∃ t, execDmTransferDone a0 a1 a2 a3 = .next t := ⟨_, rfl⟩
theorem execDmHwRequest_next {a0 a1 a2} : ∃ t, execDmHwRequest a0 a1 a2 = .next t := ⟨_, rfl⟩
theorem execDmHwWithdraw_next {a0 a1 a2 a3} : ∃ t, execDmHwWithdraw a0 a1 a2 a3 = .next t := ⟨_, rfl⟩
theorem execDmCountClear_next {a0 a1 a2} : ∃ t, execDmCountClear a0 a1 a2 = .next t := ⟨_, rfl⟩
theorem execFaultReport_next {a0 a1} : ∃ t, execFaultReport a0 a1 = .next t := ⟨_, rfl⟩
theorem execFltRelease_next {a0 a1 a2} : ∃ t, execFltRelease a0 a1 a2 = .next t := ⟨_, rfl⟩
theorem execFltClrAll_next {a0 a1 a2} : ∃ t, execFltClrAll a0 a1 a2 = .next t := ⟨_, rfl⟩
theorem execFltClrFirst_next {a0 a1 a2} : ∃ t, execFltClrFirst a0 a1 a2 = .next t := ⟨_, rfl⟩
theorem execFltSrcClr_next {a0 a1 a2 a3} : ∃ t, execFltSrcClr a0 a1 a2 a3 = .next t := by
  unfold execFltSrcClr
  try dsimp only
  repeat' first | exact ⟨_, rfl⟩ | split
theorem execLogCommit_next {a0 a1} : ∃ t, execLogCommit a0 a1 = .next t := ⟨_, rfl⟩
theorem execHkSlot_next {a0 a1} : ∃ t, execHkSlot a0 a1 = .next t := ⟨_, rfl⟩
theorem execHkRoundEnd_next {a0 a1} : ∃ t, execHkRoundEnd a0 a1 = .next t := ⟨_, rfl⟩
theorem execHkInjStart_next {a0 a1 a2} : ∃ t, execHkInjStart a0 a1 a2 = .next t := ⟨_, rfl⟩
theorem execThmClrSuspect_next {a0 a1 a2} : ∃ t, execThmClrSuspect a0 a1 a2 = .next t := ⟨_, rfl⟩
theorem execThmClrPic_next {a0 a1 a2} : ∃ t, execThmClrPic a0 a1 a2 = .next t := ⟨_, rfl⟩
theorem execSecPassword_next {a0 a1 a2} : ∃ t, execSecPassword a0 a1 a2 = .next t := ⟨_, rfl⟩
theorem execSecChallenge_next {a0 a1 a2} : ∃ t, execSecChallenge a0 a1 a2 = .next t := ⟨_, rfl⟩
theorem execSecRespond_next {a0 a1 a2} : ∃ t, execSecRespond a0 a1 a2 = .next t := ⟨_, rfl⟩
theorem execSecClose_next {a0 a1 a2} : ∃ t, execSecClose a0 a1 a2 = .next t := ⟨_, rfl⟩
theorem execSecEnrol_next {a0 a1 a2} : ∃ t, execSecEnrol a0 a1 a2 = .next t := ⟨_, rfl⟩
theorem execSecRaiseFloor_next {a0 a1 a2} : ∃ t, execSecRaiseFloor a0 a1 a2 = .next t := ⟨_, rfl⟩
theorem execFuseProgramDone_next {a0 a1 a2} : ∃ t, execFuseProgramDone a0 a1 a2 = .next t := by
  unfold execFuseProgramDone
  try dsimp only
  repeat' first | exact ⟨_, rfl⟩ | split
theorem execNonceExpiry_next {a0 a1} : ∃ t, execNonceExpiry a0 a1 = .next t := by
  unfold execNonceExpiry
  try dsimp only
  repeat' first | exact ⟨_, rfl⟩ | split
theorem execPmcClrAll_next {a0 a1 a2} : ∃ t, execPmcClrAll a0 a1 a2 = .next t := ⟨_, rfl⟩
theorem execPmcFreeze_next {a0 a1 a2} : ∃ t, execPmcFreeze a0 a1 a2 = .next t := ⟨_, rfl⟩
theorem execPmcUnfreeze_next {a0 a1 a2} : ∃ t, execPmcUnfreeze a0 a1 a2 = .next t := ⟨_, rfl⟩
theorem execPmcCntWrite_next {a0 a1 a2 a3} : ∃ t, execPmcCntWrite a0 a1 a2 a3 = .next t := ⟨_, rfl⟩
theorem execPmcEvtWrite_next {a0 a1 a2 a3} : ∃ t, execPmcEvtWrite a0 a1 a2 a3 = .next t := ⟨_, rfl⟩
theorem execPmcCounterWrap_next {a0 a1 a2} : ∃ t, execPmcCounterWrap a0 a1 a2 = .next t := by
  unfold execPmcCounterWrap
  try dsimp only
  repeat' first | exact ⟨_, rfl⟩ | split
theorem execPmcWindowEnd_next {a0 a1 a2} : ∃ t, execPmcWindowEnd a0 a1 a2 = .next t := by
  unfold execPmcWindowEnd
  try dsimp only
  repeat' first | exact ⟨_, rfl⟩ | split
theorem execPllUnlock_next {a0} : ∃ t, execPllUnlock a0 = .next t := by
  unfold execPllUnlock
  try dsimp only
  repeat' first | exact ⟨_, rfl⟩ | split
theorem execPllRelock_next {a0} : ∃ t, execPllRelock a0 = .next t := by
  unfold execPllRelock
  try dsimp only
  repeat' first | exact ⟨_, rfl⟩ | split
theorem execJtagInstruction_next {a0 a1} : ∃ t, execJtagInstruction a0 a1 = .next t := ⟨_, rfl⟩
theorem execWatchdog_next {a0 a1} : ∃ t, execWatchdog a0 a1 = .next t := by
  unfold execWatchdog
  try dsimp only
  repeat' first | exact ⟨_, rfl⟩ | split
theorem execLinkUp_next {a0 a1 a2 a3 a4 a5 a6} : ∃ t, execLinkUp a0 a1 a2 a3 a4 a5 a6 = .next t := by
  unfold execLinkUp
  try dsimp only
  repeat' first | exact ⟨_, rfl⟩ | split
theorem execToutPulseEnd_next {a0 a1} : ∃ t, execToutPulseEnd a0 a1 = .next t := by
  unfold execToutPulseEnd
  try dsimp only
  repeat' first | exact ⟨_, rfl⟩ | split

/-- Every command answers a next state in every state. -/
theorem exec_next (c : Instr) (s : State) : ∃ t, exec c s = .next t := by
  cases c
  · exact execFabLoad_next
  · exact execFabLoadDeferredRead_next
  · exact execFabLoadEnd_next
  · exact execFabEnable_next
  · exact execFabDisable_next
  · exact execHealthMarkWrite_next
  · exact execSiteBiasEnable_next
  · exact execSiteSenseEnable_next
  · exact execSiteBiasFault_next
  · exact execSiteCheckStart_next
  · exact execSiteCheckStop_next
  · exact execSiteCheckDone_next
  · exact execUpdateTick_next
  · exact execDrvQueueWrite_next
  · exact execDrvQueueFlush_next
  · exact execDrvSlewWrite_next
  · exact execDrvCountClear_next
  · exact execPreEmphasisEnd_next
  · exact execDrvSpareRequest_next
  · exact execDrvSpareRelease_next
  · exact execDrvSpareTrackingDone_next
  · exact execFineLaneInstant_next
  · exact execResultQueueAgeExpiry_next
  · exact execMonCfgWrite_next
  · exact execMonGridAlignRequest_next
  · exact execGridAlign_next
  · exact execMonInjectStart_next
  · exact execMonInjectStop_next
  · exact execMonDiagStart_next
  · exact execMonDiagStop_next
  · exact execMonDiagDone_next
  · exact execMonCountClear_next
  · exact execResultQueueEnable_next
  · exact execResultQueueDisable_next
  · exact execMonSpareRequest_next
  · exact execMonSpareRelease_next
  · exact execMonSpareReadinessDone_next
  · exact execMonPortCfgWrite_next
  · exact execRouteLookup_next
  · exact execRoutePreload_next
  · exact execRouteSolve_next
  · exact execRouteInvalidate_next
  · exact execRouteFlush_next
  · exact execRouteRehash_next
  · exact execCacheInsert_next
  · exact execCacheAgeSweep_next
  · exact execRehashDone_next
  · exact execCacheClearDone_next
  · exact execRouteCountClear_next
  · exact execMapBaste_next
  · exact execBasteComplete_next
  · exact execGust_next
  · exact execGustPreloadStart_next
  · exact execGustArmed_next
  · exact execGustTrigger_next
  · exact execTrigInEdge_next
  · exact execGustVerify_next
  · exact execGustReverify_next
  · exact execLullEnd_next
  · exact execDraughtPoint_next
  · exact execDraughtEnd_next
  · exact execGustCountClear_next
  · exact execLoopInstant_next
  · exact execLoopOutputApply_next
  · exact execLoopModeManual_next
  · exact execLoopModeAuto_next
  · exact execLoopCellModeWrite_next
  · exact execClrStrike_next
  · exact execLoopClsHoldWrite_next
  · exact execLoopClassWrite_next
  · exact execLoopSet_next
  · exact execSquallStart_next
  · exact execSquallStop_next
  · exact execSquallEnd_next
  · exact execLoopCountClear_next
  · exact execDrtTauWrite_next
  · exact execDrtCommit_next
  · exact execDrtInvalidate_next
  · exact execDrtCountClear_next
  · exact execPpsEdge_next
  · exact execPpsLost_next
  · exact execPpsPhaseEnd_next
  · exact execSecondsArm_next
  · exact execTimedActionDue_next
  · exact execSchedLoad_next
  · exact execSchedCommit_next
  · exact execSchedStop_next
  · exact execSchedStopAtEnd_next
  · exact execSchedCancel_next
  · exact execSchedStart_next
  · exact execScheduleEdge_next
  · exact execTimePulse_next
  · exact execToutEnable_next
  · exact execToutPulse_next
  · exact execCalRun_next
  · exact execCalRunEnd_next
  · exact execCalSetLoad_next
  · exact execCharTable_next
  · exact execCharCoupling_next
  · exact execCharTrimSweep_next
  · exact execCharThrowSweep_next
  · exact execCouplingRunEnd_next
  · exact execCharRunEnd_next
  · exact execCalIdle_next
  · exact execCalIdleLapse_next
  · exact execCalAbort_next
  · exact execCalSeqStop_next
  · exact execCalHashDrt_next
  · exact execDrtHashDone_next
  · exact execPerstAssert_next
  · exact execPerstRelease_next
  · exact execHotReset_next
  · exact execLinkDown_next
  · exact execFlrPf_next
  · exact execFlrVf_next
  · exact execLinkRetrain_next
  · exact execD3hotEntry_next
  · exact execD3hotExit_next
  · exact execLinkError_next
  · exact execHlCountClear_next
  · exact execRegisterWrite_next
  · exact execBadAccessRead_next
  · exact execLatchingRead_next
  · exact execClearOnRead_next
  · exact execHostReadFail_next
  · exact execQueuePoll_next
  · exact execDescriptorFetch_next
  · exact execArbitrationGrant_next
  · exact execBucketRefill_next
  · exact execCompletionPost_next
  · exact execRingInterruptTimer_next
  · exact execFunctionEnable_next
  · exact execFunctionDisable_next
  · exact execSqEnable_next
  · exact execSqDisable_next
  · exact execCqEnable_next
  · exact execCqDisable_next
  · exact execEqEnable_next
  · exact execTrEnable_next
  · exact execQCountClear_next
  · exact execNop_next
  · exact execMapQuery_next
  · exact execMove_next
  · exact execTelemCtrl_next
  · exact execElementDirectCodes_next
  · exact execElementDirectRead_next
  · exact execSpareMapSubstitute_next
  · exact execSpareMapRelease_next
  · exact execFaultCtrlRead_next
  · exact execFaultCtrlClear_next
  · exact execFaultCtrlConfig_next
  · exact execStateSave_next
  · exact execAttest_next
  · exact execFwStageStage_next
  · exact execFwStageActivate_next
  · exact execFwStageDiscard_next
  · exact execFlashWriteDone_next
  · exact execRecCtrlStatus_next
  · exact execRecFreeze_next
  · exact execRecRelease_next
  · exact execRecSizeSet_next
  · exact execRecModeSet_next
  · exact execRecTriggersSet_next
  · exact execRecPostExpiry_next
  · exact execRecPullStart_next
  · exact execRecPullEnd_next
  · exact execReplayStart_next
  · exact execReplayStop_next
  · exact execReplayEnd_next
  · exact execTknClaim_next
  · exact execTknRenew_next
  · exact execTknRelease_next
  · exact execTknResume_next
  · exact execTknRehStart_next
  · exact execTknRehCall_next
  · exact execTknRehDismiss_next
  · exact execTknRehReport_next
  · exact execLeaseExpiry_next
  · exact execFirmwareVerified_next
  · exact execGraceEnd_next
  · exact execClaimDeadline_next
  · exact execUnitBootFail_next
  · exact execReservationExpiry_next
  · exact execImageSavePeriodic_next
  · exact execImageSaveEvent_next
  · exact execRehearsalAutoDue_next
  · exact execRehearsalTimeout_next
  · exact execRevertRehearsalDue_next
  · exact execWtrExpiry_next
  · exact execSuccessorReadyTimeout_next
  · exact execPorRise_next
  · exact execColdReset_next
  · exact execPllLock_next
  · exact execDramTrained_next
  · exact execDramInitDone_next
  · exact execPeerCallTimeout_next
  · exact execResetNAssert_next
  · exact execPwrRstDevice_next
  · exact execPwrRstUnit_next
  · exact execPwrCuSelfReset_next
  · exact execWarmResetRelease_next
  · exact execDrivePowerDown_next
  · exact execVanaLow_next
  · exact execVcoreLow_next
  · exact execVphyLow_next
  · exact execDriveRailLow_next
  · exact execVioLow_next
  · exact execSupplyMonitorRelease_next
  · exact execDramScrub_next
  · exact execRowCopyDone_next
  · exact execBankCopyDone_next
  · exact execMemSpareBank_next
  · exact execFuseCommitDone_next
  · exact execMemProbe_next
  · exact execMemCountClear_next
  · exact execSpPstateWrite_next
  · exact execSpPstateDone_next
  · exact execSpOwnerWrite_next
  · exact execSpRetireCmd_next
  · exact execSpRetireDone_next
  · exact execDmStart_next
  · exact execDmPause_next
  · exact execDmPaused_next
  · exact execDmUnpause_next
  · exact execDmResume_next
  · exact execDmEnd_next
  · exact execDmBurstFail_next
  · exact execDmRetryTimer_next
  · exact execDmPoisonHalt_next
  · exact execDmTransferDone_next
  · exact execDmHwRequest_next
  · exact execDmHwWithdraw_next
  · exact execDmCountClear_next
  · exact execFaultReport_next
  · exact execFltRelease_next
  · exact execFltClrAll_next
  · exact execFltClrFirst_next
  · exact execFltSrcClr_next
  · exact execLogCommit_next
  · exact execHkSlot_next
  · exact execHkRoundEnd_next
  · exact execHkInjStart_next
  · exact execThmClrSuspect_next
  · exact execThmClrPic_next
  · exact execSecPassword_next
  · exact execSecChallenge_next
  · exact execSecRespond_next
  · exact execSecClose_next
  · exact execSecEnrol_next
  · exact execSecRaiseFloor_next
  · exact execFuseProgramDone_next
  · exact execNonceExpiry_next
  · exact execPmcClrAll_next
  · exact execPmcFreeze_next
  · exact execPmcUnfreeze_next
  · exact execPmcCntWrite_next
  · exact execPmcEvtWrite_next
  · exact execPmcCounterWrap_next
  · exact execPmcWindowEnd_next
  · exact execPllUnlock_next
  · exact execPllRelock_next
  · exact execJtagInstruction_next
  · exact execWatchdog_next
  · exact execLinkUp_next
  · exact execToutPulseEnd_next

end Sys2Proof.Machine
end

