-- ==== Sys2Proof/Laws/Frame.lean ====
section
/-! SUPPORT. What the shared operations leave alone: the recorder's (`RecOnly`), and those of completions, events and messages (`UnitOnly`). -/
namespace Sys2Proof.Machine

theorem RecOnly.refl (s : State) : RecOnly s s := ⟨fun _ _ => rfl, rfl, rfl⟩

theorem RecOnly.trans {s t u : State} (a : RecOnly s t) (b : RecOnly t u) : RecOnly s u := by
  refine ⟨fun k hk => (b.regs k hk).trans (a.regs k hk), ?_, ?_⟩
  · have h1 := congrArg (fun x : State => { x with regs := s.regs, recd := s.recd }) b.rest
    exact h1.trans a.rest
  · have h1 := congrArg (fun x : RecSt => { x with ring := s.recd.ring, open_ := s.recd.open_, used := s.recd.used, mode := s.recd.mode,
                                                   gap := s.recd.gap, lost := s.recd.lost, bseq := s.recd.bseq, rpMade := s.recd.rpMade }) b.recd
    exact h1.trans a.recd

/-! ### What `RecOnly` says field by field -/

theorem RecOnly.pending {s t : State} (h : RecOnly s t) : t.pending = s.pending := by have e := congrArg State.pending h.rest; exact e
theorem RecOnly.part {s t : State} (h : RecOnly s t) : t.part = s.part := by have e := congrArg State.part h.rest; exact e
theorem RecOnly.fresh {s t : State} (h : RecOnly s t) : t.fresh = s.fresh := by have e := congrArg State.fresh h.rest; exact e
theorem RecOnly.latch {s t : State} (h : RecOnly s t) : t.latch = s.latch := by have e := congrArg State.latch h.rest; exact e
theorem RecOnly.time {s t : State} (h : RecOnly s t) : t.time = s.time := by have e := congrArg State.time h.rest; exact e
theorem RecOnly.fab {s t : State} (h : RecOnly s t) : t.fab = s.fab := by have e := congrArg State.fab h.rest; exact e
theorem RecOnly.site {s t : State} (h : RecOnly s t) : t.site = s.site := by have e := congrArg State.site h.rest; exact e
theorem RecOnly.drv {s t : State} (h : RecOnly s t) : t.drv = s.drv := by have e := congrArg State.drv h.rest; exact e
theorem RecOnly.mon {s t : State} (h : RecOnly s t) : t.mon = s.mon := by have e := congrArg State.mon h.rest; exact e
theorem RecOnly.rte {s t : State} (h : RecOnly s t) : t.rte = s.rte := by have e := congrArg State.rte h.rest; exact e
theorem RecOnly.gst {s t : State} (h : RecOnly s t) : t.gst = s.gst := by have e := congrArg State.gst h.rest; exact e
theorem RecOnly.loop {s t : State} (h : RecOnly s t) : t.loop = s.loop := by have e := congrArg State.loop h.rest; exact e
theorem RecOnly.drt {s t : State} (h : RecOnly s t) : t.drt = s.drt := by have e := congrArg State.drt h.rest; exact e
theorem RecOnly.cal {s t : State} (h : RecOnly s t) : t.cal = s.cal := by have e := congrArg State.cal h.rest; exact e
theorem RecOnly.sch {s t : State} (h : RecOnly s t) : t.sch = s.sch := by have e := congrArg State.sch h.rest; exact e
theorem RecOnly.tkn {s t : State} (h : RecOnly s t) : t.tkn = s.tkn := by have e := congrArg State.tkn h.rest; exact e
theorem RecOnly.flt {s t : State} (h : RecOnly s t) : t.flt = s.flt := by have e := congrArg State.flt h.rest; exact e
theorem RecOnly.pwr {s t : State} (h : RecOnly s t) : t.pwr = s.pwr := by have e := congrArg State.pwr h.rest; exact e
theorem RecOnly.mem {s t : State} (h : RecOnly s t) : t.mem = s.mem := by have e := congrArg State.mem h.rest; exact e
theorem RecOnly.thm {s t : State} (h : RecOnly s t) : t.thm = s.thm := by have e := congrArg State.thm h.rest; exact e
theorem RecOnly.sec {s t : State} (h : RecOnly s t) : t.sec = s.sec := by have e := congrArg State.sec h.rest; exact e
theorem RecOnly.attests {s t : State} (h : RecOnly s t) : t.attests = s.attests := by have e := congrArg State.attests h.rest; exact e
theorem RecOnly.ua {s t : State} (h : RecOnly s t) : t.ua = s.ua := by have e := congrArg State.ua h.rest; exact e
theorem RecOnly.ub {s t : State} (h : RecOnly s t) : t.ub = s.ub := by have e := congrArg State.ub h.rest; exact e
theorem RecOnly.recd_pull {s t : State} (h : RecOnly s t) : t.recd.pull = s.recd.pull := by have e := congrArg RecSt.pull h.recd; exact e
theorem RecOnly.recd_pulled {s t : State} (h : RecOnly s t) : t.recd.pulled = s.recd.pulled := by have e := congrArg RecSt.pulled h.recd; exact e
theorem RecOnly.recd_postTrig {s t : State} (h : RecOnly s t) : t.recd.postTrig = s.recd.postTrig := by have e := congrArg RecSt.postTrig h.recd; exact e
theorem RecOnly.recd_replay {s t : State} (h : RecOnly s t) : t.recd.replay = s.recd.replay := by have e := congrArg RecSt.replay h.recd; exact e
theorem RecOnly.recd_rpWant {s t : State} (h : RecOnly s t) : t.recd.rpWant = s.recd.rpWant := by have e := congrArg RecSt.rpWant h.recd; exact e
theorem RecOnly.recd_rpEnd {s t : State} (h : RecOnly s t) : t.recd.rpEnd = s.recd.rpEnd := by have e := congrArg RecSt.rpEnd h.recd; exact e
theorem RecOnly.recd_rpAt {s t : State} (h : RecOnly s t) : t.recd.rpAt = s.recd.rpAt := by have e := congrArg RecSt.rpAt h.recd; exact e
theorem RecOnly.recd_lastCkpt {s t : State} (h : RecOnly s t) : t.recd.lastCkpt = s.recd.lastCkpt := by have e := congrArg RecSt.lastCkpt h.recd; exact e
theorem RecOnly.recd_ckptDue {s t : State} (h : RecOnly s t) : t.recd.ckptDue = s.recd.ckptDue := by have e := congrArg RecSt.ckptDue h.recd; exact e
theorem RecOnly.recd_cap {s t : State} (h : RecOnly s t) : t.recd.cap = s.recd.cap := by have e := congrArg RecSt.cap h.recd; exact e

namespace State

theorem closeBlock_only (f : Bool) (s : State) : RecOnly s (s.closeBlock f) := by
  unfold closeBlock
  refine ⟨fun k hk => ?_, ?_, ?_⟩
  rotate_left
  · simp only [setReg, setReg64, setField]
  · simp only [setReg, setReg64, setField]
  simp only [recKeys, List.mem_cons, List.not_mem_nil, or_false, not_or] at hk
  rw [reg_setReg_ne _ hk.2.2.2, reg_setReg64_ne _ hk.2.1 hk.2.2.1, reg_setField_ne _ hk.1]
  rfl

theorem recPut_only (r : RecRec) (s : State) : RecOnly s (s.recPut r) := by
  have h : RecOnly s (if s.recd.used + recLen r > 2 ^ 20 then s.closeBlock false else s) := by
    split
    · exact closeBlock_only false s
    · exact RecOnly.refl s
  exact h.trans ⟨fun _ _ => rfl, rfl, rfl⟩

theorem recPieces_only (typ n : Nat) (l : List Byte) (s : State) : RecOnly s (recPieces typ n l s) := by
  induction n generalizing l s with
  | zero => exact RecOnly.refl s
  | succ n ih =>
    unfold recPieces
    split
    · exact recPut_only _ s
    · exact (recPut_only _ s).trans (ih _ _)

theorem recAppend_only (typ : Nat) (l : List Byte) (s : State) : RecOnly s (s.recAppend typ l) := by
  unfold recAppend
  split
  · split
    · exact ⟨fun _ _ => rfl, rfl, rfl⟩
    · exact RecOnly.refl s
  · split
    · exact recPieces_only _ _ _ s
    · exact RecOnly.refl s

theorem recEvent_only (sub : Nat) (l : List Byte) (s : State) : RecOnly s (s.recEvent sub l) := recAppend_only _ _ s

theorem recWrite_only (u : Cu) (k : Nat) (v : Word) (s : State) : RecOnly s (s.recWrite u k v) := recAppend_only _ _ s

/-! ### Field by field -/

@[simp] theorem recAppend_pending (typ : Nat) (l : List Byte) (s : State) : (s.recAppend typ l).pending = s.pending := (recAppend_only typ l s).pending
@[simp] theorem recAppend_part (typ : Nat) (l : List Byte) (s : State) : (s.recAppend typ l).part = s.part := (recAppend_only typ l s).part
@[simp] theorem recAppend_fresh (typ : Nat) (l : List Byte) (s : State) : (s.recAppend typ l).fresh = s.fresh := (recAppend_only typ l s).fresh
@[simp] theorem recAppend_latch (typ : Nat) (l : List Byte) (s : State) : (s.recAppend typ l).latch = s.latch := (recAppend_only typ l s).latch
@[simp] theorem recAppend_time (typ : Nat) (l : List Byte) (s : State) : (s.recAppend typ l).time = s.time := (recAppend_only typ l s).time
@[simp] theorem recAppend_fab (typ : Nat) (l : List Byte) (s : State) : (s.recAppend typ l).fab = s.fab := (recAppend_only typ l s).fab
@[simp] theorem recAppend_site (typ : Nat) (l : List Byte) (s : State) : (s.recAppend typ l).site = s.site := (recAppend_only typ l s).site
@[simp] theorem recAppend_drv (typ : Nat) (l : List Byte) (s : State) : (s.recAppend typ l).drv = s.drv := (recAppend_only typ l s).drv
@[simp] theorem recAppend_mon (typ : Nat) (l : List Byte) (s : State) : (s.recAppend typ l).mon = s.mon := (recAppend_only typ l s).mon
@[simp] theorem recAppend_rte (typ : Nat) (l : List Byte) (s : State) : (s.recAppend typ l).rte = s.rte := (recAppend_only typ l s).rte
@[simp] theorem recAppend_gst (typ : Nat) (l : List Byte) (s : State) : (s.recAppend typ l).gst = s.gst := (recAppend_only typ l s).gst
@[simp] theorem recAppend_loop (typ : Nat) (l : List Byte) (s : State) : (s.recAppend typ l).loop = s.loop := (recAppend_only typ l s).loop
@[simp] theorem recAppend_drt (typ : Nat) (l : List Byte) (s : State) : (s.recAppend typ l).drt = s.drt := (recAppend_only typ l s).drt
@[simp] theorem recAppend_cal (typ : Nat) (l : List Byte) (s : State) : (s.recAppend typ l).cal = s.cal := (recAppend_only typ l s).cal
@[simp] theorem recAppend_sch (typ : Nat) (l : List Byte) (s : State) : (s.recAppend typ l).sch = s.sch := (recAppend_only typ l s).sch
@[simp] theorem recAppend_tkn (typ : Nat) (l : List Byte) (s : State) : (s.recAppend typ l).tkn = s.tkn := (recAppend_only typ l s).tkn
@[simp] theorem recAppend_flt (typ : Nat) (l : List Byte) (s : State) : (s.recAppend typ l).flt = s.flt := (recAppend_only typ l s).flt
@[simp] theorem recAppend_pwr (typ : Nat) (l : List Byte) (s : State) : (s.recAppend typ l).pwr = s.pwr := (recAppend_only typ l s).pwr
@[simp] theorem recAppend_mem (typ : Nat) (l : List Byte) (s : State) : (s.recAppend typ l).mem = s.mem := (recAppend_only typ l s).mem
@[simp] theorem recAppend_thm (typ : Nat) (l : List Byte) (s : State) : (s.recAppend typ l).thm = s.thm := (recAppend_only typ l s).thm
@[simp] theorem recAppend_sec (typ : Nat) (l : List Byte) (s : State) : (s.recAppend typ l).sec = s.sec := (recAppend_only typ l s).sec
@[simp] theorem recAppend_attests (typ : Nat) (l : List Byte) (s : State) : (s.recAppend typ l).attests = s.attests := (recAppend_only typ l s).attests
@[simp] theorem recAppend_ua (typ : Nat) (l : List Byte) (s : State) : (s.recAppend typ l).ua = s.ua := (recAppend_only typ l s).ua
@[simp] theorem recAppend_ub (typ : Nat) (l : List Byte) (s : State) : (s.recAppend typ l).ub = s.ub := (recAppend_only typ l s).ub
@[simp] theorem recAppend_inReplay (typ : Nat) (l : List Byte) (s : State) : (s.recAppend typ l).inReplay = s.inReplay := (recAppend_only typ l s).recd_replay
@[simp] theorem recAppend_recd_pull (typ : Nat) (l : List Byte) (s : State) : (s.recAppend typ l).recd.pull = s.recd.pull := (recAppend_only typ l s).recd_pull
@[simp] theorem recAppend_recd_pulled (typ : Nat) (l : List Byte) (s : State) : (s.recAppend typ l).recd.pulled = s.recd.pulled := (recAppend_only typ l s).recd_pulled
@[simp] theorem recAppend_recd_postTrig (typ : Nat) (l : List Byte) (s : State) : (s.recAppend typ l).recd.postTrig = s.recd.postTrig := (recAppend_only typ l s).recd_postTrig
@[simp] theorem recAppend_recd_replay (typ : Nat) (l : List Byte) (s : State) : (s.recAppend typ l).recd.replay = s.recd.replay := (recAppend_only typ l s).recd_replay
@[simp] theorem recAppend_recd_rpWant (typ : Nat) (l : List Byte) (s : State) : (s.recAppend typ l).recd.rpWant = s.recd.rpWant := (recAppend_only typ l s).recd_rpWant
@[simp] theorem recAppend_recd_rpEnd (typ : Nat) (l : List Byte) (s : State) : (s.recAppend typ l).recd.rpEnd = s.recd.rpEnd := (recAppend_only typ l s).recd_rpEnd
@[simp] theorem recAppend_recd_rpAt (typ : Nat) (l : List Byte) (s : State) : (s.recAppend typ l).recd.rpAt = s.recd.rpAt := (recAppend_only typ l s).recd_rpAt
@[simp] theorem recAppend_recd_lastCkpt (typ : Nat) (l : List Byte) (s : State) : (s.recAppend typ l).recd.lastCkpt = s.recd.lastCkpt := (recAppend_only typ l s).recd_lastCkpt
@[simp] theorem recAppend_recd_ckptDue (typ : Nat) (l : List Byte) (s : State) : (s.recAppend typ l).recd.ckptDue = s.recd.ckptDue := (recAppend_only typ l s).recd_ckptDue
@[simp] theorem recAppend_recd_cap (typ : Nat) (l : List Byte) (s : State) : (s.recAppend typ l).recd.cap = s.recd.cap := (recAppend_only typ l s).recd_cap
@[simp] theorem recAppend_unit (typ : Nat) (l : List Byte) (s : State) (w : Cu) : (s.recAppend typ l).unit w = s.unit w := by cases w <;> simp [unit]
theorem recAppend_reg {k : Nat} (h : k ∉ recKeys) (typ : Nat) (l : List Byte) (s : State) : (s.recAppend typ l).reg k = s.reg k := (recAppend_only typ l s).regs k h

@[simp] theorem recEvent_pending (sub : Nat) (l : List Byte) (s : State) : (s.recEvent sub l).pending = s.pending := (recEvent_only sub l s).pending
@[simp] theorem recEvent_part (sub : Nat) (l : List Byte) (s : State) : (s.recEvent sub l).part = s.part := (recEvent_only sub l s).part
@[simp] theorem recEvent_fresh (sub : Nat) (l : List Byte) (s : State) : (s.recEvent sub l).fresh = s.fresh := (recEvent_only sub l s).fresh
@[simp] theorem recEvent_latch (sub : Nat) (l : List Byte) (s : State) : (s.recEvent sub l).latch = s.latch := (recEvent_only sub l s).latch
@[simp] theorem recEvent_time (sub : Nat) (l : List Byte) (s : State) : (s.recEvent sub l).time = s.time := (recEvent_only sub l s).time
@[simp] theorem recEvent_fab (sub : Nat) (l : List Byte) (s : State) : (s.recEvent sub l).fab = s.fab := (recEvent_only sub l s).fab
@[simp] theorem recEvent_site (sub : Nat) (l : List Byte) (s : State) : (s.recEvent sub l).site = s.site := (recEvent_only sub l s).site
@[simp] theorem recEvent_drv (sub : Nat) (l : List Byte) (s : State) : (s.recEvent sub l).drv = s.drv := (recEvent_only sub l s).drv
@[simp] theorem recEvent_mon (sub : Nat) (l : List Byte) (s : State) : (s.recEvent sub l).mon = s.mon := (recEvent_only sub l s).mon
@[simp] theorem recEvent_rte (sub : Nat) (l : List Byte) (s : State) : (s.recEvent sub l).rte = s.rte := (recEvent_only sub l s).rte
@[simp] theorem recEvent_gst (sub : Nat) (l : List Byte) (s : State) : (s.recEvent sub l).gst = s.gst := (recEvent_only sub l s).gst
@[simp] theorem recEvent_loop (sub : Nat) (l : List Byte) (s : State) : (s.recEvent sub l).loop = s.loop := (recEvent_only sub l s).loop
@[simp] theorem recEvent_drt (sub : Nat) (l : List Byte) (s : State) : (s.recEvent sub l).drt = s.drt := (recEvent_only sub l s).drt
@[simp] theorem recEvent_cal (sub : Nat) (l : List Byte) (s : State) : (s.recEvent sub l).cal = s.cal := (recEvent_only sub l s).cal
@[simp] theorem recEvent_sch (sub : Nat) (l : List Byte) (s : State) : (s.recEvent sub l).sch = s.sch := (recEvent_only sub l s).sch
@[simp] theorem recEvent_tkn (sub : Nat) (l : List Byte) (s : State) : (s.recEvent sub l).tkn = s.tkn := (recEvent_only sub l s).tkn
@[simp] theorem recEvent_flt (sub : Nat) (l : List Byte) (s : State) : (s.recEvent sub l).flt = s.flt := (recEvent_only sub l s).flt
@[simp] theorem recEvent_pwr (sub : Nat) (l : List Byte) (s : State) : (s.recEvent sub l).pwr = s.pwr := (recEvent_only sub l s).pwr
@[simp] theorem recEvent_mem (sub : Nat) (l : List Byte) (s : State) : (s.recEvent sub l).mem = s.mem := (recEvent_only sub l s).mem
@[simp] theorem recEvent_thm (sub : Nat) (l : List Byte) (s : State) : (s.recEvent sub l).thm = s.thm := (recEvent_only sub l s).thm
@[simp] theorem recEvent_sec (sub : Nat) (l : List Byte) (s : State) : (s.recEvent sub l).sec = s.sec := (recEvent_only sub l s).sec
@[simp] theorem recEvent_attests (sub : Nat) (l : List Byte) (s : State) : (s.recEvent sub l).attests = s.attests := (recEvent_only sub l s).attests
@[simp] theorem recEvent_ua (sub : Nat) (l : List Byte) (s : State) : (s.recEvent sub l).ua = s.ua := (recEvent_only sub l s).ua
@[simp] theorem recEvent_ub (sub : Nat) (l : List Byte) (s : State) : (s.recEvent sub l).ub = s.ub := (recEvent_only sub l s).ub
@[simp] theorem recEvent_inReplay (sub : Nat) (l : List Byte) (s : State) : (s.recEvent sub l).inReplay = s.inReplay := (recEvent_only sub l s).recd_replay
@[simp] theorem recEvent_recd_pull (sub : Nat) (l : List Byte) (s : State) : (s.recEvent sub l).recd.pull = s.recd.pull := (recEvent_only sub l s).recd_pull
@[simp] theorem recEvent_recd_pulled (sub : Nat) (l : List Byte) (s : State) : (s.recEvent sub l).recd.pulled = s.recd.pulled := (recEvent_only sub l s).recd_pulled
@[simp] theorem recEvent_recd_postTrig (sub : Nat) (l : List Byte) (s : State) : (s.recEvent sub l).recd.postTrig = s.recd.postTrig := (recEvent_only sub l s).recd_postTrig
@[simp] theorem recEvent_recd_replay (sub : Nat) (l : List Byte) (s : State) : (s.recEvent sub l).recd.replay = s.recd.replay := (recEvent_only sub l s).recd_replay
@[simp] theorem recEvent_recd_rpWant (sub : Nat) (l : List Byte) (s : State) : (s.recEvent sub l).recd.rpWant = s.recd.rpWant := (recEvent_only sub l s).recd_rpWant
@[simp] theorem recEvent_recd_rpEnd (sub : Nat) (l : List Byte) (s : State) : (s.recEvent sub l).recd.rpEnd = s.recd.rpEnd := (recEvent_only sub l s).recd_rpEnd
@[simp] theorem recEvent_recd_rpAt (sub : Nat) (l : List Byte) (s : State) : (s.recEvent sub l).recd.rpAt = s.recd.rpAt := (recEvent_only sub l s).recd_rpAt
@[simp] theorem recEvent_recd_lastCkpt (sub : Nat) (l : List Byte) (s : State) : (s.recEvent sub l).recd.lastCkpt = s.recd.lastCkpt := (recEvent_only sub l s).recd_lastCkpt
@[simp] theorem recEvent_recd_ckptDue (sub : Nat) (l : List Byte) (s : State) : (s.recEvent sub l).recd.ckptDue = s.recd.ckptDue := (recEvent_only sub l s).recd_ckptDue
@[simp] theorem recEvent_recd_cap (sub : Nat) (l : List Byte) (s : State) : (s.recEvent sub l).recd.cap = s.recd.cap := (recEvent_only sub l s).recd_cap
@[simp] theorem recEvent_unit (sub : Nat) (l : List Byte) (s : State) (w : Cu) : (s.recEvent sub l).unit w = s.unit w := by cases w <;> simp [unit]
theorem recEvent_reg {k : Nat} (h : k ∉ recKeys) (sub : Nat) (l : List Byte) (s : State) : (s.recEvent sub l).reg k = s.reg k := (recEvent_only sub l s).regs k h

@[simp] theorem recWrite_pending (u : Cu) (k : Nat) (v : Word) (s : State) : (s.recWrite u k v).pending = s.pending := (recWrite_only u k v s).pending
@[simp] theorem recWrite_part (u : Cu) (k : Nat) (v : Word) (s : State) : (s.recWrite u k v).part = s.part := (recWrite_only u k v s).part
@[simp] theorem recWrite_fresh (u : Cu) (k : Nat) (v : Word) (s : State) : (s.recWrite u k v).fresh = s.fresh := (recWrite_only u k v s).fresh
@[simp] theorem recWrite_latch (u : Cu) (k : Nat) (v : Word) (s : State) : (s.recWrite u k v).latch = s.latch := (recWrite_only u k v s).latch
@[simp] theorem recWrite_time (u : Cu) (k : Nat) (v : Word) (s : State) : (s.recWrite u k v).time = s.time := (recWrite_only u k v s).time
@[simp] theorem recWrite_fab (u : Cu) (k : Nat) (v : Word) (s : State) : (s.recWrite u k v).fab = s.fab := (recWrite_only u k v s).fab
@[simp] theorem recWrite_site (u : Cu) (k : Nat) (v : Word) (s : State) : (s.recWrite u k v).site = s.site := (recWrite_only u k v s).site
@[simp] theorem recWrite_drv (u : Cu) (k : Nat) (v : Word) (s : State) : (s.recWrite u k v).drv = s.drv := (recWrite_only u k v s).drv
@[simp] theorem recWrite_mon (u : Cu) (k : Nat) (v : Word) (s : State) : (s.recWrite u k v).mon = s.mon := (recWrite_only u k v s).mon
@[simp] theorem recWrite_rte (u : Cu) (k : Nat) (v : Word) (s : State) : (s.recWrite u k v).rte = s.rte := (recWrite_only u k v s).rte
@[simp] theorem recWrite_gst (u : Cu) (k : Nat) (v : Word) (s : State) : (s.recWrite u k v).gst = s.gst := (recWrite_only u k v s).gst
@[simp] theorem recWrite_loop (u : Cu) (k : Nat) (v : Word) (s : State) : (s.recWrite u k v).loop = s.loop := (recWrite_only u k v s).loop
@[simp] theorem recWrite_drt (u : Cu) (k : Nat) (v : Word) (s : State) : (s.recWrite u k v).drt = s.drt := (recWrite_only u k v s).drt
@[simp] theorem recWrite_cal (u : Cu) (k : Nat) (v : Word) (s : State) : (s.recWrite u k v).cal = s.cal := (recWrite_only u k v s).cal
@[simp] theorem recWrite_sch (u : Cu) (k : Nat) (v : Word) (s : State) : (s.recWrite u k v).sch = s.sch := (recWrite_only u k v s).sch
@[simp] theorem recWrite_tkn (u : Cu) (k : Nat) (v : Word) (s : State) : (s.recWrite u k v).tkn = s.tkn := (recWrite_only u k v s).tkn
@[simp] theorem recWrite_flt (u : Cu) (k : Nat) (v : Word) (s : State) : (s.recWrite u k v).flt = s.flt := (recWrite_only u k v s).flt
@[simp] theorem recWrite_pwr (u : Cu) (k : Nat) (v : Word) (s : State) : (s.recWrite u k v).pwr = s.pwr := (recWrite_only u k v s).pwr
@[simp] theorem recWrite_mem (u : Cu) (k : Nat) (v : Word) (s : State) : (s.recWrite u k v).mem = s.mem := (recWrite_only u k v s).mem
@[simp] theorem recWrite_thm (u : Cu) (k : Nat) (v : Word) (s : State) : (s.recWrite u k v).thm = s.thm := (recWrite_only u k v s).thm
@[simp] theorem recWrite_sec (u : Cu) (k : Nat) (v : Word) (s : State) : (s.recWrite u k v).sec = s.sec := (recWrite_only u k v s).sec
@[simp] theorem recWrite_attests (u : Cu) (k : Nat) (v : Word) (s : State) : (s.recWrite u k v).attests = s.attests := (recWrite_only u k v s).attests
@[simp] theorem recWrite_ua (u : Cu) (k : Nat) (v : Word) (s : State) : (s.recWrite u k v).ua = s.ua := (recWrite_only u k v s).ua
@[simp] theorem recWrite_ub (u : Cu) (k : Nat) (v : Word) (s : State) : (s.recWrite u k v).ub = s.ub := (recWrite_only u k v s).ub
@[simp] theorem recWrite_inReplay (u : Cu) (k : Nat) (v : Word) (s : State) : (s.recWrite u k v).inReplay = s.inReplay := (recWrite_only u k v s).recd_replay
@[simp] theorem recWrite_recd_pull (u : Cu) (k : Nat) (v : Word) (s : State) : (s.recWrite u k v).recd.pull = s.recd.pull := (recWrite_only u k v s).recd_pull
@[simp] theorem recWrite_recd_pulled (u : Cu) (k : Nat) (v : Word) (s : State) : (s.recWrite u k v).recd.pulled = s.recd.pulled := (recWrite_only u k v s).recd_pulled
@[simp] theorem recWrite_recd_postTrig (u : Cu) (k : Nat) (v : Word) (s : State) : (s.recWrite u k v).recd.postTrig = s.recd.postTrig := (recWrite_only u k v s).recd_postTrig
@[simp] theorem recWrite_recd_replay (u : Cu) (k : Nat) (v : Word) (s : State) : (s.recWrite u k v).recd.replay = s.recd.replay := (recWrite_only u k v s).recd_replay
@[simp] theorem recWrite_recd_rpWant (u : Cu) (k : Nat) (v : Word) (s : State) : (s.recWrite u k v).recd.rpWant = s.recd.rpWant := (recWrite_only u k v s).recd_rpWant
@[simp] theorem recWrite_recd_rpEnd (u : Cu) (k : Nat) (v : Word) (s : State) : (s.recWrite u k v).recd.rpEnd = s.recd.rpEnd := (recWrite_only u k v s).recd_rpEnd
@[simp] theorem recWrite_recd_rpAt (u : Cu) (k : Nat) (v : Word) (s : State) : (s.recWrite u k v).recd.rpAt = s.recd.rpAt := (recWrite_only u k v s).recd_rpAt
@[simp] theorem recWrite_recd_lastCkpt (u : Cu) (k : Nat) (v : Word) (s : State) : (s.recWrite u k v).recd.lastCkpt = s.recd.lastCkpt := (recWrite_only u k v s).recd_lastCkpt
@[simp] theorem recWrite_recd_ckptDue (u : Cu) (k : Nat) (v : Word) (s : State) : (s.recWrite u k v).recd.ckptDue = s.recd.ckptDue := (recWrite_only u k v s).recd_ckptDue
@[simp] theorem recWrite_recd_cap (u : Cu) (k : Nat) (v : Word) (s : State) : (s.recWrite u k v).recd.cap = s.recd.cap := (recWrite_only u k v s).recd_cap
@[simp] theorem recWrite_unit (u : Cu) (k : Nat) (v : Word) (s : State) (w : Cu) : (s.recWrite u k v).unit w = s.unit w := by cases w <;> simp [unit]
theorem recWrite_reg {k : Nat} (h : k ∉ recKeys) (u : Cu) (j : Nat) (v : Word) (s : State) : (s.recWrite u j v).reg k = s.reg k := (recWrite_only u j v s).regs k h

end State
end Sys2Proof.Machine
end

