-- ==== Sys2Proof/Laws/UnitFrame.lean ====
section
/-! SUPPORT. Completions, events, messages and event counters touch the units' own parts and registers only (`UnitOnly`). -/
namespace Sys2Proof.Machine

theorem unitKey_ge (u : Cu) (n : Nat) : 0x1000000 ≤ unitKey u n := by
  unfold unitKey; cases u <;> simp only [Cu.num] <;> omega

namespace UnitOnly

theorem refl (s : State) : UnitOnly s s := ⟨fun _ _ => rfl, rfl⟩

theorem trans {s t u : State} (a : UnitOnly s t) (b : UnitOnly t u) : UnitOnly s u := by
  refine ⟨fun k hk => (b.regs k hk).trans (a.regs k hk), ?_⟩
  have h := congrArg (fun x : State => { x with regs := s.regs, ua := s.ua, ub := s.ub }) b.rest
  exact h.trans a.rest

theorem setReg {s t : State} (h : UnitOnly s t) {k : Nat} (hk : 0x1000000 ≤ k) (v : Word) : UnitOnly s (t.setReg k v) :=
  h.trans ⟨fun j hj => State.reg_setReg_ne _ (by omega) v, rfl⟩

theorem setUnit {s t : State} (h : UnitOnly s t) (u : Cu) (x : UnitSt) : UnitOnly s (t.setUnit u x) :=
  h.trans ⟨fun _ _ => State.reg_setUnit _ u x _, by cases u <;> rfl⟩

theorem foldl {α : Type} {f : State → α → State} (hf : ∀ t x, UnitOnly t (f t x)) (l : List α) {s t : State} (h : UnitOnly s t) :
    UnitOnly s (l.foldl f t) := by
  induction l generalizing t with
  | nil => exact h
  | cons x r ih => exact ih (h.trans (hf t x))

theorem ite {s a b : State} {c : Prop} [Decidable c] (ha : UnitOnly s a) (hb : UnitOnly s b) : UnitOnly s (if c then a else b) := by
  split <;> assumption

end UnitOnly

/-! ### What `UnitOnly` says field by field -/

theorem UnitOnly.pending {s t : State} (h : UnitOnly s t) : t.pending = s.pending := by have e := congrArg State.pending h.rest; exact e
theorem UnitOnly.part {s t : State} (h : UnitOnly s t) : t.part = s.part := by have e := congrArg State.part h.rest; exact e
theorem UnitOnly.fresh {s t : State} (h : UnitOnly s t) : t.fresh = s.fresh := by have e := congrArg State.fresh h.rest; exact e
theorem UnitOnly.latch {s t : State} (h : UnitOnly s t) : t.latch = s.latch := by have e := congrArg State.latch h.rest; exact e
theorem UnitOnly.time {s t : State} (h : UnitOnly s t) : t.time = s.time := by have e := congrArg State.time h.rest; exact e
theorem UnitOnly.fab {s t : State} (h : UnitOnly s t) : t.fab = s.fab := by have e := congrArg State.fab h.rest; exact e
theorem UnitOnly.site {s t : State} (h : UnitOnly s t) : t.site = s.site := by have e := congrArg State.site h.rest; exact e
theorem UnitOnly.drv {s t : State} (h : UnitOnly s t) : t.drv = s.drv := by have e := congrArg State.drv h.rest; exact e
theorem UnitOnly.mon {s t : State} (h : UnitOnly s t) : t.mon = s.mon := by have e := congrArg State.mon h.rest; exact e
theorem UnitOnly.rte {s t : State} (h : UnitOnly s t) : t.rte = s.rte := by have e := congrArg State.rte h.rest; exact e
theorem UnitOnly.gst {s t : State} (h : UnitOnly s t) : t.gst = s.gst := by have e := congrArg State.gst h.rest; exact e
theorem UnitOnly.loop {s t : State} (h : UnitOnly s t) : t.loop = s.loop := by have e := congrArg State.loop h.rest; exact e
theorem UnitOnly.drt {s t : State} (h : UnitOnly s t) : t.drt = s.drt := by have e := congrArg State.drt h.rest; exact e
theorem UnitOnly.cal {s t : State} (h : UnitOnly s t) : t.cal = s.cal := by have e := congrArg State.cal h.rest; exact e
theorem UnitOnly.sch {s t : State} (h : UnitOnly s t) : t.sch = s.sch := by have e := congrArg State.sch h.rest; exact e
theorem UnitOnly.tkn {s t : State} (h : UnitOnly s t) : t.tkn = s.tkn := by have e := congrArg State.tkn h.rest; exact e
theorem UnitOnly.flt {s t : State} (h : UnitOnly s t) : t.flt = s.flt := by have e := congrArg State.flt h.rest; exact e
theorem UnitOnly.pwr {s t : State} (h : UnitOnly s t) : t.pwr = s.pwr := by have e := congrArg State.pwr h.rest; exact e
theorem UnitOnly.recd {s t : State} (h : UnitOnly s t) : t.recd = s.recd := by have e := congrArg State.recd h.rest; exact e
theorem UnitOnly.mem {s t : State} (h : UnitOnly s t) : t.mem = s.mem := by have e := congrArg State.mem h.rest; exact e
theorem UnitOnly.thm {s t : State} (h : UnitOnly s t) : t.thm = s.thm := by have e := congrArg State.thm h.rest; exact e
theorem UnitOnly.sec {s t : State} (h : UnitOnly s t) : t.sec = s.sec := by have e := congrArg State.sec h.rest; exact e
theorem UnitOnly.attests {s t : State} (h : UnitOnly s t) : t.attests = s.attests := by have e := congrArg State.attests h.rest; exact e

namespace State
open UnitOnly

theorem orReg_unit (s : State) {k : Nat} (hk : 0x1000000 ≤ k) (m : Nat) : UnitOnly s (s.orReg k m) := (refl s).setReg hk _
theorem clrReg_unit (s : State) {k : Nat} (hk : 0x1000000 ≤ k) (m : Nat) : UnitOnly s (s.clrReg k m) := (refl s).setReg hk _
theorem bump_unit (s : State) {k : Nat} (hk : 0x1000000 ≤ k) (hi lo n : Nat) : UnitOnly s (s.bump k hi lo n) := (refl s).setReg hk _
theorem wrapInc_unit (s : State) {k : Nat} (hk : 0x1000000 ≤ k) : UnitOnly s (s.wrapInc k) := (refl s).setReg hk _
theorem setFn_unit (s : State) (u : Cu) (f : Nat) (x : Fn) : UnitOnly s (s.setFn u f x) := (refl s).setUnit u _
theorem setCq_unit (s : State) (u : Cu) (f c : Nat) (x : Cq) : UnitOnly s (s.setCq u f c x) := setFn_unit s u f _
theorem hostWrite_unit (s : State) (u : Cu) (a : Nat) (l : List Byte) : UnitOnly s (s.hostWrite u a l) := (refl s).setUnit u _
theorem landFlight_unit (s : State) (u : Cu) (f q tag : Nat) : UnitOnly s (s.landFlight u f q tag) := (refl s).setUnit u _

theorem landRec_unit (s : State) (u : Cu) (f : Nat) (r : CqRec) : UnitOnly s (s.landRec u f r) := by
  unfold landRec; exact ite (refl s) (landFlight_unit s u f _ _)

theorem sendMsix_unit (s : State) (u : Cu) (f v : Nat) : UnitOnly s (s.sendMsix u f v) := by
  unfold sendMsix; exact ite (setFn_unit s u f _) ((refl s).setUnit u _)

theorem qSticky_unit (s : State) (u : Cu) (f : Nat) {k : Nat} (hk : 0x1000000 ≤ k) (m : Nat) : UnitOnly s (s.qSticky u f k m) :=
  (orReg_unit s hk m).trans (sendMsix_unit _ u f 0)

theorem loseRecord_unit (s : State) (u : Cu) : UnitOnly s (s.loseRecord u) :=
  (bump_unit s (unitKey_ge u _) _ _ _).trans (orReg_unit _ (unitKey_ge u _) _)

theorem pmcAdd_unit (s : State) (u : Cu) (n k : Nat) : UnitOnly s (s.pmcAdd u n k) := by
  have h1 : UnitOnly s (s.setReg (Reg.PMC_CNT u n) (word (s.rnat (Reg.PMC_CNT u n) + k))) := (refl s).setReg (unitKey_ge u _) _
  unfold pmcAdd
  refine ite h1 (ite ?_ (h1.trans (orReg_unit _ (unitKey_ge u _) _)))
  have h2 := h1.setReg (k := Reg.PMC_CNT u (n + 1)) (unitKey_ge u _) (word (s.rnat (Reg.PMC_CNT u (n + 1)) + (s.rnat (Reg.PMC_CNT u n) + k) / 2 ^ 32))
  exact ite h2 (h2.trans (orReg_unit _ (unitKey_ge u _) _))

theorem pmcEvent_unit (s : State) (u : Cu) (code qual k : Nat) : UnitOnly s (s.pmcEvent u code qual k) := by
  unfold pmcEvent
  exact ite (foldl (fun t n => ite (refl t) (pmcAdd_unit t u n k)) _ (refl s)) (refl s)

theorem writeEq_unit (s : State) (u : Cu) (f : Nat) (e : EvRec) : UnitOnly s (s.writeEq u f e) := by
  unfold writeEq
  refine ite ?_ ?_
  · exact ((setFn_unit s u f _).trans (bump_unit _ (unitKey_ge u _) _ _ _)).trans (qSticky_unit _ u f (unitKey_ge u _) _)
  · have h := (((hostWrite_unit s u (s.rnat64 (Reg.Q_EQ_LO u f) (Reg.Q_EQ_HI u f) + 32 * ((s.fn u f).eq.tail %
      2 ^ clampN (field (s.reg (Reg.Q_EQ_CFG u f)) 3 0) 4 12)) (s.evBytes e (s.fn u f).eq.lostOwed (s.fn u f).eq.phase)).trans
      (pmcEvent_unit _ u 0x13 f 1)))
    exact ite ((h.trans (setFn_unit _ u f _)).trans (sendMsix_unit _ u f _)) (h.trans (setFn_unit _ u f _))

theorem eventToFn_unit (u : Cu) (e : EvRec) (s : State) (f : Nat) : UnitOnly s (eventToFn u e s f) := by
  unfold eventToFn
  exact ite (refl s) (ite (loseRecord_unit s u) (ite (ite (setFn_unit s u f _) (loseRecord_unit s u)) (writeEq_unit s u f e)))

theorem eventTo_unit (s : State) (u : Cu) (cls typ flags evt p0 p1 p2 p3 : Nat) : UnitOnly s (s.eventTo u cls typ flags evt p0 p1 p2 p3) :=
  foldl (fun t f => eventToFn_unit u _ t f) _ ((refl s).setUnit u _)

/-- An event goes to the holder's functions: nothing outside the units changes (R366). -/
theorem event_unit (s : State) (cls typ flags evt p0 p1 p2 p3 : Nat) : UnitOnly s (s.event cls typ flags evt p0 p1 p2 p3) := by
  unfold event
  split
  · exact ite (refl s) (eventTo_unit s _ _ _ _ _ _ _ _ _)
  · exact refl s

theorem writeCq_unit (s : State) (u : Cu) (f c : Nat) (r : CqRec) : UnitOnly s (s.writeCq u f c r) := by
  unfold writeCq
  have h : ∀ x, UnitOnly s (((s.hostWrite u (s.rnat64 (Reg.Q_CQ_LO u f c) (Reg.Q_CQ_HI u f c) + 32 * ((s.cq u f c).tail % s.cqSize u f c))
      (s.cqBytes f r (s.cq u f c).phase)).pmcEvent u 0x12 f 1).setCq u f c x) :=
    fun x => ((hostWrite_unit s u _ _).trans (pmcEvent_unit _ u 0x12 f 1)).trans (setCq_unit _ u f c x)
  exact ite (((h _).trans (landRec_unit _ u f r)).trans (sendMsix_unit _ u f _)) ((h _).trans (landRec_unit _ u f r))

theorem postCq_unit (s : State) (u : Cu) (f : Nat) (r : CqRec) : UnitOnly s (s.postCq u f r) := by
  unfold postCq
  exact ite (refl s) (ite ((loseRecord_unit s u).trans (landRec_unit _ u f r)) (ite (landRec_unit s u f r)
    (ite ((loseRecord_unit s u).trans (landRec_unit _ u f r)) (ite (setCq_unit s u f _ _) (writeCq_unit s u f _ r)))))

theorem completeAt_unit (s : State) (c : Cmd) (evt st fl r0 r1 r2 r3 : Nat) : UnitOnly s (s.completeAt c evt st fl r0 r1 r2 r3) :=
  postCq_unit s _ _ _

/-- A completion touches the units only (R364, R365). -/
theorem complete_unit (s : State) (c : Cmd) (st fl r0 r1 r2 r3 : Nat) : UnitOnly s (s.complete c st fl r0 r1 r2 r3) := postCq_unit s _ _ _

theorem refuse_unit (s : State) (c : Cmd) (st : Nat) : UnitOnly s (s.refuse c st) := postCq_unit s _ _ _

theorem completeOpt_unit (s : State) (c : Option Cmd) (st fl r0 r1 r2 r3 : Nat) : UnitOnly s (s.completeOpt c st fl r0 r1 r2 r3) := by
  unfold completeOpt; split
  · exact complete_unit s _ _ _ _ _ _ _
  · exact refl s

theorem startFlight_unit (s : State) (c : Cmd) : UnitOnly s (s.startFlight c) := (refl s).setUnit c.unit _

/-! ### Field by field -/

@[simp] theorem complete_pending (c : Cmd) (st fl r0 r1 r2 r3 : Nat) (s : State) : (s.complete c st fl r0 r1 r2 r3).pending = s.pending := (complete_unit s c st fl r0 r1 r2 r3).pending
@[simp] theorem complete_part (c : Cmd) (st fl r0 r1 r2 r3 : Nat) (s : State) : (s.complete c st fl r0 r1 r2 r3).part = s.part := (complete_unit s c st fl r0 r1 r2 r3).part
@[simp] theorem complete_fresh (c : Cmd) (st fl r0 r1 r2 r3 : Nat) (s : State) : (s.complete c st fl r0 r1 r2 r3).fresh = s.fresh := (complete_unit s c st fl r0 r1 r2 r3).fresh
@[simp] theorem complete_latch (c : Cmd) (st fl r0 r1 r2 r3 : Nat) (s : State) : (s.complete c st fl r0 r1 r2 r3).latch = s.latch := (complete_unit s c st fl r0 r1 r2 r3).latch
@[simp] theorem complete_time (c : Cmd) (st fl r0 r1 r2 r3 : Nat) (s : State) : (s.complete c st fl r0 r1 r2 r3).time = s.time := (complete_unit s c st fl r0 r1 r2 r3).time
@[simp] theorem complete_fab (c : Cmd) (st fl r0 r1 r2 r3 : Nat) (s : State) : (s.complete c st fl r0 r1 r2 r3).fab = s.fab := (complete_unit s c st fl r0 r1 r2 r3).fab
@[simp] theorem complete_site (c : Cmd) (st fl r0 r1 r2 r3 : Nat) (s : State) : (s.complete c st fl r0 r1 r2 r3).site = s.site := (complete_unit s c st fl r0 r1 r2 r3).site
@[simp] theorem complete_drv (c : Cmd) (st fl r0 r1 r2 r3 : Nat) (s : State) : (s.complete c st fl r0 r1 r2 r3).drv = s.drv := (complete_unit s c st fl r0 r1 r2 r3).drv
@[simp] theorem complete_mon (c : Cmd) (st fl r0 r1 r2 r3 : Nat) (s : State) : (s.complete c st fl r0 r1 r2 r3).mon = s.mon := (complete_unit s c st fl r0 r1 r2 r3).mon
@[simp] theorem complete_rte (c : Cmd) (st fl r0 r1 r2 r3 : Nat) (s : State) : (s.complete c st fl r0 r1 r2 r3).rte = s.rte := (complete_unit s c st fl r0 r1 r2 r3).rte
@[simp] theorem complete_gst (c : Cmd) (st fl r0 r1 r2 r3 : Nat) (s : State) : (s.complete c st fl r0 r1 r2 r3).gst = s.gst := (complete_unit s c st fl r0 r1 r2 r3).gst
@[simp] theorem complete_loop (c : Cmd) (st fl r0 r1 r2 r3 : Nat) (s : State) : (s.complete c st fl r0 r1 r2 r3).loop = s.loop := (complete_unit s c st fl r0 r1 r2 r3).loop
@[simp] theorem complete_drt (c : Cmd) (st fl r0 r1 r2 r3 : Nat) (s : State) : (s.complete c st fl r0 r1 r2 r3).drt = s.drt := (complete_unit s c st fl r0 r1 r2 r3).drt
@[simp] theorem complete_cal (c : Cmd) (st fl r0 r1 r2 r3 : Nat) (s : State) : (s.complete c st fl r0 r1 r2 r3).cal = s.cal := (complete_unit s c st fl r0 r1 r2 r3).cal
@[simp] theorem complete_sch (c : Cmd) (st fl r0 r1 r2 r3 : Nat) (s : State) : (s.complete c st fl r0 r1 r2 r3).sch = s.sch := (complete_unit s c st fl r0 r1 r2 r3).sch
@[simp] theorem complete_tkn (c : Cmd) (st fl r0 r1 r2 r3 : Nat) (s : State) : (s.complete c st fl r0 r1 r2 r3).tkn = s.tkn := (complete_unit s c st fl r0 r1 r2 r3).tkn
@[simp] theorem complete_flt (c : Cmd) (st fl r0 r1 r2 r3 : Nat) (s : State) : (s.complete c st fl r0 r1 r2 r3).flt = s.flt := (complete_unit s c st fl r0 r1 r2 r3).flt
@[simp] theorem complete_pwr (c : Cmd) (st fl r0 r1 r2 r3 : Nat) (s : State) : (s.complete c st fl r0 r1 r2 r3).pwr = s.pwr := (complete_unit s c st fl r0 r1 r2 r3).pwr
@[simp] theorem complete_recd (c : Cmd) (st fl r0 r1 r2 r3 : Nat) (s : State) : (s.complete c st fl r0 r1 r2 r3).recd = s.recd := (complete_unit s c st fl r0 r1 r2 r3).recd
@[simp] theorem complete_mem (c : Cmd) (st fl r0 r1 r2 r3 : Nat) (s : State) : (s.complete c st fl r0 r1 r2 r3).mem = s.mem := (complete_unit s c st fl r0 r1 r2 r3).mem
@[simp] theorem complete_thm (c : Cmd) (st fl r0 r1 r2 r3 : Nat) (s : State) : (s.complete c st fl r0 r1 r2 r3).thm = s.thm := (complete_unit s c st fl r0 r1 r2 r3).thm
@[simp] theorem complete_sec (c : Cmd) (st fl r0 r1 r2 r3 : Nat) (s : State) : (s.complete c st fl r0 r1 r2 r3).sec = s.sec := (complete_unit s c st fl r0 r1 r2 r3).sec
@[simp] theorem complete_attests (c : Cmd) (st fl r0 r1 r2 r3 : Nat) (s : State) : (s.complete c st fl r0 r1 r2 r3).attests = s.attests := (complete_unit s c st fl r0 r1 r2 r3).attests
theorem complete_reg {k : Nat} (h : k < 0x1000000) (c : Cmd) (st fl r0 r1 r2 r3 : Nat) (s : State) : (s.complete c st fl r0 r1 r2 r3).reg k = s.reg k := (complete_unit s c st fl r0 r1 r2 r3).regs k h

@[simp] theorem refuse_pending (c : Cmd) (st : Nat) (s : State) : (s.refuse c st).pending = s.pending := (refuse_unit s c st).pending
@[simp] theorem refuse_part (c : Cmd) (st : Nat) (s : State) : (s.refuse c st).part = s.part := (refuse_unit s c st).part
@[simp] theorem refuse_fresh (c : Cmd) (st : Nat) (s : State) : (s.refuse c st).fresh = s.fresh := (refuse_unit s c st).fresh
@[simp] theorem refuse_latch (c : Cmd) (st : Nat) (s : State) : (s.refuse c st).latch = s.latch := (refuse_unit s c st).latch
@[simp] theorem refuse_time (c : Cmd) (st : Nat) (s : State) : (s.refuse c st).time = s.time := (refuse_unit s c st).time
@[simp] theorem refuse_fab (c : Cmd) (st : Nat) (s : State) : (s.refuse c st).fab = s.fab := (refuse_unit s c st).fab
@[simp] theorem refuse_site (c : Cmd) (st : Nat) (s : State) : (s.refuse c st).site = s.site := (refuse_unit s c st).site
@[simp] theorem refuse_drv (c : Cmd) (st : Nat) (s : State) : (s.refuse c st).drv = s.drv := (refuse_unit s c st).drv
@[simp] theorem refuse_mon (c : Cmd) (st : Nat) (s : State) : (s.refuse c st).mon = s.mon := (refuse_unit s c st).mon
@[simp] theorem refuse_rte (c : Cmd) (st : Nat) (s : State) : (s.refuse c st).rte = s.rte := (refuse_unit s c st).rte
@[simp] theorem refuse_gst (c : Cmd) (st : Nat) (s : State) : (s.refuse c st).gst = s.gst := (refuse_unit s c st).gst
@[simp] theorem refuse_loop (c : Cmd) (st : Nat) (s : State) : (s.refuse c st).loop = s.loop := (refuse_unit s c st).loop
@[simp] theorem refuse_drt (c : Cmd) (st : Nat) (s : State) : (s.refuse c st).drt = s.drt := (refuse_unit s c st).drt
@[simp] theorem refuse_cal (c : Cmd) (st : Nat) (s : State) : (s.refuse c st).cal = s.cal := (refuse_unit s c st).cal
@[simp] theorem refuse_sch (c : Cmd) (st : Nat) (s : State) : (s.refuse c st).sch = s.sch := (refuse_unit s c st).sch
@[simp] theorem refuse_tkn (c : Cmd) (st : Nat) (s : State) : (s.refuse c st).tkn = s.tkn := (refuse_unit s c st).tkn
@[simp] theorem refuse_flt (c : Cmd) (st : Nat) (s : State) : (s.refuse c st).flt = s.flt := (refuse_unit s c st).flt
@[simp] theorem refuse_pwr (c : Cmd) (st : Nat) (s : State) : (s.refuse c st).pwr = s.pwr := (refuse_unit s c st).pwr
@[simp] theorem refuse_recd (c : Cmd) (st : Nat) (s : State) : (s.refuse c st).recd = s.recd := (refuse_unit s c st).recd
@[simp] theorem refuse_mem (c : Cmd) (st : Nat) (s : State) : (s.refuse c st).mem = s.mem := (refuse_unit s c st).mem
@[simp] theorem refuse_thm (c : Cmd) (st : Nat) (s : State) : (s.refuse c st).thm = s.thm := (refuse_unit s c st).thm
@[simp] theorem refuse_sec (c : Cmd) (st : Nat) (s : State) : (s.refuse c st).sec = s.sec := (refuse_unit s c st).sec
@[simp] theorem refuse_attests (c : Cmd) (st : Nat) (s : State) : (s.refuse c st).attests = s.attests := (refuse_unit s c st).attests
theorem refuse_reg {k : Nat} (h : k < 0x1000000) (c : Cmd) (st : Nat) (s : State) : (s.refuse c st).reg k = s.reg k := (refuse_unit s c st).regs k h

@[simp] theorem completeOpt_pending (c : Option Cmd) (st fl r0 r1 r2 r3 : Nat) (s : State) : (s.completeOpt c st fl r0 r1 r2 r3).pending = s.pending := (completeOpt_unit s c st fl r0 r1 r2 r3).pending
@[simp] theorem completeOpt_part (c : Option Cmd) (st fl r0 r1 r2 r3 : Nat) (s : State) : (s.completeOpt c st fl r0 r1 r2 r3).part = s.part := (completeOpt_unit s c st fl r0 r1 r2 r3).part
@[simp] theorem completeOpt_fresh (c : Option Cmd) (st fl r0 r1 r2 r3 : Nat) (s : State) : (s.completeOpt c st fl r0 r1 r2 r3).fresh = s.fresh := (completeOpt_unit s c st fl r0 r1 r2 r3).fresh
@[simp] theorem completeOpt_latch (c : Option Cmd) (st fl r0 r1 r2 r3 : Nat) (s : State) : (s.completeOpt c st fl r0 r1 r2 r3).latch = s.latch := (completeOpt_unit s c st fl r0 r1 r2 r3).latch
@[simp] theorem completeOpt_time (c : Option Cmd) (st fl r0 r1 r2 r3 : Nat) (s : State) : (s.completeOpt c st fl r0 r1 r2 r3).time = s.time := (completeOpt_unit s c st fl r0 r1 r2 r3).time
@[simp] theorem completeOpt_fab (c : Option Cmd) (st fl r0 r1 r2 r3 : Nat) (s : State) : (s.completeOpt c st fl r0 r1 r2 r3).fab = s.fab := (completeOpt_unit s c st fl r0 r1 r2 r3).fab
@[simp] theorem completeOpt_site (c : Option Cmd) (st fl r0 r1 r2 r3 : Nat) (s : State) : (s.completeOpt c st fl r0 r1 r2 r3).site = s.site := (completeOpt_unit s c st fl r0 r1 r2 r3).site
@[simp] theorem completeOpt_drv (c : Option Cmd) (st fl r0 r1 r2 r3 : Nat) (s : State) : (s.completeOpt c st fl r0 r1 r2 r3).drv = s.drv := (completeOpt_unit s c st fl r0 r1 r2 r3).drv
@[simp] theorem completeOpt_mon (c : Option Cmd) (st fl r0 r1 r2 r3 : Nat) (s : State) : (s.completeOpt c st fl r0 r1 r2 r3).mon = s.mon := (completeOpt_unit s c st fl r0 r1 r2 r3).mon
@[simp] theorem completeOpt_rte (c : Option Cmd) (st fl r0 r1 r2 r3 : Nat) (s : State) : (s.completeOpt c st fl r0 r1 r2 r3).rte = s.rte := (completeOpt_unit s c st fl r0 r1 r2 r3).rte
@[simp] theorem completeOpt_gst (c : Option Cmd) (st fl r0 r1 r2 r3 : Nat) (s : State) : (s.completeOpt c st fl r0 r1 r2 r3).gst = s.gst := (completeOpt_unit s c st fl r0 r1 r2 r3).gst
@[simp] theorem completeOpt_loop (c : Option Cmd) (st fl r0 r1 r2 r3 : Nat) (s : State) : (s.completeOpt c st fl r0 r1 r2 r3).loop = s.loop := (completeOpt_unit s c st fl r0 r1 r2 r3).loop
@[simp] theorem completeOpt_drt (c : Option Cmd) (st fl r0 r1 r2 r3 : Nat) (s : State) : (s.completeOpt c st fl r0 r1 r2 r3).drt = s.drt := (completeOpt_unit s c st fl r0 r1 r2 r3).drt
@[simp] theorem completeOpt_cal (c : Option Cmd) (st fl r0 r1 r2 r3 : Nat) (s : State) : (s.completeOpt c st fl r0 r1 r2 r3).cal = s.cal := (completeOpt_unit s c st fl r0 r1 r2 r3).cal
@[simp] theorem completeOpt_sch (c : Option Cmd) (st fl r0 r1 r2 r3 : Nat) (s : State) : (s.completeOpt c st fl r0 r1 r2 r3).sch = s.sch := (completeOpt_unit s c st fl r0 r1 r2 r3).sch
@[simp] theorem completeOpt_tkn (c : Option Cmd) (st fl r0 r1 r2 r3 : Nat) (s : State) : (s.completeOpt c st fl r0 r1 r2 r3).tkn = s.tkn := (completeOpt_unit s c st fl r0 r1 r2 r3).tkn
@[simp] theorem completeOpt_flt (c : Option Cmd) (st fl r0 r1 r2 r3 : Nat) (s : State) : (s.completeOpt c st fl r0 r1 r2 r3).flt = s.flt := (completeOpt_unit s c st fl r0 r1 r2 r3).flt
@[simp] theorem completeOpt_pwr (c : Option Cmd) (st fl r0 r1 r2 r3 : Nat) (s : State) : (s.completeOpt c st fl r0 r1 r2 r3).pwr = s.pwr := (completeOpt_unit s c st fl r0 r1 r2 r3).pwr
@[simp] theorem completeOpt_recd (c : Option Cmd) (st fl r0 r1 r2 r3 : Nat) (s : State) : (s.completeOpt c st fl r0 r1 r2 r3).recd = s.recd := (completeOpt_unit s c st fl r0 r1 r2 r3).recd
@[simp] theorem completeOpt_mem (c : Option Cmd) (st fl r0 r1 r2 r3 : Nat) (s : State) : (s.completeOpt c st fl r0 r1 r2 r3).mem = s.mem := (completeOpt_unit s c st fl r0 r1 r2 r3).mem
@[simp] theorem completeOpt_thm (c : Option Cmd) (st fl r0 r1 r2 r3 : Nat) (s : State) : (s.completeOpt c st fl r0 r1 r2 r3).thm = s.thm := (completeOpt_unit s c st fl r0 r1 r2 r3).thm
@[simp] theorem completeOpt_sec (c : Option Cmd) (st fl r0 r1 r2 r3 : Nat) (s : State) : (s.completeOpt c st fl r0 r1 r2 r3).sec = s.sec := (completeOpt_unit s c st fl r0 r1 r2 r3).sec
@[simp] theorem completeOpt_attests (c : Option Cmd) (st fl r0 r1 r2 r3 : Nat) (s : State) : (s.completeOpt c st fl r0 r1 r2 r3).attests = s.attests := (completeOpt_unit s c st fl r0 r1 r2 r3).attests
theorem completeOpt_reg {k : Nat} (h : k < 0x1000000) (c : Option Cmd) (st fl r0 r1 r2 r3 : Nat) (s : State) : (s.completeOpt c st fl r0 r1 r2 r3).reg k = s.reg k := (completeOpt_unit s c st fl r0 r1 r2 r3).regs k h

@[simp] theorem event_pending (cls typ flags evt p0 p1 p2 p3 : Nat) (s : State) : (s.event cls typ flags evt p0 p1 p2 p3).pending = s.pending := (event_unit s cls typ flags evt p0 p1 p2 p3).pending
@[simp] theorem event_part (cls typ flags evt p0 p1 p2 p3 : Nat) (s : State) : (s.event cls typ flags evt p0 p1 p2 p3).part = s.part := (event_unit s cls typ flags evt p0 p1 p2 p3).part
@[simp] theorem event_fresh (cls typ flags evt p0 p1 p2 p3 : Nat) (s : State) : (s.event cls typ flags evt p0 p1 p2 p3).fresh = s.fresh := (event_unit s cls typ flags evt p0 p1 p2 p3).fresh
@[simp] theorem event_latch (cls typ flags evt p0 p1 p2 p3 : Nat) (s : State) : (s.event cls typ flags evt p0 p1 p2 p3).latch = s.latch := (event_unit s cls typ flags evt p0 p1 p2 p3).latch
@[simp] theorem event_time (cls typ flags evt p0 p1 p2 p3 : Nat) (s : State) : (s.event cls typ flags evt p0 p1 p2 p3).time = s.time := (event_unit s cls typ flags evt p0 p1 p2 p3).time
@[simp] theorem event_fab (cls typ flags evt p0 p1 p2 p3 : Nat) (s : State) : (s.event cls typ flags evt p0 p1 p2 p3).fab = s.fab := (event_unit s cls typ flags evt p0 p1 p2 p3).fab
@[simp] theorem event_site (cls typ flags evt p0 p1 p2 p3 : Nat) (s : State) : (s.event cls typ flags evt p0 p1 p2 p3).site = s.site := (event_unit s cls typ flags evt p0 p1 p2 p3).site
@[simp] theorem event_drv (cls typ flags evt p0 p1 p2 p3 : Nat) (s : State) : (s.event cls typ flags evt p0 p1 p2 p3).drv = s.drv := (event_unit s cls typ flags evt p0 p1 p2 p3).drv
@[simp] theorem event_mon (cls typ flags evt p0 p1 p2 p3 : Nat) (s : State) : (s.event cls typ flags evt p0 p1 p2 p3).mon = s.mon := (event_unit s cls typ flags evt p0 p1 p2 p3).mon
@[simp] theorem event_rte (cls typ flags evt p0 p1 p2 p3 : Nat) (s : State) : (s.event cls typ flags evt p0 p1 p2 p3).rte = s.rte := (event_unit s cls typ flags evt p0 p1 p2 p3).rte
@[simp] theorem event_gst (cls typ flags evt p0 p1 p2 p3 : Nat) (s : State) : (s.event cls typ flags evt p0 p1 p2 p3).gst = s.gst := (event_unit s cls typ flags evt p0 p1 p2 p3).gst
@[simp] theorem event_loop (cls typ flags evt p0 p1 p2 p3 : Nat) (s : State) : (s.event cls typ flags evt p0 p1 p2 p3).loop = s.loop := (event_unit s cls typ flags evt p0 p1 p2 p3).loop
@[simp] theorem event_drt (cls typ flags evt p0 p1 p2 p3 : Nat) (s : State) : (s.event cls typ flags evt p0 p1 p2 p3).drt = s.drt := (event_unit s cls typ flags evt p0 p1 p2 p3).drt
@[simp] theorem event_cal (cls typ flags evt p0 p1 p2 p3 : Nat) (s : State) : (s.event cls typ flags evt p0 p1 p2 p3).cal = s.cal := (event_unit s cls typ flags evt p0 p1 p2 p3).cal
@[simp] theorem event_sch (cls typ flags evt p0 p1 p2 p3 : Nat) (s : State) : (s.event cls typ flags evt p0 p1 p2 p3).sch = s.sch := (event_unit s cls typ flags evt p0 p1 p2 p3).sch
@[simp] theorem event_tkn (cls typ flags evt p0 p1 p2 p3 : Nat) (s : State) : (s.event cls typ flags evt p0 p1 p2 p3).tkn = s.tkn := (event_unit s cls typ flags evt p0 p1 p2 p3).tkn
@[simp] theorem event_flt (cls typ flags evt p0 p1 p2 p3 : Nat) (s : State) : (s.event cls typ flags evt p0 p1 p2 p3).flt = s.flt := (event_unit s cls typ flags evt p0 p1 p2 p3).flt
@[simp] theorem event_pwr (cls typ flags evt p0 p1 p2 p3 : Nat) (s : State) : (s.event cls typ flags evt p0 p1 p2 p3).pwr = s.pwr := (event_unit s cls typ flags evt p0 p1 p2 p3).pwr
@[simp] theorem event_recd (cls typ flags evt p0 p1 p2 p3 : Nat) (s : State) : (s.event cls typ flags evt p0 p1 p2 p3).recd = s.recd := (event_unit s cls typ flags evt p0 p1 p2 p3).recd
@[simp] theorem event_mem (cls typ flags evt p0 p1 p2 p3 : Nat) (s : State) : (s.event cls typ flags evt p0 p1 p2 p3).mem = s.mem := (event_unit s cls typ flags evt p0 p1 p2 p3).mem
@[simp] theorem event_thm (cls typ flags evt p0 p1 p2 p3 : Nat) (s : State) : (s.event cls typ flags evt p0 p1 p2 p3).thm = s.thm := (event_unit s cls typ flags evt p0 p1 p2 p3).thm
@[simp] theorem event_sec (cls typ flags evt p0 p1 p2 p3 : Nat) (s : State) : (s.event cls typ flags evt p0 p1 p2 p3).sec = s.sec := (event_unit s cls typ flags evt p0 p1 p2 p3).sec
@[simp] theorem event_attests (cls typ flags evt p0 p1 p2 p3 : Nat) (s : State) : (s.event cls typ flags evt p0 p1 p2 p3).attests = s.attests := (event_unit s cls typ flags evt p0 p1 p2 p3).attests
theorem event_reg {k : Nat} (h : k < 0x1000000) (cls typ flags evt p0 p1 p2 p3 : Nat) (s : State) : (s.event cls typ flags evt p0 p1 p2 p3).reg k = s.reg k := (event_unit s cls typ flags evt p0 p1 p2 p3).regs k h

@[simp] theorem eventTo_pending (u : Cu) (cls typ flags evt p0 p1 p2 p3 : Nat) (s : State) : (s.eventTo u cls typ flags evt p0 p1 p2 p3).pending = s.pending := (eventTo_unit s u cls typ flags evt p0 p1 p2 p3).pending
@[simp] theorem eventTo_part (u : Cu) (cls typ flags evt p0 p1 p2 p3 : Nat) (s : State) : (s.eventTo u cls typ flags evt p0 p1 p2 p3).part = s.part := (eventTo_unit s u cls typ flags evt p0 p1 p2 p3).part
@[simp] theorem eventTo_fresh (u : Cu) (cls typ flags evt p0 p1 p2 p3 : Nat) (s : State) : (s.eventTo u cls typ flags evt p0 p1 p2 p3).fresh = s.fresh := (eventTo_unit s u cls typ flags evt p0 p1 p2 p3).fresh
@[simp] theorem eventTo_latch (u : Cu) (cls typ flags evt p0 p1 p2 p3 : Nat) (s : State) : (s.eventTo u cls typ flags evt p0 p1 p2 p3).latch = s.latch := (eventTo_unit s u cls typ flags evt p0 p1 p2 p3).latch
@[simp] theorem eventTo_time (u : Cu) (cls typ flags evt p0 p1 p2 p3 : Nat) (s : State) : (s.eventTo u cls typ flags evt p0 p1 p2 p3).time = s.time := (eventTo_unit s u cls typ flags evt p0 p1 p2 p3).time
@[simp] theorem eventTo_fab (u : Cu) (cls typ flags evt p0 p1 p2 p3 : Nat) (s : State) : (s.eventTo u cls typ flags evt p0 p1 p2 p3).fab = s.fab := (eventTo_unit s u cls typ flags evt p0 p1 p2 p3).fab
@[simp] theorem eventTo_site (u : Cu) (cls typ flags evt p0 p1 p2 p3 : Nat) (s : State) : (s.eventTo u cls typ flags evt p0 p1 p2 p3).site = s.site := (eventTo_unit s u cls typ flags evt p0 p1 p2 p3).site
@[simp] theorem eventTo_drv (u : Cu) (cls typ flags evt p0 p1 p2 p3 : Nat) (s : State) : (s.eventTo u cls typ flags evt p0 p1 p2 p3).drv = s.drv := (eventTo_unit s u cls typ flags evt p0 p1 p2 p3).drv
@[simp] theorem eventTo_mon (u : Cu) (cls typ flags evt p0 p1 p2 p3 : Nat) (s : State) : (s.eventTo u cls typ flags evt p0 p1 p2 p3).mon = s.mon := (eventTo_unit s u cls typ flags evt p0 p1 p2 p3).mon
@[simp] theorem eventTo_rte (u : Cu) (cls typ flags evt p0 p1 p2 p3 : Nat) (s : State) : (s.eventTo u cls typ flags evt p0 p1 p2 p3).rte = s.rte := (eventTo_unit s u cls typ flags evt p0 p1 p2 p3).rte
@[simp] theorem eventTo_gst (u : Cu) (cls typ flags evt p0 p1 p2 p3 : Nat) (s : State) : (s.eventTo u cls typ flags evt p0 p1 p2 p3).gst = s.gst := (eventTo_unit s u cls typ flags evt p0 p1 p2 p3).gst
@[simp] theorem eventTo_loop (u : Cu) (cls typ flags evt p0 p1 p2 p3 : Nat) (s : State) : (s.eventTo u cls typ flags evt p0 p1 p2 p3).loop = s.loop := (eventTo_unit s u cls typ flags evt p0 p1 p2 p3).loop
@[simp] theorem eventTo_drt (u : Cu) (cls typ flags evt p0 p1 p2 p3 : Nat) (s : State) : (s.eventTo u cls typ flags evt p0 p1 p2 p3).drt = s.drt := (eventTo_unit s u cls typ flags evt p0 p1 p2 p3).drt
@[simp] theorem eventTo_cal (u : Cu) (cls typ flags evt p0 p1 p2 p3 : Nat) (s : State) : (s.eventTo u cls typ flags evt p0 p1 p2 p3).cal = s.cal := (eventTo_unit s u cls typ flags evt p0 p1 p2 p3).cal
@[simp] theorem eventTo_sch (u : Cu) (cls typ flags evt p0 p1 p2 p3 : Nat) (s : State) : (s.eventTo u cls typ flags evt p0 p1 p2 p3).sch = s.sch := (eventTo_unit s u cls typ flags evt p0 p1 p2 p3).sch
@[simp] theorem eventTo_tkn (u : Cu) (cls typ flags evt p0 p1 p2 p3 : Nat) (s : State) : (s.eventTo u cls typ flags evt p0 p1 p2 p3).tkn = s.tkn := (eventTo_unit s u cls typ flags evt p0 p1 p2 p3).tkn
@[simp] theorem eventTo_flt (u : Cu) (cls typ flags evt p0 p1 p2 p3 : Nat) (s : State) : (s.eventTo u cls typ flags evt p0 p1 p2 p3).flt = s.flt := (eventTo_unit s u cls typ flags evt p0 p1 p2 p3).flt
@[simp] theorem eventTo_pwr (u : Cu) (cls typ flags evt p0 p1 p2 p3 : Nat) (s : State) : (s.eventTo u cls typ flags evt p0 p1 p2 p3).pwr = s.pwr := (eventTo_unit s u cls typ flags evt p0 p1 p2 p3).pwr
@[simp] theorem eventTo_recd (u : Cu) (cls typ flags evt p0 p1 p2 p3 : Nat) (s : State) : (s.eventTo u cls typ flags evt p0 p1 p2 p3).recd = s.recd := (eventTo_unit s u cls typ flags evt p0 p1 p2 p3).recd
@[simp] theorem eventTo_mem (u : Cu) (cls typ flags evt p0 p1 p2 p3 : Nat) (s : State) : (s.eventTo u cls typ flags evt p0 p1 p2 p3).mem = s.mem := (eventTo_unit s u cls typ flags evt p0 p1 p2 p3).mem
@[simp] theorem eventTo_thm (u : Cu) (cls typ flags evt p0 p1 p2 p3 : Nat) (s : State) : (s.eventTo u cls typ flags evt p0 p1 p2 p3).thm = s.thm := (eventTo_unit s u cls typ flags evt p0 p1 p2 p3).thm
@[simp] theorem eventTo_sec (u : Cu) (cls typ flags evt p0 p1 p2 p3 : Nat) (s : State) : (s.eventTo u cls typ flags evt p0 p1 p2 p3).sec = s.sec := (eventTo_unit s u cls typ flags evt p0 p1 p2 p3).sec
@[simp] theorem eventTo_attests (u : Cu) (cls typ flags evt p0 p1 p2 p3 : Nat) (s : State) : (s.eventTo u cls typ flags evt p0 p1 p2 p3).attests = s.attests := (eventTo_unit s u cls typ flags evt p0 p1 p2 p3).attests
theorem eventTo_reg {k : Nat} (h : k < 0x1000000) (u : Cu) (cls typ flags evt p0 p1 p2 p3 : Nat) (s : State) : (s.eventTo u cls typ flags evt p0 p1 p2 p3).reg k = s.reg k := (eventTo_unit s u cls typ flags evt p0 p1 p2 p3).regs k h

@[simp] theorem pmcEvent_pending (u : Cu) (code qual k : Nat) (s : State) : (s.pmcEvent u code qual k).pending = s.pending := (pmcEvent_unit s u code qual k).pending
@[simp] theorem pmcEvent_part (u : Cu) (code qual k : Nat) (s : State) : (s.pmcEvent u code qual k).part = s.part := (pmcEvent_unit s u code qual k).part
@[simp] theorem pmcEvent_fresh (u : Cu) (code qual k : Nat) (s : State) : (s.pmcEvent u code qual k).fresh = s.fresh := (pmcEvent_unit s u code qual k).fresh
@[simp] theorem pmcEvent_latch (u : Cu) (code qual k : Nat) (s : State) : (s.pmcEvent u code qual k).latch = s.latch := (pmcEvent_unit s u code qual k).latch
@[simp] theorem pmcEvent_time (u : Cu) (code qual k : Nat) (s : State) : (s.pmcEvent u code qual k).time = s.time := (pmcEvent_unit s u code qual k).time
@[simp] theorem pmcEvent_fab (u : Cu) (code qual k : Nat) (s : State) : (s.pmcEvent u code qual k).fab = s.fab := (pmcEvent_unit s u code qual k).fab
@[simp] theorem pmcEvent_site (u : Cu) (code qual k : Nat) (s : State) : (s.pmcEvent u code qual k).site = s.site := (pmcEvent_unit s u code qual k).site
@[simp] theorem pmcEvent_drv (u : Cu) (code qual k : Nat) (s : State) : (s.pmcEvent u code qual k).drv = s.drv := (pmcEvent_unit s u code qual k).drv
@[simp] theorem pmcEvent_mon (u : Cu) (code qual k : Nat) (s : State) : (s.pmcEvent u code qual k).mon = s.mon := (pmcEvent_unit s u code qual k).mon
@[simp] theorem pmcEvent_rte (u : Cu) (code qual k : Nat) (s : State) : (s.pmcEvent u code qual k).rte = s.rte := (pmcEvent_unit s u code qual k).rte
@[simp] theorem pmcEvent_gst (u : Cu) (code qual k : Nat) (s : State) : (s.pmcEvent u code qual k).gst = s.gst := (pmcEvent_unit s u code qual k).gst
@[simp] theorem pmcEvent_loop (u : Cu) (code qual k : Nat) (s : State) : (s.pmcEvent u code qual k).loop = s.loop := (pmcEvent_unit s u code qual k).loop
@[simp] theorem pmcEvent_drt (u : Cu) (code qual k : Nat) (s : State) : (s.pmcEvent u code qual k).drt = s.drt := (pmcEvent_unit s u code qual k).drt
@[simp] theorem pmcEvent_cal (u : Cu) (code qual k : Nat) (s : State) : (s.pmcEvent u code qual k).cal = s.cal := (pmcEvent_unit s u code qual k).cal
@[simp] theorem pmcEvent_sch (u : Cu) (code qual k : Nat) (s : State) : (s.pmcEvent u code qual k).sch = s.sch := (pmcEvent_unit s u code qual k).sch
@[simp] theorem pmcEvent_tkn (u : Cu) (code qual k : Nat) (s : State) : (s.pmcEvent u code qual k).tkn = s.tkn := (pmcEvent_unit s u code qual k).tkn
@[simp] theorem pmcEvent_flt (u : Cu) (code qual k : Nat) (s : State) : (s.pmcEvent u code qual k).flt = s.flt := (pmcEvent_unit s u code qual k).flt
@[simp] theorem pmcEvent_pwr (u : Cu) (code qual k : Nat) (s : State) : (s.pmcEvent u code qual k).pwr = s.pwr := (pmcEvent_unit s u code qual k).pwr
@[simp] theorem pmcEvent_recd (u : Cu) (code qual k : Nat) (s : State) : (s.pmcEvent u code qual k).recd = s.recd := (pmcEvent_unit s u code qual k).recd
@[simp] theorem pmcEvent_mem (u : Cu) (code qual k : Nat) (s : State) : (s.pmcEvent u code qual k).mem = s.mem := (pmcEvent_unit s u code qual k).mem
@[simp] theorem pmcEvent_thm (u : Cu) (code qual k : Nat) (s : State) : (s.pmcEvent u code qual k).thm = s.thm := (pmcEvent_unit s u code qual k).thm
@[simp] theorem pmcEvent_sec (u : Cu) (code qual k : Nat) (s : State) : (s.pmcEvent u code qual k).sec = s.sec := (pmcEvent_unit s u code qual k).sec
@[simp] theorem pmcEvent_attests (u : Cu) (code qual k : Nat) (s : State) : (s.pmcEvent u code qual k).attests = s.attests := (pmcEvent_unit s u code qual k).attests
theorem pmcEvent_reg {k : Nat} (h : k < 0x1000000) (u : Cu) (code qual n : Nat) (s : State) : (s.pmcEvent u code qual n).reg k = s.reg k := (pmcEvent_unit s u code qual n).regs k h

@[simp] theorem startFlight_pending (c : Cmd) (s : State) : (s.startFlight c).pending = s.pending := (startFlight_unit s c).pending
@[simp] theorem startFlight_part (c : Cmd) (s : State) : (s.startFlight c).part = s.part := (startFlight_unit s c).part
@[simp] theorem startFlight_fresh (c : Cmd) (s : State) : (s.startFlight c).fresh = s.fresh := (startFlight_unit s c).fresh
@[simp] theorem startFlight_latch (c : Cmd) (s : State) : (s.startFlight c).latch = s.latch := (startFlight_unit s c).latch
@[simp] theorem startFlight_time (c : Cmd) (s : State) : (s.startFlight c).time = s.time := (startFlight_unit s c).time
@[simp] theorem startFlight_fab (c : Cmd) (s : State) : (s.startFlight c).fab = s.fab := (startFlight_unit s c).fab
@[simp] theorem startFlight_site (c : Cmd) (s : State) : (s.startFlight c).site = s.site := (startFlight_unit s c).site
@[simp] theorem startFlight_drv (c : Cmd) (s : State) : (s.startFlight c).drv = s.drv := (startFlight_unit s c).drv
@[simp] theorem startFlight_mon (c : Cmd) (s : State) : (s.startFlight c).mon = s.mon := (startFlight_unit s c).mon
@[simp] theorem startFlight_rte (c : Cmd) (s : State) : (s.startFlight c).rte = s.rte := (startFlight_unit s c).rte
@[simp] theorem startFlight_gst (c : Cmd) (s : State) : (s.startFlight c).gst = s.gst := (startFlight_unit s c).gst
@[simp] theorem startFlight_loop (c : Cmd) (s : State) : (s.startFlight c).loop = s.loop := (startFlight_unit s c).loop
@[simp] theorem startFlight_drt (c : Cmd) (s : State) : (s.startFlight c).drt = s.drt := (startFlight_unit s c).drt
@[simp] theorem startFlight_cal (c : Cmd) (s : State) : (s.startFlight c).cal = s.cal := (startFlight_unit s c).cal
@[simp] theorem startFlight_sch (c : Cmd) (s : State) : (s.startFlight c).sch = s.sch := (startFlight_unit s c).sch
@[simp] theorem startFlight_tkn (c : Cmd) (s : State) : (s.startFlight c).tkn = s.tkn := (startFlight_unit s c).tkn
@[simp] theorem startFlight_flt (c : Cmd) (s : State) : (s.startFlight c).flt = s.flt := (startFlight_unit s c).flt
@[simp] theorem startFlight_pwr (c : Cmd) (s : State) : (s.startFlight c).pwr = s.pwr := (startFlight_unit s c).pwr
@[simp] theorem startFlight_recd (c : Cmd) (s : State) : (s.startFlight c).recd = s.recd := (startFlight_unit s c).recd
@[simp] theorem startFlight_mem (c : Cmd) (s : State) : (s.startFlight c).mem = s.mem := (startFlight_unit s c).mem
@[simp] theorem startFlight_thm (c : Cmd) (s : State) : (s.startFlight c).thm = s.thm := (startFlight_unit s c).thm
@[simp] theorem startFlight_sec (c : Cmd) (s : State) : (s.startFlight c).sec = s.sec := (startFlight_unit s c).sec
@[simp] theorem startFlight_attests (c : Cmd) (s : State) : (s.startFlight c).attests = s.attests := (startFlight_unit s c).attests
theorem startFlight_reg {k : Nat} (h : k < 0x1000000) (c : Cmd) (s : State) : (s.startFlight c).reg k = s.reg k := (startFlight_unit s c).regs k h

end State
end Sys2Proof.Machine
end

