-- ==== Sys2Proof/Laws/Desc.lean ====
section
/-! SUPPORT. How a descriptor that is ready runs, and when a timed one is performed at once. -/
namespace Sys2Proof.Machine.State

/-- A ready descriptor runs its body on the state in which it has started (R368, R387). -/
theorem runDesc_ready {c : Cmd} {op : Nat} {s : State} (h : Ready c op s) (body : State → State) :
    s.runDesc c op body = body (s.startFlight c) := by
  have hw := h.waits
  unfold runDesc
  simp only [hw, if_true]
  rw [h.free]
  simp only [h.opcode, if_true]

/-- TIME zero: performed at once, not late (R285). -/
theorem timed_now {c : Cmd} (h : c.isNow = true) (perform : Bool → State → State) (s : State) : s.timed c perform = perform false s := by
  unfold timed; simp only [h, if_true]

/-- A map that passes the checks of R399 goes to its sub-operation. -/
theorem withMap_good {c : Cmd} {sub : Nat} {l : List Byte} {s : State} (h : MapGood c sub l s) (body : List Nat → State → State) :
    s.withMap c sub (.bytes l) body = body (wideMap l) s := by
  unfold withMap
  have e : (c.b 4 ≠ sub || s.graph || !s.fabValid || !hostAddrOk (c.q 16) || decide (c.w 24 ≠ 2 * s.nPorts) ||
      (decide (sub ≤ 2) && decide (c.q 32 % 8 ≠ 0))) = false := by
    by_cases hs : sub ≤ 2
    · simp [h.sub_, h.map, h.valid, h.addr, h.len, h.out hs]
    · simp [h.sub_, h.map, h.valid, h.addr, h.len, hs]
  rw [if_neg (by rw [e]; decide)]
  simp [h.bytes, h.fits]

end Sys2Proof.Machine.State
end

