-- ==== Sys2Proof/Laws/Kept.lean ====
section
/-! SUPPORT. How `Kept` goes through the parts a meaning is built of: updates of other fields, branches, and folds. -/
namespace Sys2Proof.Machine

/-- `Kept` of a state's parts. -/
def KeptParts (q : List Instr) (p : Part) (pe : List Instr) (pa : Part) (re : List (Nat × Word)) (dr : List Host.Cell) (uf : Option Nat) : Prop :=
  pe = q ∧ pa = p ∧ Tables p re dr uf

variable {q : List Instr} {p : Part} {α β : Type}

theorem kept_comp {s : State} (h : Kept q p s) : KeptParts q p s.pending s.part s.regs s.mem.dram s.mem.userFree := h

theorem kept_mk' {pe pa fr re la ti fa si dr mo rt gs lo dt ca sc tk fl pw rc m th se at_ ua ub}
    (h : KeptParts q p pe pa re m.dram m.userFree) :
    Kept q p (State.mk pe pa fr re la ti fa si dr mo rt gs lo dt ca sc tk fl pw rc m th se at_ ua ub) := h

theorem kept_ite {c : Prop} [Decidable c] {a b : State} (ha : Kept q p a) (hb : Kept q p b) : Kept q p (if c then a else b) := by
  split <;> assumption

theorem kept_foldl {f : State → α → State} {l : List α} {s : State} (hf : ∀ s x, Kept q p s → Kept q p (f s x)) (hs : Kept q p s) :
    Kept q p (l.foldl f s) := by
  induction l generalizing s with
  | nil => exact hs
  | cons x r ih => exact ih (hf s x hs)

theorem kept_foldl_fst {f : State × β → α → State × β} {l : List α} {s : State × β} (hf : ∀ s x, Kept q p s.1 → Kept q p (f s x).1) (hs : Kept q p s.1) :
    Kept q p (l.foldl f s).1 := by
  induction l generalizing s with
  | nil => exact hs
  | cons x r ih => exact ih (hf s x hs)

theorem kept_foldl_snd {f : β × State → α → β × State} {l : List α} {s : β × State} (hf : ∀ s x, Kept q p s.2 → Kept q p (f s x).2) (hs : Kept q p s.2) :
    Kept q p (l.foldl f s).2 := by
  induction l generalizing s with
  | nil => exact hs
  | cons x r ih => exact ih (hf s x hs)

theorem keptRes_next {s : State} (h : Kept q p s) : KeptRes q p (.next s) := by rintro t ⟨⟩; exact h

theorem keptRes_ite {c : Prop} [Decidable c] {a b : Res} (ha : KeptRes q p a) (hb : KeptRes q p b) : KeptRes q p (if c then a else b) := by
  split <;> assumption

/-- A write of one register. -/
theorem State.setReg_kept {k : Nat} {v : Word} {s : State} (h : Kept q p s) : Kept q p (s.setReg k v) :=
  ⟨h.1, h.2.1, by have := h.2.1; subst this; exact Tab.wf_put k v h.2.2.1, h.2.2.2⟩

/-- Registers go back to their reset values. -/
theorem State.resetRegs_kept {f : Nat → Bool} {s : State} (h : Kept q p s) : Kept q p (s.resetRegs f) :=
  ⟨h.1, h.2.1, Tab.wf_filter _ h.2.2.1, h.2.2.2⟩

theorem kept_of_eq {x y : State} (e : x = y) (h : Kept q p x) : Kept q p y := e ▸ h

theorem kept_pair_fst {a : State} {b : β} (h : Kept q p a) : Kept q p (a, b).1 := h

theorem kept_pair_snd {a : State} {b : β} (h : Kept q p a) : Kept q p (b, a).2 := h

theorem kept_ite_fst {c : Prop} [Decidable c] {a b : State × β} (ha : Kept q p a.1) (hb : Kept q p b.1) : Kept q p (if c then a else b).1 := by
  split <;> assumption

theorem kept_ite_snd {c : Prop} [Decidable c] {a b : β × State} (ha : Kept q p a.2) (hb : Kept q p b.2) : Kept q p (if c then a else b).2 := by
  split <;> assumption

/-- SIZE changes: the listed bytes of the recorder region go, the rest keep the canonical form (R12, R477). -/
theorem wf_dram_resize {uf : Option Nat} {l : List Host.Cell} (h : Tab.wf (openByte p uf) l = true) (n : Nat) :
    Tab.wf (openByte p (some n)) (l.filter (fun e => !State.recRegion p e.1)) = true := by
  have h1 := Tab.wf_filter (fun e => !State.recRegion p e.1) h
  simp only [Tab.wf, Bool.and_eq_true] at h1 ⊢
  refine ⟨h1.1, Tab.noDefault_congr h1.2 ?_⟩
  intro x hx
  have hr : State.recRegion p x.1 = false := by simpa using (List.mem_filter.1 hx).2
  unfold openByte
  rw [hr]
  cases uf <;> simp

end Sys2Proof.Machine
end

