-- ==== Sys2Proof/Laws/KeptOps.lean ====
section
/-! SUPPORT. `Kept` goes through every operation of the shared operations, fabric, queues and commands: one lemma per operation,
so that no proof about the queue, the part or the canonical form unfolds one. -/

namespace Sys2Proof.Machine

theorem State.advance_kept {q p} {a0 a1} (h1 : Kept q p a1) : Kept q p (State.advance a0 a1) := by
  unfold State.advance
  extract_lets +onlyGivenNames x0
  clear_value x0
  extract_lets +onlyGivenNames x1
  clear_value x1
  extract_lets +onlyGivenNames x2
  clear_value x2
  extract_lets +onlyGivenNames x3
  clear_value x3
  refine kept_mk' (kept_comp ?_)
  exact h1

theorem State.setField_kept {q p} {a0 a1 a2 a3 a4} (h4 : Kept q p a4) : Kept q p (State.setField a0 a1 a2 a3 a4) := by
  unfold State.setField
  apply State.setReg_kept
  exact h4

theorem State.bump_kept {q p} {a0 a1 a2 a3 a4} (h4 : Kept q p a4) : Kept q p (State.bump a0 a1 a2 a3 a4) := by
  unfold State.bump
  apply State.setField_kept
  exact h4

theorem State.orReg_kept {q p} {a0 a1 a2} (h2 : Kept q p a2) : Kept q p (State.orReg a0 a1 a2) := by
  unfold State.orReg
  apply State.setReg_kept
  exact h2

theorem State.dropWrite_kept {q p} {a0 a1} (h1 : Kept q p a1) : Kept q p (State.dropWrite a0 a1) := by
  unfold State.dropWrite
  apply State.bump_kept
  apply State.bump_kept
  apply State.orReg_kept
  exact h1

theorem State.setReg64_kept {q p} {a0 a1 a2 a3} (h3 : Kept q p a3) : Kept q p (State.setReg64 a0 a1 a2 a3) := by
  unfold State.setReg64
  apply State.setReg_kept
  apply State.setReg_kept
  exact h3

theorem State.closeBlock_kept {q p} {a0 a1} (h1 : Kept q p a1) : Kept q p (State.closeBlock a0 a1) := by
  unfold State.closeBlock
  extract_lets +onlyGivenNames x0
  clear_value x0
  extract_lets +onlyGivenNames x1
  clear_value x1
  extract_lets +onlyGivenNames x2
  clear_value x2
  extract_lets +onlyGivenNames x3
  have k4 : Kept q p x3 := by
    unfold x3
    refine kept_mk' (kept_comp ?_)
    exact h1
  clear_value x3
  apply State.setReg_kept
  apply State.setReg64_kept
  apply State.setField_kept
  exact k4

theorem State.recPut_kept {q p} {a0 a1} (h1 : Kept q p a1) : Kept q p (State.recPut a0 a1) := by
  unfold State.recPut
  extract_lets +onlyGivenNames x0
  have k1 : Kept q p x0 := by
    unfold x0
    refine kept_ite ?_ ?_
    · apply State.closeBlock_kept
      exact h1
    · exact h1
  clear_value x0
  refine kept_mk' (kept_comp ?_)
  exact k1

theorem State.recPieces_kept {q p} {a0 a1 a2 a3} (h3 : Kept q p a3) : Kept q p (State.recPieces a0 a1 a2 a3) := by
  induction a1 generalizing a2 a3 with
  | zero => exact h3
  | succ n ih =>
    unfold State.recPieces
    split
    · exact State.recPut_kept h3
    · exact ih (State.recPut_kept h3)

theorem State.recAppend_kept {q p} {a0 a1 a2} (h2 : Kept q p a2) : Kept q p (State.recAppend a0 a1 a2) := by
  unfold State.recAppend
  refine kept_ite ?_ ?_
  · split
    · refine kept_mk' (kept_comp ?_)
      exact h2
    · exact h2
  · refine kept_ite ?_ ?_
    · apply State.recPieces_kept
      exact h2
    · exact h2

theorem State.recWrite_kept {q p} {a0 a1 a2 a3} (h3 : Kept q p a3) : Kept q p (State.recWrite a0 a1 a2 a3) := by
  unfold State.recWrite
  apply State.recAppend_kept
  exact h3

theorem State.baseWrite_kept {q p} {a0 a1 a2 a3 a4} (h3 : ∀ x0, Kept q p x0 → Kept q p (a3 x0)) (h4 : Kept q p a4) : Kept q p (State.baseWrite a0 a1 a2 a3 a4) := by
  unfold State.baseWrite
  refine kept_ite ?_ ?_
  · apply h3
    apply State.recWrite_kept
    exact h4
  · apply State.dropWrite_kept
    exact h4

theorem State.clrReg_kept {q p} {a0 a1 a2} (h2 : Kept q p a2) : Kept q p (State.clrReg a0 a1 a2) := by
  unfold State.clrReg
  apply State.setReg_kept
  exact h2

theorem State.setUnit_kept {q p} {a0 a1 a2} (h2 : Kept q p a2) : Kept q p (State.setUnit a0 a1 a2) := by
  unfold State.setUnit
  split
  · refine kept_mk' (kept_comp ?_)
    exact h2
  · refine kept_mk' (kept_comp ?_)
    exact h2

theorem State.landFlight_kept {q p} {a0 a1 a2 a3 a4} (h4 : Kept q p a4) : Kept q p (State.landFlight a0 a1 a2 a3 a4) := by
  unfold State.landFlight
  extract_lets +onlyGivenNames x0
  clear_value x0
  apply State.setUnit_kept
  exact h4

theorem State.landRec_kept {q p} {a0 a1 a2 a3} (h3 : Kept q p a3) : Kept q p (State.landRec a0 a1 a2 a3) := by
  unfold State.landRec
  refine kept_ite ?_ ?_
  · exact h3
  · apply State.landFlight_kept
    exact h3

theorem State.loseRecord_kept {q p} {a0 a1} (h1 : Kept q p a1) : Kept q p (State.loseRecord a0 a1) := by
  unfold State.loseRecord
  apply State.orReg_kept
  apply State.bump_kept
  exact h1

theorem State.setFn_kept {q p} {a0 a1 a2 a3} (h3 : Kept q p a3) : Kept q p (State.setFn a0 a1 a2 a3) := by
  unfold State.setFn
  apply State.setUnit_kept
  exact h3

theorem State.setCq_kept {q p} {a0 a1 a2 a3 a4} (h4 : Kept q p a4) : Kept q p (State.setCq a0 a1 a2 a3 a4) := by
  unfold State.setCq
  apply State.setFn_kept
  exact h4

theorem State.hostWrite_kept {q p} {a0 a1 a2 a3} (h3 : Kept q p a3) : Kept q p (State.hostWrite a0 a1 a2 a3) := by
  unfold State.hostWrite
  extract_lets +onlyGivenNames x0
  clear_value x0
  apply State.setUnit_kept
  exact h3

theorem State.pmcAdd_kept {q p} {a0 a1 a2 a3} (h3 : Kept q p a3) : Kept q p (State.pmcAdd a0 a1 a2 a3) := by
  unfold State.pmcAdd
  extract_lets +onlyGivenNames x0
  clear_value x0
  extract_lets +onlyGivenNames x1
  have k2 : Kept q p x1 := by
    unfold x1
    apply State.setReg_kept
    exact h3
  clear_value x1
  extract_lets +onlyGivenNames x3
  clear_value x3
  refine kept_ite ?_ ?_
  · exact k2
  · refine kept_ite ?_ ?_
    · extract_lets +onlyGivenNames x4
      clear_value x4
      extract_lets +onlyGivenNames x5
      have k6 : Kept q p x5 := by
        unfold x5
        apply State.setReg_kept
        exact k2
      clear_value x5
      refine kept_ite ?_ ?_
      · exact k6
      · apply State.orReg_kept
        exact k6
    · apply State.orReg_kept
      exact k2

theorem State.pmcEvent_kept {q p} {a0 a1 a2 a3 a4} (h4 : Kept q p a4) : Kept q p (State.pmcEvent a0 a1 a2 a3 a4) := by
  unfold State.pmcEvent
  refine kept_ite ?_ ?_
  · refine kept_foldl ?_ ?_
    · intro z0 z1 k2
      refine kept_ite ?_ ?_
      · exact k2
      · apply State.pmcAdd_kept
        exact k2
    · exact h4
  · exact h4

theorem State.sendMsix_kept {q p} {a0 a1 a2 a3} (h3 : Kept q p a3) : Kept q p (State.sendMsix a0 a1 a2 a3) := by
  unfold State.sendMsix
  extract_lets +onlyGivenNames x0
  clear_value x0
  refine kept_ite ?_ ?_
  · apply State.setFn_kept
    exact h3
  · apply State.setUnit_kept
    exact h3

theorem State.writeCq_kept {q p} {a0 a1 a2 a3 a4} (h4 : Kept q p a4) : Kept q p (State.writeCq a0 a1 a2 a3 a4) := by
  unfold State.writeCq
  extract_lets +onlyGivenNames x0
  clear_value x0
  extract_lets +onlyGivenNames x1
  clear_value x1
  extract_lets +onlyGivenNames x2
  clear_value x2
  extract_lets +onlyGivenNames x3
  have k4 : Kept q p x3 := by
    unfold x3
    apply State.pmcEvent_kept
    apply State.hostWrite_kept
    exact h4
  clear_value x3
  extract_lets +onlyGivenNames x5
  clear_value x5
  extract_lets +onlyGivenNames x6
  clear_value x6
  extract_lets +onlyGivenNames x7
  clear_value x7
  extract_lets +onlyGivenNames x8
  clear_value x8
  extract_lets +onlyGivenNames x9
  have k10 : Kept q p x9 := by
    unfold x9
    apply State.landRec_kept
    apply State.setCq_kept
    exact k4
  clear_value x9
  refine kept_ite ?_ ?_
  · apply State.sendMsix_kept
    exact k10
  · exact k10

theorem State.postCq_kept {q p} {a0 a1 a2 a3} (h3 : Kept q p a3) : Kept q p (State.postCq a0 a1 a2 a3) := by
  unfold State.postCq
  extract_lets +onlyGivenNames x0
  clear_value x0
  refine kept_ite ?_ ?_
  · exact h3
  · refine kept_ite ?_ ?_
    · apply State.landRec_kept
      apply State.loseRecord_kept
      exact h3
    · refine kept_ite ?_ ?_
      · apply State.landRec_kept
        exact h3
      · refine kept_ite ?_ ?_
        · apply State.landRec_kept
          apply State.loseRecord_kept
          exact h3
        · refine kept_ite ?_ ?_
          · apply State.setCq_kept
            exact h3
          · apply State.writeCq_kept
            exact h3

theorem State.completeAt_kept {q p} {a0 a1 a2 a3 a4 a5 a6 a7 a8} (h8 : Kept q p a8) : Kept q p (State.completeAt a0 a1 a2 a3 a4 a5 a6 a7 a8) := by
  unfold State.completeAt
  apply State.postCq_kept
  exact h8

theorem State.complete_kept {q p} {a0 a1 a2 a3 a4 a5 a6 a7} (h7 : Kept q p a7) : Kept q p (State.complete a0 a1 a2 a3 a4 a5 a6 a7) := by
  unfold State.complete
  apply State.completeAt_kept
  exact h7

theorem State.completeOpt_kept {q p} {a0 a1 a2 a3 a4 a5 a6 a7} (h7 : Kept q p a7) : Kept q p (State.completeOpt a0 a1 a2 a3 a4 a5 a6 a7) := by
  unfold State.completeOpt
  split
  · apply State.complete_kept
    exact h7
  · exact h7

theorem State.drawNat_kept {q p} {a0} (h0 : Kept q p a0) : Kept q p (State.drawNat a0).2 := by
  unfold State.drawNat
  refine kept_pair_snd ?_
  refine kept_mk' (kept_comp ?_)
  exact h0

theorem State.qSticky_kept {q p} {a0 a1 a2 a3 a4} (h4 : Kept q p a4) : Kept q p (State.qSticky a0 a1 a2 a3 a4) := by
  unfold State.qSticky
  apply State.sendMsix_kept
  apply State.orReg_kept
  exact h4

theorem State.writeEq_kept {q p} {a0 a1 a2 a3} (h3 : Kept q p a3) : Kept q p (State.writeEq a0 a1 a2 a3) := by
  unfold State.writeEq
  extract_lets +onlyGivenNames x0
  clear_value x0
  extract_lets +onlyGivenNames x1
  clear_value x1
  extract_lets +onlyGivenNames x2
  clear_value x2
  refine kept_ite ?_ ?_
  · apply State.qSticky_kept
    apply State.bump_kept
    apply State.setFn_kept
    exact h3
  · extract_lets +onlyGivenNames x3
    have k4 : Kept q p x3 := by
      unfold x3
      apply State.hostWrite_kept
      exact h3
    clear_value x3
    extract_lets +onlyGivenNames x5
    have k6 : Kept q p x5 := by
      unfold x5
      apply State.pmcEvent_kept
      exact k4
    clear_value x5
    extract_lets +onlyGivenNames x7
    clear_value x7
    extract_lets +onlyGivenNames x8
    clear_value x8
    extract_lets +onlyGivenNames x9
    clear_value x9
    extract_lets +onlyGivenNames x10
    clear_value x10
    extract_lets +onlyGivenNames x11
    clear_value x11
    extract_lets +onlyGivenNames x12
    clear_value x12
    extract_lets +onlyGivenNames x13
    have k14 : Kept q p x13 := by
      unfold x13
      apply State.setFn_kept
      exact k6
    clear_value x13
    refine kept_ite ?_ ?_
    · apply State.sendMsix_kept
      exact k14
    · exact k14

theorem State.eventToFn_kept {q p} {a0 a1 a2 a3} (h2 : Kept q p a2) : Kept q p (State.eventToFn a0 a1 a2 a3) := by
  unfold State.eventToFn
  refine kept_ite ?_ ?_
  · exact h2
  · refine kept_ite ?_ ?_
    · apply State.loseRecord_kept
      exact h2
    · extract_lets +onlyGivenNames x0
      clear_value x0
      refine kept_ite ?_ ?_
      · refine kept_ite ?_ ?_
        · apply State.setFn_kept
          exact h2
        · apply State.loseRecord_kept
          exact h2
      · apply State.writeEq_kept
        exact h2

theorem State.eventTo_kept {q p} {a0 a1 a2 a3 a4 a5 a6 a7 a8 a9} (h9 : Kept q p a9) : Kept q p (State.eventTo a0 a1 a2 a3 a4 a5 a6 a7 a8 a9) := by
  unfold State.eventTo
  extract_lets +onlyGivenNames x0
  clear_value x0
  extract_lets +onlyGivenNames x1
  clear_value x1
  refine kept_foldl ?_ ?_
  · intro z2 z3 k4
    apply State.eventToFn_kept
    exact k4
  · apply State.setUnit_kept
    exact h9

theorem State.event_kept {q p} {a0 a1 a2 a3 a4 a5 a6 a7 a8} (h8 : Kept q p a8) : Kept q p (State.event a0 a1 a2 a3 a4 a5 a6 a7 a8) := by
  unfold State.event
  split
  · refine kept_ite ?_ ?_
    · exact h8
    · apply State.eventTo_kept
      exact h8
  · exact h8

theorem State.idle_kept {q p} {a0} (h0 : Kept q p a0) : Kept q p (State.idle a0) := by
  unfold State.idle
  refine kept_ite ?_ ?_
  · apply State.advance_kept
    exact h0
  · exact h0

theorem State.loseCommand_kept {q p} {a0 a1} (h1 : Kept q p a1) : Kept q p (State.loseCommand a0 a1) := by
  unfold State.loseCommand
  apply State.bump_kept
  exact h1

theorem State.maskWrite_kept {q p} {a0 a1 a2 a3} (h3 : Kept q p a3) : Kept q p (State.maskWrite a0 a1 a2 a3) := by
  unfold State.maskWrite
  apply State.setReg_kept
  exact h3

theorem State.recEvent_kept {q p} {a0 a1 a2} (h2 : Kept q p a2) : Kept q p (State.recEvent a0 a1 a2) := by
  unfold State.recEvent
  apply State.recAppend_kept
  exact h2

theorem State.refuse_kept {q p} {a0 a1 a2} (h2 : Kept q p a2) : Kept q p (State.refuse a0 a1 a2) := by
  unfold State.refuse
  apply State.complete_kept
  exact h2

theorem State.rwlWrite_kept {q p} {a0 a1 a2 a3 a4 a5 a6 a7} (h7 : Kept q p a7) : Kept q p (State.rwlWrite a0 a1 a2 a3 a4 a5 a6 a7) := by
  unfold State.rwlWrite
  refine kept_ite ?_ ?_
  · extract_lets +onlyGivenNames x0
    have k1 : Kept q p x0 := by
      unfold x0
      apply State.maskWrite_kept
      exact h7
    clear_value x0
    refine kept_ite ?_ ?_
    · exact k1
    · apply State.orReg_kept
      exact k1
  · apply State.maskWrite_kept
    exact h7

theorem State.setSq_kept {q p} {a0 a1 a2 a3 a4} (h4 : Kept q p a4) : Kept q p (State.setSq a0 a1 a2 a3 a4) := by
  unfold State.setSq
  apply State.setFn_kept
  exact h4

theorem State.setTr_kept {q p} {a0 a1 a2 a3 a4} (h4 : Kept q p a4) : Kept q p (State.setTr a0 a1 a2 a3 a4) := by
  unfold State.setTr
  apply State.setFn_kept
  exact h4

theorem State.wrapInc_kept {q p} {a0 a1} (h1 : Kept q p a1) : Kept q p (State.wrapInc a0 a1) := by
  unfold State.wrapInc
  apply State.setReg_kept
  exact h1

theorem State.noteClamp_kept {q p} {a0 a1} (h1 : Kept q p a1) : Kept q p (State.noteClamp a0 a1) := by
  unfold State.noteClamp
  apply State.bump_kept
  apply State.orReg_kept
  apply State.orReg_kept
  exact h1

theorem State.setChan_kept {q p} {a0 a1 a2} (h2 : Kept q p a2) : Kept q p (State.setChan a0 a1 a2) := by
  unfold State.setChan
  refine kept_mk' (kept_comp ?_)
  exact h2

theorem State.evalOne_kept {q p} {a0 a1 a2 a3} (h3 : Kept q p a3) : Kept q p (State.evalOne a0 a1 a2 a3) := by
  unfold State.evalOne
  extract_lets +onlyGivenNames x0
  clear_value x0
  refine kept_ite ?_ ?_
  · extract_lets +onlyGivenNames x1
    clear_value x1
    extract_lets +onlyGivenNames x2
    clear_value x2
    extract_lets +onlyGivenNames x3
    clear_value x3
    refine kept_ite ?_ ?_
    · apply State.noteClamp_kept
      apply State.setChan_kept
      exact h3
    · apply State.setChan_kept
      exact h3
  · exact h3

theorem State.evalWhere_kept {q p} {a0 a1 a2 a3} (h3 : Kept q p a3) : Kept q p (State.evalWhere a0 a1 a2 a3) := by
  unfold State.evalWhere
  refine kept_foldl ?_ ?_
  · intro z0 z1 k2
    apply State.evalOne_kept
    exact k2
  · exact h3

theorem State.onCells_kept {q p} {a0 a1 a2} (h2 : Kept q p a2) : Kept q p (State.onCells a0 a1 a2) := by
  unfold State.onCells
  refine kept_mk' (kept_comp ?_)
  exact h2

theorem State.rebuildPark_kept {q p} {a0} (h0 : Kept q p a0) : Kept q p (State.rebuildPark a0) := by
  unfold State.rebuildPark
  refine kept_ite ?_ ?_
  · exact h0
  · extract_lets +onlyGivenNames x0
    clear_value x0
    extract_lets +onlyGivenNames x1
    clear_value x1
    extract_lets +onlyGivenNames x2
    have k3 : Kept q p x2 := by
      unfold x2
      refine kept_mk' (kept_comp ?_)
      exact h0
    clear_value x2
    extract_lets +onlyGivenNames x4
    clear_value x4
    extract_lets +onlyGivenNames x5
    clear_value x5
    extract_lets +onlyGivenNames x6
    clear_value x6
    extract_lets +onlyGivenNames x7
    have k8 : Kept q p x7 := by
      unfold x7
      refine kept_mk' (kept_comp ?_)
      exact k3
    clear_value x7
    refine kept_ite ?_ ?_
    · apply State.event_kept
      exact k8
    · exact k8

theorem State.showOff_kept {q p} {a0} (h0 : Kept q p a0) : Kept q p (State.showOff a0) := by
  unfold State.showOff
  apply State.setReg_kept
  refine kept_mk' (kept_comp ?_)
  exact h0

theorem State.showPark_kept {q p} {a0} (h0 : Kept q p a0) : Kept q p (State.showPark a0) := by
  unfold State.showPark
  apply State.setReg_kept
  refine kept_mk' (kept_comp ?_)
  exact h0

theorem State.abortCal_kept {q p} {a0} (h0 : Kept q p a0) : Kept q p (State.abortCal a0) := by
  unfold State.abortCal
  split
  · exact h0
  · extract_lets +onlyGivenNames x5
    clear_value x5
    extract_lets +onlyGivenNames x6
    have k7 : Kept q p x6 := by
      unfold x6
      refine kept_mk' (kept_comp ?_)
      exact h0
    clear_value x6
    extract_lets +onlyGivenNames x8
    have k9 : Kept q p x8 := by
      unfold x8
      refine kept_foldl ?_ ?_
      · intro z10 z11 k12
        apply State.clrReg_kept
        apply State.setField_kept
        exact k12
      · exact k7
    clear_value x8
    extract_lets +onlyGivenNames x13
    have k14 : Kept q p x13 := by
      unfold x13
      apply State.clrReg_kept
      apply State.orReg_kept
      apply State.clrReg_kept
      exact k9
    clear_value x13
    apply State.refuse_kept
    exact k14

theorem State.setDither_kept {q p} {a0 a1} (h1 : Kept q p a1) : Kept q p (State.setDither a0 a1) := by
  unfold State.setDither
  extract_lets +onlyGivenNames x0
  clear_value x0
  extract_lets +onlyGivenNames x1
  clear_value x1
  extract_lets +onlyGivenNames x2
  clear_value x2
  extract_lets +onlyGivenNames x3
  clear_value x3
  refine kept_foldl ?_ ?_
  · intro z4 z5 k6
    split
    · exact k6
    · extract_lets +onlyGivenNames x12
      clear_value x12
      apply State.setChan_kept
      exact k6
  · exact h1

theorem State.setLoopCell_kept {q p} {a0 a1 a2} (h2 : Kept q p a2) : Kept q p (State.setLoopCell a0 a1 a2) := by
  unfold State.setLoopCell
  refine kept_mk' (kept_comp ?_)
  exact h2

theorem State.restoreMode_kept {q p} {a0 a1 a2} (h2 : Kept q p a2) : Kept q p (State.restoreMode a0 a1 a2) := by
  unfold State.restoreMode
  extract_lets +onlyGivenNames x0
  clear_value x0
  apply State.setDither_kept
  apply State.setLoopCell_kept
  exact h2

theorem State.abortChar_kept {q p} {a0} (h0 : Kept q p a0) : Kept q p (State.abortChar a0) := by
  unfold State.abortChar
  extract_lets +onlyGivenNames x0
  clear_value x0
  extract_lets +onlyGivenNames x1
  have k2 : Kept q p x1 := by
    unfold x1
    refine kept_mk' (kept_comp ?_)
    exact h0
  clear_value x1
  extract_lets +onlyGivenNames x3
  have k4 : Kept q p x3 := by
    unfold x3
    split
    · exact h0
    · extract_lets +onlyGivenNames x10
      have k11 : Kept q p x10 := by
        unfold x10
        refine kept_foldl ?_ ?_
        · intro z12 z13 k14
          apply State.restoreMode_kept
          exact k14
        · exact k2
      clear_value x10
      apply State.refuse_kept
      apply State.clrReg_kept
      apply State.clrReg_kept
      apply State.orReg_kept
      apply State.clrReg_kept
      exact k11
  clear_value x3
  split
  · exact k4
  · extract_lets +onlyGivenNames x20
    clear_value x20
    extract_lets +onlyGivenNames x21
    have k22 : Kept q p x21 := by
      unfold x21
      refine kept_foldl ?_ ?_
      · intro z23 z24 k25
        apply State.restoreMode_kept
        exact k25
      · refine kept_mk' (kept_comp ?_)
        exact k4
    clear_value x21
    apply State.refuse_kept
    apply State.clrReg_kept
    apply State.orReg_kept
    apply State.clrReg_kept
    apply State.orReg_kept
    apply State.clrReg_kept
    exact k22

theorem State.abortSite_kept {q p} {a0 a1} (h1 : Kept q p a1) : Kept q p (State.abortSite a0 a1) := by
  unfold State.abortSite
  split
  · exact h1
  · apply State.clrReg_kept
    apply State.orReg_kept
    apply State.setField_kept
    refine kept_mk' (kept_comp ?_)
    exact h1

theorem State.enqueue_kept {q p} {a0 a1 a2} (h2 : Kept q p a2) : Kept q p (State.enqueue a0 a1 a2) := by
  unfold State.enqueue
  extract_lets +onlyGivenNames x0
  clear_value x0
  refine kept_ite ?_ ?_
  · apply State.bump_kept
    apply State.orReg_kept
    apply State.orReg_kept
    exact h2
  · apply State.setChan_kept
    exact h2

theorem State.squallRestore_kept {q p} {a0 a1} (h0 : Kept q p a0) : Kept q p (State.squallRestore a0 a1) := by
  unfold State.squallRestore
  extract_lets +onlyGivenNames x0
  have k1 : Kept q p x0 := by
    unfold x0
    split
    · refine kept_ite ?_ ?_
      · exact h0
      · apply State.enqueue_kept
        exact h0
    · exact h0
  clear_value x0
  apply State.restoreMode_kept
  exact k1

theorem State.squallResults_kept {q p} {a0 a1} (h1 : Kept q p a1) : Kept q p (State.squallResults a0 a1) := by
  unfold State.squallResults
  refine kept_foldl ?_ ?_
  · intro z0 z1 k2
    apply State.setReg_kept
    exact k2
  · exact h1

theorem State.abortSquall_kept {q p} {a0} (h0 : Kept q p a0) : Kept q p (State.abortSquall a0) := by
  unfold State.abortSquall
  split
  · exact h0
  · extract_lets +onlyGivenNames x5
    clear_value x5
    extract_lets +onlyGivenNames x6
    clear_value x6
    extract_lets +onlyGivenNames x7
    have k8 : Kept q p x7 := by
      unfold x7
      refine kept_mk' (kept_comp ?_)
      exact h0
    clear_value x7
    extract_lets +onlyGivenNames x9
    have k10 : Kept q p x9 := by
      unfold x9
      refine kept_ite ?_ ?_
      · refine kept_foldl ?_ ?_
        · intro z11 z12 k13
          apply State.squallRestore_kept
          exact k13
        · exact k8
      · exact k8
    clear_value x9
    extract_lets +onlyGivenNames x14
    have k15 : Kept q p x14 := by
      unfold x14
      apply State.orReg_kept
      apply State.clrReg_kept
      apply State.squallResults_kept
      exact k10
    clear_value x14
    extract_lets +onlyGivenNames x16
    have k17 : Kept q p x16 := by
      unfold x16
      apply State.recEvent_kept
      exact k15
    clear_value x16
    apply State.completeOpt_kept
    exact k17

theorem State.allManual_kept {q p} {a0} (h0 : Kept q p a0) : Kept q p (State.allManual a0) := by
  unfold State.allManual
  refine kept_foldl ?_ ?_
  · intro z0 z1 k2
    refine kept_ite ?_ ?_
    · apply State.restoreMode_kept
      exact k2
    · exact k2
  · exact h0

theorem State.clearFnCounts_kept {q p} {a0 a1 a2} (h2 : Kept q p a2) : Kept q p (State.clearFnCounts a0 a1 a2) := by
  unfold State.clearFnCounts
  refine kept_foldl ?_ ?_
  · intro z0 z1 k2
    apply State.setReg_kept
    exact k2
  · apply State.setReg_kept
    exact h2

theorem State.commandRec_kept {q p} {a0 a1 a2} (h2 : Kept q p a2) : Kept q p (State.commandRec a0 a1 a2) := by
  unfold State.commandRec
  refine kept_ite ?_ ?_
  · apply State.recAppend_kept
    exact h2
  · exact h2

theorem State.discardRq_kept {q p} {a0 a1} (h1 : Kept q p a1) : Kept q p (State.discardRq a0 a1) := by
  unfold State.discardRq
  extract_lets +onlyGivenNames x0
  clear_value x0
  apply State.setField_kept
  apply State.bump_kept
  refine kept_mk' (kept_comp ?_)
  exact h1

theorem State.disableResultQueues_kept {q p} {a0} (h0 : Kept q p a0) : Kept q p (State.disableResultQueues a0) := by
  unfold State.disableResultQueues
  refine kept_foldl ?_ ?_
  · intro z0 z1 k2
    refine kept_ite ?_ ?_
    · apply State.orReg_kept
      apply State.clrReg_kept
      apply State.discardRq_kept
      exact k2
    · exact k2
  · exact h0

theorem State.dropDescPre_kept {q p} {a0 a1} (h1 : Kept q p a1) : Kept q p (State.dropDescPre a0 a1) := by
  unfold State.dropDescPre
  extract_lets +onlyGivenNames x0
  clear_value x0
  extract_lets +onlyGivenNames x1
  clear_value x1
  extract_lets +onlyGivenNames x2
  have k3 : Kept q p x2 := by
    unfold x2
    refine kept_ite ?_ ?_
    · apply State.clrReg_kept
      refine kept_mk' (kept_comp ?_)
      exact h1
    · exact h1
  clear_value x2
  refine kept_ite ?_ ?_
  · apply State.clrReg_kept
    refine kept_mk' (kept_comp ?_)
    exact k3
  · exact k3

theorem State.dropCmds_kept {q p} {a0 a1 a2 a3} (h3 : Kept q p a3) : Kept q p (State.dropCmds a0 a1 a2 a3) := by
  unfold State.dropCmds
  extract_lets +onlyGivenNames x0
  clear_value x0
  extract_lets +onlyGivenNames x1
  clear_value x1
  extract_lets +onlyGivenNames x2
  clear_value x2
  extract_lets +onlyGivenNames x3
  clear_value x3
  extract_lets +onlyGivenNames x4
  clear_value x4
  extract_lets +onlyGivenNames x5
  clear_value x5
  extract_lets +onlyGivenNames x6
  clear_value x6
  extract_lets +onlyGivenNames x7
  clear_value x7
  extract_lets +onlyGivenNames x8
  clear_value x8
  extract_lets +onlyGivenNames x9
  clear_value x9
  extract_lets +onlyGivenNames x10
  have k11 : Kept q p x10 := by
    unfold x10
    apply State.setUnit_kept
    exact h3
  clear_value x10
  extract_lets +onlyGivenNames x12
  clear_value x12
  extract_lets +onlyGivenNames x13
  clear_value x13
  extract_lets +onlyGivenNames x14
  clear_value x14
  extract_lets +onlyGivenNames x15
  clear_value x15
  extract_lets +onlyGivenNames x16
  clear_value x16
  extract_lets +onlyGivenNames x17
  have k18 : Kept q p x17 := by
    unfold x17
    refine kept_mk' (kept_comp ?_)
    exact k11
  clear_value x17
  extract_lets +onlyGivenNames x19
  have k20 : Kept q p x19 := by
    unfold x19
    refine kept_foldl ?_ ?_
    · intro z21 z22 k23
      refine kept_ite ?_ ?_
      · apply State.clrReg_kept
        exact k23
      · exact k23
    · apply State.dropDescPre_kept
      exact k18
  clear_value x19
  refine kept_ite ?_ ?_
  · refine kept_foldl ?_ ?_
    · intro z24 z25 k26
      apply State.refuse_kept
      exact k26
    · exact k20
  · exact k20

theorem State.dropHeld_kept {q p} {a0 a1} (h1 : Kept q p a1) : Kept q p (State.dropHeld a0 a1) := by
  unfold State.dropHeld
  apply State.dropCmds_kept
  exact h1

theorem State.dropHeldFn_kept {q p} {a0 a1 a2} (h2 : Kept q p a2) : Kept q p (State.dropHeldFn a0 a1 a2) := by
  unfold State.dropHeldFn
  apply State.dropCmds_kept
  exact h2

theorem State.dropSchedPre_kept {q p} {a0} (h0 : Kept q p a0) : Kept q p (State.dropSchedPre a0) := by
  unfold State.dropSchedPre
  extract_lets +onlyGivenNames x0
  clear_value x0
  extract_lets +onlyGivenNames x1
  clear_value x1
  extract_lets +onlyGivenNames x2
  have k3 : Kept q p x2 := by
    unfold x2
    refine kept_ite ?_ ?_
    · apply State.clrReg_kept
      refine kept_mk' (kept_comp ?_)
      exact h0
    · exact h0
  clear_value x2
  refine kept_ite ?_ ?_
  · apply State.clrReg_kept
    refine kept_mk' (kept_comp ?_)
    exact k3
  · exact k3

theorem State.drtStop_kept {q p} {a0} (h0 : Kept q p a0) : Kept q p (State.drtStop a0) := by
  unfold State.drtStop
  extract_lets +onlyGivenNames x0
  clear_value x0
  extract_lets +onlyGivenNames x1
  clear_value x1
  apply State.clrReg_kept
  refine kept_mk' (kept_comp ?_)
  exact h0

theorem State.setBastes_kept {q p} {a0 a1 a2} (h2 : Kept q p a2) : Kept q p (State.setBastes a0 a1 a2) := by
  unfold State.setBastes
  split
  · refine kept_mk' (kept_comp ?_)
    exact h2
  · refine kept_mk' (kept_comp ?_)
    exact h2

theorem State.setSlot_kept {q p} {a0 a1 a2} (h2 : Kept q p a2) : Kept q p (State.setSlot a0 a1 a2) := by
  unfold State.setSlot
  refine kept_mk' (kept_comp ?_)
  exact h2

theorem State.endBastes_kept {q p} {a0 a1 a2} (h2 : Kept q p a2) : Kept q p (State.endBastes a0 a1 a2) := by
  unfold State.endBastes
  refine kept_foldl ?_ ?_
  · intro z0 z1 k2
    extract_lets +onlyGivenNames x3
    have k4 : Kept q p x3 := by
      unfold x3
      split
      · apply State.setSlot_kept
        exact k2
      · exact k2
    clear_value x3
    apply State.refuse_kept
    exact k4
  · apply State.setBastes_kept
    exact h2

theorem State.emptySlots_kept {q p} {a0} (h0 : Kept q p a0) : Kept q p (State.emptySlots a0) := by
  unfold State.emptySlots
  extract_lets +onlyGivenNames x0
  have k1 : Kept q p x0 := by
    unfold x0
    apply State.endBastes_kept
    apply State.endBastes_kept
    exact h0
  clear_value x0
  refine kept_foldl ?_ ?_
  · intro z2 z3 k4
    apply State.setSlot_kept
    exact k4
  · exact k1

theorem State.endPull_kept {q p} {a0} (h0 : Kept q p a0) : Kept q p (State.endPull a0) := by
  unfold State.endPull
  split
  · exact h0
  · apply State.clrReg_kept
    refine kept_mk' (kept_comp ?_)
    exact h0

theorem State.flushSkips_kept {q p} {a0} (h0 : Kept q p a0) : Kept q p (State.flushSkips a0) := by
  unfold State.flushSkips
  extract_lets +onlyGivenNames x0
  clear_value x0
  refine kept_foldl ?_ ?_
  · intro z1 z2 k3
    apply State.event_kept
    exact k3
  · refine kept_mk' (kept_comp ?_)
    exact h0

theorem State.loseBastes_kept {q p} {a0 a1} (h1 : Kept q p a1) : Kept q p (State.loseBastes a0 a1) := by
  unfold State.loseBastes
  apply State.endBastes_kept
  exact h1

theorem State.openNull_kept {q p} {a0} (h0 : Kept q p a0) : Kept q p (State.openNull a0) := by
  unfold State.openNull
  extract_lets +onlyGivenNames x0
  clear_value x0
  apply State.orReg_kept
  refine kept_mk' (kept_comp ?_)
  exact h0

theorem State.recCommand_kept {q p} {a0 a1} (h1 : Kept q p a1) : Kept q p (State.recCommand a0 a1) := by
  unfold State.recCommand
  refine kept_ite ?_ ?_
  · exact h1
  · apply State.commandRec_kept
    exact h1

theorem State.recReads_kept {q p} {a0 a1 a2} (h2 : Kept q p a2) : Kept q p (State.recReads a0 a1 a2) := by
  unfold State.recReads
  apply State.commandRec_kept
  exact h2

theorem State.recRestart_kept {q p} {a0} (h0 : Kept q p a0) : Kept q p (State.recRestart a0) := by
  unfold State.recRestart
  refine kept_mk' (kept_comp ?_)
  exact h0

theorem State.recResume_kept {q p} {a0} (h0 : Kept q p a0) : Kept q p (State.recResume a0) := by
  unfold State.recResume
  apply State.recRestart_kept
  exact h0

theorem State.requestBoundary_kept {q p} {a0} (h0 : Kept q p a0) : Kept q p (State.requestBoundary a0) := by
  unfold State.requestBoundary
  refine kept_ite ?_ ?_
  · apply State.openNull_kept
    exact h0
  · exact h0

theorem State.restoreLoops_kept {q p} {a0 a1 a2} (h2 : Kept q p a2) : Kept q p (State.restoreLoops a0 a1 a2) := by
  unfold State.restoreLoops
  refine kept_ite ?_ ?_
  · exact h2
  · refine kept_foldl ?_ ?_
    · intro z0 z1 k2
      extract_lets +onlyGivenNames x3
      refine kept_ite ?_ ?_
      · exact k2
      · extract_lets +onlyGivenNames x4
        extract_lets +onlyGivenNames x5
        extract_lets +onlyGivenNames x6
        clear_value x6
        extract_lets +onlyGivenNames x7
        clear_value x7
        apply State.setDither_kept
        apply State.setLoopCell_kept
        exact k2
    · exact h2

theorem State.showStart_kept {q p} {a0 a1} (h1 : Kept q p a1) : Kept q p (State.showStart a0 a1) := by
  unfold State.showStart
  apply State.setReg64_kept
  apply State.setReg_kept
  apply State.setReg_kept
  exact h1

theorem State.startedEvent_kept {q p} {a0 a1 a2} (h2 : Kept q p a2) : Kept q p (State.startedEvent a0 a1 a2) := by
  unfold State.startedEvent
  apply State.event_kept
  exact h2

theorem State.schedRestep_kept {q p} {a0} (h0 : Kept q p a0) : Kept q p (State.schedRestep a0) := by
  unfold State.schedRestep
  extract_lets +onlyGivenNames x0
  have k1 : Kept q p x0 := by
    unfold x0
    apply State.dropSchedPre_kept
    exact h0
  clear_value x0
  extract_lets +onlyGivenNames x2
  clear_value x2
  extract_lets +onlyGivenNames x3
  have k4 : Kept q p x3 := by
    unfold x3
    split
    · exact h0
    · extract_lets +onlyGivenNames x10
      clear_value x10
      extract_lets +onlyGivenNames x11
      clear_value x11
      apply State.startedEvent_kept
      apply State.showStart_kept
      apply State.bump_kept
      apply State.orReg_kept
      refine kept_mk' (kept_comp ?_)
      exact k1
  clear_value x3
  split
  · exact k4
  · extract_lets +onlyGivenNames x17
    clear_value x17
    refine kept_mk' (kept_comp ?_)
    exact k4

theorem State.schedStop_kept {q p} {a0 a1} (h1 : Kept q p a1) : Kept q p (State.schedStop a0 a1) := by
  unfold State.schedStop
  split
  · exact h1
  · extract_lets +onlyGivenNames x5
    have k6 : Kept q p x5 := by
      unfold x5
      apply State.dropSchedPre_kept
      apply State.flushSkips_kept
      exact h1
    clear_value x5
    extract_lets +onlyGivenNames x7
    clear_value x7
    extract_lets +onlyGivenNames x8
    clear_value x8
    extract_lets +onlyGivenNames x9
    have k10 : Kept q p x9 := by
      unfold x9
      refine kept_mk' (kept_comp ?_)
      exact k6
    clear_value x9
    extract_lets +onlyGivenNames x11
    have k12 : Kept q p x11 := by
      unfold x11
      apply State.setField_kept
      apply State.orReg_kept
      apply State.clrReg_kept
      exact k10
    clear_value x11
    extract_lets +onlyGivenNames x13
    have k14 : Kept q p x13 := by
      unfold x13
      apply State.event_kept
      exact k12
    clear_value x13
    refine kept_foldl ?_ ?_
    · intro z15 z16 k17
      apply State.complete_kept
      exact k17
    · exact k14

theorem State.corrRecord_kept {q p} {a0 a1} (h1 : Kept q p a1) : Kept q p (State.corrRecord a0 a1) := by
  unfold State.corrRecord
  apply State.recEvent_kept
  exact h1

theorem State.noteTiles_kept {q p} {a0 a1} (h1 : Kept q p a1) : Kept q p (State.noteTiles a0 a1) := by
  unfold State.noteTiles
  refine kept_foldl ?_ ?_
  · intro z0 z1 k2
    split
    · apply State.setField_kept
      apply State.setField_kept
      exact k2
    · exact k2
  · exact h1

theorem State.takeDrvCorr_kept {q p} {a0 a1} (h1 : Kept q p a1) : Kept q p (State.takeDrvCorr a0 a1) := by
  unfold State.takeDrvCorr
  refine kept_mk' (kept_comp ?_)
  exact h1

theorem State.takePortK_kept {q p} {a0} (h0 : Kept q p a0) : Kept q p (State.takePortK a0) := by
  unfold State.takePortK
  refine kept_foldl ?_ ?_
  · intro z0 z1 k2
    extract_lets +onlyGivenNames x3
    have k4 : Kept q p x3 := by
      unfold x3
      split
      · apply State.setReg_kept
        exact k2
      · exact k2
    clear_value x3
    split
    · apply State.setReg_kept
      exact k4
    · exact k4
  · exact h0

theorem State.takeThrow_kept {q p} {a0} (h0 : Kept q p a0) : Kept q p (State.takeThrow a0) := by
  unfold State.takeThrow
  refine kept_foldl ?_ ?_
  · intro z0 z1 k2
    split
    · apply State.setLoopCell_kept
      exact k2
    · exact k2
  · exact h0

theorem State.forceSet_kept {q p} {a0} (h0 : Kept q p a0) : Kept q p (State.forceSet a0) := by
  unfold State.forceSet
  refine kept_ite ?_ ?_
  · exact h0
  · extract_lets +onlyGivenNames x0
    clear_value x0
    extract_lets +onlyGivenNames x1
    clear_value x1
    extract_lets +onlyGivenNames x2
    have k3 : Kept q p x2 := by
      unfold x2
      refine kept_mk' (kept_comp ?_)
      exact h0
    clear_value x2
    extract_lets +onlyGivenNames x4
    clear_value x4
    extract_lets +onlyGivenNames x5
    have k6 : Kept q p x5 := by
      unfold x5
      apply State.setReg64_kept
      apply State.setReg_kept
      apply State.setReg_kept
      exact k3
    clear_value x5
    extract_lets +onlyGivenNames x7
    have k8 : Kept q p x7 := by
      unfold x7
      apply State.orReg_kept
      apply State.clrReg_kept
      exact k6
    clear_value x7
    extract_lets +onlyGivenNames x9
    have k10 : Kept q p x9 := by
      unfold x9
      refine kept_foldl ?_ ?_
      · intro z11 z12 k13
        apply State.setReg_kept
        exact k13
      · exact k8
    clear_value x9
    extract_lets +onlyGivenNames x14
    have k15 : Kept q p x14 := by
      unfold x14
      apply State.corrRecord_kept
      apply State.rebuildPark_kept
      apply State.takePortK_kept
      apply State.takeThrow_kept
      apply State.noteTiles_kept
      apply State.takeDrvCorr_kept
      exact k10
    clear_value x14
    apply State.event_kept
    exact k15

theorem State.forceUpdates_kept {q p} {a0} (h0 : Kept q p a0) : Kept q p (State.forceUpdates a0) := by
  unfold State.forceUpdates
  refine kept_ite ?_ ?_
  · exact h0
  · extract_lets +onlyGivenNames x0
    clear_value x0
    extract_lets +onlyGivenNames x1
    have k2 : Kept q p x1 := by
      unfold x1
      apply State.noteTiles_kept
      apply State.takeDrvCorr_kept
      exact h0
    clear_value x1
    extract_lets +onlyGivenNames x3
    clear_value x3
    extract_lets +onlyGivenNames x4
    have k5 : Kept q p x4 := by
      unfold x4
      refine kept_mk' (kept_comp ?_)
      exact k2
    clear_value x4
    apply State.corrRecord_kept
    apply State.clrReg_kept
    exact k5

theorem State.calBoundary_kept {q p} {a0} (h0 : Kept q p a0) : Kept q p (State.calBoundary a0) := by
  unfold State.calBoundary
  refine kept_ite ?_ ?_
  · apply State.forceSet_kept
    exact h0
  · apply State.forceUpdates_kept
    exact h0

theorem State.histPush_kept {q p} {a0 a1 a2} (h2 : Kept q p a2) : Kept q p (State.histPush a0 a1 a2) := by
  unfold State.histPush
  extract_lets +onlyGivenNames x0
  clear_value x0
  extract_lets +onlyGivenNames x1
  clear_value x1
  extract_lets +onlyGivenNames x2
  have k3 : Kept q p x2 := by
    unfold x2
    apply State.setField_kept
    refine kept_mk' (kept_comp ?_)
    exact h2
  clear_value x2
  refine kept_ite ?_ ?_
  · apply State.orReg_kept
    apply State.bump_kept
    exact k3
  · exact k3

theorem State.clearCalCells_kept {q p} {a0} (h0 : Kept q p a0) : Kept q p (State.clearCalCells a0) := by
  unfold State.clearCalCells
  extract_lets +onlyGivenNames x0
  clear_value x0
  extract_lets +onlyGivenNames x1
  have k2 : Kept q p x1 := by
    unfold x1
    refine kept_foldl ?_ ?_
    · intro z3 z4 k5
      apply State.histPush_kept
      exact k5
    · exact h0
  clear_value x1
  refine kept_mk' (kept_comp ?_)
  exact k2

theorem State.makePending_kept {q p} {a0 a1} (h1 : Kept q p a1) : Kept q p (State.makePending a0 a1) := by
  unfold State.makePending
  extract_lets +onlyGivenNames x0
  clear_value x0
  extract_lets +onlyGivenNames x1
  clear_value x1
  extract_lets +onlyGivenNames x2
  have k3 : Kept q p x2 := by
    unfold x2
    refine kept_foldl ?_ ?_
    · intro z4 z5 k6
      split
      · apply State.histPush_kept
        exact k6
      · exact k6
    · exact h1
  clear_value x2
  extract_lets +onlyGivenNames x12
  clear_value x12
  extract_lets +onlyGivenNames x13
  clear_value x13
  extract_lets +onlyGivenNames x14
  have k15 : Kept q p x14 := by
    unfold x14
    refine kept_mk' (kept_comp ?_)
    exact k3
  clear_value x14
  apply State.requestBoundary_kept
  apply State.orReg_kept
  apply State.setReg_kept
  exact k15

theorem State.classify_kept {q p} {a0 a1} (h1 : Kept q p a1) : Kept q p (State.classify a0 a1) := by
  unfold State.classify
  extract_lets +onlyGivenNames x0
  clear_value x0
  extract_lets +onlyGivenNames x1
  clear_value x1
  extract_lets +onlyGivenNames x2
  clear_value x2
  extract_lets +onlyGivenNames x3
  clear_value x3
  extract_lets +onlyGivenNames x4
  clear_value x4
  extract_lets +onlyGivenNames x5
  have k6 : Kept q p x5 := by
    unfold x5
    refine kept_mk' (kept_comp ?_)
    exact h1
  clear_value x5
  extract_lets +onlyGivenNames x7
  have k8 : Kept q p x7 := by
    unfold x7
    apply State.setField_kept
    apply State.setField_kept
    exact k6
  clear_value x7
  extract_lets +onlyGivenNames x9
  have k10 : Kept q p x9 := by
    unfold x9
    refine kept_ite ?_ ?_
    · apply State.orReg_kept
      apply State.orReg_kept
      exact k8
    · exact k8
  clear_value x9
  extract_lets +onlyGivenNames x11
  have k12 : Kept q p x11 := by
    unfold x11
    refine kept_ite ?_ ?_
    · apply State.orReg_kept
      exact k10
    · exact k10
  clear_value x11
  apply State.bump_kept
  exact k12

theorem State.clearSource_kept {q p} {a0 a1} (h1 : Kept q p a1) : Kept q p (State.clearSource a0 a1) := by
  unfold State.clearSource
  extract_lets +onlyGivenNames x0
  clear_value x0
  extract_lets +onlyGivenNames x1
  have k2 : Kept q p x1 := by
    unfold x1
    refine kept_mk' (kept_comp ?_)
    exact h1
  clear_value x1
  extract_lets +onlyGivenNames x3
  have k4 : Kept q p x3 := by
    unfold x3
    apply State.clrReg_kept
    apply State.clrReg_kept
    exact k2
  clear_value x3
  extract_lets +onlyGivenNames x5
  have k6 : Kept q p x5 := by
    unfold x5
    apply State.setField_kept
    apply State.setField_kept
    exact k4
  clear_value x5
  apply State.setReg_kept
  apply State.setReg_kept
  exact k6

theorem State.clearAll_kept {q p} {a0 a1} (h1 : Kept q p a1) : Kept q p (State.clearAll a0 a1) := by
  unfold State.clearAll
  refine kept_foldl ?_ ?_
  · intro z0 z1 k2
    apply State.clearSource_kept
    exact k2
  · exact h1

theorem State.clearFirst_kept {q p} {a0} (h0 : Kept q p a0) : Kept q p (State.clearFirst a0) := by
  unfold State.clearFirst
  refine kept_foldl ?_ ?_
  · intro z0 z1 k2
    apply State.setReg_kept
    exact k2
  · refine kept_foldl ?_ ?_
    · intro z3 z4 k5
      apply State.setReg_kept
      exact k5
    · exact h0

theorem State.dropOuts_kept {q p} {a0} (h0 : Kept q p a0) : Kept q p (State.dropOuts a0) := by
  unfold State.dropOuts
  refine kept_mk' (kept_comp ?_)
  exact h0

theorem State.flushQueue_kept {q p} {a0 a1} (h1 : Kept q p a1) : Kept q p (State.flushQueue a0 a1) := by
  unfold State.flushQueue
  extract_lets +onlyGivenNames x0
  clear_value x0
  refine kept_ite ?_ ?_
  · exact h1
  · apply State.orReg_kept
    apply State.setChan_kept
    exact h1

theorem State.flushAll_kept {q p} {a0} (h0 : Kept q p a0) : Kept q p (State.flushAll a0) := by
  unfold State.flushAll
  refine kept_foldl ?_ ?_
  · intro z0 z1 k2
    apply State.flushQueue_kept
    exact k2
  · exact h0

theorem State.holdData_kept {q p} {a0} (h0 : Kept q p a0) : Kept q p (State.holdData a0) := by
  unfold State.holdData
  refine kept_ite ?_ ?_
  · exact h0
  · extract_lets +onlyGivenNames x0
    have k1 : Kept q p x0 := by
      unfold x0
      apply State.flushAll_kept
      exact h0
    clear_value x0
    apply State.drtStop_kept
    apply State.dropOuts_kept
    refine kept_mk' (kept_comp ?_)
    exact k1

theorem State.holdChans_kept {q p} {a0} (h0 : Kept q p a0) : Kept q p (State.holdChans a0) := by
  unfold State.holdChans
  refine kept_ite ?_ ?_
  · exact h0
  · apply State.holdData_kept
    exact h0

theorem State.logSuppress_kept {q p} {a0} (h0 : Kept q p a0) : Kept q p (State.logSuppress a0) := by
  unfold State.logSuppress
  apply State.orReg_kept
  apply State.bump_kept
  refine kept_mk' (kept_comp ?_)
  exact h0

theorem State.logPut_kept {q p} {a0 a1 a2 a3 a4 a5 a6} (h6 : Kept q p a6) : Kept q p (State.logPut a0 a1 a2 a3 a4 a5 a6) := by
  unfold State.logPut
  extract_lets +onlyGivenNames x0
  clear_value x0
  extract_lets +onlyGivenNames x1
  clear_value x1
  extract_lets +onlyGivenNames x2
  clear_value x2
  extract_lets +onlyGivenNames x3
  clear_value x3
  refine kept_ite ?_ ?_
  · apply State.logSuppress_kept
    exact h6
  · extract_lets +onlyGivenNames x4
    clear_value x4
    refine kept_ite ?_ ?_
    · split
      · extract_lets +onlyGivenNames x8
        clear_value x8
        apply State.orReg_kept
        apply State.bump_kept
        refine kept_mk' (kept_comp ?_)
        exact h6
      · refine kept_mk' (kept_comp ?_)
        exact h6
    · apply State.bump_kept
      apply State.setReg_kept
      refine kept_mk' (kept_comp ?_)
      exact h6

theorem State.recTrigger_kept {q p} {a0 a1 a2 a3} (h3 : Kept q p a3) : Kept q p (State.recTrigger a0 a1 a2 a3) := by
  unfold State.recTrigger
  refine kept_ite ?_ ?_
  · apply State.orReg_kept
    refine kept_mk' (kept_comp ?_)
    exact h3
  · exact h3

theorem State.safeAborts_kept {q p} {a0} (h0 : Kept q p a0) : Kept q p (State.safeAborts a0) := by
  unfold State.safeAborts
  refine kept_ite ?_ ?_
  · exact h0
  · apply State.abortSquall_kept
    apply State.abortChar_kept
    apply State.abortCal_kept
    apply State.abortSite_kept
    exact h0

theorem State.safeEvent_kept {q p} {a0 a1 a2 a3} (h3 : Kept q p a3) : Kept q p (State.safeEvent a0 a1 a2 a3) := by
  unfold State.safeEvent
  apply State.event_kept
  exact h3

theorem State.enterHold_kept {q p} {a0 a1 a2} (h2 : Kept q p a2) : Kept q p (State.enterHold a0 a1 a2) := by
  unfold State.enterHold
  refine kept_ite ?_ ?_
  · exact h2
  · extract_lets +onlyGivenNames x0
    have k1 : Kept q p x0 := by
      unfold x0
      apply State.setReg_kept
      apply State.holdChans_kept
      exact h2
    clear_value x0
    extract_lets +onlyGivenNames x2
    have k3 : Kept q p x2 := by
      unfold x2
      apply State.safeEvent_kept
      apply State.safeAborts_kept
      exact k1
    clear_value x2
    apply State.recTrigger_kept
    apply State.recEvent_kept
    apply State.logPut_kept
    exact k3

theorem State.parkData_kept {q p} {a0} (h0 : Kept q p a0) : Kept q p (State.parkData a0) := by
  unfold State.parkData
  extract_lets +onlyGivenNames x0
  have k1 : Kept q p x0 := by
    unfold x0
    apply State.flushAll_kept
    exact h0
  clear_value x0
  apply State.drtStop_kept
  apply State.dropOuts_kept
  refine kept_mk' (kept_comp ?_)
  exact k1

theorem State.parkChans_kept {q p} {a0} (h0 : Kept q p a0) : Kept q p (State.parkChans a0) := by
  unfold State.parkChans
  refine kept_ite ?_ ?_
  · refine kept_mk' (kept_comp ?_)
    exact h0
  · apply State.parkData_kept
    exact h0

theorem State.enterPark_kept {q p} {a0 a1 a2 a3} (h3 : Kept q p a3) : Kept q p (State.enterPark a0 a1 a2 a3) := by
  unfold State.enterPark
  refine kept_ite ?_ ?_
  · exact h3
  · extract_lets +onlyGivenNames x0
    have k1 : Kept q p x0 := by
      unfold x0
      apply State.setReg_kept
      apply State.parkChans_kept
      exact h3
    clear_value x0
    extract_lets +onlyGivenNames x2
    have k3 : Kept q p x2 := by
      unfold x2
      apply State.schedStop_kept
      apply State.safeAborts_kept
      refine kept_ite ?_ ?_
      · apply State.showPark_kept
        exact k1
      · exact k1
    clear_value x2
    extract_lets +onlyGivenNames x4
    have k5 : Kept q p x4 := by
      unfold x4
      refine kept_ite ?_ ?_
      · apply State.safeEvent_kept
        exact k3
      · exact k3
    clear_value x4
    apply State.recTrigger_kept
    apply State.recEvent_kept
    apply State.logPut_kept
    exact k5

theorem State.faultEvent_kept {q p} {a0 a1 a2} (h2 : Kept q p a2) : Kept q p (State.faultEvent a0 a1 a2) := by
  unfold State.faultEvent
  extract_lets +onlyGivenNames x0
  clear_value x0
  extract_lets +onlyGivenNames x1
  clear_value x1
  extract_lets +onlyGivenNames x2
  clear_value x2
  refine kept_ite ?_ ?_
  · apply State.event_kept
    exact h2
  · apply State.eventTo_kept
    exact h2

theorem State.firstFrom_kept {q p} {a0 a1} (h1 : Kept q p a1) : Kept q p (State.firstFrom a0 a1) := by
  unfold State.firstFrom
  extract_lets +onlyGivenNames x0
  clear_value x0
  extract_lets +onlyGivenNames x1
  have k2 : Kept q p x1 := by
    unfold x1
    apply State.setReg_kept
    exact h1
  clear_value x1
  extract_lets +onlyGivenNames x3
  have k4 : Kept q p x3 := by
    unfold x3
    apply State.setReg_kept
    apply State.setReg_kept
    exact k2
  clear_value x3
  apply State.orReg_kept
  exact k4

theorem State.mergeInto_kept {q p} {a0 a1} (h1 : Kept q p a1) : Kept q p (State.mergeInto a0 a1) := by
  unfold State.mergeInto
  extract_lets +onlyGivenNames x0
  have k1 : Kept q p x0 := by
    unfold x0
    apply State.bump_kept
    apply State.orReg_kept
    exact h1
  clear_value x0
  extract_lets +onlyGivenNames x2
  have k3 : Kept q p x2 := by
    unfold x2
    apply State.setReg_kept
    apply State.setReg_kept
    exact k1
  clear_value x2
  extract_lets +onlyGivenNames x4
  have k5 : Kept q p x4 := by
    unfold x4
    apply State.setField_kept
    exact k3
  clear_value x4
  apply State.setReg_kept
  apply State.bump_kept
  exact k5

theorem State.firstRecord_kept {q p} {a0 a1} (h1 : Kept q p a1) : Kept q p (State.firstRecord a0 a1) := by
  unfold State.firstRecord
  extract_lets +onlyGivenNames x0
  clear_value x0
  refine kept_ite ?_ ?_
  · refine kept_foldl ?_ ?_
    · intro z1 z2 k3
      apply State.mergeInto_kept
      exact k3
    · exact h1
  · split
    · exact h1
    · refine kept_foldl ?_ ?_
      · intro z9 z10 k11
        apply State.mergeInto_kept
        exact k11
      · apply State.firstFrom_kept
        exact h1

theorem State.freeze_kept {q p} {a0 a1 a2 a3} (h3 : Kept q p a3) : Kept q p (State.freeze a0 a1 a2 a3) := by
  unfold State.freeze
  refine kept_ite ?_ ?_
  · exact h3
  · extract_lets +onlyGivenNames x0
    have k1 : Kept q p x0 := by
      unfold x0
      apply State.recAppend_kept
      exact h3
    clear_value x0
    extract_lets +onlyGivenNames x2
    have k3 : Kept q p x2 := by
      unfold x2
      refine kept_ite ?_ ?_
      · apply State.closeBlock_kept
        exact k1
      · exact k1
    clear_value x2
    extract_lets +onlyGivenNames x4
    clear_value x4
    extract_lets +onlyGivenNames x5
    have k6 : Kept q p x5 := by
      unfold x5
      apply State.orReg_kept
      refine kept_mk' (kept_comp ?_)
      exact k3
    clear_value x5
    extract_lets +onlyGivenNames x7
    have k8 : Kept q p x7 := by
      unfold x7
      apply State.setReg64_kept
      apply State.clrReg_kept
      exact k6
    clear_value x7
    split
    · apply State.eventTo_kept
      exact k8
    · exact k8

theorem State.levelEnd_kept {q p} {a0 a1} (h1 : Kept q p a1) : Kept q p (State.levelEnd a0 a1) := by
  unfold State.levelEnd
  apply State.clrReg_kept
  exact h1

theorem State.noteCaller_kept {q p} {a0 a1} (h1 : Kept q p a1) : Kept q p (State.noteCaller a0 a1) := by
  unfold State.noteCaller
  refine kept_ite ?_ ?_
  · exact h1
  · refine kept_mk' (kept_comp ?_)
    exact h1

theorem State.scheduleDown_kept {q p} {a0} (h0 : Kept q p a0) : Kept q p (State.scheduleDown a0) := by
  unfold State.scheduleDown
  refine kept_mk' (kept_comp ?_)
  exact h0

theorem State.react_kept {q p} {a0 a1 a2} (h2 : Kept q p a2) : Kept q p (State.react a0 a1 a2) := by
  unfold State.react
  extract_lets +onlyGivenNames x0
  clear_value x0
  extract_lets +onlyGivenNames x1
  clear_value x1
  extract_lets +onlyGivenNames x2
  have k3 : Kept q p x2 := by
    unfold x2
    refine kept_ite ?_ ?_
    · apply State.recTrigger_kept
      exact h2
    · exact h2
  clear_value x2
  split
  · refine kept_ite ?_ ?_
    · apply State.faultEvent_kept
      exact k3
    · exact k3
  · refine kept_ite ?_ ?_
    · apply State.faultEvent_kept
      exact k3
    · exact k3
  · apply State.faultEvent_kept
    exact k3
  · extract_lets +onlyGivenNames x11
    clear_value x11
    extract_lets +onlyGivenNames x12
    have k13 : Kept q p x12 := by
      unfold x12
      refine kept_ite ?_ ?_
      · exact k3
      · apply State.logPut_kept
        apply State.orReg_kept
        exact k3
    clear_value x12
    extract_lets +onlyGivenNames x14
    have k15 : Kept q p x14 := by
      unfold x14
      refine kept_ite ?_ ?_
      · exact k13
      · apply State.faultEvent_kept
        exact k13
    clear_value x14
    refine kept_ite ?_ ?_
    · apply State.scheduleDown_kept
      apply State.clrReg_kept
      apply State.enterPark_kept
      apply State.noteCaller_kept
      exact k15
    · refine kept_ite ?_ ?_
      · apply State.enterHold_kept
        apply State.noteCaller_kept
        exact k15
      · refine kept_ite ?_ ?_
        · apply State.enterPark_kept
          apply State.noteCaller_kept
          exact k15
        · exact k15

theorem State.wtrStop_kept {q p} {a0} (h0 : Kept q p a0) : Kept q p (State.wtrStop a0) := by
  unfold State.wtrStop
  refine kept_ite ?_ ?_
  · apply State.clrReg_kept
    refine kept_mk' (kept_comp ?_)
    exact h0
  · exact h0

theorem State.report_kept {q p} {a0 a1} (h1 : Kept q p a1) : Kept q p (State.report a0 a1) := by
  unfold State.report
  extract_lets +onlyGivenNames x0
  clear_value x0
  extract_lets +onlyGivenNames x1
  clear_value x1
  extract_lets +onlyGivenNames x2
  have k3 : Kept q p x2 := by
    unfold x2
    refine kept_foldl ?_ ?_
    · intro z4 z5 k6
      apply State.classify_kept
      exact k6
    · exact h1
  clear_value x2
  extract_lets +onlyGivenNames x7
  have k8 : Kept q p x7 := by
    unfold x7
    apply State.firstRecord_kept
    exact k3
  clear_value x7
  extract_lets +onlyGivenNames x9
  have k10 : Kept q p x9 := by
    unfold x9
    refine kept_foldl ?_ ?_
    · intro z11 z12 k13
      apply State.react_kept
      exact k13
    · exact k8
  clear_value x9
  refine kept_ite ?_ ?_
  · apply State.wtrStop_kept
    exact k10
  · exact k10

theorem State.report1_kept {q p} {a0 a1 a2} (h2 : Kept q p a2) : Kept q p (State.report1 a0 a1 a2) := by
  unfold State.report1
  apply State.report_kept
  exact h2

theorem State.thimbleRelease_kept {q p} {a0} (h0 : Kept q p a0) : Kept q p (State.thimbleRelease a0) := by
  unfold State.thimbleRelease
  refine kept_ite ?_ ?_
  · exact h0
  · refine kept_ite ?_ ?_
    · apply State.orReg_kept
      exact h0
    · refine kept_mk' (kept_comp ?_)
      exact h0

theorem State.copyShape_kept {q p} {a0 a1 a2} (h2 : Kept q p a2) : Kept q p (State.copyShape a0 a1 a2) := by
  unfold State.copyShape
  apply State.setReg_kept
  apply State.setReg_kept
  exact h2

theorem State.drvSwitch_kept {q p} {a0 a1} (h1 : Kept q p a1) : Kept q p (State.drvSwitch a0 a1) := by
  unfold State.drvSwitch
  extract_lets +onlyGivenNames x0
  clear_value x0
  extract_lets +onlyGivenNames x1
  clear_value x1
  extract_lets +onlyGivenNames x2
  clear_value x2
  extract_lets +onlyGivenNames x3
  clear_value x3
  extract_lets +onlyGivenNames x4
  have k5 : Kept q p x4 := by
    unfold x4
    refine kept_ite ?_ ?_
    · apply State.copyShape_kept
      exact h1
    · apply State.copyShape_kept
      exact h1
  clear_value x4
  refine kept_ite ?_ ?_
  · apply State.setChan_kept
    apply State.setChan_kept
    exact k5
  · apply State.setChan_kept
    apply State.setChan_kept
    exact k5

theorem State.setMon_kept {q p} {a0 a1 a2} (h2 : Kept q p a2) : Kept q p (State.setMon a0 a1 a2) := by
  unfold State.setMon
  refine kept_mk' (kept_comp ?_)
  exact h2

theorem State.monSwitch_kept {q p} {a0 a1} (h1 : Kept q p a1) : Kept q p (State.monSwitch a0 a1) := by
  unfold State.monSwitch
  extract_lets +onlyGivenNames x0
  clear_value x0
  extract_lets +onlyGivenNames x1
  clear_value x1
  extract_lets +onlyGivenNames x2
  clear_value x2
  extract_lets +onlyGivenNames x3
  clear_value x3
  refine kept_ite ?_ ?_
  · apply State.setMon_kept
    apply State.setMon_kept
    exact h1
  · apply State.setMon_kept
    apply State.setMon_kept
    exact h1

theorem State.spAux_kept {q p} {a0 a1} (h1 : Kept q p a1) : Kept q p (State.spAux a0 a1) := by
  unfold State.spAux
  extract_lets +onlyGivenNames x0
  have k1 : Kept q p x0 := by
    unfold x0
    refine kept_foldl ?_ ?_
    · intro z2 z3 k4
      refine kept_foldl ?_ ?_
      · intro z5 z6 k7
        apply State.clrReg_kept
        exact k7
      · refine kept_foldl ?_ ?_
        · intro z8 z9 k10
          apply State.clrReg_kept
          exact k10
        · exact k4
    · exact h1
  clear_value x0
  refine kept_foldl ?_ ?_
  · intro z11 z12 k13
    refine kept_ite ?_ ?_
    · apply State.orReg_kept
      exact k13
    · refine kept_ite ?_ ?_
      · apply State.orReg_kept
        exact k13
      · exact k13
  · exact k1

theorem State.spCopy_kept {q p} {a0 a1} (h1 : Kept q p a1) : Kept q p (State.spCopy a0 a1) := by
  unfold State.spCopy
  extract_lets +onlyGivenNames x0
  clear_value x0
  extract_lets +onlyGivenNames x1
  clear_value x1
  extract_lets +onlyGivenNames x2
  clear_value x2
  extract_lets +onlyGivenNames x3
  clear_value x3
  refine kept_ite ?_ ?_
  · extract_lets +onlyGivenNames x4
    clear_value x4
    apply State.setMon_kept
    exact h1
  · apply State.copyShape_kept
    apply State.setChan_kept
    exact h1

theorem State.spTrack_kept {q p} {a0 a1 a2 a3 a4} (h4 : Kept q p a4) : Kept q p (State.spTrack a0 a1 a2 a3 a4) := by
  unfold State.spTrack
  refine kept_ite ?_ ?_
  · refine kept_mk' (kept_comp ?_)
    exact h4
  · refine kept_mk' (kept_comp ?_)
    exact h4

theorem State.spBegin_kept {q p} {a0 a1 a2 a3 a4} (h4 : Kept q p a4) : Kept q p (State.spBegin a0 a1 a2 a3 a4) := by
  unfold State.spBegin
  apply State.requestBoundary_kept
  apply State.spCopy_kept
  apply State.spTrack_kept
  apply State.clrReg_kept
  apply State.orReg_kept
  exact h4

theorem State.spComplete_kept {q p} {a0 a1 a2 a3 a4} (h4 : Kept q p a4) : Kept q p (State.spComplete a0 a1 a2 a3 a4) := by
  unfold State.spComplete
  split
  · exact h4
  · refine kept_ite ?_ ?_
    · apply State.complete_kept
      exact h4
    · apply State.refuse_kept
      exact h4

theorem State.spUntrack_kept {q p} {a0 a1} (h1 : Kept q p a1) : Kept q p (State.spUntrack a0 a1) := by
  unfold State.spUntrack
  refine kept_ite ?_ ?_
  · refine kept_mk' (kept_comp ?_)
    exact h1
  · refine kept_mk' (kept_comp ?_)
    exact h1

theorem State.spSwitch_kept {q p} {a0 a1} (h1 : Kept q p a1) : Kept q p (State.spSwitch a0 a1) := by
  unfold State.spSwitch
  extract_lets +onlyGivenNames x0
  clear_value x0
  extract_lets +onlyGivenNames x1
  clear_value x1
  extract_lets +onlyGivenNames x2
  have k3 : Kept q p x2 := by
    unfold x2
    refine kept_ite ?_ ?_
    · apply State.monSwitch_kept
      exact h1
    · apply State.drvSwitch_kept
      exact h1
  clear_value x2
  extract_lets +onlyGivenNames x4
  have k5 : Kept q p x4 := by
    unfold x4
    apply State.orReg_kept
    apply State.spUntrack_kept
    apply State.setReg_kept
    exact k3
  clear_value x4
  extract_lets +onlyGivenNames x6
  have k7 : Kept q p x6 := by
    unfold x6
    apply State.recEvent_kept
    exact k5
  clear_value x6
  extract_lets +onlyGivenNames x8
  clear_value x8
  extract_lets +onlyGivenNames x9
  have k10 : Kept q p x9 := by
    unfold x9
    refine kept_mk' (kept_comp ?_)
    exact k7
  clear_value x9
  apply State.spComplete_kept
  exact k10

theorem State.spBoundary_kept {q p} {a0} (h0 : Kept q p a0) : Kept q p (State.spBoundary a0) := by
  unfold State.spBoundary
  refine kept_ite ?_ ?_
  · exact h0
  · extract_lets +onlyGivenNames x0
    have k1 : Kept q p x0 := by
      unfold x0
      refine kept_foldl ?_ ?_
      · intro z2 z3 k4
        apply State.spSwitch_kept
        exact k4
      · exact h0
    clear_value x0
    extract_lets +onlyGivenNames x5
    clear_value x5
    extract_lets +onlyGivenNames x6
    clear_value x6
    extract_lets +onlyGivenNames x7
    have k8 : Kept q p x7 := by
      unfold x7
      refine kept_mk' (kept_comp ?_)
      exact k1
    clear_value x7
    refine kept_ite ?_ ?_
    · apply State.requestBoundary_kept
      exact k8
    · exact k8

theorem State.spCancel_kept {q p} {a0 a1} (h1 : Kept q p a1) : Kept q p (State.spCancel a0 a1) := by
  unfold State.spCancel
  extract_lets +onlyGivenNames x0
  clear_value x0
  apply State.completeOpt_kept
  apply State.spUntrack_kept
  apply State.clrReg_kept
  exact h1

theorem State.spDisable_kept {q p} {a0} (h0 : Kept q p a0) : Kept q p (State.spDisable a0) := by
  unfold State.spDisable
  extract_lets +onlyGivenNames x0
  have k1 : Kept q p x0 := by
    unfold x0
    refine kept_foldl ?_ ?_
    · intro z2 z3 k4
      apply State.clrReg_kept
      exact k4
    · exact h0
  clear_value x0
  refine kept_mk' (kept_comp ?_)
  exact k1

theorem State.spFine_kept {q p} {a0} (h0 : Kept q p a0) : Kept q p (State.spFine a0) := by
  unfold State.spFine
  refine kept_ite ?_ ?_
  · exact h0
  · refine kept_foldl ?_ ?_
    · intro z0 z1 k2
      apply State.spSwitch_kept
      exact k2
    · exact h0

theorem State.spReapply_kept {q p} {a0} (h0 : Kept q p a0) : Kept q p (State.spReapply a0) := by
  unfold State.spReapply
  refine kept_foldl ?_ ?_
  · intro z0 z1 k2
    extract_lets +onlyGivenNames x3
    have k4 : Kept q p x3 := by
      unfold x3
      refine kept_foldl ?_ ?_
      · intro z5 z6 k7
        extract_lets +onlyGivenNames x8
        clear_value x8
        refine kept_ite ?_ ?_
        · extract_lets +onlyGivenNames x9
          clear_value x9
          extract_lets +onlyGivenNames x10
          clear_value x10
          apply State.setChan_kept
          apply State.setChan_kept
          exact k7
        · exact k7
      · exact k2
    clear_value x3
    refine kept_foldl ?_ ?_
    · intro z11 z12 k13
      extract_lets +onlyGivenNames x14
      clear_value x14
      refine kept_ite ?_ ?_
      · extract_lets +onlyGivenNames x15
        clear_value x15
        apply State.setMon_kept
        apply State.setMon_kept
        exact k13
      · exact k13
    · exact k4
  · exact h0

theorem State.spRefuse_kept {q p} {a0 a1 a2} (h2 : Kept q p a2) : Kept q p (State.spRefuse a0 a1 a2) := by
  unfold State.spRefuse
  apply State.completeOpt_kept
  apply State.orReg_kept
  exact h2

theorem State.spRelease_kept {q p} {a0 a1 a2 a3 a4} (h4 : Kept q p a4) : Kept q p (State.spRelease a0 a1 a2 a3 a4) := by
  unfold State.spRelease
  refine kept_ite ?_ ?_
  · refine kept_ite ?_ ?_
    · exact h4
    · apply State.spBegin_kept
      apply State.clrReg_kept
      exact h4
  · refine kept_ite ?_ ?_
    · apply State.spComplete_kept
      apply State.clrReg_kept
      apply State.spCancel_kept
      exact h4
    · apply State.completeOpt_kept
      apply State.setField_kept
      exact h4

theorem State.spRequest_kept {q p} {a0 a1 a2 a3 a4} (h4 : Kept q p a4) : Kept q p (State.spRequest a0 a1 a2 a3 a4) := by
  unfold State.spRequest
  extract_lets +onlyGivenNames x0
  clear_value x0
  refine kept_ite ?_ ?_
  · refine kept_ite ?_ ?_
    · apply State.spComplete_kept
      apply State.orReg_kept
      apply State.spCancel_kept
      exact h4
    · apply State.spRefuse_kept
      exact h4
  · refine kept_ite ?_ ?_
    · apply State.spRefuse_kept
      exact h4
    · refine kept_ite ?_ ?_
      · apply State.spRefuse_kept
        exact h4
      · apply State.spBegin_kept
        apply State.orReg_kept
        apply State.setField_kept
        exact h4

theorem State.spTracked_kept {q p} {a0 a1 a2} (h2 : Kept q p a2) : Kept q p (State.spTracked a0 a1 a2) := by
  unfold State.spTracked
  refine kept_ite ?_ ?_
  · apply State.orReg_kept
    exact h2
  · extract_lets +onlyGivenNames x0
    clear_value x0
    extract_lets +onlyGivenNames x1
    have k2 : Kept q p x1 := by
      unfold x1
      apply State.orReg_kept
      apply State.spUntrack_kept
      apply State.clrReg_kept
      exact h2
    clear_value x1
    extract_lets +onlyGivenNames x3
    have k4 : Kept q p x3 := by
      unfold x3
      refine kept_ite ?_ ?_
      · apply State.orReg_kept
        exact k2
      · apply State.orReg_kept
        apply State.clrReg_kept
        exact k2
    clear_value x3
    apply State.report1_kept
    apply State.completeOpt_kept
    exact k4

theorem State.seqDrive_kept {q p} {a0 a1 a2 a3} (h3 : Kept q p a3) : Kept q p (State.seqDrive a0 a1 a2 a3) := by
  unfold State.seqDrive
  split
  · exact h3
  · refine kept_ite ?_ ?_
    · apply State.setChan_kept
      exact h3
    · apply State.enqueue_kept
      exact h3

theorem State.seqInject_kept {q p} {a0 a1 a2 a3} (h3 : Kept q p a3) : Kept q p (State.seqInject a0 a1 a2 a3) := by
  unfold State.seqInject
  split
  · exact h3
  · extract_lets +onlyGivenNames x5
    clear_value x5
    extract_lets +onlyGivenNames x6
    clear_value x6
    refine kept_ite ?_ ?_
    · exact h3
    · refine kept_ite ?_ ?_
      · refine kept_mk' (kept_comp ?_)
        exact h3
      · extract_lets +onlyGivenNames x7
        clear_value x7
        refine kept_mk' (kept_comp ?_)
        exact h3

theorem State.setChar_kept {q p} {a0 a1} (h1 : Kept q p a1) : Kept q p (State.setChar a0 a1) := by
  unfold State.setChar
  apply State.setReg_kept
  refine kept_mk' (kept_comp ?_)
  exact h1

theorem State.seqDo_kept {q p} {a0 a1 a2} (h2 : Kept q p a2) : Kept q p (State.seqDo a0 a1 a2) := by
  unfold State.seqDo
  extract_lets +onlyGivenNames x0
  clear_value x0
  split
  · apply State.seqDrive_kept
    exact h2
  · split
    · apply State.setChar_kept
      exact h2
    · exact h2
  · split
    · apply State.setMon_kept
      exact h2
    · exact h2
  · apply State.seqInject_kept
    exact h2
  · exact h2

theorem State.seqSample_kept {q p} {a0 a1} (h1 : Kept q p a1) : Kept q p (State.seqSample a0 a1) := by
  unfold State.seqSample
  split
  · exact h1
  · refine kept_ite ?_ ?_
    · exact h1
    · extract_lets +onlyGivenNames x5
      clear_value x5
      refine kept_ite ?_ ?_
      · apply State.setChar_kept
        exact h1
      · refine kept_ite ?_ ?_
        · apply State.setChar_kept
          exact h1
        · extract_lets +onlyGivenNames x6
          clear_value x6
          extract_lets +onlyGivenNames x7
          clear_value x7
          extract_lets +onlyGivenNames x8
          clear_value x8
          extract_lets +onlyGivenNames x9
          clear_value x9
          apply State.setChar_kept
          apply State.hostWrite_kept
          exact h1

theorem State.seqTick_kept {q p} {a0} (h0 : Kept q p a0) : Kept q p (State.seqTick a0) := by
  unfold State.seqTick
  split
  · exact h0
  · refine kept_ite ?_ ?_
    · exact h0
    · refine kept_ite ?_ ?_
      · apply State.setChar_kept
        exact h0
      · extract_lets +onlyGivenNames x5
        clear_value x5
        refine kept_ite ?_ ?_
        · apply State.setChar_kept
          exact h0
        · refine kept_ite ?_ ?_
          · refine kept_ite ?_ ?_
            · apply State.setChar_kept
              exact h0
            · apply State.setChar_kept
              exact h0
          · extract_lets +onlyGivenNames x6
            clear_value x6
            extract_lets +onlyGivenNames x7
            clear_value x7
            apply State.seqDo_kept
            apply State.setChar_kept
            exact h0

theorem State.noteClock_kept {q p} {a0 a1 a2} (h1 : Kept q p a1) (h2 : Kept q p a2) : Kept q p (State.noteClock a0 a1 a2) := by
  unfold State.noteClock
  refine kept_ite ?_ ?_
  · exact h2
  · extract_lets +onlyGivenNames x0
    clear_value x0
    extract_lets +onlyGivenNames x1
    clear_value x1
    apply State.recEvent_kept
    refine kept_mk' (kept_comp ?_)
    exact h2

theorem State.setThmDom_kept {q p} {a0 a1 a2} (h2 : Kept q p a2) : Kept q p (State.setThmDom a0 a1 a2) := by
  unfold State.setThmDom
  refine kept_mk' (kept_comp ?_)
  exact h2

theorem State.takeClock_kept {q p} {a0 a1} (h1 : Kept q p a1) : Kept q p (State.takeClock a0 a1) := by
  unfold State.takeClock
  extract_lets +onlyGivenNames x0
  clear_value x0
  split
  · refine kept_mk' (kept_comp ?_)
    exact h1
  · refine kept_mk' (kept_comp ?_)
    exact h1

theorem State.throttleInstant_kept {q p} {a0} (h0 : Kept q p a0) : Kept q p (State.throttleInstant a0) := by
  unfold State.throttleInstant
  refine kept_ite ?_ ?_
  · exact h0
  · extract_lets +onlyGivenNames x0
    have k1 : Kept q p x0 := by
      unfold x0
      apply State.noteClock_kept
      · apply State.takeClock_kept
        exact h0
      · exact h0
    clear_value x0
    apply State.noteClock_kept
    · apply State.takeClock_kept
      exact k1
    · exact k1

theorem State.keepCells_kept {q p} {a0 a1} (h1 : Kept q p a1) : Kept q p (State.keepCells a0 a1) := by
  unfold State.keepCells
  refine kept_foldl ?_ ?_
  · intro z0 z1 k2
    refine kept_foldl ?_ ?_
    · intro z3 z4 k5
      apply State.setReg_kept
      exact k5
    · exact k2
  · exact h1

theorem State.abortFlights_kept {q p} {a0 a1 a2} (h2 : Kept q p a2) : Kept q p (State.abortFlights a0 a1 a2) := by
  unfold State.abortFlights
  refine kept_foldl ?_ ?_
  · intro z0 z1 k2
    refine kept_ite ?_ ?_
    · apply State.refuse_kept
      exact k2
    · exact k2
  · exact h2

theorem State.closeScope_kept {q p} {a0 a1 a2} (h1 : Kept q p a1) : Kept q p (State.closeScope a0 a1 a2) := by
  unfold State.closeScope
  refine kept_ite ?_ ?_
  · apply State.eventTo_kept
    apply State.orReg_kept
    apply State.clrReg_kept
    exact h1
  · exact h1

theorem State.closeScopes_kept {q p} {a0 a1} (h1 : Kept q p a1) : Kept q p (State.closeScopes a0 a1) := by
  unfold State.closeScopes
  refine kept_foldl ?_ ?_
  · intro z0 z1 k2
    apply State.closeScope_kept
    exact k2
  · exact h1

theorem State.dropCore_kept {q p} {a0 a1} (h1 : Kept q p a1) : Kept q p (State.dropCore a0 a1) := by
  unfold State.dropCore
  extract_lets +onlyGivenNames x0
  clear_value x0
  extract_lets +onlyGivenNames x1
  clear_value x1
  extract_lets +onlyGivenNames x2
  clear_value x2
  extract_lets +onlyGivenNames x3
  have k4 : ∀ y0 y1, Kept q p y0 → Kept q p (x3 y0 y1) := by
    unfold x3
    intro z5 z6 k7
    split
    · refine kept_ite ?_ ?_
      · apply State.bump_kept
        exact k7
      · exact k7
    · exact k7
  clear_value x3
  extract_lets +onlyGivenNames x13
  have k14 : Kept q p x13 := by
    unfold x13
    apply State.setUnit_kept
    refine kept_foldl ?_ ?_
    · exact k4
    · exact h1
  clear_value x13
  extract_lets +onlyGivenNames x15
  clear_value x15
  extract_lets +onlyGivenNames x16
  clear_value x16
  extract_lets +onlyGivenNames x17
  have k18 : Kept q p x17 := by
    unfold x17
    refine kept_mk' (kept_comp ?_)
    exact k14
  clear_value x17
  apply State.resetRegs_kept
  exact k18

theorem State.switchOff_kept {q p} {a0 a1} (h1 : Kept q p a1) : Kept q p (State.switchOff a0 a1) := by
  unfold State.switchOff
  apply State.noteClock_kept
  · apply State.clrReg_kept
    apply State.setUnit_kept
    exact h1
  · exact h1

theorem State.powerDown_kept {q p} {a0 a1} (h1 : Kept q p a1) : Kept q p (State.powerDown a0 a1) := by
  unfold State.powerDown
  split
  · exact h1
  · apply State.switchOff_kept
    apply State.dropCore_kept
    apply State.closeScopes_kept
    apply State.abortFlights_kept
    exact h1

theorem State.saveImage_kept {q p} {a0 a1} (h1 : Kept q p a1) : Kept q p (State.saveImage a0 a1) := by
  unfold State.saveImage
  extract_lets +onlyGivenNames x0
  clear_value x0
  extract_lets +onlyGivenNames x1
  clear_value x1
  extract_lets +onlyGivenNames x2
  clear_value x2
  extract_lets +onlyGivenNames x3
  have k4 : Kept q p x3 := by
    unfold x3
    refine kept_mk' (kept_comp ?_)
    exact h1
  clear_value x3
  extract_lets +onlyGivenNames x5
  have k6 : Kept q p x5 := by
    unfold x5
    apply State.setReg64_kept
    exact k4
  clear_value x5
  refine kept_ite ?_ ?_
  · extract_lets +onlyGivenNames x7
    have k8 : Kept q p x7 := by
      unfold x7
      apply State.recAppend_kept
      exact k6
    clear_value x7
    refine kept_mk' (kept_comp ?_)
    exact k8
  · exact k6

theorem State.setPeerFail_kept {q p} {a0 a1 a2} (h2 : Kept q p a2) : Kept q p (State.setPeerFail a0 a1 a2) := by
  unfold State.setPeerFail
  apply State.setReg_kept
  exact h2

theorem State.tokenEvent_kept {q p} {a0 a1 a2 a3 a4} (h4 : Kept q p a4) : Kept q p (State.tokenEvent a0 a1 a2 a3 a4) := by
  unfold State.tokenEvent
  apply State.eventTo_kept
  exact h4

theorem State.acceptClaim_kept {q p} {a0 a1} (h1 : Kept q p a1) : Kept q p (State.acceptClaim a0 a1) := by
  unfold State.acceptClaim
  extract_lets +onlyGivenNames x0
  clear_value x0
  extract_lets +onlyGivenNames x1
  clear_value x1
  extract_lets +onlyGivenNames x2
  clear_value x2
  extract_lets +onlyGivenNames x3
  clear_value x3
  extract_lets +onlyGivenNames x4
  clear_value x4
  extract_lets +onlyGivenNames x5
  clear_value x5
  extract_lets +onlyGivenNames x6
  have k7 : Kept q p x6 := by
    unfold x6
    apply State.setPeerFail_kept
    apply State.setReg_kept
    exact h1
  clear_value x6
  extract_lets +onlyGivenNames x8
  clear_value x8
  extract_lets +onlyGivenNames x9
  have k10 : Kept q p x9 := by
    unfold x9
    refine kept_mk' (kept_comp ?_)
    exact k7
  clear_value x9
  extract_lets +onlyGivenNames x11
  have k12 : Kept q p x11 := by
    unfold x11
    split
    · apply State.bump_kept
      apply State.orReg_kept
      exact k10
    · refine kept_ite ?_ ?_
      · exact k10
      · apply State.powerDown_kept
        apply State.bump_kept
        apply State.orReg_kept
        exact k10
    · exact k10
  clear_value x11
  extract_lets +onlyGivenNames x18
  have k19 : Kept q p x18 := by
    unfold x18
    apply State.restoreLoops_kept
    apply State.tokenEvent_kept
    exact k12
  clear_value x18
  extract_lets +onlyGivenNames x20
  have k21 : Kept q p x20 := by
    unfold x20
    apply State.recResume_kept
    apply State.recEvent_kept
    exact k19
  clear_value x20
  apply State.saveImage_kept
  exact k21

theorem State.tknRefuse_kept {q p} {a0 a1 a2 a3 a4} (h4 : Kept q p a4) : Kept q p (State.tknRefuse a0 a1 a2 a3 a4) := by
  unfold State.tknRefuse
  apply State.orReg_kept
  apply State.setReg_kept
  exact h4

theorem State.claim_kept {q p} {a0 a1 a2} (h2 : Kept q p a2) : Kept q p (State.claim a0 a1 a2) := by
  unfold State.claim
  refine kept_ite ?_ ?_
  · apply State.tknRefuse_kept
    exact h2
  · refine kept_ite ?_ ?_
    · apply State.tknRefuse_kept
      exact h2
    · refine kept_ite ?_ ?_
      · apply State.tknRefuse_kept
        exact h2
      · apply State.acceptClaim_kept
        exact h2

theorem State.wtrStart_kept {q p} {a0} (h0 : Kept q p a0) : Kept q p (State.wtrStart a0) := by
  unfold State.wtrStart
  refine kept_ite ?_ ?_
  · exact h0
  · apply State.orReg_kept
    refine kept_mk' (kept_comp ?_)
    exact h0

theorem State.rehearsalOver_kept {q p} {a0 a1 a2 a3} (h3 : Kept q p a3) : Kept q p (State.rehearsalOver a0 a1 a2 a3) := by
  unfold State.rehearsalOver
  extract_lets +onlyGivenNames x0
  clear_value x0
  extract_lets +onlyGivenNames x1
  have k2 : Kept q p x1 := by
    unfold x1
    refine kept_mk' (kept_comp ?_)
    exact h3
  clear_value x1
  extract_lets +onlyGivenNames x3
  have k4 : Kept q p x3 := by
    unfold x3
    apply State.orReg_kept
    apply State.clrReg_kept
    apply State.setField_kept
    apply State.setField_kept
    exact k2
  clear_value x3
  extract_lets +onlyGivenNames x5
  have k6 : Kept q p x5 := by
    unfold x5
    apply State.orReg_kept
    exact k4
  clear_value x5
  extract_lets +onlyGivenNames x7
  have k8 : Kept q p x7 := by
    unfold x7
    split
    · apply State.tokenEvent_kept
      exact k6
    · exact k6
  clear_value x7
  extract_lets +onlyGivenNames x14
  have k15 : Kept q p x14 := by
    unfold x14
    refine kept_ite ?_ ?_
    · apply State.setPeerFail_kept
      exact k8
    · apply State.report1_kept
      exact k8
  clear_value x14
  refine kept_ite ?_ ?_
  · refine kept_ite ?_ ?_
    · apply State.wtrStart_kept
      exact k15
    · apply State.wtrStop_kept
      exact k15
  · exact k15

theorem State.endRehearsal_kept {q p} {a0 a1 a2} (h2 : Kept q p a2) : Kept q p (State.endRehearsal a0 a1 a2) := by
  unfold State.endRehearsal
  split
  · exact h2
  · apply State.rehearsalOver_kept
    apply State.powerDown_kept
    exact h2

theorem State.endRehearsalAtLapse_kept {q p} {a0 a1} (h1 : Kept q p a1) : Kept q p (State.endRehearsalAtLapse a0 a1) := by
  unfold State.endRehearsalAtLapse
  split
  · exact h1
  · extract_lets +onlyGivenNames x5
    have k6 : Kept q p x5 := by
      unfold x5
      apply State.rehearsalOver_kept
      exact h1
    clear_value x5
    apply State.tokenEvent_kept
    exact k6

theorem State.enterGap_kept {q p} {a0} (h0 : Kept q p a0) : Kept q p (State.enterGap a0) := by
  unfold State.enterGap
  apply State.recEvent_kept
  apply State.orReg_kept
  apply State.holdChans_kept
  exact h0

theorem State.tokenLeaves_kept {q p} {a0 a1} (h1 : Kept q p a1) : Kept q p (State.tokenLeaves a0 a1) := by
  unfold State.tokenLeaves
  apply State.keepCells_kept
  apply State.endPull_kept
  apply State.loseBastes_kept
  apply State.disableResultQueues_kept
  apply State.dropHeld_kept
  apply State.flushAll_kept
  apply State.abortSquall_kept
  apply State.abortChar_kept
  apply State.abortCal_kept
  apply State.abortSite_kept
  exact h1

theorem State.handOver_kept {q p} {a0} (h0 : Kept q p a0) : Kept q p (State.handOver a0) := by
  unfold State.handOver
  split
  · exact h0
  · refine kept_ite ?_ ?_
    · exact h0
    · extract_lets +onlyGivenNames x5
      have k6 : Kept q p x5 := by
        unfold x5
        apply State.recEvent_kept
        apply State.saveImage_kept
        exact h0
      clear_value x5
      extract_lets +onlyGivenNames x7
      have k8 : Kept q p x7 := by
        unfold x7
        refine kept_ite ?_ ?_
        · apply State.closeBlock_kept
          exact k6
        · exact k6
      clear_value x7
      extract_lets +onlyGivenNames x9
      have k10 : Kept q p x9 := by
        unfold x9
        apply State.enterGap_kept
        apply State.tokenLeaves_kept
        exact k8
      clear_value x9
      extract_lets +onlyGivenNames x11
      clear_value x11
      extract_lets +onlyGivenNames x12
      have k13 : Kept q p x12 := by
        unfold x12
        apply State.clrReg_kept
        apply State.setReg_kept
        exact k10
      clear_value x12
      extract_lets +onlyGivenNames x14
      clear_value x14
      extract_lets +onlyGivenNames x15
      have k16 : Kept q p x15 := by
        unfold x15
        refine kept_mk' (kept_comp ?_)
        exact k13
      clear_value x15
      apply State.tokenEvent_kept
      exact k16

theorem State.restoreRetMap_kept {q p} {a0 a1} (h1 : Kept q p a1) : Kept q p (State.restoreRetMap a0 a1) := by
  unfold State.restoreRetMap
  refine kept_ite ?_ ?_
  · refine kept_foldl ?_ ?_
    · intro z0 z1 k2
      extract_lets +onlyGivenNames x3
      clear_value x3
      refine kept_ite ?_ ?_
      · apply State.setField_kept
        exact k2
      · exact k2
    · exact h1
  · exact h1

theorem State.loadRetMap_kept {q p} {a0 a1} (h1 : Kept q p a1) : Kept q p (State.loadRetMap a0 a1) := by
  unfold State.loadRetMap
  extract_lets +onlyGivenNames x0
  have k1 : Kept q p x0 := by
    unfold x0
    apply State.restoreRetMap_kept
    exact h1
  clear_value x0
  extract_lets +onlyGivenNames x2
  clear_value x2
  refine kept_foldl ?_ ?_
  · intro z3 z4 k5
    extract_lets +onlyGivenNames x6
    clear_value x6
    refine kept_ite ?_ ?_
    · apply State.orReg_kept
      exact k5
    · exact k5
  · exact k1

theorem State.switchOn_kept {q p} {a0 a1} (h1 : Kept q p a1) : Kept q p (State.switchOn a0 a1) := by
  unfold State.switchOn
  split
  · refine kept_ite ?_ ?_
    · exact h1
    · extract_lets +onlyGivenNames x2
      have k3 : Kept q p x2 := by
        unfold x2
        apply State.loadRetMap_kept
        apply State.resetRegs_kept
        exact h1
      clear_value x2
      apply State.noteClock_kept
      · apply State.takeClock_kept
        apply State.orReg_kept
        apply State.setUnit_kept
        exact k3
      · exact h1
  · exact h1

theorem State.lapse_kept {q p} {a0 a1} (h1 : Kept q p a1) : Kept q p (State.lapse a0 a1) := by
  unfold State.lapse
  extract_lets +onlyGivenNames x0
  clear_value x0
  extract_lets +onlyGivenNames x1
  have k2 : Kept q p x1 := by
    unfold x1
    refine kept_ite ?_ ?_
    · apply State.freeze_kept
      exact h1
    · refine kept_ite ?_ ?_
      · apply State.freeze_kept
        exact h1
      · exact h1
  clear_value x1
  extract_lets +onlyGivenNames x3
  clear_value x3
  extract_lets +onlyGivenNames x4
  have k5 : Kept q p x4 := by
    unfold x4
    refine kept_mk' (kept_comp ?_)
    exact k2
  clear_value x4
  extract_lets +onlyGivenNames x6
  have k7 : Kept q p x6 := by
    unfold x6
    apply State.enterGap_kept
    apply State.tokenLeaves_kept
    exact k5
  clear_value x6
  extract_lets +onlyGivenNames x8
  clear_value x8
  extract_lets +onlyGivenNames x9
  have k10 : Kept q p x9 := by
    unfold x9
    apply State.orReg_kept
    apply State.setReg_kept
    exact k7
  clear_value x9
  extract_lets +onlyGivenNames x11
  clear_value x11
  extract_lets +onlyGivenNames x12
  have k13 : Kept q p x12 := by
    unfold x12
    refine kept_mk' (kept_comp ?_)
    exact k10
  clear_value x12
  extract_lets +onlyGivenNames x14
  have k15 : Kept q p x14 := by
    unfold x14
    apply State.clrReg_kept
    apply State.bump_kept
    exact k13
  clear_value x14
  extract_lets +onlyGivenNames x16
  have k17 : Kept q p x16 := by
    unfold x16
    apply State.tokenEvent_kept
    apply State.tokenEvent_kept
    exact k15
  clear_value x16
  apply State.report1_kept
  apply State.switchOn_kept
  apply State.endRehearsalAtLapse_kept
  exact k17

theorem State.release_kept {q p} {a0 a1 a2} (h2 : Kept q p a2) : Kept q p (State.release a0 a1 a2) := by
  unfold State.release
  refine kept_ite ?_ ?_
  · apply State.tknRefuse_kept
    exact h2
  · refine kept_ite ?_ ?_
    · apply State.tknRefuse_kept
      exact h2
    · refine kept_ite ?_ ?_
      · apply State.tknRefuse_kept
        exact h2
      · apply State.requestBoundary_kept
        refine kept_mk' (kept_comp ?_)
        exact h2

theorem State.renew_kept {q p} {a0 a1 a2} (h2 : Kept q p a2) : Kept q p (State.renew a0 a1 a2) := by
  unfold State.renew
  refine kept_ite ?_ ?_
  · apply State.tknRefuse_kept
    exact h2
  · refine kept_ite ?_ ?_
    · apply State.tknRefuse_kept
      exact h2
    · refine kept_ite ?_ ?_
      · apply State.tknRefuse_kept
        exact h2
      · refine kept_ite ?_ ?_
        · apply State.tknRefuse_kept
          exact h2
        · refine kept_mk' (kept_comp ?_)
          exact h2

theorem State.startRehearsal_kept {q p} {a0 a1 a2 a3} (h3 : Kept q p a3) : Kept q p (State.startRehearsal a0 a1 a2 a3) := by
  unfold State.startRehearsal
  apply State.switchOn_kept
  apply State.orReg_kept
  refine kept_mk' (kept_comp ?_)
  exact h3

theorem State.loadAmps_kept {q p} {a0 a1} (h1 : Kept q p a1) : Kept q p (State.loadAmps a0 a1) := by
  unfold State.loadAmps
  refine kept_foldl ?_ ?_
  · intro z0 z1 k2
    extract_lets +onlyGivenNames x3
    clear_value x3
    extract_lets +onlyGivenNames x4
    clear_value x4
    extract_lets +onlyGivenNames x5
    have k6 : Kept q p x5 := by
      unfold x5
      apply State.setReg_kept
      exact k2
    clear_value x5
    refine kept_mk' (kept_comp ?_)
    exact k6
  · exact h1

theorem State.loadChans_kept {q p} {a0 a1} (h1 : Kept q p a1) : Kept q p (State.loadChans a0 a1) := by
  unfold State.loadChans
  extract_lets +onlyGivenNames x0
  clear_value x0
  extract_lets +onlyGivenNames x1
  clear_value x1
  extract_lets +onlyGivenNames x2
  clear_value x2
  extract_lets +onlyGivenNames x3
  clear_value x3
  refine kept_mk' (kept_comp ?_)
  exact h1

theorem State.loadLoops_kept {q p} {a0 a1} (h1 : Kept q p a1) : Kept q p (State.loadLoops a0 a1) := by
  unfold State.loadLoops
  extract_lets +onlyGivenNames x0
  clear_value x0
  extract_lets +onlyGivenNames x1
  clear_value x1
  extract_lets +onlyGivenNames x2
  clear_value x2
  refine kept_mk' (kept_comp ?_)
  exact h1

theorem State.flushCache_kept {q p} {a0} (h0 : Kept q p a0) : Kept q p (State.flushCache a0) := by
  unfold State.flushCache
  extract_lets +onlyGivenNames x0
  clear_value x0
  extract_lets +onlyGivenNames x1
  have k2 : Kept q p x1 := by
    unfold x1
    apply State.setField_kept
    exact h0
  clear_value x1
  refine kept_ite ?_ ?_
  · apply State.orReg_kept
    apply State.clrReg_kept
    refine kept_mk' (kept_comp ?_)
    exact k2
  · exact k2

theorem State.bumpEpoch_kept {q p} {a0} (h0 : Kept q p a0) : Kept q p (State.bumpEpoch a0) := by
  unfold State.bumpEpoch
  extract_lets +onlyGivenNames x0
  clear_value x0
  refine kept_ite ?_ ?_
  · apply State.flushCache_kept
    apply State.orReg_kept
    apply State.setReg_kept
    exact h0
  · apply State.setReg_kept
    exact h0

theorem State.otherDigest_kept {q p} {a0} (h0 : Kept q p a0) : Kept q p (State.otherDigest a0) := by
  unfold State.otherDigest
  extract_lets +onlyGivenNames x0
  have k1 : Kept q p x0 := by
    unfold x0
    apply State.bumpEpoch_kept
    apply State.resetRegs_kept
    exact h0
  clear_value x0
  apply State.clearCalCells_kept
  apply State.clrReg_kept
  apply State.emptySlots_kept
  apply State.flushCache_kept
  exact k1

theorem State.restoreRec_kept {q p} {a0 a1} (h1 : Kept q p a1) : Kept q p (State.restoreRec a0 a1) := by
  unfold State.restoreRec
  extract_lets +onlyGivenNames x0
  clear_value x0
  extract_lets +onlyGivenNames x1
  have k2 : Kept q p x1 := by
    unfold x1
    refine kept_foldl ?_ ?_
    · intro z3 z4 k5
      apply State.setReg_kept
      exact k5
    · exact h1
  clear_value x1
  extract_lets +onlyGivenNames x6
  clear_value x6
  extract_lets +onlyGivenNames x7
  have k8 : Kept q p x7 := by
    unfold x7
    refine kept_ite ?_ ?_
    · apply State.setReg64_kept
      apply State.orReg_kept
      exact k2
    · exact k2
  clear_value x7
  extract_lets +onlyGivenNames x9
  clear_value x9
  extract_lets +onlyGivenNames x10
  clear_value x10
  extract_lets +onlyGivenNames x11
  clear_value x11
  extract_lets +onlyGivenNames x12
  have k13 : Kept q p x12 := by
    unfold x12
    refine kept_mk' (kept_comp ?_)
    exact k8
  clear_value x12
  apply State.setReg64_kept
  apply State.setReg_kept
  exact k13

theorem State.restore_kept {q p} {a0} (h0 : Kept q p a0) : Kept q p (State.restore a0) := by
  unfold State.restore
  extract_lets +onlyGivenNames x0
  have k1 : ∀ y0, Kept q p y0 → Kept q p (x0 y0) := by
    unfold x0
    intro z2 k3
    apply State.makePending_kept
    exact k3
  clear_value x0
  split
  · apply State.clrReg_kept
    apply State.orReg_kept
    apply k1
    exact h0
  · extract_lets +onlyGivenNames x9
    have k10 : Kept q p x9 := by
      unfold x9
      apply State.setReg_kept
      apply State.resetRegs_kept
      exact h0
    clear_value x9
    extract_lets +onlyGivenNames x11
    have k12 : Kept q p x11 := by
      unfold x11
      refine kept_foldl ?_ ?_
      · intro z13 z14 k15
        apply State.setReg_kept
        exact k15
      · exact k10
    clear_value x11
    extract_lets +onlyGivenNames x16
    have k17 : Kept q p x16 := by
      unfold x16
      refine kept_ite ?_ ?_
      · apply State.orReg_kept
        exact k12
      · exact k12
    clear_value x16
    extract_lets +onlyGivenNames x18
    have k19 : Kept q p x18 := by
      unfold x18
      refine kept_foldl ?_ ?_
      · intro z20 z21 k22
        extract_lets +onlyGivenNames x23
        clear_value x23
        extract_lets +onlyGivenNames x24
        clear_value x24
        apply State.setLoopCell_kept
        exact k22
      · exact k17
    clear_value x18
    apply State.clrReg_kept
    apply State.orReg_kept
    apply k1
    apply State.restoreRec_kept
    exact k19

theorem State.acceptFdr_kept {q p} {a0 a1 a2} (h2 : Kept q p a2) : Kept q p (State.acceptFdr a0 a1 a2) := by
  unfold State.acceptFdr
  extract_lets +onlyGivenNames x0
  clear_value x0
  extract_lets +onlyGivenNames x1
  clear_value x1
  extract_lets +onlyGivenNames x2
  have k3 : Kept q p x2 := by
    unfold x2
    refine kept_mk' (kept_comp ?_)
    exact h2
  clear_value x2
  extract_lets +onlyGivenNames x4
  have k5 : Kept q p x4 := by
    unfold x4
    refine kept_foldl ?_ ?_
    · intro z6 z7 k8
      apply State.setReg_kept
      exact k8
    · exact k3
  clear_value x4
  extract_lets +onlyGivenNames x9
  have k10 : Kept q p x9 := by
    unfold x9
    apply State.setReg_kept
    apply State.setReg_kept
    apply State.setField_kept
    apply State.setReg_kept
    apply State.setReg_kept
    exact k5
  clear_value x9
  extract_lets +onlyGivenNames x11
  have k12 : Kept q p x11 := by
    unfold x11
    apply State.loadAmps_kept
    apply State.loadLoops_kept
    apply State.loadChans_kept
    exact k10
  clear_value x11
  extract_lets +onlyGivenNames x13
  have k14 : Kept q p x13 := by
    unfold x13
    apply State.spReapply_kept
    apply State.spAux_kept
    exact k12
  clear_value x13
  extract_lets +onlyGivenNames x15
  have k16 : Kept q p x15 := by
    unfold x15
    refine kept_ite ?_ ?_
    · apply State.otherDigest_kept
      exact k14
    · exact k14
  clear_value x15
  extract_lets +onlyGivenNames x17
  have k18 : Kept q p x17 := by
    unfold x17
    refine kept_ite ?_ ?_
    · refine kept_ite ?_ ?_
      · apply State.clrReg_kept
        exact k16
      · apply State.restore_kept
        exact k16
    · exact k16
  clear_value x17
  extract_lets +onlyGivenNames x19
  clear_value x19
  extract_lets +onlyGivenNames x20
  have k21 : Kept q p x20 := by
    unfold x20
    apply State.rebuildPark_kept
    apply State.orReg_kept
    apply State.takeDrvCorr_kept
    exact k18
  clear_value x20
  extract_lets +onlyGivenNames x22
  clear_value x22
  extract_lets +onlyGivenNames x23
  have k24 : Kept q p x23 := by
    unfold x23
    refine kept_mk' (kept_comp ?_)
    exact k21
  clear_value x23
  apply State.recEvent_kept
  apply State.orReg_kept
  apply State.clrReg_kept
  exact k24

theorem State.healthEvent_kept {q p} {a0 a1 a2 a3 a4} (h4 : Kept q p a4) : Kept q p (State.healthEvent a0 a1 a2 a3 a4) := by
  unfold State.healthEvent
  extract_lets +onlyGivenNames x0
  clear_value x0
  refine kept_ite ?_ ?_
  · exact h4
  · extract_lets +onlyGivenNames x1
    have k2 : Kept q p x1.2 := by
      unfold x1
      apply State.drawNat_kept
      exact h4
    clear_value x1
    extract_lets +onlyGivenNames x3
    clear_value x3
    apply State.event_kept
    exact k2

theorem State.deviceMark_kept {q p} {a0 a1} (h1 : Kept q p a1) : Kept q p (State.deviceMark a0 a1) := by
  unfold State.deviceMark
  refine kept_ite ?_ ?_
  · exact h1
  · extract_lets +onlyGivenNames x0
    clear_value x0
    refine kept_ite ?_ ?_
    · exact h1
    · extract_lets +onlyGivenNames x1
      have k2 : Kept q p x1 := by
        unfold x1
        refine kept_foldl ?_ ?_
        · intro z3 z4 k5
          apply State.setField_kept
          exact k5
        · exact h1
      clear_value x1
      extract_lets +onlyGivenNames x6
      have k7 : Kept q p x6 := by
        unfold x6
        apply State.bumpEpoch_kept
        exact k2
      clear_value x6
      extract_lets +onlyGivenNames x8
      have k9 : Kept q p x8 := by
        unfold x8
        refine kept_foldl ?_ ?_
        · intro z10 z11 k12
          apply State.recEvent_kept
          apply State.healthEvent_kept
          exact k12
        · exact k7
      clear_value x8
      extract_lets +onlyGivenNames x13
      have k14 : Kept q p x13 := by
        unfold x13
        apply State.rebuildPark_kept
        exact k9
      clear_value x13
      refine kept_mk' (kept_comp ?_)
      exact k14

theorem State.driveDown_kept {q p} {a0} (h0 : Kept q p a0) : Kept q p (State.driveDown a0) := by
  unfold State.driveDown
  extract_lets +onlyGivenNames x0
  clear_value x0
  extract_lets +onlyGivenNames x1
  clear_value x1
  extract_lets +onlyGivenNames x2
  have k3 : Kept q p x2 := by
    unfold x2
    refine kept_mk' (kept_comp ?_)
    exact h0
  clear_value x2
  apply State.setField_kept
  exact k3

theorem State.drivePark_kept {q p} {a0} (h0 : Kept q p a0) : Kept q p (State.drivePark a0) := by
  unfold State.drivePark
  extract_lets +onlyGivenNames x0
  clear_value x0
  extract_lets +onlyGivenNames x1
  clear_value x1
  refine kept_mk' (kept_comp ?_)
  exact h0

theorem State.fabDisable_kept {q p} {a0} (h0 : Kept q p a0) : Kept q p (State.fabDisable a0) := by
  unfold State.fabDisable
  extract_lets +onlyGivenNames x0
  have k1 : Kept q p x0 := by
    unfold x0
    apply State.scheduleDown_kept
    apply State.clrReg_kept
    apply State.enterPark_kept
    exact h0
  clear_value x0
  apply State.spDisable_kept
  apply State.showOff_kept
  exact k1

theorem State.startBreeze_kept {q p} {a0} (h0 : Kept q p a0) : Kept q p (State.startBreeze a0) := by
  unfold State.startBreeze
  refine kept_mk' (kept_comp ?_)
  exact h0

theorem State.fabEnable_kept {q p} {a0} (h0 : Kept q p a0) : Kept q p (State.fabEnable a0) := by
  unfold State.fabEnable
  refine kept_ite ?_ ?_
  · apply State.orReg_kept
    exact h0
  · refine kept_ite ?_ ?_
    · apply State.orReg_kept
      exact h0
    · extract_lets +onlyGivenNames x0
      have k1 : Kept q p x0 := by
        unfold x0
        apply State.orReg_kept
        apply State.abortSite_kept
        exact h0
      clear_value x0
      extract_lets +onlyGivenNames x2
      clear_value x2
      extract_lets +onlyGivenNames x3
      have k4 : Kept q p x3 := by
        unfold x3
        refine kept_mk' (kept_comp ?_)
        exact k1
      clear_value x3
      extract_lets +onlyGivenNames x5
      have k6 : Kept q p x5 := by
        unfold x5
        apply State.showPark_kept
        apply State.startBreeze_kept
        apply State.drivePark_kept
        exact k4
      clear_value x5
      extract_lets +onlyGivenNames x7
      clear_value x7
      extract_lets +onlyGivenNames x8
      clear_value x8
      extract_lets +onlyGivenNames x9
      have k10 : Kept q p x9 := by
        unfold x9
        refine kept_ite ?_ ?_
        · apply State.logPut_kept
          apply State.safeEvent_kept
          apply State.setReg_kept
          refine kept_mk' (kept_comp ?_)
          exact k6
        · exact k6
      clear_value x9
      extract_lets +onlyGivenNames x11
      clear_value x11
      extract_lets +onlyGivenNames x12
      have k13 : Kept q p x12 := by
        unfold x12
        refine kept_ite ?_ ?_
        · refine kept_mk' (kept_comp ?_)
          exact k10
        · exact k10
      clear_value x12
      refine kept_ite ?_ ?_
      · exact k13
      · apply State.requestBoundary_kept
        exact k13

theorem State.fabLoad_kept {q p} {a0} (h0 : Kept q p a0) : Kept q p (State.fabLoad a0) := by
  unfold State.fabLoad
  refine kept_ite ?_ ?_
  · apply State.orReg_kept
    exact h0
  · apply State.orReg_kept
    refine kept_mk' (kept_comp ?_)
    exact h0

theorem State.fabCtrl_kept {q p} {a0 a1} (h1 : Kept q p a1) : Kept q p (State.fabCtrl a0 a1) := by
  unfold State.fabCtrl
  extract_lets +onlyGivenNames x0
  have k1 : Kept q p x0 := by
    unfold x0
    refine kept_ite ?_ ?_
    · refine kept_ite ?_ ?_
      · exact h1
      · apply State.orReg_kept
        exact h1
    · apply State.setReg_kept
      exact h1
  clear_value x0
  extract_lets +onlyGivenNames x2
  have k3 : Kept q p x2 := by
    unfold x2
    refine kept_ite ?_ ?_
    · apply State.fabEnable_kept
      exact k1
    · refine kept_ite ?_ ?_
      · apply State.fabDisable_kept
        exact k1
      · exact k1
  clear_value x2
  refine kept_ite ?_ ?_
  · apply State.fabLoad_kept
    exact k3
  · exact k3

theorem State.healthPut_kept {q p} {a0 a1 a2 a3} (h3 : Kept q p a3) : Kept q p (State.healthPut a0 a1 a2 a3) := by
  unfold State.healthPut
  extract_lets +onlyGivenNames x0
  clear_value x0
  refine kept_ite ?_ ?_
  · exact h3
  · extract_lets +onlyGivenNames x1
    have k2 : Kept q p x1 := by
      unfold x1
      apply State.bumpEpoch_kept
      apply State.setReg_kept
      exact h3
    clear_value x1
    extract_lets +onlyGivenNames x3
    have k4 : Kept q p x3 := by
      unfold x3
      refine kept_foldl ?_ ?_
      · intro z5 z6 k7
        refine kept_ite ?_ ?_
        · exact k7
        · apply State.healthEvent_kept
          exact k7
      · exact k2
    clear_value x3
    extract_lets +onlyGivenNames x8
    have k9 : Kept q p x8 := by
      unfold x8
      apply State.recEvent_kept
      exact k4
    clear_value x8
    extract_lets +onlyGivenNames x10
    have k11 : Kept q p x10 := by
      unfold x10
      apply State.rebuildPark_kept
      exact k9
    clear_value x10
    refine kept_mk' (kept_comp ?_)
    exact k11

theorem State.healthWrite_kept {q p} {a0 a1 a2} (h2 : Kept q p a2) : Kept q p (State.healthWrite a0 a1 a2) := by
  unfold State.healthWrite
  refine kept_ite ?_ ?_
  · apply State.orReg_kept
    exact h2
  · apply State.healthPut_kept
    exact h2

theorem State.loadFail_kept {q p} {a0 a1 a2} (h2 : Kept q p a2) : Kept q p (State.loadFail a0 a1 a2) := by
  unfold State.loadFail
  apply State.clrReg_kept
  apply State.orReg_kept
  apply State.setReg_kept
  apply State.setReg_kept
  exact h2

theorem State.loadEnd_kept {q p} {a0 a1} (h1 : Kept q p a1) : Kept q p (State.loadEnd a0 a1) := by
  unfold State.loadEnd
  split
  · exact h1
  · refine kept_ite ?_ ?_
    · exact h1
    · extract_lets +onlyGivenNames x5
      clear_value x5
      extract_lets +onlyGivenNames x6
      have k7 : Kept q p x6 := by
        unfold x6
        refine kept_mk' (kept_comp ?_)
        exact h1
      clear_value x6
      extract_lets +onlyGivenNames x8
      have k9 : ∀ y0 y1, Kept q p (x8 y0 y1) := by
        unfold x8
        intro z10 z11
        split
        · apply State.acceptFdr_kept
          exact k7
        · apply State.loadFail_kept
          exact k7
      clear_value x8
      split
      · apply State.loadFail_kept
        exact k7
      · refine kept_ite ?_ ?_
        · split
          · apply State.loadFail_kept
            exact k7
          · refine kept_ite ?_ ?_
            · apply k9
            · apply State.loadFail_kept
              exact k7
        · apply k9

theorem execFabDisable_kept {q p} {a0 a1 a2} (h2 : Kept q p a2) : KeptRes q p (execFabDisable a0 a1 a2) := by
  unfold execFabDisable
  refine keptRes_next ?_
  apply State.baseWrite_kept
  · intro z0 k1
    apply State.fabCtrl_kept
    exact k1
  · exact h2

theorem execFabEnable_kept {q p} {a0 a1 a2} (h2 : Kept q p a2) : KeptRes q p (execFabEnable a0 a1 a2) := by
  unfold execFabEnable
  refine keptRes_next ?_
  apply State.baseWrite_kept
  · intro z0 k1
    apply State.fabCtrl_kept
    exact k1
  · exact h2

theorem execFabLoad_kept {q p} {a0 a1 a2} (h2 : Kept q p a2) : KeptRes q p (execFabLoad a0 a1 a2) := by
  unfold execFabLoad
  refine keptRes_next ?_
  apply State.baseWrite_kept
  · intro z0 k1
    apply State.fabCtrl_kept
    exact k1
  · exact h2

theorem execFabLoadDeferredRead_kept {q p} {a0} (h0 : Kept q p a0) : KeptRes q p (execFabLoadDeferredRead a0) := by
  unfold execFabLoadDeferredRead
  split
  · refine keptRes_ite ?_ ?_
    · refine keptRes_next ?_
      refine kept_mk' (kept_comp ?_)
      exact h0
    · refine keptRes_next ?_
      exact h0
  · refine keptRes_next ?_
    exact h0

theorem execFabLoadEnd_kept {q p} {a0 a1} (h1 : Kept q p a1) : KeptRes q p (execFabLoadEnd a0 a1) := by
  unfold execFabLoadEnd
  refine keptRes_next ?_
  apply State.loadEnd_kept
  exact h1

theorem execHealthMarkWrite_kept {q p} {a0 a1 a2 a3} (h3 : Kept q p a3) : KeptRes q p (execHealthMarkWrite a0 a1 a2 a3) := by
  unfold execHealthMarkWrite
  refine keptRes_ite ?_ ?_
  · refine keptRes_next ?_
    apply State.baseWrite_kept
    · intro z0 k1
      apply State.healthWrite_kept
      exact k1
    · exact h3
  · refine keptRes_next ?_
    exact h3

theorem State.demodCell_kept {q p} {a0 a1 a2} (h2 : Kept q p a2) : Kept q p (State.demodCell a0 a1 a2) := by
  unfold State.demodCell
  extract_lets +onlyGivenNames x0
  clear_value x0
  refine kept_ite ?_ ?_
  · exact h2
  · split
    · exact h2
    · extract_lets +onlyGivenNames x6
      clear_value x6
      refine kept_ite ?_ ?_
      · exact h2
      · extract_lets +onlyGivenNames x7
        clear_value x7
        extract_lets +onlyGivenNames x8
        clear_value x8
        apply State.setLoopCell_kept
        exact h2

theorem State.presetCell_kept {q p} {a0 a1 a2} (h2 : Kept q p a2) : Kept q p (State.presetCell a0 a1 a2) := by
  unfold State.presetCell
  extract_lets +onlyGivenNames x0
  clear_value x0
  refine kept_ite ?_ ?_
  · exact h2
  · apply State.setLoopCell_kept
    exact h2

theorem State.presetHeld_kept {q p} {a0} (h0 : Kept q p a0) : Kept q p (State.presetHeld a0) := by
  unfold State.presetHeld
  refine kept_foldl ?_ ?_
  · intro z0 z1 k2
    split
    · apply State.presetCell_kept
      exact k2
    · exact k2
  · exact h0

theorem State.discardWaiting_kept {q p} {a0 a1 a2} (h2 : Kept q p a2) : Kept q p (State.discardWaiting a0 a1 a2) := by
  unfold State.discardWaiting
  extract_lets +onlyGivenNames x0
  clear_value x0
  refine kept_ite ?_ ?_
  · exact h2
  · apply State.orReg_kept
    apply State.bump_kept
    exact h2

theorem State.drainCq_kept {q p} {a0 a1 a2 a3} (h3 : Kept q p a3) : Kept q p (State.drainCq a0 a1 a2 a3) := by
  unfold State.drainCq
  refine kept_foldl ?_ ?_
  · intro z0 z1 k2
    refine kept_ite ?_ ?_
    · exact k2
    · apply State.writeCq_kept
      apply State.setCq_kept
      exact k2
  · exact h3

theorem State.drainEq_kept {q p} {a0 a1 a2} (h2 : Kept q p a2) : Kept q p (State.drainEq a0 a1 a2) := by
  unfold State.drainEq
  extract_lets +onlyGivenNames x0
  clear_value x0
  refine kept_foldl ?_ ?_
  · intro z1 z2 k3
    apply State.writeEq_kept
    exact k3
  · apply State.setFn_kept
    exact h2

theorem State.drainMsix_kept {q p} {a0 a1 a2} (h2 : Kept q p a2) : Kept q p (State.drainMsix a0 a1 a2) := by
  unfold State.drainMsix
  extract_lets +onlyGivenNames x0
  clear_value x0
  refine kept_foldl ?_ ?_
  · intro z1 z2 k3
    refine kept_ite ?_ ?_
    · apply State.sendMsix_kept
      apply State.setFn_kept
      exact k3
    · exact k3
  · exact h2

theorem State.dropLink_kept {q p} {a0 a1} (h1 : Kept q p a1) : Kept q p (State.dropLink a0 a1) := by
  unfold State.dropLink
  apply State.clrReg_kept
  apply State.setReg_kept
  apply State.setUnit_kept
  exact h1

theorem State.hlCtrl_kept {q p} {a0 a1 a2} (h2 : Kept q p a2) : Kept q p (State.hlCtrl a0 a1 a2) := by
  unfold State.hlCtrl
  extract_lets +onlyGivenNames x0
  have k1 : Kept q p x0 := by
    unfold x0
    apply State.maskWrite_kept
    exact h2
  clear_value x0
  refine kept_ite ?_ ?_
  · refine kept_foldl ?_ ?_
    · intro z2 z3 k4
      apply State.setReg_kept
      exact k4
    · exact k1
  · exact k1

theorem State.linkAt_kept {q p} {a0 a1 a2 a3 a4 a5 a6} (h6 : Kept q p a6) : Kept q p (State.linkAt a0 a1 a2 a3 a4 a5 a6) := by
  unfold State.linkAt
  extract_lets +onlyGivenNames x0
  clear_value x0
  extract_lets +onlyGivenNames x1
  have k2 : Kept q p x1 := by
    unfold x1
    apply State.setReg_kept
    exact h6
  clear_value x1
  refine kept_ite ?_ ?_
  · apply State.eventTo_kept
    apply State.orReg_kept
    exact k2
  · exact k2

theorem State.resetFn_kept {q p} {a0 a1 a2} (h1 : Kept q p a1) : Kept q p (State.resetFn a0 a1 a2) := by
  unfold State.resetFn
  extract_lets +onlyGivenNames x0
  have k1 : Kept q p x0 := by
    unfold x0
    apply State.dropHeldFn_kept
    apply State.discardWaiting_kept
    exact h1
  clear_value x0
  extract_lets +onlyGivenNames x2
  clear_value x2
  extract_lets +onlyGivenNames x3
  have k4 : Kept q p x3 := by
    unfold x3
    apply State.setUnit_kept
    exact k1
  clear_value x3
  apply State.resetRegs_kept
  exact k4

theorem State.resetFns_kept {q p} {a0 a1} (h1 : Kept q p a1) : Kept q p (State.resetFns a0 a1) := by
  unfold State.resetFns
  extract_lets +onlyGivenNames x0
  have k1 : Kept q p x0 := by
    unfold x0
    refine kept_foldl ?_ ?_
    · intro z2 z3 k4
      apply State.resetFn_kept
      exact k4
    · exact h1
  clear_value x0
  apply State.resetRegs_kept
  apply State.setUnit_kept
  exact k1

theorem State.linkLost_kept {q p} {a0 a1} (h1 : Kept q p a1) : Kept q p (State.linkLost a0 a1) := by
  unfold State.linkLost
  refine kept_ite ?_ ?_
  · extract_lets +onlyGivenNames x0
    have k1 : Kept q p x0 := by
      unfold x0
      apply State.bump_kept
      apply State.orReg_kept
      apply State.dropLink_kept
      exact h1
    clear_value x0
    extract_lets +onlyGivenNames x2
    have k3 : Kept q p x2 := by
      unfold x2
      apply State.resetFns_kept
      exact k1
    clear_value x2
    refine kept_ite ?_ ?_
    · apply State.report1_kept
      exact k3
    · exact k3
  · exact h1

theorem execD3hotEntry_kept {q p} {a0 a1 a2} (h2 : Kept q p a2) : KeptRes q p (execD3hotEntry a0 a1 a2) := by
  unfold execD3hotEntry
  refine keptRes_next ?_
  refine kept_ite ?_ ?_
  · apply State.clrReg_kept
    apply State.setFn_kept
    exact h2
  · exact h2

theorem execD3hotExit_kept {q p} {a0 a1 a2} (h2 : Kept q p a2) : KeptRes q p (execD3hotExit a0 a1 a2) := by
  unfold execD3hotExit
  refine keptRes_ite ?_ ?_
  · extract_lets +onlyGivenNames x0
    clear_value x0
    extract_lets +onlyGivenNames x1
    have k2 : Kept q p x1 := by
      unfold x1
      apply State.setFn_kept
      exact h2
    clear_value x1
    extract_lets +onlyGivenNames x3
    have k4 : Kept q p x3 := by
      unfold x3
      refine kept_ite ?_ ?_
      · apply State.orReg_kept
        exact k2
      · exact k2
    clear_value x3
    extract_lets +onlyGivenNames x5
    have k6 : Kept q p x5 := by
      unfold x5
      refine kept_foldl ?_ ?_
      · intro z7 z8 k9
        apply State.drainCq_kept
        exact k9
      · exact k4
    clear_value x5
    refine keptRes_next ?_
    apply State.drainMsix_kept
    apply State.drainEq_kept
    exact k6
  · refine keptRes_next ?_
    exact h2

theorem execFlrPf_kept {q p} {a0 a1} (h1 : Kept q p a1) : KeptRes q p (execFlrPf a0 a1) := by
  unfold execFlrPf
  refine keptRes_next ?_
  apply State.orReg_kept
  apply State.resetFns_kept
  exact h1

theorem execFlrVf_kept {q p} {a0 a1 a2} (h2 : Kept q p a2) : KeptRes q p (execFlrVf a0 a1 a2) := by
  unfold execFlrVf
  refine keptRes_next ?_
  refine kept_ite ?_ ?_
  · apply State.orReg_kept
    apply State.resetFn_kept
    exact h2
  · exact h2

theorem execHlCountClear_kept {q p} {a0 a1 a2} (h2 : Kept q p a2) : KeptRes q p (execHlCountClear a0 a1 a2) := by
  unfold execHlCountClear
  refine keptRes_next ?_
  apply State.hlCtrl_kept
  exact h2

theorem execHotReset_kept {q p} {a0 a1} (h1 : Kept q p a1) : KeptRes q p (execHotReset a0 a1) := by
  unfold execHotReset
  extract_lets +onlyGivenNames x0
  have k1 : Kept q p x0 := by
    unfold x0
    apply State.orReg_kept
    apply State.dropLink_kept
    exact h1
  clear_value x0
  refine keptRes_next ?_
  apply State.resetFns_kept
  exact k1

theorem execLinkDown_kept {q p} {a0 a1} (h1 : Kept q p a1) : KeptRes q p (execLinkDown a0 a1) := by
  unfold execLinkDown
  refine keptRes_next ?_
  apply State.linkLost_kept
  exact h1

theorem execLinkError_kept {q p} {a0 a1 a2} (h2 : Kept q p a2) : KeptRes q p (execLinkError a0 a1 a2) := by
  unfold execLinkError
  refine keptRes_ite ?_ ?_
  · extract_lets +onlyGivenNames x0
    have k1 : Kept q p x0 := by
      unfold x0
      apply State.orReg_kept
      apply State.bump_kept
      exact h2
    clear_value x0
    refine keptRes_next ?_
    refine kept_ite ?_ ?_
    · apply State.report1_kept
      exact k1
    · exact k1
  · refine keptRes_next ?_
    apply State.orReg_kept
    apply State.bump_kept
    exact h2

theorem execLinkRetrain_kept {q p} {a0 a1 a2 a3 a4 a5 a6} (h6 : Kept q p a6) : KeptRes q p (execLinkRetrain a0 a1 a2 a3 a4 a5 a6) := by
  unfold execLinkRetrain
  refine keptRes_ite ?_ ?_
  · refine keptRes_next ?_
    exact h6
  · refine keptRes_next ?_
    apply State.linkAt_kept
    apply State.bump_kept
    exact h6

theorem execLinkUp_kept {q p} {a0 a1 a2 a3 a4 a5 a6} (h6 : Kept q p a6) : KeptRes q p (execLinkUp a0 a1 a2 a3 a4 a5 a6) := by
  unfold execLinkUp
  refine keptRes_ite ?_ ?_
  · refine keptRes_next ?_
    exact h6
  · extract_lets +onlyGivenNames x0
    clear_value x0
    extract_lets +onlyGivenNames x1
    have k2 : Kept q p x1 := by
      unfold x1
      apply State.orReg_kept
      apply State.setUnit_kept
      exact h6
    clear_value x1
    refine keptRes_next ?_
    apply State.linkAt_kept
    exact k2

theorem execPerstAssert_kept {q p} {a0 a1} (h1 : Kept q p a1) : KeptRes q p (execPerstAssert a0 a1) := by
  unfold execPerstAssert
  extract_lets +onlyGivenNames x0
  clear_value x0
  extract_lets +onlyGivenNames x1
  clear_value x1
  extract_lets +onlyGivenNames x2
  have k3 : Kept q p x2 := by
    unfold x2
    apply State.setUnit_kept
    apply State.dropLink_kept
    exact h1
  clear_value x2
  extract_lets +onlyGivenNames x4
  have k5 : Kept q p x4 := by
    unfold x4
    apply State.bump_kept
    apply State.orReg_kept
    exact k3
  clear_value x4
  extract_lets +onlyGivenNames x6
  have k7 : Kept q p x6 := by
    unfold x6
    apply State.resetFns_kept
    exact k5
  clear_value x6
  refine keptRes_next ?_
  refine kept_ite ?_ ?_
  · apply State.report1_kept
    exact k7
  · exact k7

theorem execPerstRelease_kept {q p} {a0 a1} (h1 : Kept q p a1) : KeptRes q p (execPerstRelease a0 a1) := by
  unfold execPerstRelease
  refine keptRes_next ?_
  apply State.setUnit_kept
  exact h1

theorem State.chainStep_kept {q p} {a0 a1} (h1 : Kept q p a1) : Kept q p (State.chainStep a0 a1) := by
  unfold State.chainStep
  extract_lets +onlyGivenNames x0
  clear_value x0
  apply State.setSq_kept
  exact h1

theorem State.chargeBuckets_kept {q p} {a0 a1 a2 a3 a4} (h4 : Kept q p a4) : Kept q p (State.chargeBuckets a0 a1 a2 a3 a4) := by
  unfold State.chargeBuckets
  extract_lets +onlyGivenNames x0
  clear_value x0
  apply State.setSq_kept
  exact h4

theorem State.fly_kept {q p} {a0 a1 a2} (h2 : Kept q p a2) : Kept q p (State.fly a0 a1 a2) := by
  unfold State.fly
  extract_lets +onlyGivenNames x0
  clear_value x0
  apply State.setUnit_kept
  exact h2

theorem State.policed_kept {q p} {a0 a1} (h1 : Kept q p a1) : Kept q p (State.policed a0 a1) := by
  unfold State.policed
  extract_lets +onlyGivenNames x0
  clear_value x0
  extract_lets +onlyGivenNames x1
  have k2 : Kept q p x1 := by
    unfold x1
    refine kept_ite ?_ ?_
    · apply State.bump_kept
      exact h1
    · apply State.bump_kept
      exact h1
  clear_value x1
  extract_lets +onlyGivenNames x3
  have k4 : Kept q p x3 := by
    unfold x3
    apply State.pmcEvent_kept
    apply State.qSticky_kept
    exact k2
  clear_value x3
  apply State.refuse_kept
  exact k4

theorem State.acceptDesc_kept {q p} {a0 a1} (h1 : Kept q p a1) : Kept q p (State.acceptDesc a0 a1) := by
  unfold State.acceptDesc
  extract_lets +onlyGivenNames x0
  clear_value x0
  extract_lets +onlyGivenNames x1
  clear_value x1
  extract_lets +onlyGivenNames x2
  have k3 : Kept q p x2 := by
    unfold x2
    apply State.chainStep_kept
    apply State.recCommand_kept
    exact h1
  clear_value x2
  refine kept_ite ?_ ?_
  · apply State.refuse_kept
    apply State.fly_kept
    exact k3
  · refine kept_ite ?_ ?_
    · apply State.complete_kept
      apply State.orReg_kept
      exact k3
    · refine kept_ite ?_ ?_
      · apply State.refuse_kept
        apply State.fly_kept
        exact k3
      · refine kept_ite ?_ ?_
        · apply State.refuse_kept
          apply State.fly_kept
          exact k3
        · refine kept_ite ?_ ?_
          · apply State.policed_kept
            apply State.fly_kept
            exact k3
          · extract_lets +onlyGivenNames x4
            have k5 : Kept q p x4 := by
              unfold x4
              apply State.chargeBuckets_kept
              exact k3
            clear_value x4
            split
            · apply State.complete_kept
              apply State.fly_kept
              exact k5
            · apply State.fly_kept
              exact k5

theorem State.chargeTags_kept {q p} {a0 a1 a2 a3} (h3 : Kept q p a3) : Kept q p (State.chargeTags a0 a1 a2 a3) := by
  unfold State.chargeTags
  extract_lets +onlyGivenNames x0
  clear_value x0
  extract_lets +onlyGivenNames x1
  clear_value x1
  extract_lets +onlyGivenNames x2
  clear_value x2
  extract_lets +onlyGivenNames x3
  have k4 : Kept q p x3 := by
    unfold x3
    apply State.setUnit_kept
    exact h3
  clear_value x3
  extract_lets +onlyGivenNames x5
  clear_value x5
  extract_lets +onlyGivenNames x6
  have k7 : Kept q p x6 := by
    unfold x6
    apply State.setFn_kept
    exact k4
  clear_value x6
  apply State.setSq_kept
  exact k7

theorem State.cqCfgWrite_kept {q p} {a0 a1 a2 a3 a4} (h4 : Kept q p a4) : Kept q p (State.cqCfgWrite a0 a1 a2 a3 a4) := by
  unfold State.cqCfgWrite
  extract_lets +onlyGivenNames x0
  clear_value x0
  extract_lets +onlyGivenNames x1
  clear_value x1
  refine kept_ite ?_ ?_
  · apply State.orReg_kept
    apply State.rwlWrite_kept
    exact h4
  · extract_lets +onlyGivenNames x2
    have k3 : Kept q p x2 := by
      unfold x2
      apply State.rwlWrite_kept
      exact h4
    clear_value x2
    refine kept_ite ?_ ?_
    · apply State.setCq_kept
      exact k3
    · exact k3

theorem State.dbErr_kept {q p} {a0 a1 a2} (h2 : Kept q p a2) : Kept q p (State.dbErr a0 a1 a2) := by
  unfold State.dbErr
  apply State.qSticky_kept
  exact h2

theorem State.eqCfgWrite_kept {q p} {a0 a1 a2 a3} (h3 : Kept q p a3) : Kept q p (State.eqCfgWrite a0 a1 a2 a3) := by
  unfold State.eqCfgWrite
  extract_lets +onlyGivenNames x0
  clear_value x0
  extract_lets +onlyGivenNames x1
  clear_value x1
  extract_lets +onlyGivenNames x2
  have k3 : Kept q p x2 := by
    unfold x2
    apply State.rwlWrite_kept
    exact h3
  clear_value x2
  refine kept_ite ?_ ?_
  · apply State.setFn_kept
    exact k3
  · exact k3

theorem State.noteQuota_kept {q p} {a0 a1 a2} (h2 : Kept q p a2) : Kept q p (State.noteQuota a0 a1 a2) := by
  unfold State.noteQuota
  refine kept_ite ?_ ?_
  · apply State.qSticky_kept
    exact h2
  · exact h2

theorem State.noteRtt_kept {q p} {a0 a1 a2} (h2 : Kept q p a2) : Kept q p (State.noteRtt a0 a1 a2) := by
  unfold State.noteRtt
  extract_lets +onlyGivenNames x0
  clear_value x0
  apply State.setReg_kept
  exact h2

theorem State.takeSlot_kept {q p} {a0 a1 a2 a3 a4} (h4 : Kept q p a4) : Kept q p (State.takeSlot a0 a1 a2 a3 a4) := by
  unfold State.takeSlot
  refine kept_ite ?_ ?_
  · extract_lets +onlyGivenNames x0
    clear_value x0
    refine kept_ite ?_ ?_
    · exact h4
    · refine kept_ite ?_ ?_
      · apply State.setSq_kept
        exact h4
      · apply State.dbErr_kept
        exact h4
  · refine kept_ite ?_ ?_
    · extract_lets +onlyGivenNames x1
      clear_value x1
      extract_lets +onlyGivenNames x2
      clear_value x2
      refine kept_ite ?_ ?_
      · exact h4
      · refine kept_ite ?_ ?_
        · apply State.drainCq_kept
          apply State.setCq_kept
          exact h4
        · apply State.dbErr_kept
          exact h4
    · refine kept_ite ?_ ?_
      · extract_lets +onlyGivenNames x3
        clear_value x3
        refine kept_ite ?_ ?_
        · exact h4
        · refine kept_ite ?_ ?_
          · apply State.setFn_kept
            exact h4
          · apply State.dbErr_kept
            exact h4
      · refine kept_ite ?_ ?_
        · extract_lets +onlyGivenNames x4
          clear_value x4
          extract_lets +onlyGivenNames x5
          clear_value x5
          refine kept_ite ?_ ?_
          · exact h4
          · refine kept_ite ?_ ?_
            · extract_lets +onlyGivenNames x6
              have k7 : Kept q p x6 := by
                unfold x6
                apply State.setTr_kept
                exact h4
              clear_value x6
              refine kept_ite ?_ ?_
              · apply State.clrReg_kept
                exact k7
              · exact k7
            · apply State.dbErr_kept
              exact h4
        · exact h4

theorem State.pollFn_kept {q p} {a0 a1 a2} (h1 : Kept q p a1) : Kept q p (State.pollFn a0 a1 a2) := by
  unfold State.pollFn
  extract_lets +onlyGivenNames x0
  clear_value x0
  refine kept_ite ?_ ?_
  · exact h1
  · extract_lets +onlyGivenNames x1
    clear_value x1
    extract_lets +onlyGivenNames x2
    clear_value x2
    extract_lets +onlyGivenNames x3
    have k4 : Kept q p x3 := by
      unfold x3
      apply State.setFn_kept
      apply State.pmcEvent_kept
      exact h1
    clear_value x3
    refine kept_ite ?_ ?_
    · exact k4
    · extract_lets +onlyGivenNames x5
      have k6 : Kept q p x5 := by
        unfold x5
        apply State.hostWrite_kept
        apply State.pmcEvent_kept
        exact k4
      clear_value x5
      extract_lets +onlyGivenNames x7
      clear_value x7
      extract_lets +onlyGivenNames x8
      have k9 : Kept q p x8 := by
        unfold x8
        apply State.setFn_kept
        exact k6
      clear_value x8
      refine kept_foldl ?_ ?_
      · intro z10 z11 k12
        refine kept_ite ?_ ?_
        · split
          · apply State.takeSlot_kept
            exact k12
          · exact k12
        · exact k12
      · exact k9

theorem State.qCtrl_kept {q p} {a0 a1 a2 a3} (h3 : Kept q p a3) : Kept q p (State.qCtrl a0 a1 a2 a3) := by
  unfold State.qCtrl
  extract_lets +onlyGivenNames x0
  clear_value x0
  extract_lets +onlyGivenNames x1
  have k2 : Kept q p x1 := by
    unfold x1
    apply State.setReg_kept
    exact h3
  clear_value x1
  extract_lets +onlyGivenNames x3
  clear_value x3
  extract_lets +onlyGivenNames x4
  have k5 : Kept q p x4 := by
    unfold x4
    refine kept_ite ?_ ?_
    · exact k2
    · apply State.clrReg_kept
      apply State.setFn_kept
      exact k2
  clear_value x4
  extract_lets +onlyGivenNames x6
  have k7 : Kept q p x6 := by
    unfold x6
    refine kept_ite ?_ ?_
    · apply State.clrReg_kept
      exact k2
    · refine kept_ite ?_ ?_
      · exact k5
      · apply State.orReg_kept
        exact k5
  clear_value x6
  refine kept_ite ?_ ?_
  · apply State.clearFnCounts_kept
    exact k7
  · exact k7

theorem State.refreshSq_kept {q p} {a0 a1 a2 a3} (h2 : Kept q p a2) : Kept q p (State.refreshSq a0 a1 a2 a3) := by
  unfold State.refreshSq
  extract_lets +onlyGivenNames x0
  clear_value x0
  extract_lets +onlyGivenNames x1
  clear_value x1
  refine kept_ite ?_ ?_
  · exact h2
  · refine kept_ite ?_ ?_
    · extract_lets +onlyGivenNames x2
      clear_value x2
      apply State.setSq_kept
      exact h2
    · apply State.setSq_kept
      exact h2

theorem State.refreshFn_kept {q p} {a0 a1 a2} (h1 : Kept q p a1) : Kept q p (State.refreshFn a0 a1 a2) := by
  unfold State.refreshFn
  extract_lets +onlyGivenNames x0
  have k1 : Kept q p x0 := by
    unfold x0
    refine kept_foldl ?_ ?_
    · intro z2 z3 k4
      apply State.refreshSq_kept
      exact k4
    · exact h1
  clear_value x0
  extract_lets +onlyGivenNames x5
  clear_value x5
  extract_lets +onlyGivenNames x6
  clear_value x6
  refine kept_ite ?_ ?_
  · exact k1
  · refine kept_ite ?_ ?_
    · extract_lets +onlyGivenNames x7
      clear_value x7
      apply State.setFn_kept
      exact k1
    · apply State.setFn_kept
      exact k1

theorem State.refreshAll_kept {q p} {a0 a1} (h1 : Kept q p a1) : Kept q p (State.refreshAll a0 a1) := by
  unfold State.refreshAll
  refine kept_foldl ?_ ?_
  · intro z0 z1 k2
    apply State.refreshFn_kept
    exact k2
  · exact h1

theorem State.sqCfgWrite_kept {q p} {a0 a1 a2 a3 a4 a5} (h5 : Kept q p a5) : Kept q p (State.sqCfgWrite a0 a1 a2 a3 a4 a5) := by
  unfold State.sqCfgWrite
  extract_lets +onlyGivenNames x0
  clear_value x0
  extract_lets +onlyGivenNames x1
  clear_value x1
  extract_lets +onlyGivenNames x2
  have k3 : Kept q p x2 := by
    unfold x2
    apply State.rwlWrite_kept
    exact h5
  clear_value x2
  extract_lets +onlyGivenNames x4
  clear_value x4
  extract_lets +onlyGivenNames x5
  clear_value x5
  extract_lets +onlyGivenNames x6
  have k7 : Kept q p x6 := by
    unfold x6
    refine kept_ite ?_ ?_
    · apply State.setSq_kept
      apply State.clrReg_kept
      exact k3
    · refine kept_ite ?_ ?_
      · exact k3
      · refine kept_ite ?_ ?_
        · apply State.orReg_kept
          exact k3
        · apply State.setSq_kept
          apply State.clrReg_kept
          apply State.orReg_kept
          exact k3
  clear_value x6
  apply State.refreshAll_kept
  exact k7

theorem State.trCfgWrite_kept {q p} {a0 a1 a2 a3 a4} (h4 : Kept q p a4) : Kept q p (State.trCfgWrite a0 a1 a2 a3 a4) := by
  unfold State.trCfgWrite
  extract_lets +onlyGivenNames x0
  clear_value x0
  extract_lets +onlyGivenNames x1
  clear_value x1
  extract_lets +onlyGivenNames x2
  have k3 : Kept q p x2 := by
    unfold x2
    apply State.rwlWrite_kept
    exact h4
  clear_value x2
  refine kept_ite ?_ ?_
  · apply State.setReg_kept
    apply State.setTr_kept
    exact k3
  · exact k3

theorem execArbitrationGrant_kept {q p} {a0 a1} (h1 : Kept q p a1) : KeptRes q p (execArbitrationGrant a0 a1) := by
  unfold execArbitrationGrant
  extract_lets +onlyGivenNames x0
  have k1 : Kept q p x0 := by
    unfold x0
    apply State.refreshAll_kept
    exact h1
  clear_value x0
  refine keptRes_ite ?_ ?_
  · refine keptRes_next ?_
    exact k1
  · split
    · refine keptRes_next ?_
      exact k1
    · split
      · refine keptRes_next ?_
        exact k1
      · extract_lets +onlyGivenNames x22
        clear_value x22
        extract_lets +onlyGivenNames x23
        have k24 : Kept q p x23 := by
          unfold x23
          apply State.chargeTags_kept
          apply State.setSq_kept
          exact k1
        clear_value x23
        extract_lets +onlyGivenNames x25
        have k26 : Kept q p x25 := by
          unfold x25
          apply State.acceptDesc_kept
          apply State.pmcEvent_kept
          apply State.wrapInc_kept
          exact k24
        clear_value x25
        refine keptRes_next ?_
        apply State.refreshAll_kept
        apply State.noteQuota_kept
        exact k26

theorem execBucketRefill_kept {q p} {a0} (h0 : Kept q p a0) : KeptRes q p (execBucketRefill a0) := by
  unfold execBucketRefill
  refine keptRes_next ?_
  refine kept_foldl ?_ ?_
  · intro z0 z1 k2
    refine kept_foldl ?_ ?_
    · intro z3 z4 k5
      refine kept_foldl ?_ ?_
      · intro z6 z7 k8
        apply State.setSq_kept
        exact k8
      · exact k5
    · exact k2
  · exact h0

theorem execCompletionPost_kept {q p} {a0 a1 a2 a3 a4} (h4 : Kept q p a4) : KeptRes q p (execCompletionPost a0 a1 a2 a3 a4) := by
  unfold execCompletionPost
  refine keptRes_next ?_
  apply State.refreshAll_kept
  apply State.takeSlot_kept
  exact h4

theorem execCqDisable_kept {q p} {a0 a1 a2 a3 a4} (h4 : Kept q p a4) : KeptRes q p (execCqDisable a0 a1 a2 a3 a4) := by
  unfold execCqDisable
  refine keptRes_next ?_
  apply State.cqCfgWrite_kept
  exact h4

theorem execCqEnable_kept {q p} {a0 a1 a2 a3 a4} (h4 : Kept q p a4) : KeptRes q p (execCqEnable a0 a1 a2 a3 a4) := by
  unfold execCqEnable
  refine keptRes_next ?_
  apply State.cqCfgWrite_kept
  exact h4

theorem execDescriptorFetch_kept {q p} {a0 a1 a2 a3 a4 a5} (h5 : Kept q p a5) : KeptRes q p (execDescriptorFetch a0 a1 a2 a3 a4 a5) := by
  unfold execDescriptorFetch
  extract_lets +onlyGivenNames x0
  clear_value x0
  extract_lets +onlyGivenNames x1
  clear_value x1
  extract_lets +onlyGivenNames x2
  clear_value x2
  extract_lets +onlyGivenNames x3
  clear_value x3
  refine keptRes_ite ?_ ?_
  · refine keptRes_next ?_
    exact h5
  · extract_lets +onlyGivenNames x4
    have k5 : Kept q p x4 := by
      unfold x4
      apply State.setSq_kept
      apply State.noteRtt_kept
      exact h5
    clear_value x4
    refine keptRes_next ?_
    apply State.refreshAll_kept
    apply State.hostWrite_kept
    exact k5

theorem execEqEnable_kept {q p} {a0 a1 a2 a3} (h3 : Kept q p a3) : KeptRes q p (execEqEnable a0 a1 a2 a3) := by
  unfold execEqEnable
  refine keptRes_next ?_
  apply State.eqCfgWrite_kept
  exact h3

theorem execFunctionDisable_kept {q p} {a0 a1 a2 a3} (h3 : Kept q p a3) : KeptRes q p (execFunctionDisable a0 a1 a2 a3) := by
  unfold execFunctionDisable
  refine keptRes_next ?_
  apply State.qCtrl_kept
  exact h3

theorem execFunctionEnable_kept {q p} {a0 a1 a2 a3} (h3 : Kept q p a3) : KeptRes q p (execFunctionEnable a0 a1 a2 a3) := by
  unfold execFunctionEnable
  refine keptRes_next ?_
  apply State.qCtrl_kept
  exact h3

theorem execHostReadFail_kept {q p} {a0 a1 a2} (h2 : Kept q p a2) : KeptRes q p (execHostReadFail a0 a1 a2) := by
  unfold execHostReadFail
  split
  · extract_lets +onlyGivenNames x2
    clear_value x2
    refine keptRes_ite ?_ ?_
    · extract_lets +onlyGivenNames x3
      have k4 : Kept q p x3 := by
        unfold x3
        apply State.setFn_kept
        exact h2
      clear_value x3
      refine keptRes_next ?_
      apply State.report1_kept
      apply State.qSticky_kept
      apply State.clrReg_kept
      exact k4
    · refine keptRes_next ?_
      apply State.setFn_kept
      exact h2
  · extract_lets +onlyGivenNames x8
    clear_value x8
    refine keptRes_ite ?_ ?_
    · extract_lets +onlyGivenNames x9
      have k10 : Kept q p x9 := by
        unfold x9
        apply State.orReg_kept
        apply State.setSq_kept
        exact h2
      clear_value x9
      refine keptRes_next ?_
      apply State.report1_kept
      apply State.qSticky_kept
      exact k10
    · refine keptRes_next ?_
      apply State.setSq_kept
      exact h2
  · refine keptRes_next ?_
    apply State.loadEnd_kept
    exact h2

theorem execQCountClear_kept {q p} {a0 a1 a2 a3} (h3 : Kept q p a3) : KeptRes q p (execQCountClear a0 a1 a2 a3) := by
  unfold execQCountClear
  refine keptRes_next ?_
  apply State.qCtrl_kept
  exact h3

theorem execQueuePoll_kept {q p} {a0 a1 a2 a3} (h3 : Kept q p a3) : KeptRes q p (execQueuePoll a0 a1 a2 a3) := by
  unfold execQueuePoll
  refine keptRes_next ?_
  apply State.refreshAll_kept
  refine kept_foldl ?_ ?_
  · intro z0 z1 k2
    apply State.pollFn_kept
    exact k2
  · apply State.noteRtt_kept
    exact h3

theorem execRingInterruptTimer_kept {q p} {a0 a1 a2 a3} (h3 : Kept q p a3) : KeptRes q p (execRingInterruptTimer a0 a1 a2 a3) := by
  unfold execRingInterruptTimer
  extract_lets +onlyGivenNames x0
  clear_value x0
  refine keptRes_ite ?_ ?_
  · extract_lets +onlyGivenNames x1
    clear_value x1
    refine keptRes_next ?_
    refine kept_ite ?_ ?_
    · apply State.sendMsix_kept
      apply State.setCq_kept
      exact h3
    · exact h3
  · refine keptRes_ite ?_ ?_
    · extract_lets +onlyGivenNames x2
      clear_value x2
      refine keptRes_next ?_
      refine kept_ite ?_ ?_
      · apply State.sendMsix_kept
        apply State.setFn_kept
        exact h3
      · exact h3
    · refine keptRes_ite ?_ ?_
      · extract_lets +onlyGivenNames x3
        clear_value x3
        refine keptRes_next ?_
        refine kept_ite ?_ ?_
        · apply State.sendMsix_kept
          apply State.setTr_kept
          exact h3
        · exact h3
      · refine keptRes_next ?_
        exact h3

theorem execSqDisable_kept {q p} {a0 a1 a2 a3 a4} (h4 : Kept q p a4) : KeptRes q p (execSqDisable a0 a1 a2 a3 a4) := by
  unfold execSqDisable
  refine keptRes_next ?_
  apply State.sqCfgWrite_kept
  exact h4

theorem execSqEnable_kept {q p} {a0 a1 a2 a3 a4 a5} (h5 : Kept q p a5) : KeptRes q p (execSqEnable a0 a1 a2 a3 a4 a5) := by
  unfold execSqEnable
  refine keptRes_next ?_
  apply State.sqCfgWrite_kept
  exact h5

theorem execTrEnable_kept {q p} {a0 a1 a2 a3 a4} (h4 : Kept q p a4) : KeptRes q p (execTrEnable a0 a1 a2 a3 a4) := by
  unfold execTrEnable
  refine keptRes_next ?_
  apply State.trCfgWrite_kept
  exact h4

theorem State.startFlight_kept {q p} {a0 a1} (h1 : Kept q p a1) : Kept q p (State.startFlight a0 a1) := by
  unfold State.startFlight
  extract_lets +onlyGivenNames x0
  clear_value x0
  apply State.setUnit_kept
  exact h1

theorem State.runDesc_kept {q p} {a0 a1 a2 a3} (h2 : ∀ x0, Kept q p x0 → Kept q p (a2 x0)) (h3 : Kept q p a3) : Kept q p (State.runDesc a0 a1 a2 a3) := by
  unfold State.runDesc
  extract_lets +onlyGivenNames x0
  have k1 : Kept q p x0 := by
    unfold x0
    refine kept_ite ?_ ?_
    · exact h3
    · apply State.acceptDesc_kept
      exact h3
  clear_value x0
  refine kept_ite ?_ ?_
  · extract_lets +onlyGivenNames x2
    have k3 : Kept q p x2 := by
      unfold x2
      apply State.startFlight_kept
      exact k1
    clear_value x2
    split
    · apply State.complete_kept
      exact k3
    · refine kept_ite ?_ ?_
      · apply h2
        exact k3
      · apply State.refuse_kept
        exact k3
  · exact k1

theorem State.timed_kept {q p} {a0 a1 a2} (h1 : ∀ x0 x1, Kept q p x1 → Kept q p (a1 x0 x1)) (h2 : Kept q p a2) : Kept q p (State.timed a0 a1 a2) := by
  unfold State.timed
  extract_lets +onlyGivenNames x0
  clear_value x0
  refine kept_ite ?_ ?_
  · apply h1
    exact h2
  · refine kept_ite ?_ ?_
    · refine kept_ite ?_ ?_
      · apply h1
        exact h2
      · apply State.refuse_kept
        exact h2
    · refine kept_ite ?_ ?_
      · apply h1
        exact h2
      · refine kept_ite ?_ ?_
        · apply State.refuse_kept
          exact h2
        · apply State.setUnit_kept
          exact h2

end Sys2Proof.Machine
end

