-- ==== Sys2Proof/Laws/KeptBench.lean ====
section
/-! SUPPORT. `Kept` goes through every operation of time, the recorder, the monitors, drive, loops and routing: one lemma per operation,
so that no proof about the queue, the part or the canonical form unfolds one. -/

namespace Sys2Proof.Machine

theorem State.setTout_kept {q p} {a0 a1 a2} (h2 : Kept q p a2) : Kept q p (State.setTout a0 a1 a2) := by
  unfold State.setTout
  refine kept_mk' (kept_comp ?_)
  exact h2

theorem State.toutDrop_kept {q p} {a0 a1 a2} (h2 : Kept q p a2) : Kept q p (State.toutDrop a0 a1 a2) := by
  unfold State.toutDrop
  apply State.bump_kept
  exact h2

theorem State.toutStart_kept {q p} {a0 a1} (h1 : Kept q p a1) : Kept q p (State.toutStart a0 a1) := by
  unfold State.toutStart
  extract_lets +onlyGivenNames x0
  clear_value x0
  extract_lets +onlyGivenNames x1
  clear_value x1
  extract_lets +onlyGivenNames x2
  have k3 : Kept q p x2 := by
    unfold x2
    apply State.orReg_kept
    apply State.setTout_kept
    exact h1
  clear_value x2
  refine kept_ite ?_ ?_
  · apply State.completeOpt_kept
    exact k3
  · exact k3

theorem State.toutGo_kept {q p} {a0 a1 a2 a3 a4} (h4 : Kept q p a4) : Kept q p (State.toutGo a0 a1 a2 a3 a4) := by
  unfold State.toutGo
  extract_lets +onlyGivenNames x0
  clear_value x0
  extract_lets +onlyGivenNames x1
  clear_value x1
  refine kept_ite ?_ ?_
  · apply State.setTout_kept
    exact h4
  · extract_lets +onlyGivenNames x2
    clear_value x2
    extract_lets +onlyGivenNames x3
    have k4 : Kept q p x3 := by
      unfold x3
      apply State.orReg_kept
      apply State.orReg_kept
      exact h4
    clear_value x3
    refine kept_ite ?_ ?_
    · apply State.toutStart_kept
      apply State.setTout_kept
      exact k4
    · extract_lets +onlyGivenNames x5
      have k6 : Kept q p x5 := by
        unfold x5
        apply State.setTout_kept
        apply State.toutDrop_kept
        exact k4
      clear_value x5
      refine kept_ite ?_ ?_
      · apply State.completeOpt_kept
        exact k6
      · exact k6

theorem State.timePulseAct_kept {q p} {a0 a1} (h1 : Kept q p a1) : Kept q p (State.timePulseAct a0 a1) := by
  unfold State.timePulseAct
  extract_lets +onlyGivenNames x0
  clear_value x0
  extract_lets +onlyGivenNames x1
  clear_value x1
  refine kept_ite ?_ ?_
  · apply State.complete_kept
    apply State.toutDrop_kept
    apply State.orReg_kept
    apply State.orReg_kept
    exact h1
  · extract_lets +onlyGivenNames x2
    have k3 : Kept q p x2 := by
      unfold x2
      apply State.setReg_kept
      apply State.setReg_kept
      apply State.setReg_kept
      apply State.setReg_kept
      exact h1
    clear_value x2
    extract_lets +onlyGivenNames x4
    have k5 : Kept q p x4 := by
      unfold x4
      apply State.setReg_kept
      apply State.setReg_kept
      exact k3
    clear_value x4
    apply State.toutGo_kept
    exact k5

theorem State.toutStop_kept {q p} {a0 a1} (h1 : Kept q p a1) : Kept q p (State.toutStop a0 a1) := by
  unfold State.toutStop
  extract_lets +onlyGivenNames x0
  clear_value x0
  apply State.completeOpt_kept
  apply State.setTout_kept
  exact h1

theorem State.toutCfgWrite_kept {q p} {a0 a1 a2} (h2 : Kept q p a2) : Kept q p (State.toutCfgWrite a0 a1 a2) := by
  unfold State.toutCfgWrite
  extract_lets +onlyGivenNames x0
  clear_value x0
  extract_lets +onlyGivenNames x1
  clear_value x1
  extract_lets +onlyGivenNames x2
  have k3 : Kept q p x2 := by
    unfold x2
    apply State.rwlWrite_kept
    exact h2
  clear_value x2
  refine kept_ite ?_ ?_
  · apply State.toutStop_kept
    exact k3
  · refine kept_ite ?_ ?_
    · refine kept_ite ?_ ?_
      · extract_lets +onlyGivenNames x4
        clear_value x4
        apply State.toutGo_kept
        exact k3
      · apply State.setTout_kept
        exact k3
    · exact k3

theorem State.toutFire_kept {q p} {a0 a1 a2} (h2 : Kept q p a2) : Kept q p (State.toutFire a0 a1 a2) := by
  unfold State.toutFire
  refine kept_foldl ?_ ?_
  · intro z0 z1 k2
    refine kept_ite ?_ ?_
    · apply State.toutStart_kept
      apply State.setTout_kept
      exact k2
    · exact k2
  · exact h2

theorem State.toutRestep_kept {q p} {a0} (h0 : Kept q p a0) : Kept q p (State.toutRestep a0) := by
  unfold State.toutRestep
  refine kept_foldl ?_ ?_
  · intro z0 z1 k2
    extract_lets +onlyGivenNames x3
    clear_value x3
    refine kept_ite ?_ ?_
    · extract_lets +onlyGivenNames x4
      clear_value x4
      refine kept_ite ?_ ?_
      · refine kept_ite ?_ ?_
        · apply State.completeOpt_kept
          apply State.setTout_kept
          apply State.toutDrop_kept
          exact k2
        · exact k2
      · extract_lets +onlyGivenNames x5
        clear_value x5
        apply State.toutDrop_kept
        apply State.setTout_kept
        exact k2
    · exact k2
  · exact h0

theorem execTimePulse_kept {q p} {a0 a1} (h1 : Kept q p a1) : KeptRes q p (execTimePulse a0 a1) := by
  unfold execTimePulse
  refine keptRes_next ?_
  apply State.runDesc_kept
  · intro z0 k1
    refine kept_ite ?_ ?_
    · apply State.refuse_kept
      exact k1
    · refine kept_ite ?_ ?_
      · apply State.refuse_kept
        exact k1
      · apply State.timePulseAct_kept
        exact k1
  · exact h1

theorem execToutEnable_kept {q p} {a0 a1 a2 a3} (h3 : Kept q p a3) : KeptRes q p (execToutEnable a0 a1 a2 a3) := by
  unfold execToutEnable
  refine keptRes_ite ?_ ?_
  · refine keptRes_next ?_
    apply State.baseWrite_kept
    · intro z0 k1
      apply State.toutCfgWrite_kept
      exact k1
    · exact h3
  · refine keptRes_next ?_
    exact h3

theorem execToutPulse_kept {q p} {a0 a1} (h1 : Kept q p a1) : KeptRes q p (execToutPulse a0 a1) := by
  unfold execToutPulse
  extract_lets +onlyGivenNames x0
  clear_value x0
  refine keptRes_ite ?_ ?_
  · refine keptRes_next ?_
    exact h1
  · refine keptRes_ite ?_ ?_
    · refine keptRes_next ?_
      refine kept_ite ?_ ?_
      · apply State.toutStart_kept
        apply State.setTout_kept
        exact h1
      · exact h1
    · refine keptRes_ite ?_ ?_
      · split
        · refine keptRes_next ?_
          refine kept_ite ?_ ?_
          · apply State.toutStart_kept
            apply State.setTout_kept
            exact h1
          · exact h1
        · refine keptRes_next ?_
          exact h1
      · refine keptRes_next ?_
        exact h1

theorem execToutPulseEnd_kept {q p} {a0 a1} (h1 : Kept q p a1) : KeptRes q p (execToutPulseEnd a0 a1) := by
  unfold execToutPulseEnd
  extract_lets +onlyGivenNames x0
  clear_value x0
  refine keptRes_next ?_
  refine kept_ite ?_ ?_
  · apply State.setTout_kept
    exact h1
  · exact h1

theorem State.recTime_kept {q p} {a0 a1 a2 a3} (h3 : Kept q p a3) : Kept q p (State.recTime a0 a1 a2 a3) := by
  unfold State.recTime
  apply State.recAppend_kept
  exact h3

theorem State.setSync_kept {q p} {a0 a1} (h1 : Kept q p a1) : Kept q p (State.setSync a0 a1) := by
  unfold State.setSync
  apply State.setField_kept
  exact h1

theorem State.slew_kept {q p} {a0 a1} (h1 : Kept q p a1) : Kept q p (State.slew a0 a1) := by
  unfold State.slew
  refine kept_ite ?_ ?_
  · exact h1
  · extract_lets +onlyGivenNames x0
    clear_value x0
    extract_lets +onlyGivenNames x1
    clear_value x1
    extract_lets +onlyGivenNames x2
    clear_value x2
    extract_lets +onlyGivenNames x3
    clear_value x3
    extract_lets +onlyGivenNames x4
    have k5 : Kept q p x4 := by
      unfold x4
      apply State.setReg_kept
      exact h1
    clear_value x4
    refine kept_mk' (kept_comp ?_)
    exact k5

theorem State.markLate_kept {q p} {a0 a1} (h1 : Kept q p a1) : Kept q p (State.markLate a0 a1) := by
  unfold State.markLate
  extract_lets +onlyGivenNames x0
  clear_value x0
  refine kept_mk' (kept_comp ?_)
  exact h1

theorem State.setFine_kept {q p} {a0 a1} (h1 : Kept q p a1) : Kept q p (State.setFine a0 a1) := by
  unfold State.setFine
  refine kept_mk' (kept_comp ?_)
  exact h1

theorem State.stepTime_kept {q p} {a0 a1 a2} (h2 : Kept q p a2) : Kept q p (State.stepTime a0 a1 a2) := by
  unfold State.stepTime
  extract_lets +onlyGivenNames x0
  clear_value x0
  extract_lets +onlyGivenNames x1
  have k2 : Kept q p x1 := by
    unfold x1
    apply State.setFine_kept
    exact h2
  clear_value x1
  extract_lets +onlyGivenNames x3
  clear_value x3
  extract_lets +onlyGivenNames x4
  have k5 : Kept q p x4 := by
    unfold x4
    refine kept_mk' (kept_comp ?_)
    exact k2
  clear_value x4
  extract_lets +onlyGivenNames x6
  have k7 : Kept q p x6 := by
    unfold x6
    apply State.bump_kept
    apply State.orReg_kept
    apply State.clrReg_kept
    exact k5
  clear_value x6
  extract_lets +onlyGivenNames x8
  have k9 : Kept q p x8 := by
    unfold x8
    apply State.event_kept
    exact k7
  clear_value x8
  apply State.markLate_kept
  apply State.toutRestep_kept
  apply State.schedRestep_kept
  apply State.recTime_kept
  exact k9

theorem State.syncEdge_kept {q p} {a0 a1} (h1 : Kept q p a1) : Kept q p (State.syncEdge a0 a1) := by
  unfold State.syncEdge
  extract_lets +onlyGivenNames x0
  clear_value x0
  extract_lets +onlyGivenNames x1
  clear_value x1
  extract_lets +onlyGivenNames x2
  have k3 : Kept q p x2 := by
    unfold x2
    refine kept_mk' (kept_comp ?_)
    exact h1
  clear_value x2
  refine kept_ite ?_ ?_
  · apply State.setSync_kept
    exact k3
  · refine kept_ite ?_ ?_
    · apply State.setSync_kept
      exact k3
    · exact k3

theorem State.acceptEdge_kept {q p} {a0 a1} (h1 : Kept q p a1) : Kept q p (State.acceptEdge a0 a1) := by
  unfold State.acceptEdge
  extract_lets +onlyGivenNames x0
  clear_value x0
  extract_lets +onlyGivenNames x1
  clear_value x1
  extract_lets +onlyGivenNames x2
  have k3 : Kept q p x2 := by
    unfold x2
    apply State.setReg_kept
    apply State.setReg_kept
    apply State.setReg_kept
    exact h1
  clear_value x2
  extract_lets +onlyGivenNames x4
  clear_value x4
  extract_lets +onlyGivenNames x5
  have k6 : Kept q p x5 := by
    unfold x5
    refine kept_mk' (kept_comp ?_)
    exact k3
  clear_value x5
  extract_lets +onlyGivenNames x7
  clear_value x7
  extract_lets +onlyGivenNames x8
  clear_value x8
  extract_lets +onlyGivenNames x9
  have k10 : ∀ y0 y1 y2, Kept q p y2 → Kept q p (x9 y0 y1 y2) := by
    unfold x9
    intro z11 z12 z13 k14
    extract_lets +onlyGivenNames x15
    have k16 : Kept q p x15 := by
      unfold x15
      refine kept_ite ?_ ?_
      · apply State.setSync_kept
        exact k14
      · apply State.syncEdge_kept
        exact k14
    clear_value x15
    refine kept_ite ?_ ?_
    · apply State.event_kept
      exact k16
    · exact k16
  clear_value x9
  extract_lets +onlyGivenNames x17
  clear_value x17
  refine kept_ite ?_ ?_
  · apply k10
    apply State.stepTime_kept
    exact k6
  · extract_lets +onlyGivenNames x18
    have k19 : Kept q p x18 := by
      unfold x18
      refine kept_ite ?_ ?_
      · apply State.clrReg_kept
        exact k6
      · exact k6
    clear_value x18
    refine kept_ite ?_ ?_
    · apply k10
      apply State.stepTime_kept
      exact k19
    · refine kept_ite ?_ ?_
      · apply k10
        apply State.recTime_kept
        apply State.orReg_kept
        exact k19
      · apply k10
        apply State.recTime_kept
        apply State.slew_kept
        exact k19

theorem State.freqWrite_kept {q p} {a0 a1} (h1 : Kept q p a1) : Kept q p (State.freqWrite a0 a1) := by
  unfold State.freqWrite
  apply State.recTime_kept
  apply State.setReg_kept
  exact h1

theorem State.secSetWrite_kept {q p} {a0 a1} (h1 : Kept q p a1) : Kept q p (State.secSetWrite a0 a1) := by
  unfold State.secSetWrite
  extract_lets +onlyGivenNames x0
  have k1 : Kept q p x0 := by
    unfold x0
    apply State.setReg_kept
    exact h1
  clear_value x0
  refine kept_ite ?_ ?_
  · exact k1
  · extract_lets +onlyGivenNames x2
    have k3 : Kept q p x2 := by
      unfold x2
      apply State.orReg_kept
      exact k1
    clear_value x2
    refine kept_ite ?_ ?_
    · exact k3
    · refine kept_ite ?_ ?_
      · apply State.clrReg_kept
        exact k3
      · apply State.stepTime_kept
        exact k3

theorem State.timCtrl_kept {q p} {a0 a1} (h1 : Kept q p a1) : Kept q p (State.timCtrl a0 a1) := by
  unfold State.timCtrl
  extract_lets +onlyGivenNames x0
  have k1 : Kept q p x0 := by
    unfold x0
    apply State.maskWrite_kept
    exact h1
  clear_value x0
  refine kept_ite ?_ ?_
  · apply State.setSync_kept
    exact k1
  · refine kept_ite ?_ ?_
    · exact k1
    · refine kept_mk' (kept_comp ?_)
      exact k1

theorem execPpsEdge_kept {q p} {a0 a1} (h1 : Kept q p a1) : KeptRes q p (execPpsEdge a0 a1) := by
  unfold execPpsEdge
  refine keptRes_ite ?_ ?_
  · refine keptRes_next ?_
    exact h1
  · extract_lets +onlyGivenNames x0
    clear_value x0
    refine keptRes_ite ?_ ?_
    · refine keptRes_next ?_
      apply State.bump_kept
      apply State.orReg_kept
      exact h1
    · extract_lets +onlyGivenNames x1
      clear_value x1
      extract_lets +onlyGivenNames x2
      clear_value x2
      refine keptRes_next ?_
      apply State.acceptEdge_kept
      exact h1

theorem execPpsLost_kept {q p} {a0} (h0 : Kept q p a0) : KeptRes q p (execPpsLost a0) := by
  unfold execPpsLost
  refine keptRes_ite ?_ ?_
  · refine keptRes_next ?_
    exact h0
  · extract_lets +onlyGivenNames x0
    clear_value x0
    extract_lets +onlyGivenNames x1
    clear_value x1
    extract_lets +onlyGivenNames x2
    have k3 : Kept q p x2 := by
      unfold x2
      refine kept_mk' (kept_comp ?_)
      exact h0
    clear_value x2
    extract_lets +onlyGivenNames x4
    have k5 : Kept q p x4 := by
      unfold x4
      apply State.event_kept
      apply State.orReg_kept
      exact k3
    clear_value x4
    extract_lets +onlyGivenNames x6
    have k7 : Kept q p x6 := by
      unfold x6
      refine kept_ite ?_ ?_
      · apply State.setSync_kept
        exact k5
      · exact k5
    clear_value x6
    refine keptRes_next ?_
    apply State.report1_kept
    apply State.recTime_kept
    exact k7

theorem execPpsPhaseEnd_kept {q p} {a0} (h0 : Kept q p a0) : KeptRes q p (execPpsPhaseEnd a0) := by
  unfold execPpsPhaseEnd
  refine keptRes_ite ?_ ?_
  · refine keptRes_next ?_
    exact h0
  · refine keptRes_next ?_
    apply State.recTime_kept
    refine kept_mk' (kept_comp ?_)
    exact h0

theorem execSecondsArm_kept {q p} {a0 a1 a2} (h2 : Kept q p a2) : KeptRes q p (execSecondsArm a0 a1 a2) := by
  unfold execSecondsArm
  refine keptRes_next ?_
  apply State.baseWrite_kept
  · intro z0 k1
    apply State.secSetWrite_kept
    exact k1
  · exact h2

theorem State.recComplete_kept {q p} {a0 a1 a2} (h2 : Kept q p a2) : Kept q p (State.recComplete a0 a1 a2) := by
  unfold State.recComplete
  extract_lets +onlyGivenNames x0
  clear_value x0
  apply State.complete_kept
  exact h2

theorem State.recCtrlBits_kept {q p} {a0 a1} (h1 : Kept q p a1) : Kept q p (State.recCtrlBits a0 a1) := by
  unfold State.recCtrlBits
  apply State.maskWrite_kept
  exact h1

theorem State.recRelease_kept {q p} {a0} (h0 : Kept q p a0) : Kept q p (State.recRelease a0) := by
  unfold State.recRelease
  refine kept_ite ?_ ?_
  · apply State.recRestart_kept
    apply State.setReg_kept
    apply State.clrReg_kept
    exact h0
  · exact h0

theorem State.recCtrlWrite_kept {q p} {a0 a1} (h1 : Kept q p a1) : Kept q p (State.recCtrlWrite a0 a1) := by
  unfold State.recCtrlWrite
  extract_lets +onlyGivenNames x0
  have k1 : Kept q p x0 := by
    unfold x0
    apply State.recCtrlBits_kept
    exact h1
  clear_value x0
  extract_lets +onlyGivenNames x2
  have k3 : Kept q p x2 := by
    unfold x2
    refine kept_ite ?_ ?_
    · apply State.freeze_kept
      exact k1
    · exact k1
  clear_value x2
  refine kept_ite ?_ ?_
  · apply State.recRelease_kept
    exact k3
  · exact k3

theorem State.recPullWrite_kept {q p} {a0 a1} (h1 : Kept q p a1) : Kept q p (State.recPullWrite a0 a1) := by
  unfold State.recPullWrite
  extract_lets +onlyGivenNames x0
  have k1 : Kept q p x0 := by
    unfold x0
    apply State.maskWrite_kept
    exact h1
  clear_value x0
  refine kept_ite ?_ ?_
  · exact k1
  · refine kept_ite ?_ ?_
    · apply State.orReg_kept
      exact k1
    · extract_lets +onlyGivenNames x2
      clear_value x2
      extract_lets +onlyGivenNames x3
      clear_value x3
      extract_lets +onlyGivenNames x4
      clear_value x4
      apply State.setReg_kept
      refine kept_mk' (kept_comp ?_)
      exact k1

theorem State.recSizeSet_kept {q p} {a0 a1} (h1 : Kept q p a1) : Kept q p (State.recSizeSet a0 a1) := by
  unfold State.recSizeSet
  extract_lets +onlyGivenNames x0
  have k1 : Kept q p x0 := State.setReg64_kept h1
  clear_value x0
  extract_lets +onlyGivenNames x1
  have k2 : Kept q p x1 := State.setReg_kept (State.setReg_kept k1)
  clear_value x1
  extract_lets +onlyGivenNames x2
  have k3 : Kept q p x2 := by
    unfold x2
    exact kept_ite (State.orReg_kept k2) k2
  clear_value x2
  have hp : a1.part = p := h1.2.1
  refine ⟨k3.1, k3.2.1, k3.2.2.1, ?_⟩
  rw [hp]
  exact wf_dram_resize k3.2.2.2 _

theorem State.recSizeWrite_kept {q p} {a0 a1} (h1 : Kept q p a1) : Kept q p (State.recSizeWrite a0 a1) := by
  unfold State.recSizeWrite
  extract_lets +onlyGivenNames x0
  clear_value x0
  refine kept_ite ?_ ?_
  · exact h1
  · refine kept_ite ?_ ?_
    · apply State.orReg_kept
      exact h1
    · apply State.recSizeSet_kept
      exact h1

theorem execRecCtrlStatus_kept {q p} {a0 a1} (h1 : Kept q p a1) : KeptRes q p (execRecCtrlStatus a0 a1) := by
  unfold execRecCtrlStatus
  refine keptRes_next ?_
  apply State.runDesc_kept
  · intro z0 k1
    refine kept_ite ?_ ?_
    · apply State.recComplete_kept
      exact k1
    · apply State.refuse_kept
      exact k1
  · exact h1

theorem execRecFreeze_kept {q p} {a0 a1} (h1 : Kept q p a1) : KeptRes q p (execRecFreeze a0 a1) := by
  unfold execRecFreeze
  split
  · refine keptRes_next ?_
    apply State.baseWrite_kept
    · intro z3 k4
      apply State.recCtrlWrite_kept
      exact k4
    · exact h1
  · refine keptRes_next ?_
    apply State.runDesc_kept
    · intro z7 k8
      refine kept_ite ?_ ?_
      · apply State.recComplete_kept
        apply State.freeze_kept
        exact k8
      · apply State.refuse_kept
        exact k8
    · exact h1

theorem execRecModeSet_kept {q p} {a0 a1} (h1 : Kept q p a1) : KeptRes q p (execRecModeSet a0 a1) := by
  unfold execRecModeSet
  refine keptRes_next ?_
  apply State.runDesc_kept
  · intro z0 k1
    refine kept_ite ?_ ?_
    · apply State.refuse_kept
      exact k1
    · apply State.recComplete_kept
      apply State.maskWrite_kept
      exact k1
  · exact h1

theorem execRecPostExpiry_kept {q p} {a0} (h0 : Kept q p a0) : KeptRes q p (execRecPostExpiry a0) := by
  unfold execRecPostExpiry
  split
  · refine keptRes_next ?_
    refine kept_ite ?_ ?_
    · apply State.freeze_kept
      exact h0
    · exact h0
  · refine keptRes_next ?_
    exact h0

theorem execRecPullEnd_kept {q p} {a0} (h0 : Kept q p a0) : KeptRes q p (execRecPullEnd a0) := by
  unfold execRecPullEnd
  split
  · refine keptRes_next ?_
    apply State.setField_kept
    apply State.setReg_kept
    refine kept_mk' (kept_comp ?_)
    exact h0
  · refine keptRes_next ?_
    exact h0

theorem execRecPullStart_kept {q p} {a0 a1 a2} (h2 : Kept q p a2) : KeptRes q p (execRecPullStart a0 a1 a2) := by
  unfold execRecPullStart
  refine keptRes_next ?_
  apply State.baseWrite_kept
  · intro z0 k1
    apply State.recPullWrite_kept
    exact k1
  · exact h2

theorem execRecRelease_kept {q p} {a0 a1} (h1 : Kept q p a1) : KeptRes q p (execRecRelease a0 a1) := by
  unfold execRecRelease
  split
  · refine keptRes_next ?_
    apply State.baseWrite_kept
    · intro z3 k4
      apply State.recCtrlWrite_kept
      exact k4
    · exact h1
  · refine keptRes_next ?_
    apply State.runDesc_kept
    · intro z7 k8
      refine kept_ite ?_ ?_
      · apply State.recComplete_kept
        apply State.recRelease_kept
        exact k8
      · apply State.refuse_kept
        exact k8
    · exact h1

theorem execRecSizeSet_kept {q p} {a0 a1} (h1 : Kept q p a1) : KeptRes q p (execRecSizeSet a0 a1) := by
  unfold execRecSizeSet
  refine keptRes_next ?_
  apply State.runDesc_kept
  · intro z0 k1
    refine kept_ite ?_ ?_
    · apply State.refuse_kept
      exact k1
    · refine kept_ite ?_ ?_
      · apply State.recComplete_kept
        exact k1
      · apply State.recComplete_kept
        apply State.recSizeSet_kept
        exact k1
  · exact h1

theorem execRecTriggersSet_kept {q p} {a0 a1} (h1 : Kept q p a1) : KeptRes q p (execRecTriggersSet a0 a1) := by
  unfold execRecTriggersSet
  refine keptRes_next ?_
  apply State.runDesc_kept
  · intro z0 k1
    refine kept_ite ?_ ?_
    · apply State.refuse_kept
      exact k1
    · apply State.recComplete_kept
      apply State.maskWrite_kept
      exact k1
  · exact h1

theorem State.pmcSettle_kept {q p} {a0 a1} (h1 : Kept q p a1) : Kept q p (State.pmcSettle a0 a1) := by
  unfold State.pmcSettle
  extract_lets +onlyGivenNames x0
  clear_value x0
  extract_lets +onlyGivenNames x1
  clear_value x1
  extract_lets +onlyGivenNames x2
  have k3 : Kept q p x2 := by
    unfold x2
    apply State.setUnit_kept
    exact h1
  clear_value x2
  refine kept_ite ?_ ?_
  · refine kept_foldl ?_ ?_
    · intro z4 z5 k6
      refine kept_ite ?_ ?_
      · apply State.pmcAdd_kept
        exact k6
      · exact k6
    · exact k3
  · refine kept_ite ?_ ?_
    · apply State.bump_kept
      exact k3
    · exact k3

theorem State.pmcCntWrite_kept {q p} {a0 a1 a2 a3} (h3 : Kept q p a3) : Kept q p (State.pmcCntWrite a0 a1 a2 a3) := by
  unfold State.pmcCntWrite
  refine kept_ite ?_ ?_
  · apply State.rwlWrite_kept
    apply State.pmcSettle_kept
    exact h3
  · exact h3

theorem State.pmcCtrl_kept {q p} {a0 a1 a2} (h2 : Kept q p a2) : Kept q p (State.pmcCtrl a0 a1 a2) := by
  unfold State.pmcCtrl
  extract_lets +onlyGivenNames x0
  have k1 : Kept q p x0 := by
    unfold x0
    apply State.maskWrite_kept
    apply State.pmcSettle_kept
    exact h2
  clear_value x0
  refine kept_ite ?_ ?_
  · apply State.resetRegs_kept
    exact k1
  · exact k1

theorem State.pmcEvtWrite_kept {q p} {a0 a1 a2 a3} (h3 : Kept q p a3) : Kept q p (State.pmcEvtWrite a0 a1 a2 a3) := by
  unfold State.pmcEvtWrite
  refine kept_ite ?_ ?_
  · exact h3
  · extract_lets +onlyGivenNames x0
    clear_value x0
    extract_lets +onlyGivenNames x1
    have k2 : Kept q p x1 := by
      unfold x1
      apply State.pmcSettle_kept
      exact h3
    clear_value x1
    refine kept_ite ?_ ?_
    · apply State.setReg_kept
      exact k2
    · apply State.orReg_kept
      apply State.setReg_kept
      exact k2

theorem State.pmcWinCtrl_kept {q p} {a0 a1 a2} (h2 : Kept q p a2) : Kept q p (State.pmcWinCtrl a0 a1 a2) := by
  unfold State.pmcWinCtrl
  extract_lets +onlyGivenNames x0
  clear_value x0
  extract_lets +onlyGivenNames x1
  have k2 : Kept q p x1 := by
    unfold x1
    apply State.rwlWrite_kept
    exact h2
  clear_value x1
  refine kept_ite ?_ ?_
  · apply State.setUnit_kept
    exact k2
  · exact k2

theorem execPmcClrAll_kept {q p} {a0 a1 a2} (h2 : Kept q p a2) : KeptRes q p (execPmcClrAll a0 a1 a2) := by
  unfold execPmcClrAll
  refine keptRes_next ?_
  apply State.pmcCtrl_kept
  exact h2

theorem execPmcCntWrite_kept {q p} {a0 a1 a2 a3} (h3 : Kept q p a3) : KeptRes q p (execPmcCntWrite a0 a1 a2 a3) := by
  unfold execPmcCntWrite
  refine keptRes_next ?_
  apply State.pmcCntWrite_kept
  exact h3

theorem execPmcCounterWrap_kept {q p} {a0 a1 a2} (h2 : Kept q p a2) : KeptRes q p (execPmcCounterWrap a0 a1 a2) := by
  unfold execPmcCounterWrap
  refine keptRes_ite ?_ ?_
  · refine keptRes_next ?_
    apply State.pmcSettle_kept
    exact h2
  · refine keptRes_next ?_
    exact h2

theorem execPmcEvtWrite_kept {q p} {a0 a1 a2 a3} (h3 : Kept q p a3) : KeptRes q p (execPmcEvtWrite a0 a1 a2 a3) := by
  unfold execPmcEvtWrite
  refine keptRes_next ?_
  apply State.pmcEvtWrite_kept
  exact h3

theorem execPmcFreeze_kept {q p} {a0 a1 a2} (h2 : Kept q p a2) : KeptRes q p (execPmcFreeze a0 a1 a2) := by
  unfold execPmcFreeze
  refine keptRes_next ?_
  apply State.pmcCtrl_kept
  exact h2

theorem execPmcUnfreeze_kept {q p} {a0 a1 a2} (h2 : Kept q p a2) : KeptRes q p (execPmcUnfreeze a0 a1 a2) := by
  unfold execPmcUnfreeze
  refine keptRes_next ?_
  apply State.pmcCtrl_kept
  exact h2

theorem execPmcWindowEnd_kept {q p} {a0 a1 a2} (h2 : Kept q p a2) : KeptRes q p (execPmcWindowEnd a0 a1 a2) := by
  unfold execPmcWindowEnd
  refine keptRes_ite ?_ ?_
  · refine keptRes_next ?_
    exact h2
  · extract_lets +onlyGivenNames x0
    clear_value x0
    extract_lets +onlyGivenNames x1
    have k2 : ∀ y0 y1, Kept q p y0 → Kept q p (x1 y0 y1) := by
      unfold x1
      intro z3 z4 k5
      apply State.setReg64_kept
      exact k5
    clear_value x1
    extract_lets +onlyGivenNames x6
    have k7 : Kept q p x6 := by
      unfold x6
      refine kept_foldl ?_ ?_
      · exact k2
      · exact h2
    clear_value x6
    extract_lets +onlyGivenNames x8
    clear_value x8
    extract_lets +onlyGivenNames x9
    have k10 : Kept q p x9 := by
      unfold x9
      apply State.setReg64_kept
      apply State.setReg_kept
      exact k7
    clear_value x9
    refine keptRes_next ?_
    apply State.setUnit_kept
    exact k10

theorem State.alignRequest_kept {q p} {a0} (h0 : Kept q p a0) : Kept q p (State.alignRequest a0) := by
  unfold State.alignRequest
  refine kept_ite ?_ ?_
  · apply State.orReg_kept
    exact h0
  · apply State.orReg_kept
    exact h0

theorem State.diagStart_kept {q p} {a0 a1} (h1 : Kept q p a1) : Kept q p (State.diagStart a0 a1) := by
  unfold State.diagStart
  extract_lets +onlyGivenNames x0
  have k1 : Kept q p x0 := by
    unfold x0
    apply State.maskWrite_kept
    exact h1
  clear_value x0
  extract_lets +onlyGivenNames x2
  clear_value x2
  refine kept_ite ?_ ?_
  · apply State.orReg_kept
    exact k1
  · apply State.orReg_kept
    apply State.setField_kept
    refine kept_mk' (kept_comp ?_)
    exact k1

theorem State.diagStop_kept {q p} {a0} (h0 : Kept q p a0) : Kept q p (State.diagStop a0) := by
  unfold State.diagStop
  refine kept_ite ?_ ?_
  · exact h0
  · apply State.orReg_kept
    apply State.clrReg_kept
    refine kept_mk' (kept_comp ?_)
    exact h0

theorem State.diagCtrl_kept {q p} {a0 a1} (h1 : Kept q p a1) : Kept q p (State.diagCtrl a0 a1) := by
  unfold State.diagCtrl
  extract_lets +onlyGivenNames x0
  have k1 : Kept q p x0 := by
    unfold x0
    refine kept_ite ?_ ?_
    · apply State.diagStop_kept
      exact h1
    · exact h1
  clear_value x0
  refine kept_ite ?_ ?_
  · apply State.diagStart_kept
    exact k1
  · apply State.maskWrite_kept
    exact k1

theorem State.diagPut_kept {q p} {a0 a1 a2} (h2 : Kept q p a2) : Kept q p (State.diagPut a0 a1 a2) := by
  unfold State.diagPut
  extract_lets +onlyGivenNames x0
  clear_value x0
  extract_lets +onlyGivenNames x1
  clear_value x1
  extract_lets +onlyGivenNames x2
  have k3 : Kept q p x2.2 := by
    unfold x2
    apply State.drawNat_kept
    exact h2
  clear_value x2
  extract_lets +onlyGivenNames x4
  clear_value x4
  extract_lets +onlyGivenNames x5
  have k6 : Kept q p x5 := by
    unfold x5
    refine kept_ite ?_ ?_
    · exact k3
    · exact h2
  clear_value x5
  extract_lets +onlyGivenNames x7
  clear_value x7
  extract_lets +onlyGivenNames x8
  have k9 : Kept q p x8 := by
    unfold x8
    apply State.setReg_kept
    exact k6
  clear_value x8
  extract_lets +onlyGivenNames x10
  have k11 : Kept q p x10 := by
    unfold x10
    refine kept_ite ?_ ?_
    · refine kept_ite ?_ ?_
      · apply State.orReg_kept
        exact k9
      · refine kept_ite ?_ ?_
        · apply State.clrReg_kept
          exact k9
        · exact k9
    · exact k9
  clear_value x10
  refine kept_ite ?_ ?_
  · apply State.bump_kept
    exact k11
  · exact k11

theorem State.noteOver_kept {q p} {a0 a1 a2} (h2 : Kept q p a2) : Kept q p (State.noteOver a0 a1 a2) := by
  unfold State.noteOver
  refine kept_ite ?_ ?_
  · apply State.bump_kept
    apply State.orReg_kept
    exact h2
  · exact h2

theorem State.fastOne_kept {q p} {a0 a1 a2} (h1 : Kept q p a1) : Kept q p (State.fastOne a0 a1 a2) := by
  unfold State.fastOne
  extract_lets +onlyGivenNames x0
  clear_value x0
  refine kept_ite ?_ ?_
  · exact h1
  · extract_lets +onlyGivenNames x1
    clear_value x1
    extract_lets +onlyGivenNames x2
    clear_value x2
    extract_lets +onlyGivenNames x3
    clear_value x3
    extract_lets +onlyGivenNames x4
    clear_value x4
    apply State.noteOver_kept
    apply State.setMon_kept
    exact h1

theorem State.fastAll_kept {q p} {a0 a1} (h1 : Kept q p a1) : Kept q p (State.fastAll a0 a1) := by
  unfold State.fastAll
  refine kept_foldl ?_ ?_
  · intro z0 z1 k2
    apply State.fastOne_kept
    exact k2
  · exact h1

theorem State.finePut_kept {q p} {a0 a1 a2 a3 a4 a5} (h5 : Kept q p a5) : Kept q p (State.finePut a0 a1 a2 a3 a4 a5) := by
  unfold State.finePut
  extract_lets +onlyGivenNames x0
  clear_value x0
  extract_lets +onlyGivenNames x1
  clear_value x1
  extract_lets +onlyGivenNames x2
  clear_value x2
  apply State.noteOver_kept
  apply State.setMon_kept
  exact h5

theorem State.fineOne_kept {q p} {a0 a1 a2} (h1 : Kept q p a1) : Kept q p (State.fineOne a0 a1 a2) := by
  unfold State.fineOne
  extract_lets +onlyGivenNames x0
  clear_value x0
  refine kept_ite ?_ ?_
  · exact h1
  · extract_lets +onlyGivenNames x1
    clear_value x1
    extract_lets +onlyGivenNames x2
    clear_value x2
    apply State.finePut_kept
    exact h1

theorem State.setSide_kept {q p} {a0 a1 a2 a3} (h3 : Kept q p a3) : Kept q p (State.setSide a0 a1 a2 a3) := by
  unfold State.setSide
  refine kept_mk' (kept_comp ?_)
  exact h3

theorem State.setLos_kept {q p} {a0 a1 a2 a3 a4 a5 a6 a7} (h7 : Kept q p a7) : Kept q p (State.setLos a0 a1 a2 a3 a4 a5 a6 a7) := by
  unfold State.setLos
  extract_lets +onlyGivenNames x0
  clear_value x0
  extract_lets +onlyGivenNames x1
  have k2 : Kept q p x1 := by
    unfold x1
    apply State.setSide_kept
    apply State.setReg_kept
    exact h7
  clear_value x1
  refine kept_ite ?_ ?_
  · exact k2
  · apply State.event_kept
    exact k2

theorem State.judgeSide_kept {q p} {a0 a1 a2 a3 a4 a5} (h5 : Kept q p a5) : Kept q p (State.judgeSide a0 a1 a2 a3 a4 a5) := by
  unfold State.judgeSide
  extract_lets +onlyGivenNames x0
  clear_value x0
  extract_lets +onlyGivenNames x1
  clear_value x1
  extract_lets +onlyGivenNames x2
  clear_value x2
  extract_lets +onlyGivenNames x3
  clear_value x3
  refine kept_ite ?_ ?_
  · extract_lets +onlyGivenNames x4
    clear_value x4
    refine kept_ite ?_ ?_
    · apply State.setLos_kept
      exact h5
    · apply State.setSide_kept
      exact h5
  · extract_lets +onlyGivenNames x5
    clear_value x5
    extract_lets +onlyGivenNames x6
    have k7 : Kept q p x6 := by
      unfold x6
      apply State.setSide_kept
      exact h5
    clear_value x6
    refine kept_ite ?_ ?_
    · exact k7
    · split
      · refine kept_ite ?_ ?_
        · apply State.setLos_kept
          exact k7
        · refine kept_ite ?_ ?_
          · exact k7
          · apply State.setLos_kept
            exact k7
      · apply State.setLos_kept
        exact k7

theorem State.portSide_kept {q p} {a0 a1 a2} (h1 : Kept q p a1) : Kept q p (State.portSide a0 a1 a2) := by
  unfold State.portSide
  split
  · exact h1
  · extract_lets +onlyGivenNames x5
    clear_value x5
    extract_lets +onlyGivenNames x6
    clear_value x6
    extract_lets +onlyGivenNames x7
    clear_value x7
    extract_lets +onlyGivenNames x8
    have k9 : Kept q p x8 := by
      unfold x8
      apply State.setField_kept
      apply State.setField_kept
      exact h1
    clear_value x8
    refine kept_ite ?_ ?_
    · apply State.judgeSide_kept
      exact k9
    · exact k9

theorem State.portsAll_kept {q p} {a0} (h0 : Kept q p a0) : Kept q p (State.portsAll a0) := by
  unfold State.portsAll
  refine kept_foldl ?_ ?_
  · intro z0 z1 k2
    apply State.portSide_kept
    exact k2
  · refine kept_foldl ?_ ?_
    · intro z3 z4 k5
      apply State.portSide_kept
      exact k5
    · exact h0

theorem State.stampLos_kept {q p} {a0} (h0 : Kept q p a0) : Kept q p (State.stampLos a0) := by
  unfold State.stampLos
  extract_lets +onlyGivenNames x0
  clear_value x0
  refine kept_mk' (kept_comp ?_)
  exact h0

theorem State.takeMonCorr_kept {q p} {a0} (h0 : Kept q p a0) : Kept q p (State.takeMonCorr a0) := by
  unfold State.takeMonCorr
  extract_lets +onlyGivenNames x0
  have k1 : ∀ y0 y1, Kept q p y0 → Kept q p (x0 y0 y1) := by
    unfold x0
    intro z2 z3 k4
    extract_lets +onlyGivenNames x5
    clear_value x5
    refine kept_foldl ?_ ?_
    · intro z6 z7 k8
      extract_lets +onlyGivenNames x9
      clear_value x9
      apply State.setReg_kept
      exact k8
    · exact k4
  clear_value x0
  extract_lets +onlyGivenNames x10
  have k11 : Kept q p x10 := by
    unfold x10
    refine kept_foldl ?_ ?_
    · exact k1
    · exact h0
  clear_value x10
  refine kept_mk' (kept_comp ?_)
  exact k11

theorem State.fineWith_kept {q p} {a0 a1} (h0 : ∀ x0 x1, Kept q p x0 → Kept q p (a0 x0 x1)) (h1 : Kept q p a1) : Kept q p (State.fineWith a0 a1) := by
  unfold State.fineWith
  extract_lets +onlyGivenNames x0
  clear_value x0
  extract_lets +onlyGivenNames x1
  have k2 : Kept q p x1 := by
    unfold x1
    refine kept_mk' (kept_comp ?_)
    exact h1
  clear_value x1
  extract_lets +onlyGivenNames x3
  have k4 : Kept q p x3 := by
    unfold x3
    refine kept_ite ?_ ?_
    · apply State.takeMonCorr_kept
      exact k2
    · exact k2
  clear_value x3
  extract_lets +onlyGivenNames x5
  have k6 : Kept q p x5 := by
    unfold x5
    apply State.setReg_kept
    refine kept_foldl ?_ ?_
    · exact h0
    · exact k4
  clear_value x5
  apply State.stampLos_kept
  apply State.portsAll_kept
  exact k6

theorem State.injInstant_kept {q p} {a0} (h0 : Kept q p a0) : Kept q p (State.injInstant a0) := by
  unfold State.injInstant
  extract_lets +onlyGivenNames x0
  have k1 : Kept q p x0 := by
    unfold x0
    refine kept_foldl ?_ ?_
    · intro z2 z3 k4
      refine kept_ite ?_ ?_
      · apply State.recEvent_kept
        exact k4
      · exact k4
    · exact h0
  clear_value x0
  refine kept_mk' (kept_comp ?_)
  exact k1

theorem State.recFine_kept {q p} {a0} (h0 : Kept q p a0) : Kept q p (State.recFine a0) := by
  unfold State.recFine
  refine kept_ite ?_ ?_
  · exact h0
  · extract_lets +onlyGivenNames x0
    clear_value x0
    apply State.recAppend_kept
    exact h0

theorem State.setRq_kept {q p} {a0 a1 a2} (h2 : Kept q p a2) : Kept q p (State.setRq a0 a1 a2) := by
  unfold State.setRq
  apply State.setField_kept
  refine kept_mk' (kept_comp ?_)
  exact h2

theorem State.rqAsk_kept {q p} {a0 a1} (h1 : Kept q p a1) : Kept q p (State.rqAsk a0 a1) := by
  unfold State.rqAsk
  extract_lets +onlyGivenNames x0
  clear_value x0
  refine kept_ite ?_ ?_
  · apply State.setRq_kept
    exact h1
  · exact h1

theorem State.rqStore_kept {q p} {a0 a1 a2 a3 a4} (h4 : Kept q p a4) : Kept q p (State.rqStore a0 a1 a2 a3 a4) := by
  unfold State.rqStore
  extract_lets +onlyGivenNames x0
  clear_value x0
  refine kept_ite ?_ ?_
  · apply State.bump_kept
    apply State.setRq_kept
    exact h4
  · extract_lets +onlyGivenNames x1
    clear_value x1
    extract_lets +onlyGivenNames x2
    have k3 : Kept q p x2 := by
      unfold x2
      apply State.setRq_kept
      exact h4
    clear_value x2
    refine kept_ite ?_ ?_
    · apply State.orReg_kept
      exact k3
    · exact k3

theorem State.rqInstant_kept {q p} {a0 a1 a2 a3} (h2 : Kept q p a2) : Kept q p (State.rqInstant a0 a1 a2 a3) := by
  unfold State.rqInstant
  refine kept_ite ?_ ?_
  · exact h2
  · extract_lets +onlyGivenNames x0
    clear_value x0
    extract_lets +onlyGivenNames x1
    clear_value x1
    extract_lets +onlyGivenNames x2
    have k3 : Kept q p x2 := by
      unfold x2
      apply State.setRq_kept
      exact h2
    clear_value x2
    refine kept_ite ?_ ?_
    · exact k3
    · apply State.rqAsk_kept
      refine kept_foldl ?_ ?_
      · intro z4 z5 k6
        refine kept_ite ?_ ?_
        · apply State.rqStore_kept
          exact k6
        · exact k6
      · exact k3

theorem State.rqAll_kept {q p} {a0 a1} (h1 : Kept q p a1) : Kept q p (State.rqAll a0 a1) := by
  unfold State.rqAll
  refine kept_ite ?_ ?_
  · extract_lets +onlyGivenNames x0
    clear_value x0
    refine kept_foldl ?_ ?_
    · intro z1 z2 k3
      apply State.rqInstant_kept
      exact k3
    · exact h1
  · exact h1

theorem State.takeCfg_kept {q p} {a0 a1} (h0 : Kept q p a0) : Kept q p (State.takeCfg a0 a1) := by
  unfold State.takeCfg
  extract_lets +onlyGivenNames x0
  clear_value x0
  extract_lets +onlyGivenNames x1
  clear_value x1
  extract_lets +onlyGivenNames x2
  clear_value x2
  extract_lets +onlyGivenNames x3
  clear_value x3
  extract_lets +onlyGivenNames x4
  clear_value x4
  extract_lets +onlyGivenNames x5
  clear_value x5
  extract_lets +onlyGivenNames x6
  clear_value x6
  refine kept_ite ?_ ?_
  · refine kept_ite ?_ ?_
    · exact h0
    · apply State.setMon_kept
      exact h0
  · extract_lets +onlyGivenNames x7
    clear_value x7
    extract_lets +onlyGivenNames x8
    have k9 : Kept q p x8 := by
      unfold x8
      apply State.recEvent_kept
      apply State.setMon_kept
      exact h0
    clear_value x8
    refine kept_ite ?_ ?_
    · apply State.bump_kept
      exact k9
    · exact k9

theorem State.tapsIn_kept {q p} {a0} (h0 : Kept q p a0) : Kept q p (State.tapsIn a0) := by
  unfold State.tapsIn
  refine kept_foldl ?_ ?_
  · intro z0 z1 k2
    apply State.demodCell_kept
    exact k2
  · exact h0

theorem State.fineInstant_kept {q p} {a0 a1} (h1 : Kept q p a1) : Kept q p (State.fineInstant a0 a1) := by
  unfold State.fineInstant
  extract_lets +onlyGivenNames x0
  have k1 : Kept q p x0 := by
    unfold x0
    apply State.fineWith_kept
    · intro z2 z3 k4
      apply State.fineOne_kept
      exact k4
    · exact h1
  clear_value x0
  extract_lets +onlyGivenNames x5
  have k6 : Kept q p x5 := by
    unfold x5
    apply State.tapsIn_kept
    apply State.recFine_kept
    apply State.seqSample_kept
    apply State.rqAll_kept
    exact k1
  clear_value x5
  extract_lets +onlyGivenNames x7
  clear_value x7
  extract_lets +onlyGivenNames x8
  have k9 : Kept q p x8 := by
    unfold x8
    refine kept_mk' (kept_comp ?_)
    exact k6
  clear_value x8
  apply State.injInstant_kept
  apply State.spFine_kept
  refine kept_foldl ?_ ?_
  · intro z10 z11 k12
    apply State.takeCfg_kept
    exact k12
  · exact k9

theorem State.injEnd_kept {q p} {a0 a1} (h1 : Kept q p a1) : Kept q p (State.injEnd a0 a1) := by
  unfold State.injEnd
  extract_lets +onlyGivenNames x0
  clear_value x0
  extract_lets +onlyGivenNames x1
  have k2 : Kept q p x1 := by
    unfold x1
    split
    · refine kept_ite ?_ ?_
      · exact h1
      · apply State.recEvent_kept
        refine kept_mk' (kept_comp ?_)
        exact h1
    · exact h1
  clear_value x1
  apply State.clrReg_kept
  exact k2

theorem State.injPreempt_kept {q p} {a0 a1} (h1 : Kept q p a1) : Kept q p (State.injPreempt a0 a1) := by
  unfold State.injPreempt
  refine kept_ite ?_ ?_
  · apply State.orReg_kept
    apply State.injEnd_kept
    exact h1
  · exact h1

theorem State.injWrite_kept {q p} {a0 a1 a2} (h2 : Kept q p a2) : Kept q p (State.injWrite a0 a1 a2) := by
  unfold State.injWrite
  refine kept_ite ?_ ?_
  · refine kept_ite ?_ ?_
    · apply State.orReg_kept
      exact h2
    · extract_lets +onlyGivenNames x0
      have k1 : Kept q p x0 := by
        unfold x0
        apply State.setReg_kept
        exact h2
      clear_value x0
      refine kept_mk' (kept_comp ?_)
      exact k1
  · apply State.setReg_kept
    apply State.injEnd_kept
    exact h2

theorem State.monCfgWrite_kept {q p} {a0 a1 a2} (h2 : Kept q p a2) : Kept q p (State.monCfgWrite a0 a1 a2) := by
  unfold State.monCfgWrite
  extract_lets +onlyGivenNames x0
  clear_value x0
  extract_lets +onlyGivenNames x1
  clear_value x1
  extract_lets +onlyGivenNames x2
  clear_value x2
  extract_lets +onlyGivenNames x3
  clear_value x3
  extract_lets +onlyGivenNames x4
  clear_value x4
  extract_lets +onlyGivenNames x5
  clear_value x5
  extract_lets +onlyGivenNames x6
  have k7 : Kept q p x6 := by
    unfold x6
    apply State.setMon_kept
    exact h2
  clear_value x6
  refine kept_ite ?_ ?_
  · apply State.orReg_kept
    exact k7
  · exact k7

theorem State.portWrite_kept {q p} {a0 a1 a2 a3 a4} (h4 : Kept q p a4) : Kept q p (State.portWrite a0 a1 a2 a3 a4) := by
  unfold State.portWrite
  extract_lets +onlyGivenNames x0
  have k1 : Kept q p x0 := by
    unfold x0
    refine kept_ite ?_ ?_
    · apply State.setReg_kept
      exact h4
    · apply State.maskWrite_kept
      exact h4
  clear_value x0
  apply State.setSide_kept
  exact k1

theorem State.rqDisable_kept {q p} {a0 a1} (h1 : Kept q p a1) : Kept q p (State.rqDisable a0 a1) := by
  unfold State.rqDisable
  refine kept_ite ?_ ?_
  · apply State.clrReg_kept
    apply State.discardRq_kept
    exact h1
  · exact h1

theorem State.rqEnable_kept {q p} {a0 a1} (h1 : Kept q p a1) : Kept q p (State.rqEnable a0 a1) := by
  unfold State.rqEnable
  refine kept_ite ?_ ?_
  · exact h1
  · refine kept_ite ?_ ?_
    · apply State.orReg_kept
      exact h1
    · apply State.setRq_kept
      apply State.setReg_kept
      apply State.orReg_kept
      exact h1

theorem State.rqCtrl_kept {q p} {a0 a1 a2} (h2 : Kept q p a2) : Kept q p (State.rqCtrl a0 a1 a2) := by
  unfold State.rqCtrl
  extract_lets +onlyGivenNames x0
  clear_value x0
  extract_lets +onlyGivenNames x1
  have k2 : Kept q p x1 := by
    unfold x1
    apply State.rwlWrite_kept
    exact h2
  clear_value x1
  refine kept_ite ?_ ?_
  · apply State.rqEnable_kept
    exact k2
  · apply State.rqDisable_kept
    exact k2

theorem execFineLaneInstant_kept {q p} {a0 a1} (h1 : Kept q p a1) : KeptRes q p (execFineLaneInstant a0 a1) := by
  unfold execFineLaneInstant
  refine keptRes_next ?_
  refine kept_ite ?_ ?_
  · apply State.fineInstant_kept
    exact h1
  · exact h1

theorem execGridAlign_kept {q p} {a0} (h0 : Kept q p a0) : KeptRes q p (execGridAlign a0) := by
  unfold execGridAlign
  extract_lets +onlyGivenNames x0
  clear_value x0
  refine keptRes_ite ?_ ?_
  · refine keptRes_next ?_
    exact h0
  · extract_lets +onlyGivenNames x1
    clear_value x1
    extract_lets +onlyGivenNames x2
    clear_value x2
    extract_lets +onlyGivenNames x3
    have k4 : Kept q p x3 := by
      unfold x3
      refine kept_mk' (kept_comp ?_)
      exact h0
    clear_value x3
    refine keptRes_next ?_
    apply State.setField_kept
    apply State.orReg_kept
    apply State.clrReg_kept
    exact k4

theorem execMonCfgWrite_kept {q p} {a0 a1 a2 a3} (h3 : Kept q p a3) : KeptRes q p (execMonCfgWrite a0 a1 a2 a3) := by
  unfold execMonCfgWrite
  refine keptRes_ite ?_ ?_
  · refine keptRes_next ?_
    apply State.baseWrite_kept
    · intro z0 k1
      apply State.monCfgWrite_kept
      exact k1
    · exact h3
  · refine keptRes_next ?_
    exact h3

theorem execMonCountClear_kept {q p} {a0 a1 a2 a3} (h3 : Kept q p a3) : KeptRes q p (execMonCountClear a0 a1 a2 a3) := by
  unfold execMonCountClear
  refine keptRes_ite ?_ ?_
  · refine keptRes_next ?_
    apply State.baseWrite_kept
    · intro z0 k1
      apply State.setReg_kept
      exact k1
    · exact h3
  · refine keptRes_next ?_
    exact h3

theorem execMonDiagDone_kept {q p} {a0 a1} (h1 : Kept q p a1) : KeptRes q p (execMonDiagDone a0 a1) := by
  unfold execMonDiagDone
  split
  · refine keptRes_next ?_
    exact h1
  · extract_lets +onlyGivenNames x5
    have k6 : ∀ y0 y1, Kept q p y0 → Kept q p (x5 y0 y1) := by
      unfold x5
      intro z7 z8 k9
      refine kept_ite ?_ ?_
      · split
        · apply State.diagPut_kept
          exact k9
        · exact k9
      · apply State.setReg_kept
        exact k9
    clear_value x5
    extract_lets +onlyGivenNames x21
    have k22 : Kept q p x21 := by
      unfold x21
      refine kept_foldl ?_ ?_
      · exact k6
      · exact h1
    clear_value x21
    refine keptRes_next ?_
    apply State.orReg_kept
    apply State.clrReg_kept
    refine kept_mk' (kept_comp ?_)
    exact k22

theorem execMonDiagStart_kept {q p} {a0 a1 a2} (h2 : Kept q p a2) : KeptRes q p (execMonDiagStart a0 a1 a2) := by
  unfold execMonDiagStart
  refine keptRes_next ?_
  apply State.baseWrite_kept
  · intro z0 k1
    apply State.diagCtrl_kept
    exact k1
  · exact h2

theorem execMonDiagStop_kept {q p} {a0 a1 a2} (h2 : Kept q p a2) : KeptRes q p (execMonDiagStop a0 a1 a2) := by
  unfold execMonDiagStop
  refine keptRes_next ?_
  apply State.baseWrite_kept
  · intro z0 k1
    apply State.diagCtrl_kept
    exact k1
  · exact h2

theorem execMonGridAlignRequest_kept {q p} {a0 a1 a2} (h2 : Kept q p a2) : KeptRes q p (execMonGridAlignRequest a0 a1 a2) := by
  unfold execMonGridAlignRequest
  refine keptRes_next ?_
  apply State.baseWrite_kept
  · intro z0 k1
    apply State.alignRequest_kept
    exact k1
  · exact h2

theorem execMonInjectStart_kept {q p} {a0 a1 a2 a3} (h3 : Kept q p a3) : KeptRes q p (execMonInjectStart a0 a1 a2 a3) := by
  unfold execMonInjectStart
  refine keptRes_ite ?_ ?_
  · refine keptRes_next ?_
    apply State.baseWrite_kept
    · intro z0 k1
      apply State.injWrite_kept
      exact k1
    · exact h3
  · refine keptRes_next ?_
    exact h3

theorem execMonInjectStop_kept {q p} {a0 a1 a2 a3} (h3 : Kept q p a3) : KeptRes q p (execMonInjectStop a0 a1 a2 a3) := by
  unfold execMonInjectStop
  refine keptRes_ite ?_ ?_
  · refine keptRes_next ?_
    apply State.baseWrite_kept
    · intro z0 k1
      apply State.injWrite_kept
      exact k1
    · exact h3
  · refine keptRes_next ?_
    exact h3

theorem execMonPortCfgWrite_kept {q p} {a0 a1 a2 a3 a4 a5} (h5 : Kept q p a5) : KeptRes q p (execMonPortCfgWrite a0 a1 a2 a3 a4 a5) := by
  unfold execMonPortCfgWrite
  refine keptRes_ite ?_ ?_
  · refine keptRes_next ?_
    apply State.baseWrite_kept
    · intro z0 k1
      apply State.portWrite_kept
      exact k1
    · exact h5
  · refine keptRes_next ?_
    exact h5

theorem execMonSpareReadinessDone_kept {q p} {a0 a1 a2 a3} (h3 : Kept q p a3) : KeptRes q p (execMonSpareReadinessDone a0 a1 a2 a3) := by
  unfold execMonSpareReadinessDone
  extract_lets +onlyGivenNames x0
  clear_value x0
  refine keptRes_ite ?_ ?_
  · extract_lets +onlyGivenNames x1
    have k2 : Kept q p x1 := by
      unfold x1
      apply State.spTracked_kept
      exact h3
    clear_value x1
    refine keptRes_next ?_
    refine kept_ite ?_ ?_
    · refine kept_mk' (kept_comp ?_)
      exact k2
    · exact k2
  · refine keptRes_next ?_
    exact h3

theorem execMonSpareRelease_kept {q p} {a0 a1 a2 a3 a4} (h4 : Kept q p a4) : KeptRes q p (execMonSpareRelease a0 a1 a2 a3 a4) := by
  unfold execMonSpareRelease
  refine keptRes_ite ?_ ?_
  · refine keptRes_next ?_
    apply State.baseWrite_kept
    · intro z0 k1
      apply State.spRelease_kept
      exact k1
    · exact h4
  · refine keptRes_next ?_
    exact h4

theorem execMonSpareRequest_kept {q p} {a0 a1 a2 a3 a4} (h4 : Kept q p a4) : KeptRes q p (execMonSpareRequest a0 a1 a2 a3 a4) := by
  unfold execMonSpareRequest
  refine keptRes_ite ?_ ?_
  · refine keptRes_next ?_
    apply State.baseWrite_kept
    · intro z0 k1
      apply State.spRequest_kept
      exact k1
    · exact h4
  · refine keptRes_next ?_
    exact h4

theorem execResultQueueAgeExpiry_kept {q p} {a0 a1} (h1 : Kept q p a1) : KeptRes q p (execResultQueueAgeExpiry a0 a1) := by
  unfold execResultQueueAgeExpiry
  extract_lets +onlyGivenNames x0
  clear_value x0
  extract_lets +onlyGivenNames x1
  clear_value x1
  split
  · refine keptRes_next ?_
    refine kept_ite ?_ ?_
    · apply State.setRq_kept
      exact h1
    · exact h1
  · refine keptRes_next ?_
    exact h1

theorem execResultQueueDisable_kept {q p} {a0 a1 a2 a3} (h3 : Kept q p a3) : KeptRes q p (execResultQueueDisable a0 a1 a2 a3) := by
  unfold execResultQueueDisable
  refine keptRes_ite ?_ ?_
  · refine keptRes_next ?_
    apply State.baseWrite_kept
    · intro z0 k1
      apply State.rqCtrl_kept
      exact k1
    · exact h3
  · refine keptRes_next ?_
    exact h3

theorem execResultQueueEnable_kept {q p} {a0 a1 a2 a3} (h3 : Kept q p a3) : KeptRes q p (execResultQueueEnable a0 a1 a2 a3) := by
  unfold execResultQueueEnable
  refine keptRes_ite ?_ ?_
  · refine keptRes_next ?_
    apply State.baseWrite_kept
    · intro z0 k1
      apply State.rqCtrl_kept
      exact k1
    · exact h3
  · refine keptRes_next ?_
    exact h3

theorem State.calTick_kept {q p} {a0} (h0 : Kept q p a0) : Kept q p (State.calTick a0) := by
  unfold State.calTick
  extract_lets +onlyGivenNames x0
  clear_value x0
  refine kept_ite ?_ ?_
  · apply State.calBoundary_kept
    refine kept_mk' (kept_comp ?_)
    exact h0
  · refine kept_ite ?_ ?_
    · extract_lets +onlyGivenNames x1
      clear_value x1
      extract_lets +onlyGivenNames x2
      have k3 : Kept q p x2 := by
        unfold x2
        refine kept_mk' (kept_comp ?_)
        exact h0
      clear_value x2
      refine kept_ite ?_ ?_
      · apply State.forceUpdates_kept
        exact k3
      · exact k3
    · exact h0

theorem State.capRecord_kept {q p} {a0 a1 a2 a3} (h3 : Kept q p a3) : Kept q p (State.capRecord a0 a1 a2 a3) := by
  unfold State.capRecord
  extract_lets +onlyGivenNames x0
  clear_value x0
  extract_lets +onlyGivenNames x1
  clear_value x1
  extract_lets +onlyGivenNames x2
  clear_value x2
  apply State.recAppend_kept
  exact h3

theorem State.capTick_kept {q p} {a0} (h0 : Kept q p a0) : Kept q p (State.capTick a0) := by
  unfold State.capTick
  refine kept_ite ?_ ?_
  · refine kept_mk' (kept_comp ?_)
    exact h0
  · extract_lets +onlyGivenNames x0
    clear_value x0
    extract_lets +onlyGivenNames x1
    clear_value x1
    extract_lets +onlyGivenNames x2
    have k3 : Kept q p x2 := by
      unfold x2
      refine kept_mk' (kept_comp ?_)
      exact h0
    clear_value x2
    split
    · refine kept_ite ?_ ?_
      · apply State.capRecord_kept
        refine kept_mk' (kept_comp ?_)
        exact k3
      · exact k3
    · exact k3

theorem State.endGap_kept {q p} {a0} (h0 : Kept q p a0) : Kept q p (State.endGap a0) := by
  unfold State.endGap
  apply State.recEvent_kept
  apply State.clrReg_kept
  refine kept_mk' (kept_comp ?_)
  exact h0

theorem State.endSafe_kept {q p} {a0} (h0 : Kept q p a0) : Kept q p (State.endSafe a0) := by
  unfold State.endSafe
  extract_lets +onlyGivenNames x0
  clear_value x0
  extract_lets +onlyGivenNames x1
  clear_value x1
  extract_lets +onlyGivenNames x2
  clear_value x2
  extract_lets +onlyGivenNames x3
  have k4 : Kept q p x3 := by
    unfold x3
    refine kept_mk' (kept_comp ?_)
    exact h0
  clear_value x3
  apply State.recEvent_kept
  apply State.logPut_kept
  apply State.safeEvent_kept
  apply State.setReg_kept
  exact k4

theorem State.noteCompliance_kept {q p} {a0 a1} (h1 : Kept q p a1) : Kept q p (State.noteCompliance a0 a1).1 := by
  unfold State.noteCompliance
  extract_lets +onlyGivenNames x1
  have k2 : Kept q p x1 := by
    unfold x1
    refine kept_foldl ?_ ?_
    · intro z3 z4 k5
      apply State.orReg_kept
      apply State.orReg_kept
      exact k5
    · exact h1
  clear_value x1
  exact k2

theorem State.queueWrite_kept {q p} {a0 a1 a2} (h2 : Kept q p a2) : Kept q p (State.queueWrite a0 a1 a2) := by
  unfold State.queueWrite
  refine kept_ite ?_ ?_
  · apply State.setChan_kept
    exact h2
  · refine kept_ite ?_ ?_
    · apply State.enqueue_kept
      exact h2
    · apply State.orReg_kept
      exact h2

theorem State.unhold_kept {q p} {a0} (h0 : Kept q p a0) : Kept q p (State.unhold a0) := by
  unfold State.unhold
  extract_lets +onlyGivenNames x0
  clear_value x0
  refine kept_mk' (kept_comp ?_)
  exact h0

theorem State.releases_kept {q p} {a0} (h0 : Kept q p a0) : Kept q p (State.releases a0) := by
  unfold State.releases
  refine kept_ite ?_ ?_
  · exact h0
  · extract_lets +onlyGivenNames x0
    clear_value x0
    extract_lets +onlyGivenNames x1
    clear_value x1
    extract_lets +onlyGivenNames x2
    have k3 : Kept q p x2 := by
      unfold x2
      refine kept_ite ?_ ?_
      · apply State.endSafe_kept
        exact h0
      · refine kept_mk' (kept_comp ?_)
        exact h0
    clear_value x2
    extract_lets +onlyGivenNames x4
    clear_value x4
    extract_lets +onlyGivenNames x5
    have k6 : Kept q p x5 := by
      unfold x5
      refine kept_ite ?_ ?_
      · apply State.endGap_kept
        exact k3
      · refine kept_mk' (kept_comp ?_)
        exact k3
    clear_value x5
    refine kept_ite ?_ ?_
    · exact k6
    · refine kept_ite ?_ ?_
      · apply State.unhold_kept
        apply State.presetHeld_kept
        exact k6
      · apply State.unhold_kept
        exact k6

theorem State.slewWrite_kept {q p} {a0 a1 a2} (h2 : Kept q p a2) : Kept q p (State.slewWrite a0 a1 a2) := by
  unfold State.slewWrite
  extract_lets +onlyGivenNames x0
  clear_value x0
  refine kept_ite ?_ ?_
  · exact h2
  · apply State.maskWrite_kept
    apply State.setChan_kept
    exact h2

theorem State.takeShape_kept {q p} {a0} (h0 : Kept q p a0) : Kept q p (State.takeShape a0) := by
  unfold State.takeShape
  extract_lets +onlyGivenNames x0
  clear_value x0
  refine kept_mk' (kept_comp ?_)
  exact h0

theorem State.tctrlWrite_kept {q p} {a0 a1 a2} (h2 : Kept q p a2) : Kept q p (State.tctrlWrite a0 a1 a2) := by
  unfold State.tctrlWrite
  extract_lets +onlyGivenNames x0
  have k1 : Kept q p x0 := by
    unfold x0
    apply State.rwlWrite_kept
    exact h2
  clear_value x0
  refine kept_ite ?_ ?_
  · apply State.setReg_kept
    exact k1
  · exact k1

theorem State.tickOn_kept {q p} {a0} (h0 : Kept q p a0) : Kept q p (State.tickOn a0) := by
  unfold State.tickOn
  extract_lets +onlyGivenNames x0
  clear_value x0
  extract_lets +onlyGivenNames x1
  have k2 : Kept q p x1 := by
    unfold x1
    refine kept_ite ?_ ?_
    · apply State.advance_kept
      exact h0
    · exact h0
  clear_value x1
  refine kept_mk' (kept_comp ?_)
  exact k2

theorem State.trackTick_kept {q p} {a0} (h0 : Kept q p a0) : Kept q p (State.trackTick a0) := by
  unfold State.trackTick
  refine kept_ite ?_ ?_
  · exact h0
  · extract_lets +onlyGivenNames x0
    clear_value x0
    extract_lets +onlyGivenNames x1
    clear_value x1
    extract_lets +onlyGivenNames x2
    have k3 : Kept q p x2 := by
      unfold x2
      refine kept_mk' (kept_comp ?_)
      exact h0
    clear_value x2
    refine kept_foldl ?_ ?_
    · intro z4 z5 k6
      apply State.spCopy_kept
      exact k6
    · exact k3

theorem State.tick_kept {q p} {a0 a1 a2 a3} (h3 : Kept q p a3) : Kept q p (State.tick a0 a1 a2 a3) := by
  unfold State.tick
  extract_lets +onlyGivenNames x0
  have k1 : Kept q p x0 := by
    unfold x0
    apply State.takeShape_kept
    apply State.trackTick_kept
    apply State.calTick_kept
    apply State.releases_kept
    apply State.tickOn_kept
    exact h3
  clear_value x0
  extract_lets +onlyGivenNames x2
  clear_value x2
  extract_lets +onlyGivenNames x3
  have k4 : Kept q p x3 := by
    unfold x3
    refine kept_ite ?_ ?_
    · apply State.evalWhere_kept
      exact k1
    · exact k1
  clear_value x3
  extract_lets +onlyGivenNames x5
  have k6 : Kept q p x5.1 := by
    unfold x5
    apply State.noteCompliance_kept
    exact k4
  clear_value x5
  extract_lets +onlyGivenNames x7
  have k8 : Kept q p x7 := by
    unfold x7
    apply State.capTick_kept
    apply State.seqTick_kept
    apply State.seqSample_kept
    apply State.rqAll_kept
    apply State.fastAll_kept
    exact k6
  clear_value x7
  extract_lets +onlyGivenNames x9
  clear_value x9
  refine kept_ite ?_ ?_
  · exact k8
  · apply State.report_kept
    exact k8

theorem execDrvCountClear_kept {q p} {a0 a1 a2 a3} (h3 : Kept q p a3) : KeptRes q p (execDrvCountClear a0 a1 a2 a3) := by
  unfold execDrvCountClear
  refine keptRes_ite ?_ ?_
  · refine keptRes_next ?_
    apply State.baseWrite_kept
    · intro z0 k1
      apply State.tctrlWrite_kept
      exact k1
    · exact h3
  · refine keptRes_next ?_
    exact h3

theorem execDrvQueueFlush_kept {q p} {a0 a1 a2 a3} (h3 : Kept q p a3) : KeptRes q p (execDrvQueueFlush a0 a1 a2 a3) := by
  unfold execDrvQueueFlush
  refine keptRes_ite ?_ ?_
  · refine keptRes_next ?_
    apply State.baseWrite_kept
    · intro z0 k1
      apply State.queueWrite_kept
      exact k1
    · exact h3
  · refine keptRes_next ?_
    exact h3

theorem execDrvQueueWrite_kept {q p} {a0 a1 a2 a3} (h3 : Kept q p a3) : KeptRes q p (execDrvQueueWrite a0 a1 a2 a3) := by
  unfold execDrvQueueWrite
  refine keptRes_ite ?_ ?_
  · refine keptRes_next ?_
    apply State.baseWrite_kept
    · intro z0 k1
      apply State.queueWrite_kept
      exact k1
    · exact h3
  · refine keptRes_next ?_
    exact h3

theorem execDrvSlewWrite_kept {q p} {a0 a1 a2 a3} (h3 : Kept q p a3) : KeptRes q p (execDrvSlewWrite a0 a1 a2 a3) := by
  unfold execDrvSlewWrite
  refine keptRes_ite ?_ ?_
  · refine keptRes_next ?_
    apply State.baseWrite_kept
    · intro z0 k1
      apply State.slewWrite_kept
      exact k1
    · exact h3
  · refine keptRes_next ?_
    exact h3

theorem execDrvSpareRelease_kept {q p} {a0 a1 a2 a3 a4} (h4 : Kept q p a4) : KeptRes q p (execDrvSpareRelease a0 a1 a2 a3 a4) := by
  unfold execDrvSpareRelease
  refine keptRes_ite ?_ ?_
  · refine keptRes_next ?_
    apply State.baseWrite_kept
    · intro z0 k1
      apply State.spRelease_kept
      exact k1
    · exact h4
  · refine keptRes_next ?_
    exact h4

theorem execDrvSpareRequest_kept {q p} {a0 a1 a2 a3 a4} (h4 : Kept q p a4) : KeptRes q p (execDrvSpareRequest a0 a1 a2 a3 a4) := by
  unfold execDrvSpareRequest
  refine keptRes_ite ?_ ?_
  · refine keptRes_next ?_
    apply State.baseWrite_kept
    · intro z0 k1
      apply State.spRequest_kept
      exact k1
    · exact h4
  · refine keptRes_next ?_
    exact h4

theorem execDrvSpareTrackingDone_kept {q p} {a0 a1 a2 a3} (h3 : Kept q p a3) : KeptRes q p (execDrvSpareTrackingDone a0 a1 a2 a3) := by
  unfold execDrvSpareTrackingDone
  extract_lets +onlyGivenNames x0
  clear_value x0
  split
  · refine keptRes_next ?_
    split
    · refine kept_ite ?_ ?_
      · apply State.spTracked_kept
        exact h3
      · exact h3
    · exact h3
  · refine keptRes_next ?_
    exact h3

theorem execPreEmphasisEnd_kept {q p} {a0 a1} (h1 : Kept q p a1) : KeptRes q p (execPreEmphasisEnd a0 a1) := by
  unfold execPreEmphasisEnd
  extract_lets +onlyGivenNames x0
  clear_value x0
  split
  · refine keptRes_next ?_
    refine kept_ite ?_ ?_
    · apply State.setChan_kept
      exact h1
    · exact h1
  · refine keptRes_next ?_
    exact h1

theorem State.applyOutputs_kept {q p} {a0} (h0 : Kept q p a0) : Kept q p (State.applyOutputs a0) := by
  unfold State.applyOutputs
  extract_lets +onlyGivenNames x0
  clear_value x0
  extract_lets +onlyGivenNames x1
  clear_value x1
  extract_lets +onlyGivenNames x2
  have k3 : Kept q p x2 := by
    unfold x2
    refine kept_mk' (kept_comp ?_)
    exact h0
  clear_value x2
  refine kept_ite ?_ ?_
  · exact k3
  · refine kept_foldl ?_ ?_
    · intro z4 z5 k6
      split
      · apply State.enqueue_kept
        exact k6
      · exact k6
    · exact k3

theorem State.countLull_kept {q p} {a0 a1} (h1 : Kept q p a1) : Kept q p (State.countLull a0 a1) := by
  unfold State.countLull
  split
  · refine kept_mk' (kept_comp ?_)
    exact h1
  · exact h1

theorem State.autoCell_kept {q p} {a0 a1} (h0 : Kept q p a0) : Kept q p (State.autoCell a0 a1) := by
  unfold State.autoCell
  extract_lets +onlyGivenNames x0
  clear_value x0
  extract_lets +onlyGivenNames x1
  clear_value x1
  split
  · extract_lets +onlyGivenNames x8
    clear_value x8
    extract_lets +onlyGivenNames x9
    clear_value x9
    extract_lets +onlyGivenNames x10
    clear_value x10
    extract_lets +onlyGivenNames x11
    clear_value x11
    extract_lets +onlyGivenNames x12
    clear_value x12
    extract_lets +onlyGivenNames x13
    clear_value x13
    extract_lets +onlyGivenNames x14
    clear_value x14
    extract_lets +onlyGivenNames x15
    clear_value x15
    extract_lets +onlyGivenNames x16
    have k17 : Kept q p x16 := by
      unfold x16
      apply State.setLoopCell_kept
      apply State.countLull_kept
      exact h0
    clear_value x16
    refine kept_ite ?_ ?_
    · exact k17
    · refine kept_mk' (kept_comp ?_)
      exact k17
  · apply State.setLoopCell_kept
    exact h0

theorem State.cellCfgWrite_kept {q p} {a0 a1 a2 a3} (h3 : Kept q p a3) : Kept q p (State.cellCfgWrite a0 a1 a2 a3) := by
  unfold State.cellCfgWrite
  refine kept_ite ?_ ?_
  · apply State.dropWrite_kept
    exact h3
  · extract_lets +onlyGivenNames x0
    clear_value x0
    refine kept_ite ?_ ?_
    · exact h3
    · extract_lets +onlyGivenNames x1
      clear_value x1
      extract_lets +onlyGivenNames x2
      clear_value x2
      extract_lets +onlyGivenNames x3
      clear_value x3
      apply State.setLoopCell_kept
      apply State.recWrite_kept
      exact h3

theorem State.ditherClasses_kept {q p} {a0 a1} (h0 : Kept q p a0) (h1 : Kept q p a1) : Kept q p (State.ditherClasses a0 a1) := by
  unfold State.ditherClasses
  refine kept_foldl ?_ ?_
  · intro z0 z1 k2
    refine kept_ite ?_ ?_
    · exact k2
    · apply State.setDither_kept
      exact k2
  · exact h1

theorem State.modeDone_kept {q p} {a0 a1} (h0 : Kept q p a0) : Kept q p (State.modeDone a0 a1) := by
  unfold State.modeDone
  extract_lets +onlyGivenNames x0
  clear_value x0
  apply State.complete_kept
  exact h0

theorem State.squallEnter_kept {q p} {a0 a1} (h0 : Kept q p a0) : Kept q p (State.squallEnter a0 a1) := by
  unfold State.squallEnter
  extract_lets +onlyGivenNames x0
  clear_value x0
  apply State.setDither_kept
  apply State.setLoopCell_kept
  exact h0

theorem State.squallStartRun_kept {q p} {a0} (h0 : Kept q p a0) : Kept q p (State.squallStartRun a0) := by
  unfold State.squallStartRun
  split
  · refine kept_ite ?_ ?_
    · exact h0
    · extract_lets +onlyGivenNames x3
      clear_value x3
      extract_lets +onlyGivenNames x4
      clear_value x4
      extract_lets +onlyGivenNames x5
      have k6 : Kept q p x5 := by
        unfold x5
        refine kept_mk' (kept_comp ?_)
        exact h0
      clear_value x5
      refine kept_foldl ?_ ?_
      · intro z7 z8 k9
        apply State.squallEnter_kept
        exact k9
      · exact k6
  · exact h0

theorem State.squallMark_kept {q p} {a0 a1 a2} (h2 : Kept q p a2) : Kept q p (State.squallMark a0 a1 a2) := by
  unfold State.squallMark
  split
  · exact h2
  · refine kept_mk' (kept_comp ?_)
    exact h2

theorem State.takeMode_kept {q p} {a0 a1 a2} (h2 : Kept q p a2) : Kept q p (State.takeMode a0 a1 a2) := by
  unfold State.takeMode
  extract_lets +onlyGivenNames x0
  clear_value x0
  refine kept_ite ?_ ?_
  · exact h2
  · extract_lets +onlyGivenNames x1
    have k2 : Kept q p x1 := by
      unfold x1
      refine kept_ite ?_ ?_
      · apply State.squallMark_kept
        exact h2
      · exact h2
    clear_value x1
    extract_lets +onlyGivenNames x3
    clear_value x3
    extract_lets +onlyGivenNames x4
    have k5 : Kept q p x4 := by
      unfold x4
      apply State.setLoopCell_kept
      exact k2
    clear_value x4
    extract_lets +onlyGivenNames x6
    have k7 : Kept q p x6 := by
      unfold x6
      refine kept_ite ?_ ?_
      · apply State.presetCell_kept
        exact k5
      · exact k5
    clear_value x6
    apply State.setDither_kept
    exact k7

theorem State.takeCell_kept {q p} {a0 a1} (h0 : Kept q p a0) : Kept q p (State.takeCell a0 a1) := by
  unfold State.takeCell
  extract_lets +onlyGivenNames x0
  clear_value x0
  refine kept_ite ?_ ?_
  · exact h0
  · extract_lets +onlyGivenNames x1
    clear_value x1
    extract_lets +onlyGivenNames x2
    clear_value x2
    extract_lets +onlyGivenNames x3
    have k4 : Kept q p x3 := by
      unfold x3
      refine kept_ite ?_ ?_
      · exact h0
      · apply State.setLoopCell_kept
        exact h0
    clear_value x3
    extract_lets +onlyGivenNames x5
    have k6 : Kept q p x5 := by
      unfold x5
      refine kept_ite ?_ ?_
      · apply State.presetCell_kept
        exact k4
      · exact k4
    clear_value x5
    split
    · apply State.takeMode_kept
      exact k6
    · exact k6

theorem State.takeClasses_kept {q p} {a0} (h0 : Kept q p a0) : Kept q p (State.takeClasses a0) := by
  unfold State.takeClasses
  refine kept_foldl ?_ ?_
  · intro z0 z1 k2
    refine kept_foldl ?_ ?_
    · intro z3 z4 k5
      extract_lets +onlyGivenNames x6
      clear_value x6
      refine kept_ite ?_ ?_
      · exact k5
      · apply State.recEvent_kept
        refine kept_mk' (kept_comp ?_)
        exact k5
    · exact k2
  · exact h0

theorem State.takeHolds_kept {q p} {a0} (h0 : Kept q p a0) : Kept q p (State.takeHolds a0) := by
  unfold State.takeHolds
  extract_lets +onlyGivenNames x0
  clear_value x0
  refine kept_ite ?_ ?_
  · exact h0
  · apply State.recEvent_kept
    apply State.setReg_kept
    exact h0

theorem State.writeSet_kept {q p} {a0 a1} (h1 : Kept q p a1) : Kept q p (State.writeSet a0 a1) := by
  unfold State.writeSet
  refine kept_foldl ?_ ?_
  · intro z0 z1 k2
    apply State.setReg_kept
    exact k2
  · exact h1

theorem State.wrapStep_kept {q p} {a0 a1} (h0 : Kept q p a0) : Kept q p (State.wrapStep a0 a1) := by
  unfold State.wrapStep
  refine kept_ite ?_ ?_
  · refine kept_ite ?_ ?_
    · extract_lets +onlyGivenNames x0
      have k1 : Kept q p x0 := by
        unfold x0
        apply State.clrReg_kept
        apply State.writeSet_kept
        exact h0
      clear_value x0
      refine kept_mk' (kept_comp ?_)
      exact k1
    · exact h0
  · extract_lets +onlyGivenNames x2
    clear_value x2
    extract_lets +onlyGivenNames x3
    have k4 : Kept q p x3 := by
      unfold x3
      refine kept_mk' (kept_comp ?_)
      exact h0
    clear_value x3
    apply State.complete_kept
    exact k4

theorem State.instantChanges_kept {q p} {a0} (h0 : Kept q p a0) : Kept q p (State.instantChanges a0) := by
  unfold State.instantChanges
  extract_lets +onlyGivenNames x0
  have k1 : Kept q p x0 := by
    unfold x0
    apply State.takeHolds_kept
    apply State.takeClasses_kept
    exact h0
  clear_value x0
  extract_lets +onlyGivenNames x2
  have k3 : Kept q p x2 := by
    unfold x2
    apply State.ditherClasses_kept
    · exact k1
    · exact h0
  clear_value x2
  extract_lets +onlyGivenNames x4
  have k5 : Kept q p x4 := by
    unfold x4
    refine kept_foldl ?_ ?_
    · intro z6 z7 k8
      apply State.takeCell_kept
      exact k8
    · exact k3
  clear_value x4
  extract_lets +onlyGivenNames x9
  have k10 : Kept q p x9 := by
    unfold x9
    apply State.squallStartRun_kept
    exact k5
  clear_value x9
  extract_lets +onlyGivenNames x11
  have k12 : Kept q p x11 := by
    unfold x11
    refine kept_foldl ?_ ?_
    · intro z13 z14 k15
      apply State.wrapStep_kept
      exact k15
    · exact k10
  clear_value x11
  refine kept_foldl ?_ ?_
  · intro z16 z17 k18
    apply State.modeDone_kept
    exact k18
  · refine kept_mk' (kept_comp ?_)
    exact k12

theorem State.markCells_kept {q p} {a0} (h0 : Kept q p a0) : Kept q p (State.markCells a0) := by
  unfold State.markCells
  extract_lets +onlyGivenNames x0
  clear_value x0
  extract_lets +onlyGivenNames x1
  have k2 : Kept q p x1 := by
    unfold x1
    apply State.deviceMark_kept
    exact h0
  clear_value x1
  refine kept_ite ?_ ?_
  · exact k2
  · apply State.bump_kept
    apply State.orReg_kept
    exact k2

theorem State.recDrive_kept {q p} {a0} (h0 : Kept q p a0) : Kept q p (State.recDrive a0) := by
  unfold State.recDrive
  extract_lets +onlyGivenNames x0
  clear_value x0
  extract_lets +onlyGivenNames x1
  clear_value x1
  extract_lets +onlyGivenNames x2
  clear_value x2
  apply State.recAppend_kept
  exact h0

theorem State.satReports_kept {q p} {a0} (h0 : Kept q p a0) : Kept q p (State.satReports a0) := by
  unfold State.satReports
  extract_lets +onlyGivenNames x0
  clear_value x0
  refine kept_ite ?_ ?_
  · exact h0
  · extract_lets +onlyGivenNames x1
    have k2 : Kept q p x1 := by
      unfold x1
      refine kept_foldl ?_ ?_
      · intro z3 z4 k5
        apply State.setLoopCell_kept
        exact k5
      · exact h0
    clear_value x1
    apply State.report_kept
    apply State.orReg_kept
    exact k2

theorem State.squallInstant_kept {q p} {a0} (h0 : Kept q p a0) : Kept q p (State.squallInstant a0) := by
  unfold State.squallInstant
  split
  · exact h0
  · refine kept_ite ?_ ?_
    · exact h0
    · extract_lets +onlyGivenNames x5
      clear_value x5
      extract_lets +onlyGivenNames x6
      clear_value x6
      extract_lets +onlyGivenNames x7
      clear_value x7
      extract_lets +onlyGivenNames x8
      clear_value x8
      extract_lets +onlyGivenNames x9
      have k10 : Kept q p x9 := by
        unfold x9
        refine kept_mk' (kept_comp ?_)
        exact h0
      clear_value x9
      refine kept_foldl ?_ ?_
      · intro z11 z12 k13
        extract_lets +onlyGivenNames x14
        clear_value x14
        extract_lets +onlyGivenNames x15
        clear_value x15
        refine kept_ite ?_ ?_
        · apply State.setLoopCell_kept
          exact k13
        · exact k13
      · exact k10

theorem State.loopInstant_kept {q p} {a0} (h0 : Kept q p a0) : Kept q p (State.loopInstant a0) := by
  unfold State.loopInstant
  extract_lets +onlyGivenNames x0
  clear_value x0
  extract_lets +onlyGivenNames x1
  have k2 : Kept q p x1 := by
    unfold x1
    refine kept_mk' (kept_comp ?_)
    exact h0
  clear_value x1
  extract_lets +onlyGivenNames x3
  have k4 : Kept q p x3 := by
    unfold x3
    apply State.recDrive_kept
    apply State.instantChanges_kept
    apply State.throttleInstant_kept
    exact k2
  clear_value x3
  refine kept_ite ?_ ?_
  · exact k4
  · extract_lets +onlyGivenNames x5
    have k6 : Kept q p x5 := by
      unfold x5
      apply State.wrapInc_kept
      exact k4
    clear_value x5
    extract_lets +onlyGivenNames x7
    have k8 : Kept q p x7 := by
      unfold x7
      split
      · apply State.pmcEvent_kept
        exact k6
      · exact k6
    clear_value x7
    extract_lets +onlyGivenNames x14
    clear_value x14
    extract_lets +onlyGivenNames x15
    have k16 : Kept q p x15 := by
      unfold x15
      refine kept_mk' (kept_comp ?_)
      exact k8
    clear_value x15
    extract_lets +onlyGivenNames x17
    clear_value x17
    extract_lets +onlyGivenNames x18
    have k19 : Kept q p x18 := by
      unfold x18
      apply State.squallInstant_kept
      refine kept_foldl ?_ ?_
      · intro z20 z21 k22
        apply State.autoCell_kept
        exact k22
      · exact k16
    clear_value x18
    apply State.satReports_kept
    apply State.markCells_kept
    exact k19

theorem State.loopOverrun_kept {q p} {a0} (h0 : Kept q p a0) : Kept q p (State.loopOverrun a0) := by
  unfold State.loopOverrun
  extract_lets +onlyGivenNames x0
  clear_value x0
  extract_lets +onlyGivenNames x1
  have k2 : Kept q p x1 := by
    unfold x1
    refine kept_mk' (kept_comp ?_)
    exact h0
  clear_value x1
  extract_lets +onlyGivenNames x3
  have k4 : Kept q p x3 := by
    unfold x3
    apply State.recEvent_kept
    apply State.bump_kept
    apply State.orReg_kept
    apply State.throttleInstant_kept
    exact k2
  clear_value x3
  split
  · apply State.report1_kept
    apply State.pmcEvent_kept
    exact k4
  · exact k4

theorem State.loopSetAct_kept {q p} {a0 a1 a2} (h2 : Kept q p a2) : Kept q p (State.loopSetAct a0 a1 a2) := by
  unfold State.loopSetAct
  extract_lets +onlyGivenNames x0
  clear_value x0
  extract_lets +onlyGivenNames x1
  clear_value x1
  extract_lets +onlyGivenNames x2
  clear_value x2
  extract_lets +onlyGivenNames x3
  clear_value x3
  extract_lets +onlyGivenNames x4
  have k5 : Kept q p x4 := by
    unfold x4
    refine kept_mk' (kept_comp ?_)
    exact h2
  clear_value x4
  refine kept_ite ?_ ?_
  · apply State.orReg_kept
    exact k5
  · apply State.writeSet_kept
    exact k5

theorem State.modeAct_kept {q p} {a0 a1 a2 a3} (h3 : Kept q p a3) : Kept q p (State.modeAct a0 a1 a2 a3) := by
  unfold State.modeAct
  refine kept_ite ?_ ?_
  · apply State.refuse_kept
    exact h3
  · extract_lets +onlyGivenNames x0
    have k1 : Kept q p x0 := by
      unfold x0
      refine kept_foldl ?_ ?_
      · intro z2 z3 k4
        refine kept_ite ?_ ?_
        · apply State.setLoopCell_kept
          exact k4
        · exact k4
      · exact h3
    clear_value x0
    refine kept_mk' (kept_comp ?_)
    exact k1

theorem State.squallBegin_kept {q p} {a0 a1 a2 a3 a4} (h4 : Kept q p a4) : Kept q p (State.squallBegin a0 a1 a2 a3 a4) := by
  unfold State.squallBegin
  extract_lets +onlyGivenNames x0
  clear_value x0
  extract_lets +onlyGivenNames x1
  clear_value x1
  extract_lets +onlyGivenNames x2
  have k3 : Kept q p x2 := by
    unfold x2
    refine kept_mk' (kept_comp ?_)
    exact h4
  clear_value x2
  extract_lets +onlyGivenNames x4
  have k5 : Kept q p x4 := by
    unfold x4
    refine kept_foldl ?_ ?_
    · intro z6 z7 k8
      apply State.setReg_kept
      exact k8
    · exact k3
  clear_value x4
  apply State.recEvent_kept
  apply State.clrReg_kept
  apply State.orReg_kept
  exact k5

theorem State.squallAct_kept {q p} {a0 a1 a2} (h2 : Kept q p a2) : Kept q p (State.squallAct a0 a1 a2) := by
  unfold State.squallAct
  extract_lets +onlyGivenNames x0
  clear_value x0
  extract_lets +onlyGivenNames x1
  clear_value x1
  refine kept_ite ?_ ?_
  · apply State.refuse_kept
    exact h2
  · refine kept_ite ?_ ?_
    · apply State.refuse_kept
      exact h2
    · refine kept_ite ?_ ?_
      · apply State.refuse_kept
        exact h2
      · extract_lets +onlyGivenNames x2
        have k3 : Kept q p x2 := by
          unfold x2
          apply State.squallBegin_kept
          exact h2
        clear_value x2
        split
        · refine kept_mk' (kept_comp ?_)
          exact k3
        · exact k3

theorem State.squallCtrl_kept {q p} {a0 a1} (h1 : Kept q p a1) : Kept q p (State.squallCtrl a0 a1) := by
  unfold State.squallCtrl
  extract_lets +onlyGivenNames x0
  have k1 : Kept q p x0 := by
    unfold x0
    apply State.maskWrite_kept
    exact h1
  clear_value x0
  extract_lets +onlyGivenNames x2
  have k3 : Kept q p x2 := by
    unfold x2
    refine kept_ite ?_ ?_
    · apply State.abortSquall_kept
      exact k1
    · exact k1
  clear_value x2
  refine kept_ite ?_ ?_
  · exact k3
  · extract_lets +onlyGivenNames x4
    clear_value x4
    refine kept_ite ?_ ?_
    · apply State.orReg_kept
      exact k3
    · extract_lets +onlyGivenNames x5
      have k6 : Kept q p x5 := by
        unfold x5
        apply State.squallBegin_kept
        exact k3
      clear_value x5
      refine kept_ite ?_ ?_
      · apply State.abortSquall_kept
        exact k6
      · exact k6

theorem State.squallFinish_kept {q p} {a0 a1} (h1 : Kept q p a1) : Kept q p (State.squallFinish a0 a1) := by
  unfold State.squallFinish
  extract_lets +onlyGivenNames x0
  clear_value x0
  extract_lets +onlyGivenNames x1
  clear_value x1
  extract_lets +onlyGivenNames x2
  clear_value x2
  extract_lets +onlyGivenNames x3
  clear_value x3
  extract_lets +onlyGivenNames x4
  clear_value x4
  extract_lets +onlyGivenNames x5
  clear_value x5
  extract_lets +onlyGivenNames x6
  have k7 : Kept q p x6 := by
    unfold x6
    refine kept_mk' (kept_comp ?_)
    exact h1
  clear_value x6
  extract_lets +onlyGivenNames x8
  have k9 : Kept q p x8 := by
    unfold x8
    refine kept_foldl ?_ ?_
    · intro z10 z11 k12
      apply State.squallRestore_kept
      exact k12
    · exact k7
  clear_value x8
  extract_lets +onlyGivenNames x13
  have k14 : Kept q p x13 := by
    unfold x13
    apply State.setReg_kept
    apply State.setReg_kept
    apply State.squallResults_kept
    exact k9
  clear_value x13
  extract_lets +onlyGivenNames x15
  have k16 : Kept q p x15 := by
    unfold x15
    apply State.setField_kept
    apply State.orReg_kept
    apply State.clrReg_kept
    exact k14
  clear_value x15
  extract_lets +onlyGivenNames x17
  have k18 : Kept q p x17 := by
    unfold x17
    apply State.recEvent_kept
    exact k16
  clear_value x17
  apply State.completeOpt_kept
  exact k18

theorem execClrStrike_kept {q p} {a0 a1 a2 a3} (h3 : Kept q p a3) : KeptRes q p (execClrStrike a0 a1 a2 a3) := by
  unfold execClrStrike
  refine keptRes_ite ?_ ?_
  · refine keptRes_next ?_
    apply State.cellCfgWrite_kept
    exact h3
  · refine keptRes_next ?_
    exact h3

theorem execLoopCellModeWrite_kept {q p} {a0 a1 a2 a3} (h3 : Kept q p a3) : KeptRes q p (execLoopCellModeWrite a0 a1 a2 a3) := by
  unfold execLoopCellModeWrite
  refine keptRes_ite ?_ ?_
  · refine keptRes_next ?_
    apply State.cellCfgWrite_kept
    exact h3
  · refine keptRes_next ?_
    exact h3

theorem execLoopClassWrite_kept {q p} {a0 a1 a2 a3 a4} (h4 : Kept q p a4) : KeptRes q p (execLoopClassWrite a0 a1 a2 a3 a4) := by
  unfold execLoopClassWrite
  refine keptRes_ite ?_ ?_
  · refine keptRes_next ?_
    apply State.baseWrite_kept
    · intro z0 k1
      apply State.setReg_kept
      exact k1
    · exact h4
  · refine keptRes_next ?_
    exact h4

theorem execLoopClsHoldWrite_kept {q p} {a0 a1 a2} (h2 : Kept q p a2) : KeptRes q p (execLoopClsHoldWrite a0 a1 a2) := by
  unfold execLoopClsHoldWrite
  refine keptRes_next ?_
  apply State.baseWrite_kept
  · intro z0 k1
    apply State.setReg_kept
    exact k1
  · exact h2

theorem execLoopCountClear_kept {q p} {a0 a1 a2} (h2 : Kept q p a2) : KeptRes q p (execLoopCountClear a0 a1 a2) := by
  unfold execLoopCountClear
  refine keptRes_next ?_
  apply State.baseWrite_kept
  · intro z0 k1
    apply State.setReg_kept
    exact k1
  · exact h2

theorem execLoopInstant_kept {q p} {a0 a1} (h1 : Kept q p a1) : KeptRes q p (execLoopInstant a0 a1) := by
  unfold execLoopInstant
  refine keptRes_next ?_
  refine kept_ite ?_ ?_
  · refine kept_ite ?_ ?_
    · apply State.loopOverrun_kept
      exact h1
    · apply State.loopInstant_kept
      exact h1
  · exact h1

theorem execLoopModeAuto_kept {q p} {a0 a1} (h1 : Kept q p a1) : KeptRes q p (execLoopModeAuto a0 a1) := by
  unfold execLoopModeAuto
  refine keptRes_next ?_
  apply State.runDesc_kept
  · intro z0 k1
    refine kept_ite ?_ ?_
    · apply State.refuse_kept
      exact k1
    · apply State.timed_kept
      · intro z2 z3 k4
        apply State.modeAct_kept
        exact k4
      · exact k1
  · exact h1

theorem execLoopModeManual_kept {q p} {a0 a1} (h1 : Kept q p a1) : KeptRes q p (execLoopModeManual a0 a1) := by
  unfold execLoopModeManual
  refine keptRes_next ?_
  apply State.runDesc_kept
  · intro z0 k1
    refine kept_ite ?_ ?_
    · apply State.refuse_kept
      exact k1
    · apply State.timed_kept
      · intro z2 z3 k4
        apply State.modeAct_kept
        exact k4
      · exact k1
  · exact h1

theorem execLoopOutputApply_kept {q p} {a0} (h0 : Kept q p a0) : KeptRes q p (execLoopOutputApply a0) := by
  unfold execLoopOutputApply
  refine keptRes_next ?_
  refine kept_ite ?_ ?_
  · apply State.applyOutputs_kept
    exact h0
  · exact h0

theorem execLoopSet_kept {q p} {a0 a1} (h1 : Kept q p a1) : KeptRes q p (execLoopSet a0 a1) := by
  unfold execLoopSet
  refine keptRes_next ?_
  apply State.runDesc_kept
  · intro z0 k1
    refine kept_ite ?_ ?_
    · apply State.refuse_kept
      exact k1
    · apply State.timed_kept
      · intro z2 z3 k4
        apply State.loopSetAct_kept
        exact k4
      · exact k1
  · exact h1

theorem execSquallEnd_kept {q p} {a0} (h0 : Kept q p a0) : KeptRes q p (execSquallEnd a0) := by
  unfold execSquallEnd
  split
  · refine keptRes_next ?_
    refine kept_ite ?_ ?_
    · apply State.squallFinish_kept
      exact h0
    · exact h0
  · refine keptRes_next ?_
    exact h0

theorem execSquallStart_kept {q p} {a0 a1} (h1 : Kept q p a1) : KeptRes q p (execSquallStart a0 a1) := by
  unfold execSquallStart
  split
  · refine keptRes_next ?_
    apply State.baseWrite_kept
    · intro z3 k4
      apply State.squallCtrl_kept
      exact k4
    · exact h1
  · refine keptRes_next ?_
    apply State.runDesc_kept
    · intro z7 k8
      refine kept_ite ?_ ?_
      · apply State.refuse_kept
        exact k8
      · apply State.timed_kept
        · intro z9 z10 k11
          apply State.squallAct_kept
          exact k11
        · exact k8
    · exact h1

theorem execSquallStop_kept {q p} {a0 a1 a2} (h2 : Kept q p a2) : KeptRes q p (execSquallStop a0 a1 a2) := by
  unfold execSquallStop
  refine keptRes_next ?_
  apply State.baseWrite_kept
  · intro z0 k1
    apply State.squallCtrl_kept
    exact k1
  · exact h2

theorem State.siteStart_kept {q p} {a0} (h0 : Kept q p a0) : Kept q p (State.siteStart a0) := by
  unfold State.siteStart
  extract_lets +onlyGivenNames x0
  clear_value x0
  extract_lets +onlyGivenNames x1
  clear_value x1
  refine kept_ite ?_ ?_
  · apply State.orReg_kept
    exact h0
  · extract_lets +onlyGivenNames x2
    clear_value x2
    apply State.orReg_kept
    refine kept_mk' (kept_comp ?_)
    exact h0

theorem State.siteCheckCtrl_kept {q p} {a0 a1} (h1 : Kept q p a1) : Kept q p (State.siteCheckCtrl a0 a1) := by
  unfold State.siteCheckCtrl
  extract_lets +onlyGivenNames x0
  have k1 : Kept q p x0 := by
    unfold x0
    apply State.rwlWrite_kept
    exact h1
  clear_value x0
  extract_lets +onlyGivenNames x2
  have k3 : Kept q p x2 := by
    unfold x2
    refine kept_ite ?_ ?_
    · apply State.abortSite_kept
      exact k1
    · exact k1
  clear_value x2
  refine kept_ite ?_ ?_
  · apply State.siteStart_kept
    exact k3
  · exact k3

theorem State.siteCtrl_kept {q p} {a0 a1} (h1 : Kept q p a1) : Kept q p (State.siteCtrl a0 a1) := by
  unfold State.siteCtrl
  extract_lets +onlyGivenNames x0
  have k1 : Kept q p x0 := by
    unfold x0
    apply State.setReg_kept
    exact h1
  clear_value x0
  refine kept_ite ?_ ?_
  · refine kept_mk' (kept_comp ?_)
    exact k1
  · exact k1

theorem State.siteDone_kept {q p} {a0 a1 a2} (h2 : Kept q p a2) : Kept q p (State.siteDone a0 a1 a2) := by
  unfold State.siteDone
  extract_lets +onlyGivenNames x0
  clear_value x0
  extract_lets +onlyGivenNames x1
  clear_value x1
  extract_lets +onlyGivenNames x2
  clear_value x2
  extract_lets +onlyGivenNames x3
  clear_value x3
  extract_lets +onlyGivenNames x4
  have k5 : Kept q p x4 := by
    unfold x4
    split
    · refine kept_foldl_snd ?_ ?_
      · intro z9 z10 k11
        refine kept_pair_snd ?_
        apply State.hostWrite_kept
        exact k11
      · exact h2
    · exact h2
  clear_value x4
  extract_lets +onlyGivenNames x14
  have k15 : Kept q p x14 := by
    unfold x14
    apply State.setReg_kept
    apply State.setReg_kept
    apply State.setReg_kept
    exact k5
  clear_value x14
  extract_lets +onlyGivenNames x16
  have k17 : Kept q p x16 := by
    unfold x16
    apply State.setReg_kept
    exact k15
  clear_value x16
  extract_lets +onlyGivenNames x18
  clear_value x18
  extract_lets +onlyGivenNames x19
  have k20 : Kept q p x19 := by
    unfold x19
    refine kept_mk' (kept_comp ?_)
    exact k17
  clear_value x19
  apply State.orReg_kept
  apply State.clrReg_kept
  exact k20

theorem execSiteBiasEnable_kept {q p} {a0 a1 a2} (h2 : Kept q p a2) : KeptRes q p (execSiteBiasEnable a0 a1 a2) := by
  unfold execSiteBiasEnable
  refine keptRes_next ?_
  apply State.baseWrite_kept
  · intro z0 k1
    apply State.siteCtrl_kept
    exact k1
  · exact h2

theorem execSiteBiasFault_kept {q p} {a0 a1} (h1 : Kept q p a1) : KeptRes q p (execSiteBiasFault a0 a1) := by
  unfold execSiteBiasFault
  extract_lets +onlyGivenNames x0
  clear_value x0
  refine keptRes_ite ?_ ?_
  · refine keptRes_next ?_
    exact h1
  · extract_lets +onlyGivenNames x1
    clear_value x1
    extract_lets +onlyGivenNames x2
    have k3 : Kept q p x2 := by
      unfold x2
      refine kept_mk' (kept_comp ?_)
      exact h1
    clear_value x2
    refine keptRes_next ?_
    apply State.report_kept
    apply State.orReg_kept
    exact k3

theorem execSiteCheckDone_kept {q p} {a0 a1} (h1 : Kept q p a1) : KeptRes q p (execSiteCheckDone a0 a1) := by
  unfold execSiteCheckDone
  split
  · refine keptRes_next ?_
    apply State.siteDone_kept
    exact h1
  · refine keptRes_next ?_
    exact h1

theorem execSiteCheckStart_kept {q p} {a0 a1 a2} (h2 : Kept q p a2) : KeptRes q p (execSiteCheckStart a0 a1 a2) := by
  unfold execSiteCheckStart
  refine keptRes_next ?_
  apply State.baseWrite_kept
  · intro z0 k1
    apply State.siteCheckCtrl_kept
    exact k1
  · exact h2

theorem execSiteCheckStop_kept {q p} {a0 a1 a2} (h2 : Kept q p a2) : KeptRes q p (execSiteCheckStop a0 a1 a2) := by
  unfold execSiteCheckStop
  refine keptRes_next ?_
  apply State.baseWrite_kept
  · intro z0 k1
    apply State.siteCheckCtrl_kept
    exact k1
  · exact h2

theorem execSiteSenseEnable_kept {q p} {a0 a1 a2} (h2 : Kept q p a2) : KeptRes q p (execSiteSenseEnable a0 a1 a2) := by
  unfold execSiteSenseEnable
  refine keptRes_next ?_
  apply State.baseWrite_kept
  · intro z0 k1
    apply State.siteCtrl_kept
    exact k1
  · exact h2

theorem State.ageOne_kept {q p} {a0 a1} (h0 : Kept q p a0) : Kept q p (State.ageOne a0 a1) := by
  unfold State.ageOne
  split
  · exact h0
  · refine kept_ite ?_ ?_
    · apply State.bump_kept
      refine kept_mk' (kept_comp ?_)
      exact h0
    · refine kept_mk' (kept_comp ?_)
      exact h0

theorem State.cacheInvalidate_kept {q p} {a0 a1 a2} (h2 : Kept q p a2) : Kept q p (State.cacheInvalidate a0 a1 a2) := by
  unfold State.cacheInvalidate
  extract_lets +onlyGivenNames x0
  clear_value x0
  extract_lets +onlyGivenNames x1
  clear_value x1
  extract_lets +onlyGivenNames x2
  clear_value x2
  extract_lets +onlyGivenNames x3
  clear_value x3
  extract_lets +onlyGivenNames x4
  have k5 : Kept q p x4 := by
    unfold x4
    refine kept_mk' (kept_comp ?_)
    exact h2
  clear_value x4
  apply State.complete_kept
  exact k5

theorem State.giveVector_kept {q p} {a0 a1 a2} (h2 : Kept q p a2) : Kept q p (State.giveVector a0 a1 a2) := by
  unfold State.giveVector
  refine kept_ite ?_ ?_
  · exact h2
  · apply State.hostWrite_kept
    exact h2

theorem State.noteSolve_kept {q p} {a0 a1 a2 a3 a4} (h4 : Kept q p a4) : Kept q p (State.noteSolve a0 a1 a2 a3 a4) := by
  unfold State.noteSolve
  extract_lets +onlyGivenNames x0
  have k1 : Kept q p x0.2 := by
    unfold x0
    apply State.drawNat_kept
    exact h4
  clear_value x0
  apply State.wrapInc_kept
  apply State.setReg_kept
  apply State.setReg_kept
  apply State.setReg_kept
  apply State.setReg_kept
  exact k1

theorem State.rteBad_kept {q p} {a0 a1 a2 a3} (h3 : Kept q p a3) : Kept q p (State.rteBad a0 a1 a2 a3) := by
  unfold State.rteBad
  extract_lets +onlyGivenNames x0
  clear_value x0
  extract_lets +onlyGivenNames x1
  clear_value x1
  extract_lets +onlyGivenNames x2
  have k3 : Kept q p x2 := by
    unfold x2
    refine kept_mk' (kept_comp ?_)
    exact h3
  clear_value x2
  extract_lets +onlyGivenNames x4
  have k5 : Kept q p x4 := by
    unfold x4
    apply State.orReg_kept
    apply State.setReg_kept
    apply State.bump_kept
    exact k3
  clear_value x4
  apply State.report1_kept
  apply State.event_kept
  exact k5

theorem State.rteLookup_kept {q p} {a0 a1 a2 a3 a4 a5} (h5 : Kept q p a5) : Kept q p (State.rteLookup a0 a1 a2 a3 a4 a5).2 := by
  unfold State.rteLookup
  refine kept_ite_snd ?_ ?_
  · exact h5
  · extract_lets +onlyGivenNames x1
    clear_value x1
    extract_lets +onlyGivenNames x3
    clear_value x3
    extract_lets +onlyGivenNames x5
    have k6 : Kept q p x5.2 := by
      unfold x5
      refine kept_foldl_snd ?_ ?_
      · intro z7 z8 k9
        split
        · exact k9
        · extract_lets +onlyGivenNames x16
          clear_value x16
          extract_lets +onlyGivenNames x18
          clear_value x18
          refine kept_ite_snd ?_ ?_
          · exact k9
          · refine kept_pair_snd ?_
            apply State.rteBad_kept
            exact k9
      · exact h5
    clear_value x5
    extract_lets +onlyGivenNames x20
    have k21 : Kept q p x20 := by
      unfold x20
      apply State.bump_kept
      exact k6
    clear_value x20
    split
    · split
      · extract_lets +onlyGivenNames x32
        clear_value x32
        extract_lets +onlyGivenNames x34
        have k35 : Kept q p x34 := by
          unfold x34
          refine kept_mk' (kept_comp ?_)
          exact k21
        clear_value x34
        refine kept_pair_snd ?_
        apply State.pmcEvent_kept
        apply State.bump_kept
        exact k35
      · refine kept_pair_snd ?_
        apply State.pmcEvent_kept
        exact k21
    · refine kept_pair_snd ?_
      apply State.pmcEvent_kept
      exact k21

theorem State.cacheLookup_kept {q p} {a0 a1 a2 a3} (h3 : Kept q p a3) : Kept q p (State.cacheLookup a0 a1 a2 a3) := by
  unfold State.cacheLookup
  extract_lets +onlyGivenNames x0
  clear_value x0
  extract_lets +onlyGivenNames x1
  have k2 : Kept q p x1.2 := by
    unfold x1
    apply State.rteLookup_kept
    exact h3
  clear_value x1
  split
  · extract_lets +onlyGivenNames x7
    clear_value x7
    apply State.complete_kept
    apply State.giveVector_kept
    apply State.noteSolve_kept
    exact k2
  · apply State.complete_kept
    apply State.noteSolve_kept
    exact k2

theorem State.finishRoute_kept {q p} {a0 a1 a2} (h2 : Kept q p a2) : Kept q p (State.finishRoute a0 a1 a2) := by
  unfold State.finishRoute
  extract_lets +onlyGivenNames x0
  clear_value x0
  extract_lets +onlyGivenNames x1
  have k2 : Kept q p x1 := by
    unfold x1
    refine kept_ite ?_ ?_
    · apply State.giveVector_kept
      exact h2
    · exact h2
  clear_value x1
  apply State.complete_kept
  exact k2

theorem State.insertOne_kept {q p} {a0 a1} (h1 : Kept q p a1) : Kept q p (State.insertOne a0 a1) := by
  unfold State.insertOne
  refine kept_ite ?_ ?_
  · exact h1
  · extract_lets +onlyGivenNames x0
    clear_value x0
    split
    · apply State.event_kept
      apply State.orReg_kept
      apply State.bump_kept
      exact h1
    · extract_lets +onlyGivenNames x6
      clear_value x6
      refine kept_mk' (kept_comp ?_)
      exact h1

theorem State.rehashMove_kept {q p} {a0 a1} (h0 : Kept q p a0) : Kept q p (State.rehashMove a0 a1) := by
  unfold State.rehashMove
  split
  · exact h0
  · refine kept_ite ?_ ?_
    · exact h0
    · extract_lets +onlyGivenNames x5
      clear_value x5
      extract_lets +onlyGivenNames x6
      clear_value x6
      extract_lets +onlyGivenNames x7
      have k8 : Kept q p x7 := by
        unfold x7
        refine kept_mk' (kept_comp ?_)
        exact h0
      clear_value x7
      split
      · apply State.bump_kept
        exact k8
      · refine kept_mk' (kept_comp ?_)
        exact k8

theorem State.rehashStart_kept {q p} {a0 a1} (h1 : Kept q p a1) : Kept q p (State.rehashStart a0 a1) := by
  unfold State.rehashStart
  extract_lets +onlyGivenNames x0
  have k1 : Kept q p x0.2 := by
    unfold x0
    refine kept_ite_snd ?_ ?_
    · apply State.drawNat_kept
      exact h1
    · exact h1
  clear_value x0
  extract_lets +onlyGivenNames x2
  have k3 : Kept q p x2 := by
    unfold x2
    apply State.setReg64_kept
    exact k1
  clear_value x2
  extract_lets +onlyGivenNames x4
  have k5 : Kept q p x4 := by
    unfold x4
    apply State.setReg64_kept
    exact k3
  clear_value x4
  apply State.setReg_kept
  apply State.orReg_kept
  apply State.setField_kept
  exact k5

theorem State.setInserts_kept {q p} {a0 a1 a2} (h2 : Kept q p a2) : Kept q p (State.setInserts a0 a1 a2) := by
  unfold State.setInserts
  split
  · refine kept_mk' (kept_comp ?_)
    exact h2
  · refine kept_mk' (kept_comp ?_)
    exact h2

theorem State.route_kept {q p} {a0 a1 a2 a3 a4 a5} (h5 : Kept q p a5) : Kept q p (State.route a0 a1 a2 a3 a4 a5).2 := by
  unfold State.route
  extract_lets +onlyGivenNames x1
  clear_value x1
  extract_lets +onlyGivenNames x3
  clear_value x3
  extract_lets +onlyGivenNames x5
  clear_value x5
  extract_lets +onlyGivenNames x7
  have k8 : Kept q p x7.2 := by
    unfold x7
    refine kept_ite_snd ?_ ?_
    · apply State.rteLookup_kept
      exact h5
    · exact h5
  clear_value x7
  split
  · extract_lets +onlyGivenNames x14
    clear_value x14
    refine kept_pair_snd ?_
    apply State.noteSolve_kept
    exact k8
  · extract_lets +onlyGivenNames x18
    have k19 : Kept q p x18 := by
      unfold x18
      refine kept_ite ?_ ?_
      · apply State.noteSolve_kept
        exact k8
      · exact k8
    clear_value x18
    extract_lets +onlyGivenNames x21
    clear_value x21
    extract_lets +onlyGivenNames x23
    have k24 : Kept q p x23 := by
      unfold x23
      apply State.pmcEvent_kept
      apply State.pmcEvent_kept
      apply State.noteSolve_kept
      exact k19
    clear_value x23
    extract_lets +onlyGivenNames x26
    have k27 : Kept q p x26 := by
      unfold x26
      refine kept_ite ?_ ?_
      · exact k24
      · apply State.bump_kept
        exact k24
    clear_value x26
    refine kept_ite_snd ?_ ?_
    · extract_lets +onlyGivenNames x29
      clear_value x29
      refine kept_pair_snd ?_
      apply State.setInserts_kept
      exact k27
    · exact k27

theorem State.routeCountClear_kept {q p} {a0} (h0 : Kept q p a0) : Kept q p (State.routeCountClear a0) := by
  unfold State.routeCountClear
  refine kept_foldl ?_ ?_
  · intro z0 z1 k2
    apply State.setReg_kept
    exact k2
  · exact h0

theorem State.rteCtrl_kept {q p} {a0 a1} (h1 : Kept q p a1) : Kept q p (State.rteCtrl a0 a1) := by
  unfold State.rteCtrl
  extract_lets +onlyGivenNames x0
  have k1 : Kept q p x0 := by
    unfold x0
    apply State.setReg_kept
    exact h1
  clear_value x0
  refine kept_ite ?_ ?_
  · apply State.routeCountClear_kept
    exact k1
  · exact k1

theorem State.walkBad_kept {q p} {a0 a1} (h1 : Kept q p a1) : Kept q p (State.walkBad a0 a1) := by
  unfold State.walkBad
  refine kept_foldl ?_ ?_
  · intro z0 z1 k2
    refine kept_ite ?_ ?_
    · apply State.rteBad_kept
      exact k2
    · exact k2
  · exact h1

theorem State.withMap_kept {q p} {a0 a1 a2 a3 a4} (h3 : ∀ x0 x1, Kept q p x1 → Kept q p (a3 x0 x1)) (h4 : Kept q p a4) : Kept q p (State.withMap a0 a1 a2 a3 a4) := by
  unfold State.withMap
  refine kept_ite ?_ ?_
  · apply State.refuse_kept
    exact h4
  · split
    · apply State.refuse_kept
      exact h4
    · refine kept_ite ?_ ?_
      · apply h3
        exact h4
      · apply State.refuse_kept
        exact h4

theorem execCacheAgeSweep_kept {q p} {a0 a1} (h1 : Kept q p a1) : KeptRes q p (execCacheAgeSweep a0 a1) := by
  unfold execCacheAgeSweep
  refine keptRes_ite ?_ ?_
  · extract_lets +onlyGivenNames x0
    have k1 : Kept q p x0 := by
      unfold x0
      apply State.walkBad_kept
      exact h1
    clear_value x0
    extract_lets +onlyGivenNames x2
    have k3 : Kept q p x2 := by
      unfold x2
      refine kept_foldl ?_ ?_
      · intro z4 z5 k6
        apply State.ageOne_kept
        exact k6
      · exact k1
    clear_value x2
    refine keptRes_next ?_
    refine kept_mk' (kept_comp ?_)
    exact k3
  · refine keptRes_next ?_
    exact h1

theorem execCacheClearDone_kept {q p} {a0} (h0 : Kept q p a0) : KeptRes q p (execCacheClearDone a0) := by
  unfold execCacheClearDone
  refine keptRes_ite ?_ ?_
  · extract_lets +onlyGivenNames x0
    clear_value x0
    extract_lets +onlyGivenNames x1
    have k2 : Kept q p x1 := by
      unfold x1
      refine kept_mk' (kept_comp ?_)
      exact h0
    clear_value x1
    refine keptRes_next ?_
    apply State.orReg_kept
    apply State.clrReg_kept
    exact k2
  · refine keptRes_next ?_
    exact h0

theorem execCacheInsert_kept {q p} {a0 a1} (h1 : Kept q p a1) : KeptRes q p (execCacheInsert a0 a1) := by
  unfold execCacheInsert
  split
  · refine keptRes_next ?_
    exact h1
  · refine keptRes_next ?_
    apply State.insertOne_kept
    apply State.setInserts_kept
    exact h1

theorem execRehashDone_kept {q p} {a0 a1} (h1 : Kept q p a1) : KeptRes q p (execRehashDone a0 a1) := by
  unfold execRehashDone
  refine keptRes_ite ?_ ?_
  · refine keptRes_next ?_
    exact h1
  · extract_lets +onlyGivenNames x0
    have k1 : Kept q p x0 := by
      unfold x0
      apply State.walkBad_kept
      exact h1
    clear_value x0
    extract_lets +onlyGivenNames x2
    have k3 : Kept q p x2 := by
      unfold x2
      refine kept_foldl ?_ ?_
      · intro z4 z5 k6
        apply State.rehashMove_kept
        exact k6
      · exact k1
    clear_value x2
    extract_lets +onlyGivenNames x7
    have k8 : Kept q p x7 := by
      unfold x7
      apply State.setReg_kept
      apply State.orReg_kept
      apply State.clrReg_kept
      exact k3
    clear_value x7
    refine keptRes_next ?_
    apply State.event_kept
    exact k8

theorem execRouteCountClear_kept {q p} {a0 a1 a2} (h2 : Kept q p a2) : KeptRes q p (execRouteCountClear a0 a1 a2) := by
  unfold execRouteCountClear
  refine keptRes_next ?_
  apply State.baseWrite_kept
  · intro z0 k1
    apply State.rteCtrl_kept
    exact k1
  · exact h2

theorem execRouteFlush_kept {q p} {a0 a1} (h1 : Kept q p a1) : KeptRes q p (execRouteFlush a0 a1) := by
  unfold execRouteFlush
  refine keptRes_next ?_
  apply State.runDesc_kept
  · intro z0 k1
    refine kept_ite ?_ ?_
    · apply State.complete_kept
      apply State.flushCache_kept
      exact k1
    · apply State.refuse_kept
      exact k1
  · exact h1

theorem execRouteInvalidate_kept {q p} {a0 a1 a2} (h2 : Kept q p a2) : KeptRes q p (execRouteInvalidate a0 a1 a2) := by
  unfold execRouteInvalidate
  refine keptRes_next ?_
  apply State.runDesc_kept
  · intro z0 k1
    apply State.withMap_kept
    · intro z2 z3 k4
      apply State.cacheInvalidate_kept
      exact k4
    · apply State.recReads_kept
      exact k1
  · exact h2

theorem execRouteLookup_kept {q p} {a0 a1 a2 a3} (h3 : Kept q p a3) : KeptRes q p (execRouteLookup a0 a1 a2 a3) := by
  unfold execRouteLookup
  refine keptRes_next ?_
  apply State.runDesc_kept
  · intro z0 k1
    apply State.withMap_kept
    · intro z2 z3 k4
      apply State.cacheLookup_kept
      exact k4
    · apply State.recReads_kept
      exact k1
  · exact h3

theorem execRoutePreload_kept {q p} {a0 a1 a2 a3} (h3 : Kept q p a3) : KeptRes q p (execRoutePreload a0 a1 a2 a3) := by
  unfold execRoutePreload
  refine keptRes_next ?_
  apply State.runDesc_kept
  · intro z0 k1
    apply State.withMap_kept
    · intro z2 z3 k4
      extract_lets +onlyGivenNames x5
      have k6 : Kept q p x5.2 := by
        unfold x5
        apply State.route_kept
        exact k4
      clear_value x5
      apply State.finishRoute_kept
      exact k6
    · apply State.recReads_kept
      exact k1
  · exact h3

theorem execRouteRehash_kept {q p} {a0 a1} (h1 : Kept q p a1) : KeptRes q p (execRouteRehash a0 a1) := by
  unfold execRouteRehash
  refine keptRes_next ?_
  apply State.runDesc_kept
  · intro z0 k1
    refine kept_ite ?_ ?_
    · apply State.refuse_kept
      exact k1
    · refine kept_ite ?_ ?_
      · apply State.refuse_kept
        exact k1
      · apply State.complete_kept
        apply State.rehashStart_kept
        exact k1
  · exact h1

theorem execRouteSolve_kept {q p} {a0 a1 a2} (h2 : Kept q p a2) : KeptRes q p (execRouteSolve a0 a1 a2) := by
  unfold execRouteSolve
  refine keptRes_next ?_
  apply State.runDesc_kept
  · intro z0 k1
    apply State.withMap_kept
    · intro z2 z3 k4
      extract_lets +onlyGivenNames x5
      have k6 : Kept q p x5.2 := by
        unfold x5
        apply State.route_kept
        exact k4
      clear_value x5
      apply State.finishRoute_kept
      exact k6
    · apply State.recReads_kept
      exact k1
  · exact h2

theorem State.setDrt_kept {q p} {a0 a1 a2 a3} (h3 : Kept q p a3) : Kept q p (State.setDrt a0 a1 a2 a3) := by
  unfold State.setDrt
  split
  · apply State.evalOne_kept
    apply State.setChan_kept
    exact h3
  · exact h3

theorem State.drtApply_kept {q p} {a0 a1 a2} (h2 : Kept q p a2) : Kept q p (State.drtApply a0 a1 a2) := by
  unfold State.drtApply
  split
  · exact h2
  · extract_lets +onlyGivenNames x5
    clear_value x5
    refine kept_foldl ?_ ?_
    · intro z6 z7 k8
      extract_lets +onlyGivenNames x9
      clear_value x9
      extract_lets +onlyGivenNames x10
      clear_value x10
      extract_lets +onlyGivenNames x11
      have k12 : Kept q p x11 := by
        unfold x11
        refine kept_ite ?_ ?_
        · exact k8
        · apply State.orReg_kept
          apply State.bump_kept
          exact k8
      clear_value x11
      apply State.setDrt_kept
      exact k12
    · exact h2

theorem State.drtCmd_kept {q p} {a0 a1} (h1 : Kept q p a1) : Kept q p (State.drtCmd a0 a1) := by
  unfold State.drtCmd
  extract_lets +onlyGivenNames x0
  have k1 : Kept q p x0 := by
    unfold x0
    refine kept_ite ?_ ?_
    · apply State.setReg_kept
      apply State.setReg_kept
      exact h1
    · exact h1
  clear_value x0
  extract_lets +onlyGivenNames x2
  have k3 : Kept q p x2 := by
    unfold x2
    refine kept_ite ?_ ?_
    · apply State.orReg_kept
      apply State.wrapInc_kept
      exact k1
    · exact k1
  clear_value x2
  refine kept_ite ?_ ?_
  · apply State.clrReg_kept
    exact k3
  · exact k3

theorem State.drtCompute_kept {q p} {a0 a1 a2 a3 a4 a5 a6 a7 a8 a9} (h9 : Kept q p a9) : Kept q p (State.drtCompute a0 a1 a2 a3 a4 a5 a6 a7 a8 a9).2 := by
  unfold State.drtCompute
  extract_lets +onlyGivenNames x1
  clear_value x1
  extract_lets +onlyGivenNames x3
  clear_value x3
  extract_lets +onlyGivenNames x5
  clear_value x5
  extract_lets +onlyGivenNames x7
  clear_value x7
  extract_lets +onlyGivenNames x9
  clear_value x9
  extract_lets +onlyGivenNames x11
  clear_value x11
  extract_lets +onlyGivenNames x13
  clear_value x13
  extract_lets +onlyGivenNames x15
  have k16 : Kept q p x15 := by
    unfold x15
    refine kept_ite ?_ ?_
    · exact h9
    · apply State.orReg_kept
      apply State.bump_kept
      exact h9
  clear_value x15
  extract_lets +onlyGivenNames x18
  have k19 : Kept q p x18 := by
    unfold x18
    refine kept_ite ?_ ?_
    · exact k16
    · apply State.orReg_kept
      apply State.bump_kept
      exact k16
  clear_value x18
  exact k19

theorem State.drtFill_kept {q p} {a0 a1} (h1 : Kept q p a1) : Kept q p (State.drtFill a0 a1) := by
  unfold State.drtFill
  extract_lets +onlyGivenNames x0
  clear_value x0
  refine kept_foldl ?_ ?_
  · intro z1 z2 k3
    apply State.setReg_kept
    exact k3
  · exact h1

theorem State.foldArm_kept {q p} {a0 a1 a2} (h2 : Kept q p a2) : Kept q p (State.foldArm a0 a1 a2) := by
  unfold State.foldArm
  split
  · exact h2
  · extract_lets +onlyGivenNames x5
    clear_value x5
    extract_lets +onlyGivenNames x6
    clear_value x6
    extract_lets +onlyGivenNames x7
    clear_value x7
    extract_lets +onlyGivenNames x8
    have k9 : Kept q p x8 := by
      unfold x8
      apply State.setChan_kept
      exact h2
    clear_value x8
    extract_lets +onlyGivenNames x10
    clear_value x10
    extract_lets +onlyGivenNames x11
    clear_value x11
    extract_lets +onlyGivenNames x12
    have k13 : Kept q p x12 := by
      unfold x12
      refine kept_mk' (kept_comp ?_)
      exact k9
    clear_value x12
    extract_lets +onlyGivenNames x14
    clear_value x14
    extract_lets +onlyGivenNames x15
    clear_value x15
    extract_lets +onlyGivenNames x16
    have k17 : Kept q p x16 := by
      unfold x16
      refine kept_ite ?_ ?_
      · apply State.setLoopCell_kept
        exact k13
      · exact k13
    clear_value x16
    apply State.evalOne_kept
    exact k17

theorem State.drtFinish_kept {q p} {a0 a1} (h1 : Kept q p a1) : Kept q p (State.drtFinish a0 a1) := by
  unfold State.drtFinish
  split
  · exact h1
  · split
    · exact h1
    · extract_lets +onlyGivenNames x16
      clear_value x16
      extract_lets +onlyGivenNames x17
      clear_value x17
      extract_lets +onlyGivenNames x18
      have k19 : Kept q p x18 := by
        unfold x18
        refine kept_foldl ?_ ?_
        · intro z20 z21 k22
          refine kept_ite ?_ ?_
          · apply State.foldArm_kept
            exact k22
          · apply State.setDrt_kept
            exact k22
        · exact h1
      clear_value x18
      apply State.clrReg_kept
      refine kept_mk' (kept_comp ?_)
      exact k19

theorem State.formTnow_kept {q p} {a0} (h0 : Kept q p a0) : Kept q p (State.formTnow a0).2 := by
  unfold State.formTnow
  extract_lets +onlyGivenNames x1
  have k2 : Kept q p x1.2 := by
    unfold x1
    refine kept_ite_snd ?_ ?_
    · apply State.drawNat_kept
      exact h0
    · exact h0
  clear_value x1
  extract_lets +onlyGivenNames x4
  clear_value x4
  refine kept_pair_snd ?_
  refine kept_foldl ?_ ?_
  · intro z5 z6 k7
    apply State.setReg_kept
    apply State.setReg_kept
    exact k7
  · exact k2

theorem State.setCoeff_kept {q p} {a0 a1 a2} (h2 : Kept q p a2) : Kept q p (State.setCoeff a0 a1 a2) := by
  unfold State.setCoeff
  refine kept_mk' (kept_comp ?_)
  exact h2

theorem State.refineArm_kept {q p} {a0 a1 a2} (h1 : Kept q p a1) : Kept q p (State.refineArm a0 a1 a2).1 := by
  unfold State.refineArm
  extract_lets +onlyGivenNames x1
  clear_value x1
  refine kept_ite_fst ?_ ?_
  · exact h1
  · split
    · extract_lets +onlyGivenNames x11
      clear_value x11
      extract_lets +onlyGivenNames x13
      clear_value x13
      extract_lets +onlyGivenNames x15
      clear_value x15
      extract_lets +onlyGivenNames x17
      clear_value x17
      extract_lets +onlyGivenNames x19
      clear_value x19
      extract_lets +onlyGivenNames x21
      clear_value x21
      extract_lets +onlyGivenNames x23
      clear_value x23
      extract_lets +onlyGivenNames x25
      clear_value x25
      refine kept_ite_fst ?_ ?_
      · exact h1
      · extract_lets +onlyGivenNames x27
        have k28 : Kept q p x27 := by
          unfold x27
          apply State.bump_kept
          apply State.setCoeff_kept
          exact h1
        clear_value x27
        refine kept_pair_fst ?_
        apply State.recEvent_kept
        exact k28
    · exact h1

theorem State.refine_kept {q p} {a0 a1 a2} (h2 : Kept q p a2) : Kept q p (State.refine a0 a1 a2) := by
  unfold State.refine
  refine kept_ite ?_ ?_
  · exact h2
  · refine kept_ite ?_ ?_
    · apply State.bump_kept
      exact h2
    · extract_lets +onlyGivenNames x0
      have k1 : Kept q p x0.1 := by
        unfold x0
        refine kept_foldl_fst ?_ ?_
        · intro z2 z3 k4
          extract_lets +onlyGivenNames x6
          have k7 : Kept q p x6.1 := by
            unfold x6
            apply State.refineArm_kept
            exact k4
          clear_value x6
          exact k7
        · exact h2
      clear_value x0
      refine kept_ite ?_ ?_
      · apply State.orReg_kept
        apply State.wrapInc_kept
        exact k1
      · exact k1

theorem State.tauWrite_kept {q p} {a0 a1 a2} (h2 : Kept q p a2) : Kept q p (State.tauWrite a0 a1 a2) := by
  unfold State.tauWrite
  extract_lets +onlyGivenNames x0
  have k1 : Kept q p x0 := by
    unfold x0
    apply State.rwlWrite_kept
    exact h2
  clear_value x0
  refine kept_ite ?_ ?_
  · exact k1
  · apply State.drtFill_kept
    exact k1

theorem execDraughtEnd_kept {q p} {a0} (h0 : Kept q p a0) : KeptRes q p (execDraughtEnd a0) := by
  unfold execDraughtEnd
  split
  · refine keptRes_next ?_
    refine kept_ite ?_ ?_
    · apply State.drtFinish_kept
      exact h0
    · exact h0
  · refine keptRes_next ?_
    exact h0

theorem execDraughtPoint_kept {q p} {a0 a1} (h1 : Kept q p a1) : KeptRes q p (execDraughtPoint a0 a1) := by
  unfold execDraughtPoint
  split
  · refine keptRes_next ?_
    exact h1
  · refine keptRes_ite ?_ ?_
    · refine keptRes_next ?_
      exact h1
    · extract_lets +onlyGivenNames x5
      clear_value x5
      extract_lets +onlyGivenNames x6
      clear_value x6
      extract_lets +onlyGivenNames x7
      have k8 : Kept q p x7 := by
        unfold x7
        refine kept_mk' (kept_comp ?_)
        exact h1
      clear_value x7
      refine keptRes_ite ?_ ?_
      · refine keptRes_next ?_
        apply State.report1_kept
        apply State.bump_kept
        apply State.orReg_kept
        exact k8
      · refine keptRes_next ?_
        apply State.drtApply_kept
        exact k8

theorem execDrtCommit_kept {q p} {a0 a1 a2} (h2 : Kept q p a2) : KeptRes q p (execDrtCommit a0 a1 a2) := by
  unfold execDrtCommit
  refine keptRes_next ?_
  apply State.baseWrite_kept
  · intro z0 k1
    apply State.drtCmd_kept
    exact k1
  · exact h2

theorem execDrtCountClear_kept {q p} {a0 a1 a2} (h2 : Kept q p a2) : KeptRes q p (execDrtCountClear a0 a1 a2) := by
  unfold execDrtCountClear
  refine keptRes_next ?_
  apply State.baseWrite_kept
  · intro z0 k1
    apply State.drtCmd_kept
    exact k1
  · exact h2

theorem execDrtInvalidate_kept {q p} {a0 a1 a2} (h2 : Kept q p a2) : KeptRes q p (execDrtInvalidate a0 a1 a2) := by
  unfold execDrtInvalidate
  refine keptRes_next ?_
  apply State.baseWrite_kept
  · intro z0 k1
    apply State.drtCmd_kept
    exact k1
  · exact h2

theorem execDrtTauWrite_kept {q p} {a0 a1 a2 a3} (h3 : Kept q p a3) : KeptRes q p (execDrtTauWrite a0 a1 a2 a3) := by
  unfold execDrtTauWrite
  refine keptRes_ite ?_ ?_
  · refine keptRes_next ?_
    apply State.baseWrite_kept
    · intro z0 k1
      apply State.tauWrite_kept
      exact k1
    · exact h3
  · refine keptRes_next ?_
    exact h3

end Sys2Proof.Machine
end

