-- ==== Sys2Proof/Laws/KeptRows.lean ====
section
/-! SUPPORT. `Kept` goes through every operation of the Bastes, Gusts, schedules, calibration and direct controls: one lemma per operation,
so that no proof about the queue, the part or the canonical form unfolds one. -/

namespace Sys2Proof.Machine

theorem State.basteBuild_kept {q p} {a0 a1 a2 a3 a4} (h4 : Kept q p a4) : Kept q p (State.basteBuild a0 a1 a2 a3 a4).2 := by
  unfold State.basteBuild
  extract_lets +onlyGivenNames x1
  clear_value x1
  extract_lets +onlyGivenNames x3
  clear_value x3
  extract_lets +onlyGivenNames x5
  clear_value x5
  extract_lets +onlyGivenNames x7
  clear_value x7
  extract_lets +onlyGivenNames x9
  clear_value x9
  extract_lets +onlyGivenNames x11
  clear_value x11
  extract_lets +onlyGivenNames x13
  clear_value x13
  extract_lets +onlyGivenNames x15
  have k16 : Kept q p x15.2 := by
    unfold x15
    apply State.drawNat_kept
    exact h4
  clear_value x15
  extract_lets +onlyGivenNames x18
  have k19 : Kept q p x18.2 := by
    unfold x18
    split
    · exact h4
    · exact k16
  clear_value x18
  extract_lets +onlyGivenNames x24
  have k25 : Kept q p x24 := by
    unfold x24
    exact k19
  clear_value x24
  extract_lets +onlyGivenNames x27
  clear_value x27
  extract_lets +onlyGivenNames x29
  have k30 : Kept q p x29.2 := by
    unfold x29
    split
    · exact k25
    · refine kept_ite_snd ?_ ?_
      · exact k25
      · refine kept_ite_snd ?_ ?_
        · refine kept_pair_snd ?_
          apply State.orReg_kept
          exact k25
        · extract_lets +onlyGivenNames x35
          have k36 : Kept q p x35.2 := by
            unfold x35
            apply State.drtCompute_kept
            exact k25
          clear_value x35
          refine kept_pair_snd ?_
          apply State.pmcEvent_kept
          exact k36
  clear_value x29
  exact k30

theorem State.takeBaste_kept {q p} {a0 a1 a2} (h2 : Kept q p a2) : Kept q p (State.takeBaste a0 a1 a2) := by
  induction a1 generalizing a2 with
  | zero => exact h2
  | succ n ih =>
    unfold State.takeBaste
    split
    · exact h2
    · refine kept_ite ?_ ?_
      · exact h2
      · split
        · apply ih
          apply State.refuse_kept
          apply State.setBastes_kept
          exact h2
        · extract_lets +onlyGivenNames x19
          clear_value x19
          refine kept_ite ?_ ?_
          · extract_lets +onlyGivenNames x20
            have k21 : Kept q p x20.2 := by
              unfold x20
              apply State.basteBuild_kept
              exact h2
            clear_value x20
            apply State.setBastes_kept
            apply State.setSlot_kept
            exact k21
          · extract_lets +onlyGivenNames x22
            have k23 : Kept q p x22.2 := by
              unfold x22
              apply State.route_kept
              exact h2
            clear_value x22
            refine kept_ite ?_ ?_
            · apply ih
              apply State.complete_kept
              apply State.setBastes_kept
              exact k23
            · extract_lets +onlyGivenNames x24
              have k25 : Kept q p x24.2 := by
                unfold x24
                apply State.basteBuild_kept
                exact k23
              clear_value x24
              apply State.setBastes_kept
              apply State.setSlot_kept
              exact k25

theorem State.basteDone_kept {q p} {a0 a1 a2 a3 a4} (h4 : Kept q p a4) : Kept q p (State.basteDone a0 a1 a2 a3 a4) := by
  unfold State.basteDone
  extract_lets +onlyGivenNames x0
  clear_value x0
  extract_lets +onlyGivenNames x1
  have k2 : Kept q p x1 := by
    unfold x1
    apply State.setSlot_kept
    apply State.setBastes_kept
    exact h4
  clear_value x1
  extract_lets +onlyGivenNames x3
  have k4 : Kept q p x3 := by
    unfold x3
    apply State.complete_kept
    exact k2
  clear_value x3
  apply State.takeBaste_kept
  apply State.pmcEvent_kept
  exact k4

theorem State.basteTake_kept {q p} {a0 a1 a2 a3} (h3 : Kept q p a3) : Kept q p (State.basteTake a0 a1 a2 a3) := by
  unfold State.basteTake
  refine kept_ite ?_ ?_
  · apply State.refuse_kept
    exact h3
  · extract_lets +onlyGivenNames x0
    clear_value x0
    apply State.takeBaste_kept
    apply State.setBastes_kept
    exact h3

theorem execBasteComplete_kept {q p} {a0 a1} (h1 : Kept q p a1) : KeptRes q p (execBasteComplete a0 a1) := by
  unfold execBasteComplete
  split
  · refine keptRes_next ?_
    exact h1
  · split
    · refine keptRes_next ?_
      exact h1
    · refine keptRes_next ?_
      refine kept_ite ?_ ?_
      · exact h1
      · apply State.basteDone_kept
        exact h1

theorem execMapBaste_kept {q p} {a0 a1 a2 a3} (h3 : Kept q p a3) : KeptRes q p (execMapBaste a0 a1 a2 a3) := by
  unfold execMapBaste
  refine keptRes_next ?_
  apply State.runDesc_kept
  · intro z0 k1
    apply State.basteTake_kept
    apply State.recReads_kept
    exact k1
  · exact h3

theorem State.dropReq_kept {q p} {a0 a1} (h1 : Kept q p a1) : Kept q p (State.dropReq a0 a1) := by
  unfold State.dropReq
  refine kept_mk' (kept_comp ?_)
  exact h1

theorem State.reopen_kept {q p} {a0} (h0 : Kept q p a0) : Kept q p (State.reopen a0) := by
  unfold State.reopen
  refine kept_ite ?_ ?_
  · apply State.requestBoundary_kept
    exact h0
  · exact h0

theorem State.endReq_kept {q p} {a0 a1 a2 a3 a4} (h4 : Kept q p a4) : Kept q p (State.endReq a0 a1 a2 a3 a4) := by
  unfold State.endReq
  extract_lets +onlyGivenNames x0
  have k1 : Kept q p x0 := by
    unfold x0
    apply State.dropReq_kept
    exact h4
  clear_value x0
  extract_lets +onlyGivenNames x2
  clear_value x2
  apply State.reopen_kept
  split
  · apply State.complete_kept
    exact k1
  · exact k1

theorem State.loadNext_kept {q p} {a0 a1} (h1 : Kept q p a1) : Kept q p (State.loadNext a0 a1) := by
  unfold State.loadNext
  apply State.onCells_kept
  exact h1

theorem State.unpre_kept {q p} {a0} (h0 : Kept q p a0) : Kept q p (State.unpre a0) := by
  unfold State.unpre
  apply State.clrReg_kept
  refine kept_mk' (kept_comp ?_)
  exact h0

theorem State.arm_kept {q p} {a0 a1} (h1 : Kept q p a1) : Kept q p (State.arm a0 a1) := by
  unfold State.arm
  extract_lets +onlyGivenNames x0
  clear_value x0
  extract_lets +onlyGivenNames x1
  clear_value x1
  extract_lets +onlyGivenNames x2
  clear_value x2
  extract_lets +onlyGivenNames x3
  have k4 : Kept q p x3 := by
    unfold x3
    apply State.unpre_kept
    exact h1
  clear_value x3
  extract_lets +onlyGivenNames x5
  clear_value x5
  refine kept_ite ?_ ?_
  · apply State.endReq_kept
    exact k4
  · refine kept_ite ?_ ?_
    · apply State.endReq_kept
      exact k4
    · apply State.setReg_kept
      apply State.loadNext_kept
      refine kept_mk' (kept_comp ?_)
      exact k4

theorem State.clearVres_kept {q p} {a0} (h0 : Kept q p a0) : Kept q p (State.clearVres a0) := by
  unfold State.clearVres
  refine kept_foldl ?_ ?_
  · intro z0 z1 k2
    apply State.setReg_kept
    exact k2
  · exact h0

theorem State.commit_kept {q p} {a0 a1} (h1 : Kept q p a1) : Kept q p (State.commit a0 a1) := by
  unfold State.commit
  extract_lets +onlyGivenNames x0
  clear_value x0
  extract_lets +onlyGivenNames x1
  have k2 : Kept q p x1 := by
    unfold x1
    refine kept_foldl ?_ ?_
    · intro z3 z4 k5
      apply State.flushQueue_kept
      exact k5
    · exact h1
  clear_value x1
  extract_lets +onlyGivenNames x6
  have k7 : Kept q p x6 := by
    unfold x6
    apply State.onCells_kept
    exact k2
  clear_value x6
  apply State.evalWhere_kept
  exact k7

theorem State.cutLull_kept {q p} {a0 a1} (h1 : Kept q p a1) : Kept q p (State.cutLull a0 a1) := by
  unfold State.cutLull
  split
  · exact h1
  · extract_lets +onlyGivenNames x5
    have k6 : Kept q p x5 := by
      unfold x5
      apply State.drtFinish_kept
      exact h1
    clear_value x5
    apply State.bump_kept
    apply State.clrReg_kept
    refine kept_mk' (kept_comp ?_)
    exact k6

theorem State.gustFinal_kept {q p} {a0 a1} (h1 : Kept q p a1) : Kept q p (State.gustFinal a0 a1) := by
  unfold State.gustFinal
  extract_lets +onlyGivenNames x0
  clear_value x0
  extract_lets +onlyGivenNames x1
  clear_value x1
  extract_lets +onlyGivenNames x2
  clear_value x2
  refine kept_mk' (kept_comp ?_)
  exact h1

theorem State.recordedVerdicts_kept {q p} {a0 a1} (h1 : Kept q p a1) : Kept q p (State.recordedVerdicts a0 a1) := by
  unfold State.recordedVerdicts
  refine kept_foldl ?_ ?_
  · intro z0 z1 k2
    apply State.setReg_kept
    exact k2
  · exact h1

theorem State.settleFail_kept {q p} {a0 a1} (h1 : Kept q p a1) : Kept q p (State.settleFail a0 a1) := by
  unfold State.settleFail
  extract_lets +onlyGivenNames x0
  clear_value x0
  extract_lets +onlyGivenNames x1
  clear_value x1
  extract_lets +onlyGivenNames x2
  clear_value x2
  extract_lets +onlyGivenNames x3
  clear_value x3
  extract_lets +onlyGivenNames x4
  have k5 : Kept q p x4 := by
    unfold x4
    apply State.bump_kept
    apply State.orReg_kept
    exact h1
  clear_value x4
  extract_lets +onlyGivenNames x6
  clear_value x6
  extract_lets +onlyGivenNames x7
  have k8 : Kept q p x7 := by
    unfold x7
    refine kept_foldl ?_ ?_
    · intro z9 z10 k11
      apply State.event_kept
      exact k11
    · exact k5
  clear_value x7
  extract_lets +onlyGivenNames x12
  clear_value x12
  extract_lets +onlyGivenNames x13
  clear_value x13
  extract_lets +onlyGivenNames x14
  have k15 : Kept q p x14 := by
    unfold x14
    refine kept_foldl ?_ ?_
    · intro z16 z17 k18
      extract_lets +onlyGivenNames x19
      clear_value x19
      refine kept_ite ?_ ?_
      · apply State.setLoopCell_kept
        exact k18
      · exact k18
    · exact k8
  clear_value x14
  refine kept_ite ?_ ?_
  · apply State.report1_kept
    exact k15
  · exact k15

theorem State.finishVerify_kept {q p} {a0} (h0 : Kept q p a0) : Kept q p (State.finishVerify a0) := by
  unfold State.finishVerify
  split
  · exact h0
  · extract_lets +onlyGivenNames x5
    clear_value x5
    extract_lets +onlyGivenNames x6
    clear_value x6
    extract_lets +onlyGivenNames x7
    have k8 : Kept q p x7 := by
      unfold x7
      refine kept_mk' (kept_comp ?_)
      exact h0
    clear_value x7
    extract_lets +onlyGivenNames x9
    have k10 : Kept q p x9 := by
      unfold x9
      refine kept_ite ?_ ?_
      · apply State.recordedVerdicts_kept
        exact k8
      · apply State.setField_kept
        exact k8
    clear_value x9
    extract_lets +onlyGivenNames x11
    have k12 : Kept q p x11 := by
      unfold x11
      apply State.gustFinal_kept
      refine kept_ite ?_ ?_
      · apply State.settleFail_kept
        exact k10
      · exact k10
    clear_value x11
    extract_lets +onlyGivenNames x13
    clear_value x13
    split
    · extract_lets +onlyGivenNames x20
      clear_value x20
      apply State.completeAt_kept
      exact k12
    · apply State.event_kept
      exact k12
    · refine kept_ite ?_ ?_
      · refine kept_mk' (kept_comp ?_)
        exact k12
      · exact k12
    · exact k12

theorem State.gustCapture_kept {q p} {a0 a1} (h1 : Kept q p a1) : Kept q p (State.gustCapture a0 a1) := by
  unfold State.gustCapture
  refine kept_ite ?_ ?_
  · exact h1
  · extract_lets +onlyGivenNames x0
    clear_value x0
    refine kept_ite ?_ ?_
    · refine kept_mk' (kept_comp ?_)
      exact h1
    · extract_lets +onlyGivenNames x1
      clear_value x1
      extract_lets +onlyGivenNames x2
      have k3 : Kept q p x2 := by
        unfold x2
        refine kept_mk' (kept_comp ?_)
        exact h1
      clear_value x2
      refine kept_ite ?_ ?_
      · apply State.bump_kept
        exact k3
      · extract_lets +onlyGivenNames x4
        clear_value x4
        refine kept_mk' (kept_comp ?_)
        exact k3

theorem State.gustCoupling_kept {q p} {a0 a1} (h1 : Kept q p a1) : Kept q p (State.gustCoupling a0 a1) := by
  unfold State.gustCoupling
  split
  · exact h1
  · extract_lets +onlyGivenNames x5
    clear_value x5
    refine kept_ite ?_ ?_
    · exact h1
    · apply State.orReg_kept
      refine kept_mk' (kept_comp ?_)
      exact h1

theorem State.gustLoops_kept {q p} {a0 a1} (h1 : Kept q p a1) : Kept q p (State.gustLoops a0 a1) := by
  unfold State.gustLoops
  extract_lets +onlyGivenNames x0
  clear_value x0
  extract_lets +onlyGivenNames x1
  have k2 : Kept q p x1 := by
    unfold x1
    refine kept_mk' (kept_comp ?_)
    exact h1
  clear_value x1
  refine kept_foldl ?_ ?_
  · intro z3 z4 k5
    refine kept_ite ?_ ?_
    · apply State.setDither_kept
      apply State.presetCell_kept
      apply State.squallMark_kept
      exact k5
    · exact k5
  · exact k2

theorem State.gustRecord_kept {q p} {a0 a1 a2 a3} (h3 : Kept q p a3) : Kept q p (State.gustRecord a0 a1 a2 a3) := by
  unfold State.gustRecord
  apply State.recAppend_kept
  exact h3

theorem State.noteTaken_kept {q p} {a0 a1 a2} (h2 : Kept q p a2) : Kept q p (State.noteTaken a0 a1 a2) := by
  unfold State.noteTaken
  extract_lets +onlyGivenNames x0
  clear_value x0
  extract_lets +onlyGivenNames x1
  have k2 : Kept q p x1 := by
    unfold x1
    apply State.setReg64_kept
    apply State.setReg_kept
    apply State.setReg_kept
    apply State.wrapInc_kept
    exact h2
  clear_value x1
  extract_lets +onlyGivenNames x3
  clear_value x3
  extract_lets +onlyGivenNames x4
  have k5 : Kept q p x4 := by
    unfold x4
    refine kept_mk' (kept_comp ?_)
    exact k2
  clear_value x4
  apply State.orReg_kept
  refine kept_ite ?_ ?_
  · apply State.orReg_kept
    exact k5
  · exact k5

theorem State.openLull_kept {q p} {a0 a1 a2} (h2 : Kept q p a2) : Kept q p (State.openLull a0 a1 a2) := by
  unfold State.openLull
  extract_lets +onlyGivenNames x0
  clear_value x0
  extract_lets +onlyGivenNames x1
  clear_value x1
  extract_lets +onlyGivenNames x2
  clear_value x2
  extract_lets +onlyGivenNames x3
  have k4 : Kept q p x3 := by
    unfold x3
    apply State.orReg_kept
    refine kept_mk' (kept_comp ?_)
    exact h2
  clear_value x3
  refine kept_ite ?_ ?_
  · apply State.drtApply_kept
    apply State.orReg_kept
    exact k4
  · exact k4

theorem State.pinFired_kept {q p} {a0 a1} (h1 : Kept q p a1) : Kept q p (State.pinFired a0 a1) := by
  unfold State.pinFired
  split
  · extract_lets +onlyGivenNames x3
    clear_value x3
    extract_lets +onlyGivenNames x4
    have k5 : Kept q p x4 := by
      unfold x4
      apply State.orReg_kept
      refine kept_mk' (kept_comp ?_)
      exact h1
    clear_value x4
    refine kept_ite ?_ ?_
    · apply State.schedStop_kept
      exact k5
    · exact k5
  · exact h1

theorem State.setVres_kept {q p} {a0 a1 a2} (h2 : Kept q p a2) : Kept q p (State.setVres a0 a1 a2) := by
  unfold State.setVres
  apply State.setField_kept
  exact h2

theorem State.startVerdicts_kept {q p} {a0 a1 a2 a3} (h3 : Kept q p a3) : Kept q p (State.startVerdicts a0 a1 a2 a3) := by
  unfold State.startVerdicts
  extract_lets +onlyGivenNames x0
  have k1 : Kept q p x0 := by
    unfold x0
    refine kept_foldl ?_ ?_
    · intro z2 z3 k4
      apply State.setVres_kept
      exact k4
    · apply State.clearVres_kept
      exact h3
  clear_value x0
  apply State.setReg_kept
  apply State.setReg_kept
  apply State.setReg_kept
  exact k1

theorem State.fireGust_kept {q p} {a0 a1} (h1 : Kept q p a1) : Kept q p (State.fireGust a0 a1) := by
  unfold State.fireGust
  extract_lets +onlyGivenNames x0
  clear_value x0
  extract_lets +onlyGivenNames x1
  clear_value x1
  extract_lets +onlyGivenNames x2
  clear_value x2
  extract_lets +onlyGivenNames x3
  clear_value x3
  extract_lets +onlyGivenNames x4
  clear_value x4
  extract_lets +onlyGivenNames x5
  clear_value x5
  extract_lets +onlyGivenNames x6
  clear_value x6
  extract_lets +onlyGivenNames x7
  have k8 : Kept q p x7 := by
    unfold x7
    apply State.cutLull_kept
    apply State.finishVerify_kept
    exact h1
  clear_value x7
  extract_lets +onlyGivenNames x9
  have k10 : Kept q p x9 := by
    unfold x9
    apply State.commit_kept
    apply State.startVerdicts_kept
    apply State.noteTaken_kept
    exact k8
  clear_value x9
  extract_lets +onlyGivenNames x11
  have k12 : Kept q p x11 := by
    unfold x11
    apply State.pinFired_kept
    apply State.gustCoupling_kept
    apply State.gustLoops_kept
    apply State.gustRecord_kept
    exact k10
  clear_value x11
  extract_lets +onlyGivenNames x13
  have k14 : Kept q p x13 := by
    unfold x13
    refine kept_ite ?_ ?_
    · apply State.bump_kept
      exact k12
    · exact k12
  clear_value x13
  extract_lets +onlyGivenNames x15
  clear_value x15
  extract_lets +onlyGivenNames x16
  clear_value x16
  extract_lets +onlyGivenNames x17
  clear_value x17
  extract_lets +onlyGivenNames x18
  have k19 : Kept q p x18 := by
    unfold x18
    refine kept_mk' (kept_comp ?_)
    exact k14
  clear_value x18
  extract_lets +onlyGivenNames x20
  have k21 : Kept q p x20 := by
    unfold x20
    apply State.toutFire_kept
    apply State.gustCapture_kept
    exact k19
  clear_value x20
  refine kept_ite ?_ ?_
  · apply State.openLull_kept
    exact k21
  · apply State.reopen_kept
    exact k21

theorem State.notTaken_kept {q p} {a0 a1} (h1 : Kept q p a1) : Kept q p (State.notTaken a0 a1) := by
  unfold State.notTaken
  extract_lets +onlyGivenNames x0
  clear_value x0
  extract_lets +onlyGivenNames x1
  clear_value x1
  extract_lets +onlyGivenNames x2
  clear_value x2
  extract_lets +onlyGivenNames x3
  have k4 : Kept q p x3 := by
    unfold x3
    refine kept_foldl ?_ ?_
    · intro z5 z6 k7
      refine kept_ite ?_ ?_
      · apply State.setVres_kept
        exact k7
      · exact k7
    · apply State.clearVres_kept
      exact h1
  clear_value x3
  apply State.bump_kept
  apply State.orReg_kept
  exact k4

theorem State.unarm_kept {q p} {a0} (h0 : Kept q p a0) : Kept q p (State.unarm a0) := by
  unfold State.unarm
  apply State.clrReg_kept
  refine kept_mk' (kept_comp ?_)
  exact h0

theorem State.fireDesc_kept {q p} {a0 a1 a2} (h2 : Kept q p a2) : Kept q p (State.fireDesc a0 a1 a2) := by
  unfold State.fireDesc
  extract_lets +onlyGivenNames x0
  clear_value x0
  refine kept_ite ?_ ?_
  · exact h2
  · split
    · extract_lets +onlyGivenNames x4
      clear_value x4
      extract_lets +onlyGivenNames x5
      have k6 : Kept q p x5 := by
        unfold x5
        apply State.unarm_kept
        exact h2
      clear_value x5
      refine kept_mk' (kept_comp ?_)
      exact k6
    · apply State.endReq_kept
      apply State.bump_kept
      apply State.unarm_kept
      exact h2
    · extract_lets +onlyGivenNames x11
      have k12 : Kept q p x11 := by
        unfold x11
        apply State.unarm_kept
        exact h2
      clear_value x11
      refine kept_ite ?_ ?_
      · apply State.endReq_kept
        exact k12
      · refine kept_ite ?_ ?_
        · apply State.endReq_kept
          apply State.notTaken_kept
          exact k12
        · apply State.fireGust_kept
          apply State.dropReq_kept
          exact k12

theorem State.pinMissed_kept {q p} {a0 a1 a2} (h2 : Kept q p a2) : Kept q p (State.pinMissed a0 a1 a2) := by
  unfold State.pinMissed
  apply State.event_kept
  apply State.orReg_kept
  apply State.orReg_kept
  exact h2

theorem State.firePin_kept {q p} {a0 a1 a2} (h2 : Kept q p a2) : Kept q p (State.firePin a0 a1 a2) := by
  unfold State.firePin
  refine kept_ite ?_ ?_
  · exact h2
  · extract_lets +onlyGivenNames x0
    have k1 : Kept q p x0 := by
      unfold x0
      apply State.unarm_kept
      exact h2
    clear_value x0
    refine kept_ite ?_ ?_
    · extract_lets +onlyGivenNames x2
      have k3 : Kept q p x2 := by
        unfold x2
        apply State.notTaken_kept
        exact k1
      clear_value x2
      refine kept_ite ?_ ?_
      · apply State.orReg_kept
        exact k3
      · apply State.pinMissed_kept
        exact k3
    · refine kept_ite ?_ ?_
      · apply State.orReg_kept
        apply State.orReg_kept
        exact k1
      · apply State.fireGust_kept
        exact k1

theorem State.judge_kept {q p} {a0 a1} (h1 : Kept q p a1) : Kept q p (State.judge a0 a1).2 := by
  unfold State.judge
  extract_lets +onlyGivenNames x1
  clear_value x1
  extract_lets +onlyGivenNames x3
  have k4 : Kept q p x3.2 := by
    unfold x3
    refine kept_foldl_snd ?_ ?_
    · intro z5 z6 k7
      refine kept_ite_snd ?_ ?_
      · extract_lets +onlyGivenNames x9
        clear_value x9
        refine kept_ite_snd ?_ ?_
        · exact k7
        · refine kept_pair_snd ?_
          apply State.setVres_kept
          exact k7
      · exact k7
    · exact h1
  clear_value x3
  extract_lets +onlyGivenNames x11
  clear_value x11
  extract_lets +onlyGivenNames x13
  clear_value x13
  extract_lets +onlyGivenNames x15
  have k16 : Kept q p x15 := by
    unfold x15
    apply State.setReg_kept
    apply State.setReg_kept
    exact k4
  clear_value x15
  exact k16

theorem State.lullEnd_kept {q p} {a0 a1} (h1 : Kept q p a1) : Kept q p (State.lullEnd a0 a1) := by
  unfold State.lullEnd
  extract_lets +onlyGivenNames x0
  have k1 : Kept q p x0 := by
    unfold x0
    apply State.drtFinish_kept
    exact h1
  clear_value x0
  extract_lets +onlyGivenNames x2
  clear_value x2
  extract_lets +onlyGivenNames x3
  have k4 : Kept q p x3 := by
    unfold x3
    split
    · apply State.refine_kept
      exact k1
    · exact k1
  clear_value x3
  extract_lets +onlyGivenNames x10
  clear_value x10
  extract_lets +onlyGivenNames x11
  have k12 : Kept q p x11 := by
    unfold x11
    apply State.clrReg_kept
    refine kept_mk' (kept_comp ?_)
    exact k4
  clear_value x11
  extract_lets +onlyGivenNames x13
  have k14 : Kept q p x13 := by
    unfold x13
    apply State.event_kept
    exact k12
  clear_value x13
  refine kept_ite ?_ ?_
  · exact k14
  · apply State.handOver_kept
    apply State.spBoundary_kept
    apply State.calBoundary_kept
    exact k14

theorem State.startPre_kept {q p} {a0 a1} (h1 : Kept q p a1) : Kept q p (State.startPre a0 a1) := by
  unfold State.startPre
  extract_lets +onlyGivenNames x0
  have k1 : Kept q p x0 := by
    unfold x0
    apply State.unpre_kept
    apply State.unarm_kept
    exact h1
  clear_value x0
  extract_lets +onlyGivenNames x2
  have k3 : Kept q p x2.2 := by
    unfold x2
    apply State.formTnow_kept
    exact k1
  clear_value x2
  apply State.orReg_kept
  extract_lets +onlyGivenNames x4
  have k5 : Kept q p x4 := by
    unfold x4
    exact k3
  clear_value x4
  refine kept_mk' (kept_comp ?_)
  exact k5

theorem State.startDesc_kept {q p} {a0 a1} (h1 : Kept q p a1) : Kept q p (State.startDesc a0 a1) := by
  unfold State.startDesc
  split
  · extract_lets +onlyGivenNames x3
    clear_value x3
    extract_lets +onlyGivenNames x4
    clear_value x4
    extract_lets +onlyGivenNames x5
    clear_value x5
    refine kept_ite ?_ ?_
    · apply State.startPre_kept
      refine kept_mk' (kept_comp ?_)
      exact h1
    · extract_lets +onlyGivenNames x6
      have k7 : Kept q p x6 := by
        unfold x6
        apply State.orReg_kept
        exact h1
      clear_value x6
      refine kept_ite ?_ ?_
      · extract_lets +onlyGivenNames x8
        clear_value x8
        apply State.startPre_kept
        refine kept_mk' (kept_comp ?_)
        exact k7
      · apply State.endReq_kept
        exact k7
  · exact h1

theorem State.takeLatched_kept {q p} {a0} (h0 : Kept q p a0) : Kept q p (State.takeLatched a0) := by
  unfold State.takeLatched
  refine kept_ite ?_ ?_
  · exact h0
  · refine kept_foldl ?_ ?_
    · intro z0 z1 k2
      refine kept_ite ?_ ?_
      · extract_lets +onlyGivenNames x3
        clear_value x3
        extract_lets +onlyGivenNames x4
        clear_value x4
        apply State.clrReg_kept
        refine kept_mk' (kept_comp ?_)
        exact k2
      · exact k2
    · exact h0

theorem State.preloadNext_kept {q p} {a0} (h0 : Kept q p a0) : Kept q p (State.preloadNext a0) := by
  unfold State.preloadNext
  extract_lets +onlyGivenNames x0
  have k1 : Kept q p x0 := by
    unfold x0
    apply State.takeLatched_kept
    exact h0
  clear_value x0
  extract_lets +onlyGivenNames x2
  clear_value x2
  split
  · refine kept_ite ?_ ?_
    · apply State.startPre_kept
      refine kept_mk' (kept_comp ?_)
      exact k1
    · exact k1
  · split
    · apply State.startPre_kept
      exact k1
    · split
      · apply State.startDesc_kept
        exact k1
      · split
        · apply State.startPre_kept
          exact k1
        · exact k1

theorem execGust_kept {q p} {a0 a1} (h1 : Kept q p a1) : KeptRes q p (execGust a0 a1) := by
  unfold execGust
  refine keptRes_next ?_
  apply State.runDesc_kept
  · intro z0 k1
    extract_lets +onlyGivenNames x2
    clear_value x2
    refine kept_ite ?_ ?_
    · apply State.refuse_kept
      exact k1
    · refine kept_ite ?_ ?_
      · apply State.refuse_kept
        exact k1
      · extract_lets +onlyGivenNames x3
        clear_value x3
        refine kept_mk' (kept_comp ?_)
        exact k1
  · exact h1

theorem execGustArmed_kept {q p} {a0} (h0 : Kept q p a0) : KeptRes q p (execGustArmed a0) := by
  unfold execGustArmed
  split
  · refine keptRes_next ?_
    apply State.arm_kept
    exact h0
  · refine keptRes_next ?_
    exact h0

theorem execGustCountClear_kept {q p} {a0 a1 a2} (h2 : Kept q p a2) : KeptRes q p (execGustCountClear a0 a1 a2) := by
  unfold execGustCountClear
  refine keptRes_next ?_
  apply State.baseWrite_kept
  · intro z0 k1
    apply State.setReg_kept
    apply State.setReg_kept
    exact k1
  · exact h2

theorem execGustPreloadStart_kept {q p} {a0} (h0 : Kept q p a0) : KeptRes q p (execGustPreloadStart a0) := by
  unfold execGustPreloadStart
  refine keptRes_next ?_
  refine kept_ite ?_ ?_
  · exact h0
  · apply State.preloadNext_kept
    exact h0

theorem execGustReverify_kept {q p} {a0} (h0 : Kept q p a0) : KeptRes q p (execGustReverify a0) := by
  unfold execGustReverify
  split
  · refine keptRes_next ?_
    exact h0
  · refine keptRes_ite ?_ ?_
    · refine keptRes_next ?_
      exact h0
    · extract_lets +onlyGivenNames x5
      have k6 : Kept q p x5.2 := by
        unfold x5
        apply State.judge_kept
        exact h0
      clear_value x5
      extract_lets +onlyGivenNames x7
      have k8 : Kept q p x7 := by
        unfold x7
        exact k6
      clear_value x7
      extract_lets +onlyGivenNames x9
      clear_value x9
      extract_lets +onlyGivenNames x10
      clear_value x10
      extract_lets +onlyGivenNames x11
      have k12 : Kept q p x11 := by
        unfold x11
        refine kept_mk' (kept_comp ?_)
        exact k8
      clear_value x11
      refine keptRes_next ?_
      refine kept_ite ?_ ?_
      · apply State.finishVerify_kept
        exact k12
      · exact k12

theorem execGustTrigger_kept {q p} {a0} (h0 : Kept q p a0) : KeptRes q p (execGustTrigger a0) := by
  unfold execGustTrigger
  extract_lets +onlyGivenNames x0
  have k1 : Kept q p x0 := by
    unfold x0
    apply State.takeLatched_kept
    exact h0
  clear_value x0
  refine keptRes_ite ?_ ?_
  · refine keptRes_next ?_
    exact h0
  · split
    · refine keptRes_next ?_
      exact k1
    · split
      · refine keptRes_next ?_
        apply State.fireDesc_kept
        exact k1
      · refine keptRes_next ?_
        apply State.firePin_kept
        exact k1
      · refine keptRes_next ?_
        exact k1

theorem execGustVerify_kept {q p} {a0} (h0 : Kept q p a0) : KeptRes q p (execGustVerify a0) := by
  unfold execGustVerify
  split
  · refine keptRes_next ?_
    exact h0
  · refine keptRes_ite ?_ ?_
    · refine keptRes_next ?_
      exact h0
    · refine keptRes_ite ?_ ?_
      · refine keptRes_next ?_
        apply State.finishVerify_kept
        exact h0
      · extract_lets +onlyGivenNames x5
        have k6 : Kept q p x5.2 := by
          unfold x5
          apply State.judge_kept
          exact h0
        clear_value x5
        extract_lets +onlyGivenNames x7
        have k8 : Kept q p x7 := by
          unfold x7
          exact k6
        clear_value x7
        extract_lets +onlyGivenNames x9
        clear_value x9
        extract_lets +onlyGivenNames x10
        clear_value x10
        extract_lets +onlyGivenNames x11
        have k12 : Kept q p x11 := by
          unfold x11
          refine kept_mk' (kept_comp ?_)
          exact k8
        clear_value x11
        refine keptRes_next ?_
        refine kept_ite ?_ ?_
        · apply State.finishVerify_kept
          exact k12
        · exact k12

theorem execLullEnd_kept {q p} {a0} (h0 : Kept q p a0) : KeptRes q p (execLullEnd a0) := by
  unfold execLullEnd
  split
  · refine keptRes_next ?_
    refine kept_ite ?_ ?_
    · apply State.lullEnd_kept
      exact h0
    · exact h0
  · refine keptRes_next ?_
    exact h0

theorem execTrigInEdge_kept {q p} {a0 a1 a2} (h2 : Kept q p a2) : KeptRes q p (execTrigInEdge a0 a1 a2) := by
  unfold execTrigInEdge
  extract_lets +onlyGivenNames x0
  clear_value x0
  refine keptRes_ite ?_ ?_
  · refine keptRes_next ?_
    exact h2
  · extract_lets +onlyGivenNames x1
    clear_value x1
    extract_lets +onlyGivenNames x2
    clear_value x2
    extract_lets +onlyGivenNames x3
    clear_value x3
    extract_lets +onlyGivenNames x4
    have k5 : Kept q p x4 := by
      unfold x4
      apply State.recAppend_kept
      exact h2
    clear_value x4
    refine keptRes_ite ?_ ?_
    · refine keptRes_next ?_
      apply State.pinMissed_kept
      exact k5
    · extract_lets +onlyGivenNames x6
      clear_value x6
      extract_lets +onlyGivenNames x7
      clear_value x7
      extract_lets +onlyGivenNames x8
      clear_value x8
      extract_lets +onlyGivenNames x9
      clear_value x9
      refine keptRes_ite ?_ ?_
      · refine keptRes_next ?_
        refine kept_mk' (kept_comp ?_)
        exact k5
      · refine keptRes_next ?_
        refine kept_mk' (kept_comp ?_)
        exact k5

theorem State.schAdvance_kept {q p} {a0 a1 a2} (h2 : Kept q p a2) : Kept q p (State.schAdvance a0 a1 a2) := by
  unfold State.schAdvance
  extract_lets +onlyGivenNames x0
  clear_value x0
  apply State.setField_kept
  refine kept_mk' (kept_comp ?_)
  exact h2

theorem State.showActive_kept {q p} {a0 a1} (h1 : Kept q p a1) : Kept q p (State.showActive a0 a1) := by
  unfold State.showActive
  extract_lets +onlyGivenNames x0
  have k1 : Kept q p x0 := by
    unfold x0
    refine kept_foldl ?_ ?_
    · intro z2 z3 k4
      apply State.setReg_kept
      apply State.setReg_kept
      exact k4
    · exact h1
  clear_value x0
  apply State.setReg_kept
  apply State.setReg_kept
  apply State.setReg_kept
  apply State.showStart_kept
  exact k1

theorem State.schBegin_kept {q p} {a0 a1} (h1 : Kept q p a1) : Kept q p (State.schBegin a0 a1) := by
  unfold State.schBegin
  extract_lets +onlyGivenNames x0
  have k1 : Kept q p x0 := by
    unfold x0
    apply State.dropSchedPre_kept
    apply State.flushSkips_kept
    exact h1
  clear_value x0
  extract_lets +onlyGivenNames x2
  clear_value x2
  extract_lets +onlyGivenNames x3
  have k4 : Kept q p x3 := by
    unfold x3
    refine kept_foldl ?_ ?_
    · intro z5 z6 k7
      apply State.complete_kept
      exact k7
    · exact k1
  clear_value x3
  extract_lets +onlyGivenNames x8
  clear_value x8
  extract_lets +onlyGivenNames x9
  have k10 : Kept q p x9 := by
    unfold x9
    refine kept_mk' (kept_comp ?_)
    exact k4
  clear_value x9
  apply State.startedEvent_kept
  apply State.showActive_kept
  apply State.orReg_kept
  apply State.clrReg_kept
  exact k10

theorem State.schCancel_kept {q p} {a0} (h0 : Kept q p a0) : Kept q p (State.schCancel a0) := by
  unfold State.schCancel
  apply State.clrReg_kept
  refine kept_mk' (kept_comp ?_)
  exact h0

theorem State.schCommit_kept {q p} {a0 a1 a2 a3} (h3 : Kept q p a3) : Kept q p (State.schCommit a0 a1 a2 a3) := by
  unfold State.schCommit
  split
  · extract_lets +onlyGivenNames x3
    have k4 : Kept q p x3 := by
      unfold x3
      apply State.orReg_kept
      exact h3
    clear_value x3
    apply State.completeOpt_kept
    exact k4
  · apply State.completeOpt_kept
    apply State.orReg_kept
    refine kept_mk' (kept_comp ?_)
    exact h3

theorem State.schStop_kept {q p} {a0 a1 a2} (h2 : Kept q p a2) : Kept q p (State.schStop a0 a1 a2) := by
  unfold State.schStop
  refine kept_ite ?_ ?_
  · apply State.completeOpt_kept
    exact h2
  · apply State.schedStop_kept
    refine kept_mk' (kept_comp ?_)
    exact h2

theorem State.schStopAtEnd_kept {q p} {a0 a1 a2} (h2 : Kept q p a2) : Kept q p (State.schStopAtEnd a0 a1 a2) := by
  unfold State.schStopAtEnd
  refine kept_ite ?_ ?_
  · apply State.completeOpt_kept
    exact h2
  · refine kept_mk' (kept_comp ?_)
    exact h2

theorem State.schCtrl_kept {q p} {a0 a1} (h1 : Kept q p a1) : Kept q p (State.schCtrl a0 a1) := by
  unfold State.schCtrl
  extract_lets +onlyGivenNames x0
  have k1 : Kept q p x0 := by
    unfold x0
    refine kept_ite ?_ ?_
    · apply State.schCancel_kept
      exact h1
    · exact h1
  clear_value x0
  extract_lets +onlyGivenNames x2
  have k3 : Kept q p x2 := by
    unfold x2
    refine kept_ite ?_ ?_
    · apply State.schCommit_kept
      exact k1
    · exact k1
  clear_value x2
  extract_lets +onlyGivenNames x4
  have k5 : Kept q p x4 := by
    unfold x4
    refine kept_ite ?_ ?_
    · apply State.schStop_kept
      exact k3
    · exact k3
  clear_value x4
  refine kept_ite ?_ ?_
  · apply State.schStopAtEnd_kept
    exact k5
  · exact k5

theorem State.schSkip_kept {q p} {a0 a1 a2 a3} (h3 : Kept q p a3) : Kept q p (State.schSkip a0 a1 a2 a3) := by
  unfold State.schSkip
  extract_lets +onlyGivenNames x0
  have k1 : Kept q p x0 := by
    unfold x0
    apply State.dropSchedPre_kept
    exact h3
  clear_value x0
  extract_lets +onlyGivenNames x2
  have k3 : Kept q p x2 := by
    unfold x2
    split
    · apply State.bump_kept
      exact k1
    · apply State.bump_kept
      exact k1
    · apply State.bump_kept
      apply State.bump_kept
      exact k1
  clear_value x2
  extract_lets +onlyGivenNames x9
  clear_value x9
  apply State.recEvent_kept
  apply State.orReg_kept
  refine kept_mk' (kept_comp ?_)
  exact k3

theorem State.schFire_kept {q p} {a0 a1 a2} (h2 : Kept q p a2) : Kept q p (State.schFire a0 a1 a2) := by
  unfold State.schFire
  extract_lets +onlyGivenNames x0
  have k1 : Kept q p x0 := by
    unfold x0
    apply State.schAdvance_kept
    exact h2
  clear_value x0
  split
  · refine kept_ite ?_ ?_
    · refine kept_ite ?_ ?_
      · apply State.schSkip_kept
        exact k1
      · refine kept_ite ?_ ?_
        · apply State.schSkip_kept
          exact k1
        · apply State.fireGust_kept
          apply State.unarm_kept
          exact k1
    · apply State.schSkip_kept
      exact k1
  · apply State.schSkip_kept
    exact k1

theorem State.schEdge_kept {q p} {a0 a1 a2} (h2 : Kept q p a2) : Kept q p (State.schEdge a0 a1 a2) := by
  unfold State.schEdge
  refine kept_ite ?_ ?_
  · extract_lets +onlyGivenNames x0
    have k1 : Kept q p x0 := by
      unfold x0
      apply State.flushSkips_kept
      exact h2
    clear_value x0
    refine kept_ite ?_ ?_
    · apply State.schedStop_kept
      exact k1
    · extract_lets +onlyGivenNames x2
      clear_value x2
      apply State.schFire_kept
      apply State.toutFire_kept
      apply State.setReg_kept
      exact k1
  · apply State.schFire_kept
    exact h2

theorem State.schedAct_kept {q p} {a0 a1 a2 a3} (h3 : Kept q p a3) : Kept q p (State.schedAct a0 a1 a2 a3) := by
  unfold State.schedAct
  split
  · apply State.schCommit_kept
    exact h3
  · apply State.schStop_kept
    exact h3
  · apply State.schStopAtEnd_kept
    exact h3
  · apply State.complete_kept
    apply State.schCancel_kept
    exact h3

theorem State.schedDesc_kept {q p} {a0 a1 a2} (h2 : Kept q p a2) : Kept q p (State.schedDesc a0 a1 a2) := by
  unfold State.schedDesc
  apply State.runDesc_kept
  · intro z0 k1
    refine kept_ite ?_ ?_
    · apply State.refuse_kept
      exact k1
    · apply State.timed_kept
      · intro z2 z3 k4
        apply State.schedAct_kept
        exact k4
      · exact k1
  · exact h2

theorem execSchedCancel_kept {q p} {a0 a1} (h1 : Kept q p a1) : KeptRes q p (execSchedCancel a0 a1) := by
  unfold execSchedCancel
  split
  · refine keptRes_next ?_
    apply State.baseWrite_kept
    · intro z3 k4
      apply State.schCtrl_kept
      exact k4
    · exact h1
  · refine keptRes_next ?_
    apply State.schedDesc_kept
    exact h1

theorem execSchedCommit_kept {q p} {a0 a1} (h1 : Kept q p a1) : KeptRes q p (execSchedCommit a0 a1) := by
  unfold execSchedCommit
  split
  · refine keptRes_next ?_
    apply State.baseWrite_kept
    · intro z3 k4
      apply State.schCtrl_kept
      exact k4
    · exact h1
  · refine keptRes_next ?_
    apply State.schedDesc_kept
    exact h1

theorem execSchedLoad_kept {q p} {a0 a1 a2} (h2 : Kept q p a2) : KeptRes q p (execSchedLoad a0 a1 a2) := by
  unfold execSchedLoad
  refine keptRes_next ?_
  apply State.runDesc_kept
  · intro z0 k1
    extract_lets +onlyGivenNames x2
    have k3 : Kept q p x2 := by
      unfold x2
      apply State.recReads_kept
      exact k1
    clear_value x2
    extract_lets +onlyGivenNames x4
    clear_value x4
    refine kept_ite ?_ ?_
    · apply State.refuse_kept
      exact k3
    · refine kept_ite ?_ ?_
      · apply State.refuse_kept
        exact k3
      · split
        · apply State.refuse_kept
          exact k3
        · extract_lets +onlyGivenNames x9
          clear_value x9
          refine kept_ite ?_ ?_
          · apply State.refuse_kept
            exact k3
          · extract_lets +onlyGivenNames x10
            have k11 : Kept q p x10 := by
              unfold x10
              refine kept_foldl ?_ ?_
              · intro z12 z13 k14
                apply State.setReg_kept
                apply State.setReg_kept
                exact k14
              · exact k3
            clear_value x10
            extract_lets +onlyGivenNames x15
            have k16 : Kept q p x15 := by
              unfold x15
              apply State.setReg_kept
              apply State.setReg_kept
              apply State.setReg_kept
              apply State.setReg_kept
              exact k11
            clear_value x15
            refine kept_ite ?_ ?_
            · apply State.schCommit_kept
              exact k16
            · apply State.complete_kept
              exact k16
  · exact h2

theorem execSchedStart_kept {q p} {a0} (h0 : Kept q p a0) : KeptRes q p (execSchedStart a0) := by
  unfold execSchedStart
  split
  · refine keptRes_next ?_
    refine kept_ite ?_ ?_
    · apply State.schBegin_kept
      exact h0
    · exact h0
  · refine keptRes_next ?_
    exact h0

theorem execSchedStop_kept {q p} {a0 a1} (h1 : Kept q p a1) : KeptRes q p (execSchedStop a0 a1) := by
  unfold execSchedStop
  split
  · refine keptRes_next ?_
    apply State.baseWrite_kept
    · intro z3 k4
      apply State.schCtrl_kept
      exact k4
    · exact h1
  · refine keptRes_next ?_
    apply State.schedDesc_kept
    exact h1

theorem execSchedStopAtEnd_kept {q p} {a0 a1} (h1 : Kept q p a1) : KeptRes q p (execSchedStopAtEnd a0 a1) := by
  unfold execSchedStopAtEnd
  split
  · refine keptRes_next ?_
    apply State.baseWrite_kept
    · intro z3 k4
      apply State.schCtrl_kept
      exact k4
    · exact h1
  · refine keptRes_next ?_
    apply State.schedDesc_kept
    exact h1

theorem execScheduleEdge_kept {q p} {a0} (h0 : Kept q p a0) : KeptRes q p (execScheduleEdge a0) := by
  unfold execScheduleEdge
  split
  · refine keptRes_next ?_
    exact h0
  · split
    · refine keptRes_next ?_
      refine kept_ite ?_ ?_
      · apply State.schEdge_kept
        exact h0
      · exact h0
    · refine keptRes_next ?_
      exact h0

theorem State.hashStart_kept {q p} {a0} (h0 : Kept q p a0) : Kept q p (State.hashStart a0) := by
  unfold State.hashStart
  refine kept_ite ?_ ?_
  · exact h0
  · refine kept_mk' (kept_comp ?_)
    exact h0

theorem State.seqOff_kept {q p} {a0} (h0 : Kept q p a0) : Kept q p (State.seqOff a0) := by
  unfold State.seqOff
  apply State.clrReg_kept
  apply State.orReg_kept
  apply State.clrReg_kept
  exact h0

theorem State.tableEnd_kept {q p} {a0 a1} (h1 : Kept q p a1) : Kept q p (State.tableEnd a0 a1) := by
  unfold State.tableEnd
  extract_lets +onlyGivenNames x0
  clear_value x0
  extract_lets +onlyGivenNames x1
  have k2 : Kept q p x1 := by
    unfold x1
    refine kept_mk' (kept_comp ?_)
    exact h1
  clear_value x1
  extract_lets +onlyGivenNames x3
  have k4 : Kept q p x3 := by
    unfold x3
    refine kept_foldl ?_ ?_
    · intro z5 z6 k7
      apply State.restoreMode_kept
      exact k7
    · apply State.clrReg_kept
      apply State.seqOff_kept
      exact k2
  clear_value x3
  apply State.complete_kept
  exact k4

theorem State.seqStop_kept {q p} {a0} (h0 : Kept q p a0) : Kept q p (State.seqStop a0) := by
  unfold State.seqStop
  split
  · refine kept_ite ?_ ?_
    · apply State.tableEnd_kept
      exact h0
    · apply State.abortChar_kept
      exact h0
  · apply State.abortChar_kept
    exact h0

theorem State.calCmd_kept {q p} {a0 a1} (h1 : Kept q p a1) : Kept q p (State.calCmd a0 a1) := by
  unfold State.calCmd
  extract_lets +onlyGivenNames x0
  clear_value x0
  extract_lets +onlyGivenNames x1
  have k2 : Kept q p x1 := by
    unfold x1
    refine kept_ite ?_ ?_
    · refine kept_mk' (kept_comp ?_)
      exact h1
    · exact h1
  clear_value x1
  extract_lets +onlyGivenNames x3
  have k4 : Kept q p x3 := by
    unfold x3
    refine kept_ite ?_ ?_
    · apply State.abortCal_kept
      exact k2
    · exact k2
  clear_value x3
  extract_lets +onlyGivenNames x5
  have k6 : Kept q p x5 := by
    unfold x5
    refine kept_ite ?_ ?_
    · apply State.seqStop_kept
      exact k4
    · exact k4
  clear_value x5
  refine kept_ite ?_ ?_
  · apply State.hashStart_kept
    exact k6
  · exact k6

theorem State.spareMarks_kept {q p} {a0 a1} (h1 : Kept q p a1) : Kept q p (State.spareMarks a0 a1) := by
  unfold State.spareMarks
  refine kept_foldl ?_ ?_
  · intro z0 z1 k2
    extract_lets +onlyGivenNames x3
    clear_value x3
    refine kept_ite ?_ ?_
    · apply State.clrReg_kept
      exact k2
    · apply State.orReg_kept
      exact k2
  · exact h1

theorem State.tileOutcome_kept {q p} {a0 a1 a2} (h1 : Kept q p a1) : Kept q p (State.tileOutcome a0 a1 a2) := by
  unfold State.tileOutcome
  extract_lets +onlyGivenNames x0
  clear_value x0
  extract_lets +onlyGivenNames x1
  clear_value x1
  extract_lets +onlyGivenNames x2
  clear_value x2
  apply State.setField_kept
  apply State.setField_kept
  exact h1

theorem State.calEnd_kept {q p} {a0 a1 a2} (h2 : Kept q p a2) : Kept q p (State.calEnd a0 a1 a2) := by
  unfold State.calEnd
  extract_lets +onlyGivenNames x0
  clear_value x0
  extract_lets +onlyGivenNames x1
  clear_value x1
  extract_lets +onlyGivenNames x2
  have k3 : Kept q p x2 := by
    unfold x2
    refine kept_mk' (kept_comp ?_)
    exact h2
  clear_value x2
  extract_lets +onlyGivenNames x4
  have k5 : Kept q p x4 := by
    unfold x4
    apply State.setReg_kept
    apply State.setReg_kept
    apply State.setReg_kept
    exact k3
  clear_value x4
  extract_lets +onlyGivenNames x6
  have k7 : Kept q p x6 := by
    unfold x6
    refine kept_ite ?_ ?_
    · exact k5
    · apply State.setReg_kept
      apply State.setReg_kept
      exact k5
  clear_value x6
  extract_lets +onlyGivenNames x8
  have k9 : Kept q p x8 := by
    unfold x8
    apply State.spareMarks_kept
    refine kept_foldl ?_ ?_
    · intro z10 z11 k12
      apply State.tileOutcome_kept
      exact k12
    · exact k7
  clear_value x8
  extract_lets +onlyGivenNames x13
  clear_value x13
  extract_lets +onlyGivenNames x14
  have k15 : Kept q p x14 := by
    unfold x14
    apply State.clrReg_kept
    apply State.orReg_kept
    apply State.clrReg_kept
    exact k9
  clear_value x14
  extract_lets +onlyGivenNames x16
  have k17 : Kept q p x16 := by
    unfold x16
    refine kept_ite ?_ ?_
    · exact k15
    · apply State.makePending_kept
      exact k15
  clear_value x16
  apply State.complete_kept
  exact k17

theorem State.calStart_kept {q p} {a0 a1} (h1 : Kept q p a1) : Kept q p (State.calStart a0 a1) := by
  unfold State.calStart
  refine kept_ite ?_ ?_
  · apply State.refuse_kept
    exact h1
  · refine kept_ite ?_ ?_
    · apply State.refuse_kept
      exact h1
    · refine kept_ite ?_ ?_
      · apply State.refuse_kept
        exact h1
      · extract_lets +onlyGivenNames x0
        clear_value x0
        extract_lets +onlyGivenNames x1
        clear_value x1
        extract_lets +onlyGivenNames x2
        have k3 : Kept q p x2 := by
          unfold x2
          refine kept_mk' (kept_comp ?_)
          exact h1
        clear_value x2
        extract_lets +onlyGivenNames x4
        have k5 : Kept q p x4 := by
          unfold x4
          refine kept_foldl ?_ ?_
          · intro z6 z7 k8
            apply State.injPreempt_kept
            apply State.setField_kept
            exact k8
          · exact k3
        clear_value x4
        extract_lets +onlyGivenNames x9
        have k10 : Kept q p x9 := by
          unfold x9
          apply State.orReg_kept
          apply State.setField_kept
          exact k5
        clear_value x9
        refine kept_ite ?_ ?_
        · apply State.orReg_kept
          exact k10
        · exact k10

theorem State.charGate_kept {q p} {a0 a1 a2 a3} (h2 : ∀ x0, Kept q p x0 → Kept q p (a2 x0)) (h3 : Kept q p a3) : Kept q p (State.charGate a0 a1 a2 a3) := by
  unfold State.charGate
  refine kept_ite ?_ ?_
  · apply State.refuse_kept
    exact h3
  · refine kept_ite ?_ ?_
    · apply State.refuse_kept
      exact h3
    · refine kept_ite ?_ ?_
      · apply State.refuse_kept
        exact h3
      · apply h2
        exact h3

theorem State.coupOne_kept {q p} {a0 a1 a2} (h1 : Kept q p a1.1) : Kept q p (State.coupOne a0 a1 a2).1 := by
  unfold State.coupOne
  extract_lets +onlyGivenNames x1
  have k2 : Kept q p x1 := by
    unfold x1
    exact h1
  clear_value x1
  extract_lets +onlyGivenNames x4
  clear_value x4
  refine kept_ite_fst ?_ ?_
  · exact h1
  · extract_lets +onlyGivenNames x6
    clear_value x6
    extract_lets +onlyGivenNames x8
    clear_value x8
    extract_lets +onlyGivenNames x10
    clear_value x10
    refine kept_ite_fst ?_ ?_
    · exact k2
    · refine kept_ite_fst ?_ ?_
      · exact k2
      · extract_lets +onlyGivenNames x12
        clear_value x12
        extract_lets +onlyGivenNames x14
        clear_value x14
        extract_lets +onlyGivenNames x16
        clear_value x16
        extract_lets +onlyGivenNames x18
        clear_value x18
        split
        · refine kept_ite_fst ?_ ?_
          · exact k2
          · extract_lets +onlyGivenNames x29
            clear_value x29
            refine kept_pair_fst ?_
            refine kept_foldl ?_ ?_
            · intro z30 z31 k32
              apply State.setCoeff_kept
              exact k32
            · exact k2
        · exact k2

theorem State.coupEnd_kept {q p} {a0 a1 a2} (h2 : Kept q p a2) : Kept q p (State.coupEnd a0 a1 a2) := by
  unfold State.coupEnd
  extract_lets +onlyGivenNames x0
  have k1 : Kept q p x0.1 := by
    unfold x0
    refine kept_foldl_fst ?_ ?_
    · intro z2 z3 k4
      apply State.coupOne_kept
      exact k4
    · exact h2
  clear_value x0
  extract_lets +onlyGivenNames x5
  clear_value x5
  extract_lets +onlyGivenNames x6
  have k7 : Kept q p x6 := by
    unfold x6
    exact k1
  clear_value x6
  extract_lets +onlyGivenNames x8
  clear_value x8
  extract_lets +onlyGivenNames x9
  have k10 : Kept q p x9 := by
    unfold x9
    refine kept_mk' (kept_comp ?_)
    exact k7
  clear_value x9
  extract_lets +onlyGivenNames x11
  have k12 : Kept q p x11 := by
    unfold x11
    refine kept_foldl ?_ ?_
    · intro z13 z14 k15
      apply State.restoreMode_kept
      exact k15
    · apply State.seqOff_kept
      exact k10
  clear_value x11
  extract_lets +onlyGivenNames x16
  have k17 : Kept q p x16 := by
    unfold x16
    apply State.orReg_kept
    apply State.clrReg_kept
    exact k12
  clear_value x16
  extract_lets +onlyGivenNames x18
  have k19 : Kept q p x18 := by
    unfold x18
    apply State.setReg_kept
    apply State.setReg_kept
    exact k17
  clear_value x18
  extract_lets +onlyGivenNames x20
  have k21 : Kept q p x20 := by
    unfold x20
    refine kept_ite ?_ ?_
    · exact k19
    · apply State.orReg_kept
      apply State.wrapInc_kept
      exact k19
  clear_value x20
  apply State.complete_kept
  exact k21

theorem State.holdCell_kept {q p} {a0 a1} (h0 : Kept q p a0) : Kept q p (State.holdCell a0 a1) := by
  unfold State.holdCell
  extract_lets +onlyGivenNames x0
  clear_value x0
  refine kept_ite ?_ ?_
  · apply State.setDither_kept
    apply State.setLoopCell_kept
    exact h0
  · exact h0

theorem State.seqOn_kept {q p} {a0 a1} (h1 : Kept q p a1) : Kept q p (State.seqOn a0 a1) := by
  unfold State.seqOn
  apply State.orReg_kept
  apply State.setReg_kept
  apply State.orReg_kept
  apply State.setField_kept
  exact h1

theorem State.couplingStart_kept {q p} {a0 a1 a2} (h2 : Kept q p a2) : Kept q p (State.couplingStart a0 a1 a2) := by
  unfold State.couplingStart
  extract_lets +onlyGivenNames x0
  clear_value x0
  extract_lets +onlyGivenNames x1
  clear_value x1
  extract_lets +onlyGivenNames x2
  have k3 : Kept q p x2 := by
    unfold x2
    apply State.orReg_kept
    apply State.seqOn_kept
    exact h2
  clear_value x2
  extract_lets +onlyGivenNames x4
  clear_value x4
  extract_lets +onlyGivenNames x5
  have k6 : Kept q p x5 := by
    unfold x5
    refine kept_mk' (kept_comp ?_)
    exact k3
  clear_value x5
  refine kept_foldl ?_ ?_
  · intro z7 z8 k9
    extract_lets +onlyGivenNames x10
    have k11 : Kept q p x10 := by
      unfold x10
      apply State.holdCell_kept
      exact k9
    clear_value x10
    split
    · apply State.enqueue_kept
      exact k11
    · exact k11
  · exact k6

theorem State.hashEnd_kept {q p} {a0} (h0 : Kept q p a0) : Kept q p (State.hashEnd a0) := by
  unfold State.hashEnd
  extract_lets +onlyGivenNames x0
  clear_value x0
  extract_lets +onlyGivenNames x1
  clear_value x1
  extract_lets +onlyGivenNames x2
  have k3 : Kept q p x2 := by
    unfold x2
    refine kept_mk' (kept_comp ?_)
    exact h0
  clear_value x2
  apply State.setReg_kept
  refine kept_foldl ?_ ?_
  · intro z4 z5 k6
    apply State.setReg_kept
    exact k6
  · exact k3

theorem State.setLoad_kept {q p} {a0 a1 a2} (h2 : Kept q p a2) : Kept q p (State.setLoad a0 a1 a2) := by
  unfold State.setLoad
  refine kept_ite ?_ ?_
  · apply State.refuse_kept
    exact h2
  · refine kept_ite ?_ ?_
    · apply State.refuse_kept
      exact h2
    · split
      · apply State.refuse_kept
        exact h2
      · split
        · apply State.refuse_kept
          exact h2
        · extract_lets +onlyGivenNames x13
          have k14 : Kept q p x13 := by
            unfold x13
            apply State.makePending_kept
            exact h2
          clear_value x13
          apply State.complete_kept
          exact k14

theorem State.sweepEnd_kept {q p} {a0 a1 a2} (h2 : Kept q p a2) : Kept q p (State.sweepEnd a0 a1 a2) := by
  unfold State.sweepEnd
  extract_lets +onlyGivenNames x0
  clear_value x0
  extract_lets +onlyGivenNames x1
  clear_value x1
  extract_lets +onlyGivenNames x2
  clear_value x2
  extract_lets +onlyGivenNames x3
  clear_value x3
  extract_lets +onlyGivenNames x4
  clear_value x4
  extract_lets +onlyGivenNames x5
  clear_value x5
  extract_lets +onlyGivenNames x6
  have k7 : Kept q p x6 := by
    unfold x6
    refine kept_mk' (kept_comp ?_)
    exact h2
  clear_value x6
  extract_lets +onlyGivenNames x8
  have k9 : Kept q p x8 := by
    unfold x8
    refine kept_foldl ?_ ?_
    · intro z10 z11 k12
      apply State.restoreMode_kept
      exact k12
    · apply State.seqOff_kept
      exact k7
  clear_value x8
  extract_lets +onlyGivenNames x13
  have k14 : Kept q p x13 := by
    unfold x13
    apply State.deviceMark_kept
    exact k9
  clear_value x13
  extract_lets +onlyGivenNames x15
  have k16 : Kept q p x15 := by
    unfold x15
    refine kept_ite ?_ ?_
    · exact k14
    · apply State.makePending_kept
      exact k14
  clear_value x15
  extract_lets +onlyGivenNames x17
  clear_value x17
  apply State.complete_kept
  exact k16

theorem State.sweepStart_kept {q p} {a0 a1 a2 a3} (h3 : Kept q p a3) : Kept q p (State.sweepStart a0 a1 a2 a3) := by
  unfold State.sweepStart
  apply State.setChar_kept
  refine kept_foldl ?_ ?_
  · intro z0 z1 k2
    apply State.holdCell_kept
    exact k2
  · apply State.seqOn_kept
    exact h3

theorem State.tableStart_kept {q p} {a0 a1} (h1 : Kept q p a1) : Kept q p (State.tableStart a0 a1) := by
  unfold State.tableStart
  extract_lets +onlyGivenNames x0
  clear_value x0
  extract_lets +onlyGivenNames x1
  clear_value x1
  extract_lets +onlyGivenNames x2
  clear_value x2
  extract_lets +onlyGivenNames x3
  have k4 : Kept q p x3 := by
    unfold x3
    refine kept_foldl ?_ ?_
    · intro z5 z6 k7
      apply State.holdCell_kept
      exact k7
    · apply State.setChar_kept
      apply State.seqOn_kept
      exact h1
  clear_value x3
  refine kept_ite ?_ ?_
  · apply State.orReg_kept
    exact k4
  · exact k4

theorem State.withList_kept {q p} {a0 a1 a2 a3 a4 a5} (h4 : ∀ x0 x1, Kept q p x1 → Kept q p (a4 x0 x1)) (h5 : Kept q p a5) : Kept q p (State.withList a0 a1 a2 a3 a4 a5) := by
  unfold State.withList
  split
  · apply State.charGate_kept
    · intro z2 k3
      apply State.refuse_kept
      exact k3
    · exact h5
  · extract_lets +onlyGivenNames x6
    clear_value x6
    apply State.charGate_kept
    · intro z7 k8
      apply h4
      exact k8
    · exact h5

theorem execCalAbort_kept {q p} {a0 a1 a2} (h2 : Kept q p a2) : KeptRes q p (execCalAbort a0 a1 a2) := by
  unfold execCalAbort
  refine keptRes_next ?_
  apply State.baseWrite_kept
  · intro z0 k1
    apply State.calCmd_kept
    exact k1
  · exact h2

theorem execCalHashDrt_kept {q p} {a0 a1 a2} (h2 : Kept q p a2) : KeptRes q p (execCalHashDrt a0 a1 a2) := by
  unfold execCalHashDrt
  refine keptRes_next ?_
  apply State.baseWrite_kept
  · intro z0 k1
    apply State.calCmd_kept
    exact k1
  · exact h2

theorem execCalIdle_kept {q p} {a0 a1 a2} (h2 : Kept q p a2) : KeptRes q p (execCalIdle a0 a1 a2) := by
  unfold execCalIdle
  refine keptRes_next ?_
  apply State.baseWrite_kept
  · intro z0 k1
    apply State.calCmd_kept
    exact k1
  · exact h2

theorem execCalIdleLapse_kept {q p} {a0} (h0 : Kept q p a0) : KeptRes q p (execCalIdleLapse a0) := by
  unfold execCalIdleLapse
  refine keptRes_next ?_
  split
  · refine kept_ite ?_ ?_
    · apply State.orReg_kept
      refine kept_mk' (kept_comp ?_)
      exact h0
    · exact h0
  · exact h0

theorem execCalRun_kept {q p} {a0 a1} (h1 : Kept q p a1) : KeptRes q p (execCalRun a0 a1) := by
  unfold execCalRun
  refine keptRes_next ?_
  apply State.runDesc_kept
  · intro z0 k1
    apply State.calStart_kept
    exact k1
  · exact h1

theorem execCalRunEnd_kept {q p} {a0 a1} (h1 : Kept q p a1) : KeptRes q p (execCalRunEnd a0 a1) := by
  unfold execCalRunEnd
  refine keptRes_next ?_
  split
  · apply State.calEnd_kept
    exact h1
  · exact h1

theorem execCalSeqStop_kept {q p} {a0 a1 a2} (h2 : Kept q p a2) : KeptRes q p (execCalSeqStop a0 a1 a2) := by
  unfold execCalSeqStop
  refine keptRes_next ?_
  apply State.baseWrite_kept
  · intro z0 k1
    apply State.calCmd_kept
    exact k1
  · exact h2

theorem execCalSetLoad_kept {q p} {a0 a1 a2} (h2 : Kept q p a2) : KeptRes q p (execCalSetLoad a0 a1 a2) := by
  unfold execCalSetLoad
  refine keptRes_next ?_
  apply State.runDesc_kept
  · intro z0 k1
    apply State.setLoad_kept
    apply State.recReads_kept
    exact k1
  · exact h2

theorem execCharCoupling_kept {q p} {a0 a1 a2} (h2 : Kept q p a2) : KeptRes q p (execCharCoupling a0 a1 a2) := by
  unfold execCharCoupling
  refine keptRes_next ?_
  apply State.runDesc_kept
  · intro z0 k1
    refine kept_ite ?_ ?_
    · apply State.refuse_kept
      exact k1
    · apply State.withList_kept
      · intro z2 z3 k4
        apply State.couplingStart_kept
        exact k4
      · apply State.recReads_kept
        exact k1
  · exact h2

theorem execCharRunEnd_kept {q p} {a0 a1} (h1 : Kept q p a1) : KeptRes q p (execCharRunEnd a0 a1) := by
  unfold execCharRunEnd
  refine keptRes_next ?_
  split
  · refine kept_ite ?_ ?_
    · refine kept_ite ?_ ?_
      · exact h1
      · apply State.tableEnd_kept
        exact h1
    · apply State.sweepEnd_kept
      exact h1
  · exact h1

theorem execCharTable_kept {q p} {a0 a1} (h1 : Kept q p a1) : KeptRes q p (execCharTable a0 a1) := by
  unfold execCharTable
  refine keptRes_next ?_
  apply State.runDesc_kept
  · intro z0 k1
    refine kept_ite ?_ ?_
    · apply State.refuse_kept
      exact k1
    · apply State.charGate_kept
      · intro z2 k3
        apply State.tableStart_kept
        exact k3
      · exact k1
  · exact h1

theorem execCharThrowSweep_kept {q p} {a0 a1 a2} (h2 : Kept q p a2) : KeptRes q p (execCharThrowSweep a0 a1 a2) := by
  unfold execCharThrowSweep
  refine keptRes_next ?_
  apply State.runDesc_kept
  · intro z0 k1
    refine kept_ite ?_ ?_
    · apply State.refuse_kept
      exact k1
    · apply State.withList_kept
      · intro z2 z3 k4
        apply State.sweepStart_kept
        exact k4
      · apply State.recReads_kept
        exact k1
  · exact h2

theorem execCharTrimSweep_kept {q p} {a0 a1 a2} (h2 : Kept q p a2) : KeptRes q p (execCharTrimSweep a0 a1 a2) := by
  unfold execCharTrimSweep
  refine keptRes_next ?_
  apply State.runDesc_kept
  · intro z0 k1
    refine kept_ite ?_ ?_
    · apply State.refuse_kept
      exact k1
    · apply State.withList_kept
      · intro z2 z3 k4
        apply State.sweepStart_kept
        exact k4
      · apply State.recReads_kept
        exact k1
  · exact h2

theorem execCouplingRunEnd_kept {q p} {a0 a1} (h1 : Kept q p a1) : KeptRes q p (execCouplingRunEnd a0 a1) := by
  unfold execCouplingRunEnd
  refine keptRes_next ?_
  split
  · apply State.coupEnd_kept
    exact h1
  · exact h1

theorem State.rpClear_kept {q p} {a0} (h0 : Kept q p a0) : Kept q p (State.rpClear a0) := by
  unfold State.rpClear
  extract_lets +onlyGivenNames x0
  clear_value x0
  extract_lets +onlyGivenNames x1
  have k2 : Kept q p x1 := by
    unfold x1
    refine kept_foldl ?_ ?_
    · intro z3 z4 k5
      apply State.refuse_kept
      exact k5
    · apply State.abortSquall_kept
      apply State.finishVerify_kept
      exact h0
  clear_value x1
  extract_lets +onlyGivenNames x6
  clear_value x6
  extract_lets +onlyGivenNames x7
  clear_value x7
  extract_lets +onlyGivenNames x8
  clear_value x8
  extract_lets +onlyGivenNames x9
  clear_value x9
  refine kept_mk' (kept_comp ?_)
  exact k2

theorem State.endReplay_kept {q p} {a0 a1} (h1 : Kept q p a1) : Kept q p (State.endReplay a0 a1) := by
  unfold State.endReplay
  extract_lets +onlyGivenNames x0
  have k1 : Kept q p x0 := by
    unfold x0
    apply State.setReg_kept
    apply State.setReg_kept
    apply State.setReg_kept
    exact h1
  clear_value x0
  extract_lets +onlyGivenNames x2
  clear_value x2
  extract_lets +onlyGivenNames x3
  have k4 : Kept q p x3 := by
    unfold x3
    apply State.rpClear_kept
    apply State.allManual_kept
    apply State.emptySlots_kept
    refine kept_mk' (kept_comp ?_)
    exact k1
  clear_value x3
  extract_lets +onlyGivenNames x5
  clear_value x5
  extract_lets +onlyGivenNames x6
  clear_value x6
  extract_lets +onlyGivenNames x7
  clear_value x7
  extract_lets +onlyGivenNames x8
  have k9 : Kept q p x8 := by
    unfold x8
    refine kept_mk' (kept_comp ?_)
    exact k4
  clear_value x8
  extract_lets +onlyGivenNames x10
  clear_value x10
  extract_lets +onlyGivenNames x11
  clear_value x11
  extract_lets +onlyGivenNames x12
  have k13 : Kept q p x12 := by
    unfold x12
    refine kept_mk' (kept_comp ?_)
    exact k9
  clear_value x12
  apply State.setField_kept
  apply State.clrReg_kept
  apply State.setField_kept
  exact k13

theorem State.rpCodes_kept {q p} {a0} (h0 : Kept q p a0) : Kept q p (State.rpCodes a0) := by
  unfold State.rpCodes
  extract_lets +onlyGivenNames x0
  clear_value x0
  refine kept_ite ?_ ?_
  · exact h0
  · extract_lets +onlyGivenNames x1
    clear_value x1
    extract_lets +onlyGivenNames x2
    clear_value x2
    extract_lets +onlyGivenNames x3
    clear_value x3
    extract_lets +onlyGivenNames x4
    have k5 : Kept q p x4 := by
      unfold x4
      refine kept_mk' (kept_comp ?_)
      exact h0
    clear_value x4
    extract_lets +onlyGivenNames x6
    clear_value x6
    apply State.onCells_kept
    exact k5

theorem State.rpFollow_kept {q p} {a0} (h0 : Kept q p a0) : Kept q p (State.rpFollow a0) := by
  unfold State.rpFollow
  extract_lets +onlyGivenNames x0
  clear_value x0
  extract_lets +onlyGivenNames x1
  clear_value x1
  apply State.spReapply_kept
  refine kept_mk' (kept_comp ?_)
  exact h0

theorem State.rpLoad_kept {q p} {a0 a1} (h1 : Kept q p a1) : Kept q p (State.rpLoad a0 a1) := by
  unfold State.rpLoad
  extract_lets +onlyGivenNames x0
  clear_value x0
  extract_lets +onlyGivenNames x1
  clear_value x1
  extract_lets +onlyGivenNames x2
  have k3 : Kept q p x2 := by
    unfold x2
    refine kept_foldl ?_ ?_
    · intro z4 z5 k6
      apply State.setReg_kept
      exact k6
    · exact h1
  clear_value x2
  extract_lets +onlyGivenNames x7
  have k8 : Kept q p x7 := by
    unfold x7
    refine kept_foldl ?_ ?_
    · intro z9 z10 k11
      apply State.setSlot_kept
      exact k11
    · exact k3
  clear_value x7
  extract_lets +onlyGivenNames x12
  have k13 : Kept q p x12 := by
    unfold x12
    apply State.rpFollow_kept
    refine kept_foldl ?_ ?_
    · intro z14 z15 k16
      apply State.setReg_kept
      exact k16
    · exact k8
  clear_value x12
  extract_lets +onlyGivenNames x17
  clear_value x17
  extract_lets +onlyGivenNames x18
  clear_value x18
  extract_lets +onlyGivenNames x19
  have k20 : Kept q p x19 := by
    unfold x19
    refine kept_foldl ?_ ?_
    · intro z21 z22 k23
      apply State.setLoopCell_kept
      exact k23
    · exact k13
  clear_value x19
  extract_lets +onlyGivenNames x24
  clear_value x24
  extract_lets +onlyGivenNames x25
  clear_value x25
  apply State.rpCodes_kept
  refine kept_mk' (kept_comp ?_)
  exact k20

theorem State.rpStart_kept {q p} {a0 a1} (h1 : Kept q p a1) : Kept q p (State.rpStart a0 a1) := by
  unfold State.rpStart
  refine kept_ite ?_ ?_
  · apply State.setField_kept
    exact h1
  · extract_lets +onlyGivenNames x0
    clear_value x0
    extract_lets +onlyGivenNames x1
    clear_value x1
    extract_lets +onlyGivenNames x2
    clear_value x2
    extract_lets +onlyGivenNames x3
    have k4 : Kept q p x3 := by
      unfold x3
      apply State.setField_kept
      apply State.setField_kept
      exact h1
    clear_value x3
    refine kept_ite ?_ ?_
    · apply State.endReplay_kept
      exact k4
    · refine kept_ite ?_ ?_
      · apply State.endReplay_kept
        exact k4
      · extract_lets +onlyGivenNames x5
        have k6 : Kept q p x5 := by
          unfold x5
          refine kept_ite ?_ ?_
          · apply State.enterHold_kept
            exact k4
          · exact k4
        clear_value x5
        extract_lets +onlyGivenNames x7
        have k8 : Kept q p x7 := by
          unfold x7
          apply State.rpClear_kept
          exact k6
        clear_value x7
        extract_lets +onlyGivenNames x9
        clear_value x9
        extract_lets +onlyGivenNames x10
        clear_value x10
        extract_lets +onlyGivenNames x11
        have k12 : Kept q p x11 := by
          unfold x11
          refine kept_mk' (kept_comp ?_)
          exact k8
        clear_value x11
        extract_lets +onlyGivenNames x13
        have k14 : Kept q p x13 := by
          unfold x13
          apply State.rpLoad_kept
          exact k12
        clear_value x13
        apply State.setReg64_kept
        apply State.setReg_kept
        apply State.orReg_kept
        exact k14

theorem State.rpCtrl_kept {q p} {a0 a1} (h1 : Kept q p a1) : Kept q p (State.rpCtrl a0 a1) := by
  unfold State.rpCtrl
  extract_lets +onlyGivenNames x0
  have k1 : Kept q p x0 := by
    unfold x0
    apply State.maskWrite_kept
    exact h1
  clear_value x0
  extract_lets +onlyGivenNames x2
  have k3 : Kept q p x2 := by
    unfold x2
    refine kept_ite ?_ ?_
    · apply State.endReplay_kept
      exact k1
    · exact k1
  clear_value x2
  refine kept_ite ?_ ?_
  · apply State.rpStart_kept
    exact k3
  · exact k3

theorem State.codesAct_kept {q p} {a0 a1 a2} (h2 : Kept q p a2) : Kept q p (State.codesAct a0 a1 a2) := by
  unfold State.codesAct
  extract_lets +onlyGivenNames x0
  clear_value x0
  split
  · apply State.refuse_kept
    exact h2
  · extract_lets +onlyGivenNames x6
    clear_value x6
    refine kept_ite ?_ ?_
    · apply State.refuse_kept
      exact h2
    · refine kept_ite ?_ ?_
      · apply State.refuse_kept
        exact h2
      · refine kept_ite ?_ ?_
        · apply State.refuse_kept
          exact h2
        · refine kept_ite ?_ ?_
          · apply State.refuse_kept
            exact h2
          · extract_lets +onlyGivenNames x7
            clear_value x7
            apply State.complete_kept
            apply State.setChan_kept
            exact h2

theorem State.elementRead_kept {q p} {a0 a1} (h1 : Kept q p a1) : Kept q p (State.elementRead a0 a1) := by
  unfold State.elementRead
  split
  · apply State.refuse_kept
    exact h1
  · refine kept_ite ?_ ?_
    · apply State.complete_kept
      exact h1
    · apply State.complete_kept
      exact h1

theorem State.faultDone_kept {q p} {a0 a1} (h1 : Kept q p a1) : Kept q p (State.faultDone a0 a1) := by
  unfold State.faultDone
  extract_lets +onlyGivenNames x0
  clear_value x0
  apply State.complete_kept
  exact h1

theorem State.faultClear_kept {q p} {a0 a1} (h1 : Kept q p a1) : Kept q p (State.faultClear a0 a1) := by
  unfold State.faultClear
  extract_lets +onlyGivenNames x0
  clear_value x0
  refine kept_ite ?_ ?_
  · apply State.refuse_kept
    exact h1
  · refine kept_ite ?_ ?_
    · apply State.refuse_kept
      exact h1
    · refine kept_ite ?_ ?_
      · apply State.faultDone_kept
        apply State.clearFirst_kept
        exact h1
      · refine kept_ite ?_ ?_
        · apply State.faultDone_kept
          apply State.clearAll_kept
          exact h1
        · refine kept_ite ?_ ?_
          · apply State.refuse_kept
            exact h1
          · apply State.faultDone_kept
            apply State.clearSource_kept
            exact h1

theorem State.faultConfig_kept {q p} {a0 a1} (h1 : Kept q p a1) : Kept q p (State.faultConfig a0 a1) := by
  unfold State.faultConfig
  extract_lets +onlyGivenNames x0
  clear_value x0
  refine kept_ite ?_ ?_
  · apply State.refuse_kept
    exact h1
  · refine kept_ite ?_ ?_
    · apply State.refuse_kept
      exact h1
    · refine kept_ite ?_ ?_
      · apply State.refuse_kept
        exact h1
      · extract_lets +onlyGivenNames x1
        clear_value x1
        extract_lets +onlyGivenNames x2
        have k3 : Kept q p x2 := by
          unfold x2
          apply State.setReg_kept
          apply State.setField_kept
          apply State.setField_kept
          exact h1
        clear_value x2
        apply State.faultDone_kept
        refine kept_ite ?_ ?_
        · exact k3
        · apply State.setField_kept
          exact k3

theorem State.mapQueryAct_kept {q p} {a0 a1} (h1 : Kept q p a1) : Kept q p (State.mapQueryAct a0 a1) := by
  unfold State.mapQueryAct
  extract_lets +onlyGivenNames x0
  clear_value x0
  extract_lets +onlyGivenNames x1
  clear_value x1
  extract_lets +onlyGivenNames x2
  clear_value x2
  extract_lets +onlyGivenNames x3
  clear_value x3
  extract_lets +onlyGivenNames x4
  clear_value x4
  refine kept_ite ?_ ?_
  · apply State.refuse_kept
    exact h1
  · refine kept_ite ?_ ?_
    · apply State.refuse_kept
      exact h1
    · extract_lets +onlyGivenNames x5
      clear_value x5
      extract_lets +onlyGivenNames x6
      clear_value x6
      extract_lets +onlyGivenNames x7
      clear_value x7
      extract_lets +onlyGivenNames x8
      clear_value x8
      apply State.complete_kept
      apply State.hostWrite_kept
      exact h1

theorem State.releaseAct_kept {q p} {a0 a1 a2} (h2 : Kept q p a2) : Kept q p (State.releaseAct a0 a1 a2) := by
  unfold State.releaseAct
  split
  · apply State.refuse_kept
    exact h2
  · split
    · apply State.refuse_kept
      exact h2
    · refine kept_ite ?_ ?_
      · apply State.refuse_kept
        exact h2
      · refine kept_ite ?_ ?_
        · apply State.refuse_kept
          exact h2
        · apply State.spRelease_kept
          exact h2

theorem State.substAct_kept {q p} {a0 a1 a2} (h2 : Kept q p a2) : Kept q p (State.substAct a0 a1 a2) := by
  unfold State.substAct
  split
  · apply State.refuse_kept
    exact h2
  · extract_lets +onlyGivenNames x7
    clear_value x7
    extract_lets +onlyGivenNames x8
    clear_value x8
    refine kept_ite ?_ ?_
    · apply State.refuse_kept
      exact h2
    · refine kept_ite ?_ ?_
      · split
        · apply State.spRequest_kept
          exact h2
        · apply State.refuse_kept
          exact h2
      · split
        · apply State.spRequest_kept
          exact h2
        · apply State.refuse_kept
          exact h2

theorem State.telemSet_kept {q p} {a0 a1 a2} (h2 : Kept q p a2) : Kept q p (State.telemSet a0 a1 a2) := by
  unfold State.telemSet
  extract_lets +onlyGivenNames x0
  clear_value x0
  extract_lets +onlyGivenNames x1
  have k2 : Kept q p x1 := by
    unfold x1
    apply State.rqDisable_kept
    exact h2
  clear_value x1
  extract_lets +onlyGivenNames x3
  have k4 : Kept q p x3 := by
    unfold x3
    apply State.setReg_kept
    exact k2
  clear_value x3
  extract_lets +onlyGivenNames x5
  have k6 : Kept q p x5 := by
    unfold x5
    apply State.setReg_kept
    exact k4
  clear_value x5
  extract_lets +onlyGivenNames x7
  have k8 : Kept q p x7 := by
    unfold x7
    refine kept_ite ?_ ?_
    · exact k6
    · refine kept_foldl ?_ ?_
      · intro z9 z10 k11
        apply State.setReg_kept
        exact k11
      · exact k6
  clear_value x7
  exact k8

theorem State.telemAct_kept {q p} {a0 a1 a2} (h2 : Kept q p a2) : Kept q p (State.telemAct a0 a1 a2) := by
  unfold State.telemAct
  extract_lets +onlyGivenNames x0
  clear_value x0
  extract_lets +onlyGivenNames x1
  clear_value x1
  refine kept_ite ?_ ?_
  · apply State.refuse_kept
    exact h2
  · refine kept_ite ?_ ?_
    · apply State.refuse_kept
      exact h2
    · refine kept_ite ?_ ?_
      · apply State.refuse_kept
        exact h2
      · extract_lets +onlyGivenNames x2
        have k3 : Kept q p x2 := by
          unfold x2
          apply State.telemSet_kept
          exact h2
        clear_value x2
        refine kept_ite ?_ ?_
        · refine kept_ite ?_ ?_
          · extract_lets +onlyGivenNames x4
            have k5 : Kept q p x4 := by
              unfold x4
              apply State.rqEnable_kept
              exact k3
            clear_value x4
            apply State.complete_kept
            exact k5
          · apply State.refuse_kept
            exact h2
        · apply State.complete_kept
          exact k3

theorem execElementDirectCodes_kept {q p} {a0 a1} (h1 : Kept q p a1) : KeptRes q p (execElementDirectCodes a0 a1) := by
  unfold execElementDirectCodes
  refine keptRes_next ?_
  apply State.runDesc_kept
  · intro z0 k1
    refine kept_ite ?_ ?_
    · apply State.refuse_kept
      exact k1
    · apply State.timed_kept
      · intro z2 z3 k4
        apply State.codesAct_kept
        exact k4
      · exact k1
  · exact h1

theorem execElementDirectRead_kept {q p} {a0 a1} (h1 : Kept q p a1) : KeptRes q p (execElementDirectRead a0 a1) := by
  unfold execElementDirectRead
  refine keptRes_next ?_
  apply State.runDesc_kept
  · intro z0 k1
    refine kept_ite ?_ ?_
    · apply State.refuse_kept
      exact k1
    · apply State.elementRead_kept
      exact k1
  · exact h1

theorem execFaultCtrlClear_kept {q p} {a0 a1} (h1 : Kept q p a1) : KeptRes q p (execFaultCtrlClear a0 a1) := by
  unfold execFaultCtrlClear
  refine keptRes_next ?_
  apply State.runDesc_kept
  · intro z0 k1
    refine kept_ite ?_ ?_
    · apply State.refuse_kept
      exact k1
    · apply State.faultClear_kept
      exact k1
  · exact h1

theorem execFaultCtrlConfig_kept {q p} {a0 a1} (h1 : Kept q p a1) : KeptRes q p (execFaultCtrlConfig a0 a1) := by
  unfold execFaultCtrlConfig
  refine keptRes_next ?_
  apply State.runDesc_kept
  · intro z0 k1
    refine kept_ite ?_ ?_
    · apply State.refuse_kept
      exact k1
    · apply State.faultConfig_kept
      exact k1
  · exact h1

theorem execFaultCtrlRead_kept {q p} {a0 a1} (h1 : Kept q p a1) : KeptRes q p (execFaultCtrlRead a0 a1) := by
  unfold execFaultCtrlRead
  refine keptRes_next ?_
  apply State.runDesc_kept
  · intro z0 k1
    refine kept_ite ?_ ?_
    · apply State.refuse_kept
      exact k1
    · apply State.faultDone_kept
      exact k1
  · exact h1

theorem execMapQuery_kept {q p} {a0 a1} (h1 : Kept q p a1) : KeptRes q p (execMapQuery a0 a1) := by
  unfold execMapQuery
  refine keptRes_next ?_
  apply State.runDesc_kept
  · intro z0 k1
    apply State.mapQueryAct_kept
    exact k1
  · exact h1

theorem execNop_kept {q p} {a0 a1} (h1 : Kept q p a1) : KeptRes q p (execNop a0 a1) := by
  unfold execNop
  refine keptRes_next ?_
  apply State.runDesc_kept
  · intro z0 k1
    apply State.complete_kept
    exact k1
  · exact h1

theorem execSpareMapRelease_kept {q p} {a0 a1} (h1 : Kept q p a1) : KeptRes q p (execSpareMapRelease a0 a1) := by
  unfold execSpareMapRelease
  refine keptRes_next ?_
  apply State.runDesc_kept
  · intro z0 k1
    refine kept_ite ?_ ?_
    · apply State.refuse_kept
      exact k1
    · apply State.timed_kept
      · intro z2 z3 k4
        apply State.releaseAct_kept
        exact k4
      · exact k1
  · exact h1

theorem execSpareMapSubstitute_kept {q p} {a0 a1} (h1 : Kept q p a1) : KeptRes q p (execSpareMapSubstitute a0 a1) := by
  unfold execSpareMapSubstitute
  refine keptRes_next ?_
  apply State.runDesc_kept
  · intro z0 k1
    refine kept_ite ?_ ?_
    · apply State.refuse_kept
      exact k1
    · apply State.timed_kept
      · intro z2 z3 k4
        apply State.substAct_kept
        exact k4
      · exact k1
  · exact h1

theorem execStateSave_kept {q p} {a0 a1} (h1 : Kept q p a1) : KeptRes q p (execStateSave a0 a1) := by
  unfold execStateSave
  refine keptRes_next ?_
  apply State.runDesc_kept
  · intro z0 k1
    extract_lets +onlyGivenNames x2
    have k3 : Kept q p x2 := by
      unfold x2
      apply State.saveImage_kept
      apply State.saveImage_kept
      exact k1
    clear_value x2
    apply State.complete_kept
    exact k3
  · exact h1

theorem execTelemCtrl_kept {q p} {a0 a1 a2} (h2 : Kept q p a2) : KeptRes q p (execTelemCtrl a0 a1 a2) := by
  unfold execTelemCtrl
  refine keptRes_next ?_
  apply State.runDesc_kept
  · intro z0 k1
    apply State.telemAct_kept
    apply State.recReads_kept
    exact k1
  · exact h2

theorem State.performTimed_kept {q p} {a0 a1} (h1 : Kept q p a1) : Kept q p (State.performTimed a0 a1) := by
  unfold State.performTimed
  extract_lets +onlyGivenNames x0
  clear_value x0
  refine kept_ite ?_ ?_
  · apply State.refuse_kept
    exact h1
  · refine kept_ite ?_ ?_
    · apply State.schedAct_kept
      exact h1
    · refine kept_ite ?_ ?_
      · apply State.loopSetAct_kept
        exact h1
      · refine kept_ite ?_ ?_
        · refine kept_ite ?_ ?_
          · apply State.squallAct_kept
            exact h1
          · apply State.modeAct_kept
            exact h1
        · refine kept_ite ?_ ?_
          · apply State.codesAct_kept
            exact h1
          · refine kept_ite ?_ ?_
            · refine kept_ite ?_ ?_
              · apply State.substAct_kept
                exact h1
              · apply State.releaseAct_kept
                exact h1
            · exact h1

theorem State.unitTimed_kept {q p} {a0 a1} (h1 : Kept q p a1) : Kept q p (State.unitTimed a0 a1) := by
  unfold State.unitTimed
  extract_lets +onlyGivenNames x0
  clear_value x0
  extract_lets +onlyGivenNames x1
  clear_value x1
  extract_lets +onlyGivenNames x2
  have k3 : Kept q p x2 := by
    unfold x2
    apply State.setUnit_kept
    exact h1
  clear_value x2
  refine kept_foldl ?_ ?_
  · intro z4 z5 k6
    apply State.performTimed_kept
    exact k6
  · exact k3

theorem execTimedActionDue_kept {q p} {a0} (h0 : Kept q p a0) : KeptRes q p (execTimedActionDue a0) := by
  unfold execTimedActionDue
  refine keptRes_next ?_
  apply State.unitTimed_kept
  apply State.unitTimed_kept
  exact h0

theorem State.dropSuccessor_kept {q p} {a0} (h0 : Kept q p a0) : Kept q p (State.dropSuccessor a0) := by
  unfold State.dropSuccessor
  apply State.clrReg_kept
  refine kept_mk' (kept_comp ?_)
  exact h0

theorem State.failCall_kept {q p} {a0 a1} (h1 : Kept q p a1) : Kept q p (State.failCall a0 a1) := by
  unfold State.failCall
  extract_lets +onlyGivenNames x0
  have k1 : Kept q p x0 := by
    unfold x0
    apply State.powerDown_kept
    apply State.setPeerFail_kept
    exact h1
  clear_value x0
  refine kept_ite ?_ ?_
  · apply State.switchOn_kept
    exact k1
  · exact k1

theorem State.stopCore_kept {q p} {a0 a1 a2} (h2 : Kept q p a2) : Kept q p (State.stopCore a0 a1 a2) := by
  unfold State.stopCore
  extract_lets +onlyGivenNames x0
  clear_value x0
  extract_lets +onlyGivenNames x1
  clear_value x1
  extract_lets +onlyGivenNames x2
  clear_value x2
  extract_lets +onlyGivenNames x3
  have k4 : Kept q p x3 := by
    unfold x3
    refine kept_ite ?_ ?_
    · apply State.lapse_kept
      exact h2
    · exact h2
  clear_value x3
  extract_lets +onlyGivenNames x5
  have k6 : Kept q p x5 := by
    unfold x5
    refine kept_ite ?_ ?_
    · apply State.orReg_kept
      exact k4
    · exact k4
  clear_value x5
  extract_lets +onlyGivenNames x7
  have k8 : Kept q p x7 := by
    unfold x7
    apply State.powerDown_kept
    apply State.abortFlights_kept
    exact k6
  clear_value x7
  refine kept_ite ?_ ?_
  · exact k8
  · extract_lets +onlyGivenNames x9
    clear_value x9
    extract_lets +onlyGivenNames x10
    have k11 : Kept q p x10 := by
      unfold x10
      refine kept_ite ?_ ?_
      · apply State.endRehearsal_kept
        exact k8
      · exact k8
    clear_value x10
    extract_lets +onlyGivenNames x12
    have k13 : Kept q p x12 := by
      unfold x12
      refine kept_ite ?_ ?_
      · apply State.dropSuccessor_kept
        exact k11
      · exact k11
    clear_value x12
    refine kept_ite ?_ ?_
    · apply State.failCall_kept
      exact k13
    · exact k13

end Sys2Proof.Machine
end

