-- ==== Sys2Proof/Laws/KeptChip.lean ====
section
/-! SUPPORT. `Kept` goes through every operation of the arbiter, start-up, memory, heat, security and the register hub: one lemma per operation,
so that no proof about the queue, the part or the canonical form unfolds one. -/

namespace Sys2Proof.Machine

theorem State.bootFailed_kept {q p} {a0 a1 a2} (h2 : Kept q p a2) : Kept q p (State.bootFailed a0 a1 a2) := by
  unfold State.bootFailed
  extract_lets +onlyGivenNames x0
  clear_value x0
  refine kept_ite ?_ ?_
  · apply State.endRehearsal_kept
    exact h2
  · refine kept_ite ?_ ?_
    · apply State.failCall_kept
      exact h2
    · apply State.powerDown_kept
      exact h2

theorem State.bootImage_kept {q p} {a0 a1 a2 a3 a4} (h4 : Kept q p a4) : Kept q p (State.bootImage a0 a1 a2 a3 a4) := by
  unfold State.bootImage
  extract_lets +onlyGivenNames x0
  clear_value x0
  extract_lets +onlyGivenNames x1
  clear_value x1
  extract_lets +onlyGivenNames x2
  clear_value x2
  extract_lets +onlyGivenNames x3
  have k4 : Kept q p x3 := by
    unfold x3
    apply State.setReg_kept
    exact h4
  clear_value x3
  extract_lets +onlyGivenNames x5
  have k6 : Kept q p x5 := by
    unfold x5
    refine kept_foldl ?_ ?_
    · intro z7 z8 k9
      apply State.setReg_kept
      exact k9
    · exact k4
  clear_value x5
  extract_lets +onlyGivenNames x10
  clear_value x10
  extract_lets +onlyGivenNames x11
  clear_value x11
  extract_lets +onlyGivenNames x12
  have k13 : Kept q p x12 := by
    unfold x12
    apply State.setUnit_kept
    exact k6
  clear_value x12
  refine kept_mk' (kept_comp ?_)
  exact k13

theorem State.dismiss_kept {q p} {a0} (h0 : Kept q p a0) : Kept q p (State.dismiss a0) := by
  unfold State.dismiss
  split
  · exact h0
  · refine kept_ite ?_ ?_
    · apply State.powerDown_kept
      apply State.dropSuccessor_kept
      exact h0
    · split
      · refine kept_ite ?_ ?_
        · apply State.endRehearsal_kept
          exact h0
        · exact h0
      · exact h0

theorem State.recIf_kept {q p} {a0 a1 a2 a3 a4} (h4 : Kept q p a4) : Kept q p (State.recIf a0 a1 a2 a3 a4) := by
  unfold State.recIf
  refine kept_ite ?_ ?_
  · apply State.recWrite_kept
    exact h4
  · exact h4

theorem State.rehTry_kept {q p} {a0 a1 a2 a3} (h3 : Kept q p a3) : Kept q p (State.rehTry a0 a1 a2 a3) := by
  unfold State.rehTry
  refine kept_ite ?_ ?_
  · apply State.orReg_kept
    exact h3
  · apply State.startRehearsal_kept
    exact h3

theorem State.rehCtrlWrite_kept {q p} {a0 a1} (h1 : Kept q p a1) : Kept q p (State.rehCtrlWrite a0 a1) := by
  unfold State.rehCtrlWrite
  extract_lets +onlyGivenNames x0
  have k1 : Kept q p x0 := by
    unfold x0
    apply State.maskWrite_kept
    exact h1
  clear_value x0
  extract_lets +onlyGivenNames x2
  have k3 : Kept q p x2 := by
    unfold x2
    refine kept_ite ?_ ?_
    · apply State.dismiss_kept
      exact k1
    · exact k1
  clear_value x2
  extract_lets +onlyGivenNames x4
  clear_value x4
  extract_lets +onlyGivenNames x5
  have k6 : Kept q p x5 := by
    unfold x5
    refine kept_ite ?_ ?_
    · apply State.rehTry_kept
      exact k3
    · exact k3
  clear_value x5
  refine kept_ite ?_ ?_
  · apply State.rehTry_kept
    exact k6
  · exact k6

theorem State.succIsReady_kept {q p} {a0 a1} (h1 : Kept q p a1) : Kept q p (State.succIsReady a0 a1) := by
  unfold State.succIsReady
  extract_lets +onlyGivenNames x0
  clear_value x0
  extract_lets +onlyGivenNames x1
  have k2 : Kept q p x1 := by
    unfold x1
    apply State.orReg_kept
    apply State.clrReg_kept
    refine kept_mk' (kept_comp ?_)
    exact h1
  clear_value x1
  refine kept_ite ?_ ?_
  · apply State.requestBoundary_kept
    refine kept_mk' (kept_comp ?_)
    exact k2
  · exact k2

theorem State.rehReport_kept {q p} {a0 a1 a2} (h2 : Kept q p a2) : Kept q p (State.rehReport a0 a1 a2) := by
  unfold State.rehReport
  extract_lets +onlyGivenNames x0
  clear_value x0
  extract_lets +onlyGivenNames x1
  clear_value x1
  split
  · refine kept_ite ?_ ?_
    · exact h2
    · refine kept_ite ?_ ?_
      · apply State.succIsReady_kept
        exact h2
      · refine kept_ite ?_ ?_
        · exact h2
        · apply State.endRehearsal_kept
          exact h2
  · refine kept_ite ?_ ?_
    · apply State.rehearsalOver_kept
      apply State.powerDown_kept
      apply State.dropSuccessor_kept
      exact h2
    · exact h2

theorem State.releaseWrite_kept {q p} {a0 a1 a2} (h2 : Kept q p a2) : Kept q p (State.releaseWrite a0 a1 a2) := by
  unfold State.releaseWrite
  apply State.release_kept
  apply State.recIf_kept
  exact h2

theorem State.renewLost_kept {q p} {a0 a1} (h1 : Kept q p a1) : Kept q p (State.renewLost a0 a1) := by
  unfold State.renewLost
  extract_lets +onlyGivenNames x0
  have k1 : Kept q p x0 := by
    unfold x0
    refine kept_ite ?_ ?_
    · apply State.lapse_kept
      exact h1
    · exact h1
  clear_value x0
  extract_lets +onlyGivenNames x2
  clear_value x2
  refine kept_ite ?_ ?_
  · exact k1
  · apply State.tokenEvent_kept
    apply State.powerDown_kept
    exact k1

theorem State.renewWrite_kept {q p} {a0 a1 a2} (h2 : Kept q p a2) : Kept q p (State.renewWrite a0 a1 a2) := by
  unfold State.renewWrite
  extract_lets +onlyGivenNames x0
  clear_value x0
  extract_lets +onlyGivenNames x1
  have k2 : Kept q p x1 := by
    unfold x1
    apply State.renew_kept
    apply State.clrReg_kept
    exact h2
  clear_value x1
  extract_lets +onlyGivenNames x3
  clear_value x3
  extract_lets +onlyGivenNames x4
  clear_value x4
  extract_lets +onlyGivenNames x5
  have k6 : Kept q p x5 := by
    unfold x5
    refine kept_ite ?_ ?_
    · apply State.orReg_kept
      exact k2
    · exact k2
  clear_value x5
  refine kept_ite ?_ ?_
  · refine kept_ite ?_ ?_
    · apply State.renewLost_kept
      exact k6
    · exact k6
  · apply State.recWrite_kept
    exact k6

theorem State.resumeWrite_kept {q p} {a0 a1} (h1 : Kept q p a1) : Kept q p (State.resumeWrite a0 a1) := by
  unfold State.resumeWrite
  refine kept_ite ?_ ?_
  · refine kept_mk' (kept_comp ?_)
    exact h1
  · exact h1

theorem State.showFuses_kept {q p} {a0} (h0 : Kept q p a0) : Kept q p (State.showFuses a0) := by
  unfold State.showFuses
  extract_lets +onlyGivenNames x0
  clear_value x0
  apply State.setReg_kept
  apply State.setReg_kept
  exact h0

theorem execClaimDeadline_kept {q p} {a0} (h0 : Kept q p a0) : KeptRes q p (execClaimDeadline a0) := by
  unfold execClaimDeadline
  extract_lets +onlyGivenNames x0
  clear_value x0
  refine keptRes_next ?_
  refine kept_ite ?_ ?_
  · apply State.failCall_kept
    exact h0
  · exact h0

theorem execFirmwareVerified_kept {q p} {a0 a1 a2 a3 a4} (h4 : Kept q p a4) : KeptRes q p (execFirmwareVerified a0 a1 a2 a3 a4) := by
  unfold execFirmwareVerified
  split
  · split
    · refine keptRes_next ?_
      apply State.bootImage_kept
      exact h4
    · refine keptRes_next ?_
      apply State.bootFailed_kept
      apply State.setReg_kept
      exact h4
  · refine keptRes_next ?_
    exact h4

theorem execGraceEnd_kept {q p} {a0} (h0 : Kept q p a0) : KeptRes q p (execGraceEnd a0) := by
  unfold execGraceEnd
  refine keptRes_next ?_
  refine kept_ite ?_ ?_
  · apply State.setField_kept
    refine kept_mk' (kept_comp ?_)
    exact h0
  · exact h0

theorem execImageSaveEvent_kept {q p} {a0} (h0 : Kept q p a0) : KeptRes q p (execImageSaveEvent a0) := by
  unfold execImageSaveEvent
  refine keptRes_next ?_
  refine kept_ite ?_ ?_
  · apply State.saveImage_kept
    exact h0
  · exact h0

theorem execImageSavePeriodic_kept {q p} {a0} (h0 : Kept q p a0) : KeptRes q p (execImageSavePeriodic a0) := by
  unfold execImageSavePeriodic
  refine keptRes_next ?_
  refine kept_ite ?_ ?_
  · apply State.saveImage_kept
    exact h0
  · exact h0

theorem execLeaseExpiry_kept {q p} {a0 a1} (h1 : Kept q p a1) : KeptRes q p (execLeaseExpiry a0 a1) := by
  unfold execLeaseExpiry
  split
  · refine keptRes_next ?_
    exact h1
  · refine keptRes_ite ?_ ?_
    · refine keptRes_next ?_
      apply State.stopCore_kept
      exact h1
    · refine keptRes_next ?_
      refine kept_ite ?_ ?_
      · apply State.lapse_kept
        exact h1
      · exact h1

theorem execRehearsalAutoDue_kept {q p} {a0} (h0 : Kept q p a0) : KeptRes q p (execRehearsalAutoDue a0) := by
  unfold execRehearsalAutoDue
  extract_lets +onlyGivenNames x0
  clear_value x0
  split
  · refine keptRes_next ?_
    refine kept_ite ?_ ?_
    · apply State.rehTry_kept
      refine kept_mk' (kept_comp ?_)
      exact h0
    · exact h0
  · refine keptRes_next ?_
    exact h0

theorem execRehearsalTimeout_kept {q p} {a0} (h0 : Kept q p a0) : KeptRes q p (execRehearsalTimeout a0) := by
  unfold execRehearsalTimeout
  split
  · refine keptRes_next ?_
    refine kept_ite ?_ ?_
    · apply State.endRehearsal_kept
      exact h0
    · exact h0
  · refine keptRes_next ?_
    exact h0

theorem execReservationExpiry_kept {q p} {a0} (h0 : Kept q p a0) : KeptRes q p (execReservationExpiry a0) := by
  unfold execReservationExpiry
  refine keptRes_ite ?_ ?_
  · extract_lets +onlyGivenNames x0
    have k1 : Kept q p x0 := by
      unfold x0
      apply State.orReg_kept
      apply State.setReg_kept
      exact h0
    clear_value x0
    extract_lets +onlyGivenNames x2
    have k3 : Kept q p x2 := by
      unfold x2
      refine kept_ite ?_ ?_
      · apply State.wtrStart_kept
        exact k1
      · exact k1
    clear_value x2
    refine keptRes_next ?_
    apply State.report1_kept
    exact k3
  · refine keptRes_next ?_
    exact h0

theorem execRevertRehearsalDue_kept {q p} {a0} (h0 : Kept q p a0) : KeptRes q p (execRevertRehearsalDue a0) := by
  unfold execRevertRehearsalDue
  split
  · refine keptRes_next ?_
    refine kept_ite ?_ ?_
    · apply State.rehTry_kept
      refine kept_mk' (kept_comp ?_)
      exact h0
    · exact h0
  · refine keptRes_next ?_
    exact h0

theorem execSuccessorReadyTimeout_kept {q p} {a0} (h0 : Kept q p a0) : KeptRes q p (execSuccessorReadyTimeout a0) := by
  unfold execSuccessorReadyTimeout
  split
  · refine keptRes_next ?_
    refine kept_ite ?_ ?_
    · apply State.endRehearsal_kept
      exact h0
    · exact h0
  · refine keptRes_next ?_
    exact h0

theorem execTknClaim_kept {q p} {a0 a1 a2} (h2 : Kept q p a2) : KeptRes q p (execTknClaim a0 a1 a2) := by
  unfold execTknClaim
  refine keptRes_next ?_
  apply State.claim_kept
  exact h2

theorem execTknRehCall_kept {q p} {a0 a1 a2} (h2 : Kept q p a2) : KeptRes q p (execTknRehCall a0 a1 a2) := by
  unfold execTknRehCall
  refine keptRes_next ?_
  apply State.baseWrite_kept
  · intro z0 k1
    apply State.rehCtrlWrite_kept
    exact k1
  · exact h2

theorem execTknRehDismiss_kept {q p} {a0 a1 a2} (h2 : Kept q p a2) : KeptRes q p (execTknRehDismiss a0 a1 a2) := by
  unfold execTknRehDismiss
  refine keptRes_next ?_
  apply State.baseWrite_kept
  · intro z0 k1
    apply State.rehCtrlWrite_kept
    exact k1
  · exact h2

theorem execTknRehReport_kept {q p} {a0 a1 a2} (h2 : Kept q p a2) : KeptRes q p (execTknRehReport a0 a1 a2) := by
  unfold execTknRehReport
  refine keptRes_next ?_
  apply State.rehReport_kept
  exact h2

theorem execTknRehStart_kept {q p} {a0 a1 a2} (h2 : Kept q p a2) : KeptRes q p (execTknRehStart a0 a1 a2) := by
  unfold execTknRehStart
  refine keptRes_next ?_
  apply State.baseWrite_kept
  · intro z0 k1
    apply State.rehCtrlWrite_kept
    exact k1
  · exact h2

theorem execTknRelease_kept {q p} {a0 a1 a2} (h2 : Kept q p a2) : KeptRes q p (execTknRelease a0 a1 a2) := by
  unfold execTknRelease
  refine keptRes_next ?_
  apply State.releaseWrite_kept
  exact h2

theorem execTknRenew_kept {q p} {a0 a1 a2} (h2 : Kept q p a2) : KeptRes q p (execTknRenew a0 a1 a2) := by
  unfold execTknRenew
  refine keptRes_next ?_
  apply State.renewWrite_kept
  exact h2

theorem execTknResume_kept {q p} {a0 a1 a2} (h2 : Kept q p a2) : KeptRes q p (execTknResume a0 a1 a2) := by
  unfold execTknResume
  refine keptRes_next ?_
  apply State.baseWrite_kept
  · intro z0 k1
    apply State.resumeWrite_kept
    exact k1
  · exact h2

theorem execUnitBootFail_kept {q p} {a0 a1 a2} (h2 : Kept q p a2) : KeptRes q p (execUnitBootFail a0 a1 a2) := by
  unfold execUnitBootFail
  refine keptRes_ite ?_ ?_
  · refine keptRes_next ?_
    apply State.stopCore_kept
    exact h2
  · split
    · refine keptRes_next ?_
      refine kept_ite ?_ ?_
      · apply State.bootFailed_kept
        exact h2
      · exact h2
    · refine keptRes_next ?_
      exact h2

theorem execWtrExpiry_kept {q p} {a0} (h0 : Kept q p a0) : KeptRes q p (execWtrExpiry a0) := by
  unfold execWtrExpiry
  split
  · refine keptRes_ite ?_ ?_
    · refine keptRes_ite ?_ ?_
      · refine keptRes_next ?_
        apply State.wtrStop_kept
        apply State.orReg_kept
        exact h0
      · extract_lets +onlyGivenNames x3
        clear_value x3
        extract_lets +onlyGivenNames x4
        have k5 : Kept q p x4 := by
          unfold x4
          apply State.clrReg_kept
          refine kept_mk' (kept_comp ?_)
          exact h0
        clear_value x4
        refine keptRes_next ?_
        apply State.startRehearsal_kept
        exact k5
    · refine keptRes_next ?_
      exact h0
  · refine keptRes_next ?_
    exact h0

theorem State.applyRemap_kept {q p} {a0 a1} (h0 : Kept q p a0) : Kept q p (State.applyRemap a0 a1) := by
  unfold State.applyRemap
  split
  · refine kept_mk' (kept_comp ?_)
    exact h0
  · refine kept_mk' (kept_comp ?_)
    exact h0

theorem State.bootUnits_kept {q p} {a0} (h0 : Kept q p a0) : Kept q p (State.bootUnits a0) := by
  unfold State.bootUnits
  refine kept_ite ?_ ?_
  · apply State.switchOn_kept
    exact h0
  · apply State.switchOn_kept
    apply State.orReg_kept
    exact h0

theorem State.closeUnitRecords_kept {q p} {a0 a1} (h1 : Kept q p a1) : Kept q p (State.closeUnitRecords a0 a1) := by
  unfold State.closeUnitRecords
  refine kept_foldl ?_ ?_
  · intro z0 z1 k2
    extract_lets +onlyGivenNames x3
    clear_value x3
    apply State.setReg_kept
    apply State.setReg_kept
    apply State.setReg_kept
    exact k2
  · exact h1

theorem State.coldReset_kept {q p} {a0} (h0 : Kept q p a0) : Kept q p (State.coldReset a0) := by
  unfold State.coldReset
  refine ⟨h0.1, h0.2.1, rfl, ?_⟩
  rfl

theorem State.unitReset_kept {q p} {a0 a1} (h1 : Kept q p a1) : Kept q p (State.unitReset a0 a1) := by
  unfold State.unitReset
  apply State.stopCore_kept
  apply State.bump_kept
  apply State.orReg_kept
  exact h1

theorem State.cuSelfWrite_kept {q p} {a0 a1 a2} (h2 : Kept q p a2) : Kept q p (State.cuSelfWrite a0 a1 a2) := by
  unfold State.cuSelfWrite
  refine kept_ite ?_ ?_
  · apply State.unitReset_kept
    exact h2
  · exact h2

theorem State.fusedRemaps_kept {q p} {a0} (h0 : Kept q p a0) : Kept q p (State.fusedRemaps a0) := by
  unfold State.fusedRemaps
  refine kept_foldl ?_ ?_
  · intro z0 z1 k2
    apply State.applyRemap_kept
    exact k2
  · exact h0

theorem State.keeperUp_kept {q p} {a0} (h0 : Kept q p a0) : Kept q p (State.keeperUp a0) := by
  unfold State.keeperUp
  extract_lets +onlyGivenNames x0
  have k1 : Kept q p x0 := by
    unfold x0
    apply State.showFuses_kept
    apply State.fusedRemaps_kept
    apply State.orReg_kept
    exact h0
  clear_value x0
  extract_lets +onlyGivenNames x2
  clear_value x2
  extract_lets +onlyGivenNames x3
  clear_value x3
  extract_lets +onlyGivenNames x4
  clear_value x4
  extract_lets +onlyGivenNames x5
  clear_value x5
  extract_lets +onlyGivenNames x6
  have k7 : Kept q p x6 := by
    unfold x6
    refine kept_mk' (kept_comp ?_)
    exact k1
  clear_value x6
  extract_lets +onlyGivenNames x8
  have k9 : Kept q p x8 := by
    unfold x8
    apply State.setReg_kept
    apply State.setReg_kept
    exact k7
  clear_value x8
  apply State.logPut_kept
  exact k9

theorem State.keptPart_kept {q p} {a0} (h0 : Kept q p a0) : Kept q p (State.keptPart a0) := by
  unfold State.keptPart
  extract_lets +onlyGivenNames x0
  clear_value x0
  extract_lets +onlyGivenNames x1
  have k2 : Kept q p x1 := by
    unfold x1
    refine kept_foldl ?_ ?_
    · intro z3 z4 k5
      apply State.setReg_kept
      exact k5
    · exact h0
  clear_value x1
  extract_lets +onlyGivenNames x6
  have k7 : Kept q p x6 := by
    unfold x6
    apply State.setReg_kept
    apply State.setReg_kept
    exact k2
  clear_value x6
  extract_lets +onlyGivenNames x8
  have k9 : Kept q p x8 := by
    unfold x8
    apply State.setReg_kept
    exact k7
  clear_value x8
  extract_lets +onlyGivenNames x10
  have k11 : Kept q p x10 := by
    unfold x10
    apply State.setReg_kept
    exact k9
  clear_value x10
  apply State.setReg_kept
  apply State.setReg_kept
  exact k11

theorem State.railLevels_kept {q p} {a0} (h0 : Kept q p a0) : Kept q p (State.railLevels a0) := by
  unfold State.railLevels
  refine kept_foldl ?_ ?_
  · intro z0 z1 k2
    extract_lets +onlyGivenNames x3
    clear_value x3
    extract_lets +onlyGivenNames x4
    clear_value x4
    split
    · apply State.orReg_kept
      exact k2
    · exact k2
  · exact h0

theorem State.railLow_kept {q p} {a0 a1 a2} (h2 : Kept q p a2) : Kept q p (State.railLow a0 a1 a2) := by
  unfold State.railLow
  extract_lets +onlyGivenNames x0
  clear_value x0
  extract_lets +onlyGivenNames x1
  clear_value x1
  extract_lets +onlyGivenNames x2
  have k3 : Kept q p x2 := by
    unfold x2
    refine kept_mk' (kept_comp ?_)
    exact h2
  clear_value x2
  apply State.report1_kept
  apply State.orReg_kept
  apply State.clrReg_kept
  exact k3

theorem State.railOk_kept {q p} {a0 a1 a2} (h2 : Kept q p a2) : Kept q p (State.railOk a0 a1 a2) := by
  unfold State.railOk
  extract_lets +onlyGivenNames x0
  clear_value x0
  extract_lets +onlyGivenNames x1
  clear_value x1
  extract_lets +onlyGivenNames x2
  have k3 : Kept q p x2 := by
    unfold x2
    refine kept_mk' (kept_comp ?_)
    exact h2
  clear_value x2
  extract_lets +onlyGivenNames x4
  have k5 : Kept q p x4 := by
    unfold x4
    refine kept_ite ?_ ?_
    · exact k3
    · apply State.orReg_kept
      exact k3
  clear_value x4
  extract_lets +onlyGivenNames x6
  clear_value x6
  split
  · apply State.levelEnd_kept
    exact k5
  · exact k5

theorem State.relAtLeast_kept {q p} {a0 a1} (h1 : Kept q p a1) : Kept q p (State.relAtLeast a0 a1) := by
  unfold State.relAtLeast
  refine kept_mk' (kept_comp ?_)
  exact h1

theorem State.warmHold_kept {q p} {a0} (h0 : Kept q p a0) : Kept q p (State.warmHold a0) := by
  unfold State.warmHold
  extract_lets +onlyGivenNames x0
  have k1 : Kept q p x0 := by
    unfold x0
    apply State.powerDown_kept
    apply State.powerDown_kept
    apply State.abortFlights_kept
    apply State.abortFlights_kept
    exact h0
  clear_value x0
  extract_lets +onlyGivenNames x2
  have k3 : Kept q p x2 := by
    unfold x2
    apply State.resetRegs_kept
    apply State.spDisable_kept
    exact k1
  clear_value x2
  extract_lets +onlyGivenNames x4
  have k5 : Kept q p x4 := by
    unfold x4
    apply State.railLevels_kept
    apply State.closeUnitRecords_kept
    apply State.closeUnitRecords_kept
    apply State.keptPart_kept
    exact k3
  clear_value x4
  extract_lets +onlyGivenNames x6
  clear_value x6
  extract_lets +onlyGivenNames x7
  clear_value x7
  extract_lets +onlyGivenNames x8
  clear_value x8
  extract_lets +onlyGivenNames x9
  clear_value x9
  refine kept_mk' (kept_comp ?_)
  exact k5

theorem State.warmStart_kept {q p} {a0 a1 a2} (h2 : Kept q p a2) : Kept q p (State.warmStart a0 a1 a2) := by
  unfold State.warmStart
  refine kept_ite ?_ ?_
  · exact h2
  · split
    · refine kept_ite ?_ ?_
      · apply State.relAtLeast_kept
        exact h2
      · exact h2
    · extract_lets +onlyGivenNames x5
      have k6 : Kept q p x5 := by
        unfold x5
        apply State.bump_kept
        apply State.setField_kept
        exact h2
      clear_value x5
      extract_lets +onlyGivenNames x7
      have k8 : Kept q p x7 := by
        unfold x7
        apply State.logPut_kept
        exact k6
      clear_value x7
      extract_lets +onlyGivenNames x9
      clear_value x9
      extract_lets +onlyGivenNames x10
      clear_value x10
      extract_lets +onlyGivenNames x11
      have k12 : Kept q p x11 := by
        unfold x11
        refine kept_mk' (kept_comp ?_)
        exact k8
      clear_value x11
      refine kept_ite ?_ ?_
      · apply State.warmHold_kept
        refine kept_mk' (kept_comp ?_)
        exact k12
      · extract_lets +onlyGivenNames x13
        have k14 : Kept q p x13 := by
          unfold x13
          apply State.enterPark_kept
          apply State.schedStop_kept
          exact k12
        clear_value x13
        refine kept_mk' (kept_comp ?_)
        exact k14

theorem State.rstCtrlWrite_kept {q p} {a0 a1} (h1 : Kept q p a1) : Kept q p (State.rstCtrlWrite a0 a1) := by
  unfold State.rstCtrlWrite
  refine kept_ite ?_ ?_
  · exact h1
  · refine kept_ite ?_ ?_
    · apply State.warmStart_kept
      exact h1
    · extract_lets +onlyGivenNames x0
      have k1 : Kept q p x0 := by
        unfold x0
        refine kept_ite ?_ ?_
        · apply State.unitReset_kept
          exact h1
        · exact h1
      clear_value x0
      refine kept_ite ?_ ?_
      · apply State.unitReset_kept
        exact k1
      · exact k1

theorem State.warmRelease_kept {q p} {a0} (h0 : Kept q p a0) : Kept q p (State.warmRelease a0) := by
  unfold State.warmRelease
  extract_lets +onlyGivenNames x0
  clear_value x0
  extract_lets +onlyGivenNames x1
  clear_value x1
  extract_lets +onlyGivenNames x2
  have k3 : Kept q p x2 := by
    unfold x2
    refine kept_mk' (kept_comp ?_)
    exact h0
  clear_value x2
  apply State.bootUnits_kept
  apply State.setReg_kept
  exact k3

theorem execColdReset_kept {q p} {a0} (h0 : Kept q p a0) : KeptRes q p (execColdReset a0) := by
  unfold execColdReset
  refine keptRes_next ?_
  apply State.coldReset_kept
  exact h0

theorem execDramInitDone_kept {q p} {a0} (h0 : Kept q p a0) : KeptRes q p (execDramInitDone a0) := by
  unfold execDramInitDone
  refine keptRes_ite ?_ ?_
  · refine keptRes_next ?_
    exact h0
  · extract_lets +onlyGivenNames x0
    have k1 : Kept q p x0 := by
      unfold x0
      apply State.orReg_kept
      exact h0
    clear_value x0
    refine keptRes_next ?_
    refine kept_ite ?_ ?_
    · extract_lets +onlyGivenNames x2
      have k3 : Kept q p x2 := by
        unfold x2
        apply State.orReg_kept
        apply State.clrReg_kept
        exact k1
      clear_value x2
      refine kept_mk' (kept_comp ?_)
      exact k3
    · exact k1

theorem execDramTrained_kept {q p} {a0 a1} (h1 : Kept q p a1) : KeptRes q p (execDramTrained a0 a1) := by
  unfold execDramTrained
  refine keptRes_ite ?_ ?_
  · refine keptRes_next ?_
    exact h1
  · extract_lets +onlyGivenNames x0
    have k1 : Kept q p x0 := by
      unfold x0
      apply State.orReg_kept
      apply State.orReg_kept
      exact h1
    clear_value x0
    extract_lets +onlyGivenNames x2
    clear_value x2
    extract_lets +onlyGivenNames x3
    have k4 : Kept q p x3 := by
      unfold x3
      refine kept_mk' (kept_comp ?_)
      exact k1
    clear_value x3
    extract_lets +onlyGivenNames x5
    have k6 : Kept q p x5 := by
      unfold x5
      refine kept_ite ?_ ?_
      · exact k4
      · apply State.clrReg_kept
        exact k4
    clear_value x5
    refine keptRes_next ?_
    apply State.bootUnits_kept
    exact k6

theorem execDrivePowerDown_kept {q p} {a0} (h0 : Kept q p a0) : KeptRes q p (execDrivePowerDown a0) := by
  unfold execDrivePowerDown
  split
  · refine keptRes_next ?_
    exact h0
  · refine keptRes_ite ?_ ?_
    · extract_lets +onlyGivenNames x5
      have k6 : Kept q p x5 := by
        unfold x5
        apply State.driveDown_kept
        exact h0
      clear_value x5
      split
      · refine keptRes_next ?_
        apply State.warmHold_kept
        exact k6
      · refine keptRes_next ?_
        exact k6
    · refine keptRes_next ?_
      exact h0

theorem execDriveRailLow_kept {q p} {a0 a1} (h1 : Kept q p a1) : KeptRes q p (execDriveRailLow a0 a1) := by
  unfold execDriveRailLow
  refine keptRes_ite ?_ ?_
  · refine keptRes_next ?_
    exact h1
  · extract_lets +onlyGivenNames x0
    clear_value x0
    extract_lets +onlyGivenNames x1
    have k2 : Kept q p x1 := by
      unfold x1
      refine kept_mk' (kept_comp ?_)
      exact h1
    clear_value x1
    refine keptRes_next ?_
    refine kept_ite ?_ ?_
    · apply State.railLow_kept
      exact k2
    · apply State.railLow_kept
      exact k2

theorem execJtagInstruction_kept {q p} {a0 a1} (h1 : Kept q p a1) : KeptRes q p (execJtagInstruction a0 a1) := by
  unfold execJtagInstruction
  refine keptRes_next ?_
  refine kept_mk' (kept_comp ?_)
  exact h1

theorem execPeerCallTimeout_kept {q p} {a0} (h0 : Kept q p a0) : KeptRes q p (execPeerCallTimeout a0) := by
  unfold execPeerCallTimeout
  refine keptRes_ite ?_ ?_
  · extract_lets +onlyGivenNames x0
    have k1 : Kept q p x0 := by
      unfold x0
      refine kept_ite ?_ ?_
      · apply State.setPeerFail_kept
        exact h0
      · exact h0
    clear_value x0
    refine keptRes_next ?_
    apply State.switchOn_kept
    apply State.orReg_kept
    exact k1
  · refine keptRes_next ?_
    exact h0

theorem execPllLock_kept {q p} {a0} (h0 : Kept q p a0) : KeptRes q p (execPllLock a0) := by
  unfold execPllLock
  refine keptRes_ite ?_ ?_
  · refine keptRes_next ?_
    exact h0
  · refine keptRes_next ?_
    apply State.keeperUp_kept
    refine kept_mk' (kept_comp ?_)
    exact h0

theorem execPllRelock_kept {q p} {a0} (h0 : Kept q p a0) : KeptRes q p (execPllRelock a0) := by
  unfold execPllRelock
  refine keptRes_ite ?_ ?_
  · refine keptRes_next ?_
    exact h0
  · refine keptRes_next ?_
    apply State.levelEnd_kept
    refine kept_mk' (kept_comp ?_)
    exact h0

theorem execPllUnlock_kept {q p} {a0} (h0 : Kept q p a0) : KeptRes q p (execPllUnlock a0) := by
  unfold execPllUnlock
  refine keptRes_ite ?_ ?_
  · extract_lets +onlyGivenNames x0
    have k1 : Kept q p x0 := by
      unfold x0
      apply State.report1_kept
      exact h0
    clear_value x0
    refine keptRes_next ?_
    refine kept_mk' (kept_comp ?_)
    exact k1
  · refine keptRes_next ?_
    exact h0

theorem execPorRise_kept {q p} {a0 a1 a2} (h2 : Kept q p a2) : KeptRes q p (execPorRise a0 a1 a2) := by
  unfold execPorRise
  refine keptRes_ite ?_ ?_
  · refine keptRes_next ?_
    exact h2
  · extract_lets +onlyGivenNames x0
    have k1 : Kept q p x0.2 := by
      unfold x0
      apply State.drawNat_kept
      exact h2
    clear_value x0
    extract_lets +onlyGivenNames x2
    have k3 : Kept q p x2.2 := by
      unfold x2
      apply State.drawNat_kept
      exact k1
    clear_value x2
    extract_lets +onlyGivenNames x4
    have k5 : Kept q p x4 := by
      unfold x4
      apply State.setReg_kept
      apply State.setReg_kept
      apply State.setReg_kept
      apply State.setReg_kept
      exact k3
    clear_value x4
    extract_lets +onlyGivenNames x6
    clear_value x6
    refine keptRes_next ?_
    extract_lets +onlyGivenNames x7
    have k8 : Kept q p x7 := by
      unfold x7
      apply State.setReg_kept
      exact k5
    clear_value x7
    refine kept_mk' (kept_comp ?_)
    exact k8

theorem execPwrCuSelfReset_kept {q p} {a0 a1 a2} (h2 : Kept q p a2) : KeptRes q p (execPwrCuSelfReset a0 a1 a2) := by
  unfold execPwrCuSelfReset
  refine keptRes_next ?_
  apply State.cuSelfWrite_kept
  exact h2

theorem execPwrRstDevice_kept {q p} {a0 a1 a2} (h2 : Kept q p a2) : KeptRes q p (execPwrRstDevice a0 a1 a2) := by
  unfold execPwrRstDevice
  refine keptRes_next ?_
  apply State.baseWrite_kept
  · intro z0 k1
    apply State.rstCtrlWrite_kept
    exact k1
  · exact h2

theorem execPwrRstUnit_kept {q p} {a0 a1 a2} (h2 : Kept q p a2) : KeptRes q p (execPwrRstUnit a0 a1 a2) := by
  unfold execPwrRstUnit
  refine keptRes_next ?_
  apply State.baseWrite_kept
  · intro z0 k1
    apply State.rstCtrlWrite_kept
    exact k1
  · exact h2

theorem execResetNAssert_kept {q p} {a0 a1} (h1 : Kept q p a1) : KeptRes q p (execResetNAssert a0 a1) := by
  unfold execResetNAssert
  refine keptRes_ite ?_ ?_
  · refine keptRes_next ?_
    exact h1
  · refine keptRes_ite ?_ ?_
    · refine keptRes_next ?_
      apply State.warmStart_kept
      exact h1
    · extract_lets +onlyGivenNames x0
      have k1 : Kept q p x0.2 := by
        unfold x0
        apply State.drawNat_kept
        exact h1
      clear_value x0
      refine keptRes_next ?_
      refine kept_ite ?_ ?_
      · apply State.warmStart_kept
        exact k1
      · exact k1

theorem execSupplyMonitorRelease_kept {q p} {a0 a1 a2} (h2 : Kept q p a2) : KeptRes q p (execSupplyMonitorRelease a0 a1 a2) := by
  unfold execSupplyMonitorRelease
  refine keptRes_next ?_
  refine kept_ite ?_ ?_
  · exact h2
  · apply State.railOk_kept
    exact h2

theorem execVanaLow_kept {q p} {a0} (h0 : Kept q p a0) : KeptRes q p (execVanaLow a0) := by
  unfold execVanaLow
  refine keptRes_next ?_
  refine kept_ite ?_ ?_
  · exact h0
  · apply State.warmStart_kept
    apply State.railLow_kept
    exact h0

theorem execVcoreLow_kept {q p} {a0 a1} (h1 : Kept q p a1) : KeptRes q p (execVcoreLow a0 a1) := by
  unfold execVcoreLow
  refine keptRes_next ?_
  refine kept_ite ?_ ?_
  · exact h1
  · apply State.linkLost_kept
    apply State.unitReset_kept
    apply State.railLow_kept
    exact h1

theorem execVioLow_kept {q p} {a0} (h0 : Kept q p a0) : KeptRes q p (execVioLow a0) := by
  unfold execVioLow
  refine keptRes_next ?_
  refine kept_ite ?_ ?_
  · exact h0
  · apply State.railLow_kept
    exact h0

theorem execVphyLow_kept {q p} {a0 a1 a2} (h2 : Kept q p a2) : KeptRes q p (execVphyLow a0 a1 a2) := by
  unfold execVphyLow
  refine keptRes_next ?_
  refine kept_ite ?_ ?_
  · exact h2
  · apply State.linkLost_kept
    apply State.railLow_kept
    exact h2

theorem execWarmResetRelease_kept {q p} {a0} (h0 : Kept q p a0) : KeptRes q p (execWarmResetRelease a0) := by
  unfold execWarmResetRelease
  split
  · refine keptRes_next ?_
    exact h0
  · refine keptRes_ite ?_ ?_
    · refine keptRes_next ?_
      apply State.warmRelease_kept
      refine kept_ite ?_ ?_
      · exact h0
      · apply State.warmHold_kept
        apply State.driveDown_kept
        exact h0
    · refine keptRes_next ?_
      exact h0

theorem execWatchdog_kept {q p} {a0 a1} (h1 : Kept q p a1) : KeptRes q p (execWatchdog a0 a1) := by
  unfold execWatchdog
  refine keptRes_ite ?_ ?_
  · refine keptRes_next ?_
    exact h1
  · refine keptRes_next ?_
    apply State.unitReset_kept
    apply State.report1_kept
    exact h1

theorem State.commitLog_kept {q p} {a0 a1} (h1 : Kept q p a1) : Kept q p (State.commitLog a0 a1) := by
  unfold State.commitLog
  split
  · exact h1
  · extract_lets +onlyGivenNames x6
    clear_value x6
    extract_lets +onlyGivenNames x7
    clear_value x7
    extract_lets +onlyGivenNames x8
    clear_value x8
    extract_lets +onlyGivenNames x9
    clear_value x9
    extract_lets +onlyGivenNames x10
    clear_value x10
    extract_lets +onlyGivenNames x11
    have k12 : Kept q p x11 := by
      unfold x11
      refine kept_ite ?_ ?_
      · refine kept_mk' (kept_comp ?_)
        exact h1
      · apply State.orReg_kept
        apply State.setReg_kept
        refine kept_mk' (kept_comp ?_)
        exact h1
    clear_value x11
    apply State.setReg_kept
    exact k12

theorem State.fltCmd_kept {q p} {a0 a1 a2} (h2 : Kept q p a2) : Kept q p (State.fltCmd a0 a1 a2) := by
  unfold State.fltCmd
  extract_lets +onlyGivenNames x0
  have k1 : Kept q p x0 := by
    unfold x0
    refine kept_ite ?_ ?_
    · apply State.clearAll_kept
      exact h2
    · exact h2
  clear_value x0
  extract_lets +onlyGivenNames x2
  have k3 : Kept q p x2 := by
    unfold x2
    refine kept_ite ?_ ?_
    · apply State.clearFirst_kept
      exact k1
    · exact k1
  clear_value x2
  refine kept_ite ?_ ?_
  · apply State.thimbleRelease_kept
    exact k3
  · exact k3

theorem State.srcClear_kept {q p} {a0 a1} (h1 : Kept q p a1) : Kept q p (State.srcClear a0 a1) := by
  unfold State.srcClear
  refine kept_ite ?_ ?_
  · exact h1
  · refine kept_ite ?_ ?_
    · refine kept_ite ?_ ?_
      · apply State.orReg_kept
        exact h1
      · apply State.orReg_kept
        exact h1
    · apply State.clearSource_kept
      exact h1

theorem execFaultReport_kept {q p} {a0 a1} (h1 : Kept q p a1) : KeptRes q p (execFaultReport a0 a1) := by
  unfold execFaultReport
  refine keptRes_next ?_
  apply State.report_kept
  exact h1

theorem execFltClrAll_kept {q p} {a0 a1 a2} (h2 : Kept q p a2) : KeptRes q p (execFltClrAll a0 a1 a2) := by
  unfold execFltClrAll
  refine keptRes_next ?_
  apply State.baseWrite_kept
  · intro z0 k1
    apply State.fltCmd_kept
    exact k1
  · exact h2

theorem execFltClrFirst_kept {q p} {a0 a1 a2} (h2 : Kept q p a2) : KeptRes q p (execFltClrFirst a0 a1 a2) := by
  unfold execFltClrFirst
  refine keptRes_next ?_
  apply State.baseWrite_kept
  · intro z0 k1
    apply State.fltCmd_kept
    exact k1
  · exact h2

theorem execFltRelease_kept {q p} {a0 a1 a2} (h2 : Kept q p a2) : KeptRes q p (execFltRelease a0 a1 a2) := by
  unfold execFltRelease
  refine keptRes_next ?_
  apply State.baseWrite_kept
  · intro z0 k1
    apply State.fltCmd_kept
    exact k1
  · exact h2

theorem execFltSrcClr_kept {q p} {a0 a1 a2 a3} (h3 : Kept q p a3) : KeptRes q p (execFltSrcClr a0 a1 a2 a3) := by
  unfold execFltSrcClr
  refine keptRes_ite ?_ ?_
  · refine keptRes_next ?_
    apply State.baseWrite_kept
    · intro z0 k1
      refine kept_ite ?_ ?_
      · apply State.srcClear_kept
        exact k1
      · exact k1
    · exact h3
  · refine keptRes_ite ?_ ?_
    · refine keptRes_next ?_
      refine kept_ite ?_ ?_
      · apply State.srcClear_kept
        exact h3
      · exact h3
    · refine keptRes_next ?_
      exact h3

theorem execLogCommit_kept {q p} {a0 a1} (h1 : Kept q p a1) : KeptRes q p (execLogCommit a0 a1) := by
  unfold execLogCommit
  refine keptRes_next ?_
  apply State.commitLog_kept
  exact h1

theorem State.memErr_kept {q p} {a0 a1 a2 a3} (h3 : Kept q p a3) : Kept q p (State.memErr a0 a1 a2 a3) := by
  unfold State.memErr
  apply State.setReg_kept
  apply State.setReg_kept
  apply State.setReg_kept
  exact h3

theorem State.showBankCopy_kept {q p} {a0} (h0 : Kept q p a0) : Kept q p (State.showBankCopy a0) := by
  unfold State.showBankCopy
  apply State.setReg_kept
  exact h0

theorem State.spareBank_kept {q p} {a0 a1} (h1 : Kept q p a1) : Kept q p (State.spareBank a0 a1) := by
  unfold State.spareBank
  extract_lets +onlyGivenNames x0
  clear_value x0
  refine kept_ite ?_ ?_
  · exact h1
  · refine kept_ite ?_ ?_
    · apply State.report1_kept
      apply State.orReg_kept
      exact h1
    · apply State.showBankCopy_kept
      refine kept_mk' (kept_comp ?_)
      exact h1

theorem State.spareRow_kept {q p} {a0 a1} (h1 : Kept q p a1) : Kept q p (State.spareRow a0 a1) := by
  unfold State.spareRow
  refine kept_ite ?_ ?_
  · exact h1
  · refine kept_ite ?_ ?_
    · apply State.spareBank_kept
      exact h1
    · refine kept_mk' (kept_comp ?_)
      exact h1

theorem State.memCe_kept {q p} {a0 a1 a2 a3} (h3 : Kept q p a3) : Kept q p (State.memCe a0 a1 a2 a3) := by
  unfold State.memCe
  extract_lets +onlyGivenNames x0
  have k1 : Kept q p x0 := by
    unfold x0
    apply State.memErr_kept
    apply State.orReg_kept
    apply State.bump_kept
    exact h3
  clear_value x0
  extract_lets +onlyGivenNames x2
  have k3 : Kept q p x2 := by
    unfold x2
    apply State.report1_kept
    exact k1
  clear_value x2
  extract_lets +onlyGivenNames x4
  clear_value x4
  extract_lets +onlyGivenNames x5
  clear_value x5
  refine kept_ite ?_ ?_
  · apply State.spareRow_kept
    refine kept_mk' (kept_comp ?_)
    exact k3
  · refine kept_mk' (kept_comp ?_)
    exact k3

theorem State.memCmd_kept {q p} {a0 a1} (h1 : Kept q p a1) : Kept q p (State.memCmd a0 a1) := by
  unfold State.memCmd
  extract_lets +onlyGivenNames x0
  clear_value x0
  refine kept_ite ?_ ?_
  · apply State.spareBank_kept
    exact h1
  · exact h1

theorem State.memCtrl_kept {q p} {a0 a1} (h1 : Kept q p a1) : Kept q p (State.memCtrl a0 a1) := by
  unfold State.memCtrl
  extract_lets +onlyGivenNames x0
  have k1 : Kept q p x0 := by
    unfold x0
    apply State.maskWrite_kept
    exact h1
  clear_value x0
  refine kept_ite ?_ ?_
  · refine kept_foldl ?_ ?_
    · intro z2 z3 k4
      apply State.setReg_kept
      exact k4
    · exact k1
  · exact k1

theorem State.metaOf_kept {q p} {a0 a1} (h1 : Kept q p a1) : Kept q p (State.metaOf a0 a1).2 := by
  unfold State.metaOf
  split
  · exact h1
  · split
    · exact h1
    · extract_lets +onlyGivenNames x15
      have k16 : Kept q p x15.2 := by
        unfold x15
        apply State.drawNat_kept
        exact h1
      clear_value x15
      exact k16

theorem State.memProbe_kept {q p} {a0 a1} (h1 : Kept q p a1) : Kept q p (State.memProbe a0 a1) := by
  unfold State.memProbe
  extract_lets +onlyGivenNames x0
  have k1 : Kept q p x0 := by
    unfold x0
    apply State.maskWrite_kept
    exact h1
  clear_value x0
  extract_lets +onlyGivenNames x2
  have k3 : Kept q p x2.2 := by
    unfold x2
    apply State.metaOf_kept
    exact k1
  clear_value x2
  apply State.setReg_kept
  exact k3

theorem State.setBankUe_kept {q p} {a0 a1} (h1 : Kept q p a1) : Kept q p (State.setBankUe a0 a1) := by
  unfold State.setBankUe
  refine kept_mk' (kept_comp ?_)
  exact h1

theorem State.setMeta_kept {q p} {a0 a1 a2} (h2 : Kept q p a2) : Kept q p (State.setMeta a0 a1 a2) := by
  unfold State.setMeta
  refine kept_mk' (kept_comp ?_)
  exact h2

theorem State.memUe_kept {q p} {a0 a1 a2} (h2 : Kept q p a2) : Kept q p (State.memUe a0 a1 a2) := by
  unfold State.memUe
  extract_lets +onlyGivenNames x0
  clear_value x0
  refine kept_ite ?_ ?_
  · exact h2
  · extract_lets +onlyGivenNames x1
    have k2 : Kept q p x1.2 := by
      unfold x1
      apply State.metaOf_kept
      exact h2
    clear_value x1
    extract_lets +onlyGivenNames x3
    have k4 : Kept q p x3 := by
      unfold x3
      apply State.setMeta_kept
      exact k2
    clear_value x3
    extract_lets +onlyGivenNames x5
    have k6 : Kept q p x5 := by
      unfold x5
      apply State.memErr_kept
      apply State.orReg_kept
      apply State.bump_kept
      exact k4
    clear_value x5
    extract_lets +onlyGivenNames x7
    have k8 : Kept q p x7 := by
      unfold x7
      apply State.report1_kept
      exact k6
    clear_value x7
    extract_lets +onlyGivenNames x9
    clear_value x9
    extract_lets +onlyGivenNames x10
    clear_value x10
    refine kept_ite ?_ ?_
    · apply State.spareBank_kept
      apply State.setBankUe_kept
      exact k8
    · apply State.setBankUe_kept
      exact k8

theorem State.ownLine_kept {q p} {a0 a1 a2} (h2 : Kept q p a2) : Kept q p (State.ownLine a0 a1 a2) := by
  unfold State.ownLine
  apply State.setMeta_kept
  exact h2

theorem State.remapped_kept {q p} {a0 a1 a2 a3 a4} (h4 : Kept q p a4) : Kept q p (State.remapped a0 a1 a2 a3 a4) := by
  unfold State.remapped
  extract_lets +onlyGivenNames x0
  have k1 : Kept q p x0 := by
    unfold x0
    apply State.orReg_kept
    apply State.applyRemap_kept
    exact h4
  clear_value x0
  extract_lets +onlyGivenNames x2
  have k3 : Kept q p x2 := by
    unfold x2
    apply State.logPut_kept
    apply State.report1_kept
    exact k1
  clear_value x2
  refine kept_ite ?_ ?_
  · refine kept_mk' (kept_comp ?_)
    exact k3
  · exact k3

theorem State.scrubLine_kept {q p} {a0 a1 a2 a3} (h3 : Kept q p a3) : Kept q p (State.scrubLine a0 a1 a2 a3) := by
  unfold State.scrubLine
  split
  · exact h3
  · refine kept_ite ?_ ?_
    · exact h3
    · refine kept_ite ?_ ?_
      · apply State.memUe_kept
        exact h3
      · apply State.memCe_kept
        exact h3
  · apply State.memUe_kept
    exact h3

theorem State.showRetiring_kept {q p} {a0 a1} (h1 : Kept q p a1) : Kept q p (State.showRetiring a0 a1) := by
  unfold State.showRetiring
  apply State.setReg_kept
  exact h1

theorem State.spErase_kept {q p} {a0 a1 a2} (h2 : Kept q p a2) : Kept q p (State.spErase a0 a1 a2) := by
  unfold State.spErase
  apply State.setUnit_kept
  exact h2

theorem State.spChange_kept {q p} {a0 a1 a2 a3} (h3 : Kept q p a3) : Kept q p (State.spChange a0 a1 a2 a3) := by
  unfold State.spChange
  refine kept_ite ?_ ?_
  · exact h3
  · extract_lets +onlyGivenNames x0
    have k1 : Kept q p x0 := by
      unfold x0
      apply State.orReg_kept
      apply State.setField_kept
      exact h3
    clear_value x0
    extract_lets +onlyGivenNames x2
    clear_value x2
    extract_lets +onlyGivenNames x3
    clear_value x3
    extract_lets +onlyGivenNames x4
    have k5 : Kept q p x4 := by
      unfold x4
      apply State.setUnit_kept
      exact k1
    clear_value x4
    refine kept_ite ?_ ?_
    · apply State.spErase_kept
      exact k5
    · exact k5

theorem State.spBankWrite_kept {q p} {a0 a1 a2 a3} (h3 : Kept q p a3) : Kept q p (State.spBankWrite a0 a1 a2 a3) := by
  unfold State.spBankWrite
  refine kept_ite ?_ ?_
  · exact h3
  · extract_lets +onlyGivenNames x0
    have k1 : Kept q p x0 := by
      unfold x0
      apply State.maskWrite_kept
      exact h3
    clear_value x0
    refine kept_ite ?_ ?_
    · apply State.orReg_kept
      exact k1
    · apply State.spChange_kept
      exact k1

theorem State.spRetire_kept {q p} {a0 a1 a2} (h2 : Kept q p a2) : Kept q p (State.spRetire a0 a1 a2) := by
  unfold State.spRetire
  extract_lets +onlyGivenNames x0
  clear_value x0
  refine kept_ite ?_ ?_
  · exact h2
  · split
    · apply State.report1_kept
      apply State.orReg_kept
      exact h2
    · refine kept_ite ?_ ?_
      · apply State.showRetiring_kept
        apply State.setUnit_kept
        exact h2
      · refine kept_ite ?_ ?_
        · exact h2
        · apply State.setUnit_kept
          exact h2

theorem State.spCmdWrite_kept {q p} {a0 a1 a2} (h2 : Kept q p a2) : Kept q p (State.spCmdWrite a0 a1 a2) := by
  unfold State.spCmdWrite
  refine kept_ite ?_ ?_
  · apply State.spRetire_kept
    exact h2
  · exact h2

theorem execBankCopyDone_kept {q p} {a0} (h0 : Kept q p a0) : KeptRes q p (execBankCopyDone a0) := by
  unfold execBankCopyDone
  split
  · refine keptRes_next ?_
    exact h0
  · extract_lets +onlyGivenNames x6
    clear_value x6
    refine keptRes_next ?_
    apply State.remapped_kept
    apply State.bump_kept
    apply State.showBankCopy_kept
    refine kept_mk' (kept_comp ?_)
    exact h0

theorem execDramScrub_kept {q p} {a0 a1 a2} (h2 : Kept q p a2) : KeptRes q p (execDramScrub a0 a1 a2) := by
  unfold execDramScrub
  extract_lets +onlyGivenNames x0
  clear_value x0
  refine keptRes_ite ?_ ?_
  · refine keptRes_next ?_
    apply State.clrReg_kept
    exact h2
  · refine keptRes_next ?_
    apply State.orReg_kept
    apply State.setReg_kept
    apply State.scrubLine_kept
    exact h2

theorem execFuseCommitDone_kept {q p} {a0 a1} (h1 : Kept q p a1) : KeptRes q p (execFuseCommitDone a0 a1) := by
  unfold execFuseCommitDone
  split
  · refine keptRes_next ?_
    exact h1
  · refine keptRes_next ?_
    refine kept_ite ?_ ?_
    · refine kept_mk' (kept_comp ?_)
      exact h1
    · apply State.orReg_kept
      refine kept_mk' (kept_comp ?_)
      exact h1

theorem execMemCountClear_kept {q p} {a0 a1 a2} (h2 : Kept q p a2) : KeptRes q p (execMemCountClear a0 a1 a2) := by
  unfold execMemCountClear
  refine keptRes_next ?_
  apply State.baseWrite_kept
  · intro z0 k1
    apply State.memCtrl_kept
    exact k1
  · exact h2

theorem execMemProbe_kept {q p} {a0 a1 a2} (h2 : Kept q p a2) : KeptRes q p (execMemProbe a0 a1 a2) := by
  unfold execMemProbe
  refine keptRes_next ?_
  apply State.baseWrite_kept
  · intro z0 k1
    apply State.memProbe_kept
    exact k1
  · exact h2

theorem execMemSpareBank_kept {q p} {a0 a1 a2} (h2 : Kept q p a2) : KeptRes q p (execMemSpareBank a0 a1 a2) := by
  unfold execMemSpareBank
  refine keptRes_next ?_
  apply State.baseWrite_kept
  · intro z0 k1
    apply State.memCmd_kept
    exact k1
  · exact h2

theorem execRowCopyDone_kept {q p} {a0} (h0 : Kept q p a0) : KeptRes q p (execRowCopyDone a0) := by
  unfold execRowCopyDone
  split
  · refine keptRes_next ?_
    exact h0
  · extract_lets +onlyGivenNames x6
    clear_value x6
    extract_lets +onlyGivenNames x7
    clear_value x7
    refine keptRes_next ?_
    apply State.remapped_kept
    apply State.bump_kept
    refine kept_mk' (kept_comp ?_)
    exact h0

theorem execSpOwnerWrite_kept {q p} {a0 a1 a2 a3} (h3 : Kept q p a3) : KeptRes q p (execSpOwnerWrite a0 a1 a2 a3) := by
  unfold execSpOwnerWrite
  refine keptRes_next ?_
  apply State.spBankWrite_kept
  exact h3

theorem execSpPstateDone_kept {q p} {a0 a1 a2} (h2 : Kept q p a2) : KeptRes q p (execSpPstateDone a0 a1 a2) := by
  unfold execSpPstateDone
  refine keptRes_ite ?_ ?_
  · extract_lets +onlyGivenNames x0
    clear_value x0
    extract_lets +onlyGivenNames x1
    clear_value x1
    extract_lets +onlyGivenNames x2
    have k3 : Kept q p x2 := by
      unfold x2
      apply State.clrReg_kept
      apply State.setUnit_kept
      exact h2
    clear_value x2
    refine keptRes_next ?_
    refine kept_ite ?_ ?_
    · apply State.spRetire_kept
      apply State.setUnit_kept
      exact k3
    · exact k3
  · refine keptRes_next ?_
    exact h2

theorem execSpPstateWrite_kept {q p} {a0 a1 a2 a3} (h3 : Kept q p a3) : KeptRes q p (execSpPstateWrite a0 a1 a2 a3) := by
  unfold execSpPstateWrite
  refine keptRes_next ?_
  apply State.spBankWrite_kept
  exact h3

theorem execSpRetireCmd_kept {q p} {a0 a1 a2} (h2 : Kept q p a2) : KeptRes q p (execSpRetireCmd a0 a1 a2) := by
  unfold execSpRetireCmd
  refine keptRes_next ?_
  apply State.spCmdWrite_kept
  exact h2

theorem execSpRetireDone_kept {q p} {a0 a1 a2 a3} (h3 : Kept q p a3) : KeptRes q p (execSpRetireDone a0 a1 a2 a3) := by
  unfold execSpRetireDone
  split
  · refine keptRes_next ?_
    exact h3
  · extract_lets +onlyGivenNames x6
    clear_value x6
    extract_lets +onlyGivenNames x7
    clear_value x7
    extract_lets +onlyGivenNames x8
    clear_value x8
    extract_lets +onlyGivenNames x9
    have k10 : Kept q p x9 := by
      unfold x9
      apply State.showRetiring_kept
      apply State.setUnit_kept
      exact h3
    clear_value x9
    extract_lets +onlyGivenNames x11
    have k12 : Kept q p x11 := by
      unfold x11
      apply State.setField_kept
      apply State.orReg_kept
      apply State.orReg_kept
      exact k10
    clear_value x11
    extract_lets +onlyGivenNames x13
    have k14 : Kept q p x13 := by
      unfold x13
      apply State.logPut_kept
      exact k12
    clear_value x13
    refine keptRes_next ?_
    refine kept_ite ?_ ?_
    · exact k14
    · apply State.report1_kept
      apply State.orReg_kept
      exact k14

theorem State.mxDecerr_kept {q p} {a0 a1 a2} (h2 : Kept q p a2) : Kept q p (State.mxDecerr a0 a1 a2) := by
  unfold State.mxDecerr
  extract_lets +onlyGivenNames x0
  have k1 : Kept q p x0 := by
    unfold x0
    apply State.setReg_kept
    apply State.setReg_kept
    apply State.bump_kept
    exact h2
  clear_value x0
  apply State.report1_kept
  apply State.orReg_kept
  exact k1

theorem State.mxRefused_kept {q p} {a0 a1 a2} (h2 : Kept q p a2) : Kept q p (State.mxRefused a0 a1 a2) := by
  unfold State.mxRefused
  split
  · extract_lets +onlyGivenNames x2
    have k3 : Kept q p x2 := by
      unfold x2
      apply State.setReg_kept
      apply State.setReg_kept
      apply State.bump_kept
      exact h2
    clear_value x2
    apply State.orReg_kept
    exact k3
  · refine kept_ite ?_ ?_
    · apply State.bump_kept
      apply State.orReg_kept
      exact h2
    · apply State.orReg_kept
      exact h2
  · apply State.bump_kept
    exact h2
  · apply State.bump_kept
    exact h2
  · exact h2

theorem State.burstTrace_kept {q p} {a0 a1 a2 a3} (h3 : Kept q p a3) : Kept q p (State.burstTrace a0 a1 a2 a3) := by
  unfold State.burstTrace
  refine kept_ite ?_ ?_
  · apply State.mxDecerr_kept
    exact h3
  · refine kept_ite ?_ ?_
    · apply State.mxRefused_kept
      exact h3
    · exact h3

theorem State.couplingByte_kept {q p} {a0 a1 a2} (h2 : Kept q p a2) : Kept q p (State.couplingByte a0 a1 a2) := by
  unfold State.couplingByte
  extract_lets +onlyGivenNames x0
  clear_value x0
  extract_lets +onlyGivenNames x1
  clear_value x1
  apply State.setCoeff_kept
  exact h2

theorem State.dmPosition_kept {q p} {a0 a1 a2 a3} (h3 : Kept q p a3) : Kept q p (State.dmPosition a0 a1 a2 a3) := by
  unfold State.dmPosition
  extract_lets +onlyGivenNames x0
  have k1 : Kept q p x0 := by
    unfold x0
    apply State.setReg64_kept
    exact h3
  clear_value x0
  split
  · apply State.setReg_kept
    apply State.setReg64_kept
    exact k1
  · extract_lets +onlyGivenNames x7
    clear_value x7
    extract_lets +onlyGivenNames x8
    have k9 : Kept q p x8 := by
      unfold x8
      refine kept_foldl ?_ ?_
      · intro z10 z11 k12
        apply State.setField_kept
        exact k12
      · exact k1
    clear_value x8
    apply State.setReg64_kept
    apply State.setReg64_kept
    apply State.setReg_kept
    exact k9

theorem State.dmShow_kept {q p} {a0 a1 a2} (h2 : Kept q p a2) : Kept q p (State.dmShow a0 a1 a2) := by
  unfold State.dmShow
  split
  · apply State.clrReg_kept
    apply State.clrReg_kept
    exact h2
  · extract_lets +onlyGivenNames x5
    have k6 : Kept q p x5 := by
      unfold x5
      apply State.clrReg_kept
      apply State.dmPosition_kept
      exact h2
    clear_value x5
    extract_lets +onlyGivenNames x7
    have k8 : Kept q p x7 := by
      unfold x7
      apply State.orReg_kept
      exact k6
    clear_value x7
    apply State.orReg_kept
    apply State.clrReg_kept
    exact k8

theorem State.setDm_kept {q p} {a0 a1 a2 a3} (h3 : Kept q p a3) : Kept q p (State.setDm a0 a1 a2 a3) := by
  unfold State.setDm
  apply State.setUnit_kept
  exact h3

theorem State.putDm_kept {q p} {a0 a1 a2 a3} (h3 : Kept q p a3) : Kept q p (State.putDm a0 a1 a2 a3) := by
  unfold State.putDm
  apply State.dmShow_kept
  apply State.setDm_kept
  exact h3

theorem State.dmBegin_kept {q p} {a0 a1 a2 a3} (h3 : Kept q p a3) : Kept q p (State.dmBegin a0 a1 a2 a3) := by
  unfold State.dmBegin
  apply State.putDm_kept
  apply State.setField_kept
  exact h3

theorem State.dmComplete_kept {q p} {a0 a1 a2 a3 a4} (h4 : Kept q p a4) : Kept q p (State.dmComplete a0 a1 a2 a3 a4) := by
  unfold State.dmComplete
  apply State.completeOpt_kept
  exact h4

theorem State.freeDm_kept {q p} {a0 a1 a2} (h2 : Kept q p a2) : Kept q p (State.freeDm a0 a1 a2) := by
  unfold State.freeDm
  apply State.setUnit_kept
  exact h2

theorem State.trPost_kept {q p} {a0 a1 a2 a3 a4 a5} (h5 : Kept q p a5) : Kept q p (State.trPost a0 a1 a2 a3 a4 a5) := by
  unfold State.trPost
  extract_lets +onlyGivenNames x0
  clear_value x0
  extract_lets +onlyGivenNames x1
  clear_value x1
  extract_lets +onlyGivenNames x2
  clear_value x2
  extract_lets +onlyGivenNames x3
  have k4 : Kept q p x3 := by
    unfold x3
    apply State.hostWrite_kept
    apply State.hostWrite_kept
    exact h5
  clear_value x3
  extract_lets +onlyGivenNames x5
  clear_value x5
  extract_lets +onlyGivenNames x6
  clear_value x6
  extract_lets +onlyGivenNames x7
  have k8 : Kept q p x7 := by
    unfold x7
    apply State.setTr_kept
    exact k4
  clear_value x7
  refine kept_ite ?_ ?_
  · apply State.sendMsix_kept
    exact k8
  · exact k8

theorem State.hwSettle_kept {q p} {a0 a1 a2} (h2 : Kept q p a2) : Kept q p (State.hwSettle a0 a1 a2) := by
  unfold State.hwSettle
  split
  · exact h2
  · refine kept_ite ?_ ?_
    · extract_lets +onlyGivenNames x5
      clear_value x5
      extract_lets +onlyGivenNames x6
      have k7 : Kept q p x6 := by
        unfold x6
        refine kept_ite ?_ ?_
        · exact h2
        · apply State.trPost_kept
          exact h2
      clear_value x6
      apply State.bump_kept
      exact k7
    · refine kept_ite ?_ ?_
      · exact h2
      · split
        · exact h2
        · apply State.setField_kept
          refine kept_mk' (kept_comp ?_)
          exact h2

theorem State.dmFinish_kept {q p} {a0 a1 a2 a3 a4 a5} (h5 : Kept q p a5) : Kept q p (State.dmFinish a0 a1 a2 a3 a4 a5) := by
  unfold State.dmFinish
  extract_lets +onlyGivenNames x0
  have k1 : Kept q p x0 := by
    unfold x0
    apply State.freeDm_kept
    apply State.dmShow_kept
    apply State.setDm_kept
    exact h5
  clear_value x0
  extract_lets +onlyGivenNames x2
  have k3 : Kept q p x2 := by
    unfold x2
    apply State.orReg_kept
    apply State.setField_kept
    apply State.dmShow_kept
    exact k1
  clear_value x2
  extract_lets +onlyGivenNames x4
  have k5 : Kept q p x4 := by
    unfold x4
    refine kept_ite ?_ ?_
    · apply State.orReg_kept
      exact k3
    · exact k3
  clear_value x4
  apply State.dmComplete_kept
  apply State.hwSettle_kept
  exact k5

theorem State.dmEndBit_kept {q p} {a0 a1 a2} (h2 : Kept q p a2) : Kept q p (State.dmEndBit a0 a1 a2) := by
  unfold State.dmEndBit
  split
  · exact h2
  · refine kept_ite ?_ ?_
    · apply State.hwSettle_kept
      apply State.orReg_kept
      apply State.dmShow_kept
      apply State.freeDm_kept
      exact h2
    · refine kept_ite ?_ ?_
      · apply State.dmFinish_kept
        exact h2
      · apply State.putDm_kept
        exact h2

theorem State.dmPauseBit_kept {q p} {a0 a1 a2 a3} (h3 : Kept q p a3) : Kept q p (State.dmPauseBit a0 a1 a2 a3) := by
  unfold State.dmPauseBit
  extract_lets +onlyGivenNames x0
  have k1 : Kept q p x0 := by
    unfold x0
    apply State.setReg_kept
    exact h3
  clear_value x0
  split
  · apply State.putDm_kept
    exact k1
  · exact k1

theorem State.dmIgnored_kept {q p} {a0 a1 a2} (h2 : Kept q p a2) : Kept q p (State.dmIgnored a0 a1 a2) := by
  unfold State.dmIgnored
  apply State.orReg_kept
  apply State.orReg_kept
  exact h2

theorem State.dmResumeBit_kept {q p} {a0 a1 a2} (h2 : Kept q p a2) : Kept q p (State.dmResumeBit a0 a1 a2) := by
  unfold State.dmResumeBit
  split
  · refine kept_ite ?_ ?_
    · apply State.putDm_kept
      exact h2
    · apply State.dmIgnored_kept
      exact h2
  · apply State.dmIgnored_kept
    exact h2

theorem State.dmStartBit_kept {q p} {a0 a1 a2} (h2 : Kept q p a2) : Kept q p (State.dmStartBit a0 a1 a2) := by
  unfold State.dmStartBit
  refine kept_ite ?_ ?_
  · apply State.dmIgnored_kept
    exact h2
  · apply State.dmBegin_kept
    apply State.setReg_kept
    exact h2

theorem State.dmCtl_kept {q p} {a0 a1 a2 a3} (h3 : Kept q p a3) : Kept q p (State.dmCtl a0 a1 a2 a3) := by
  unfold State.dmCtl
  refine kept_ite ?_ ?_
  · exact h3
  · extract_lets +onlyGivenNames x0
    have k1 : Kept q p x0 := by
      unfold x0
      apply State.dmPauseBit_kept
      exact h3
    clear_value x0
    extract_lets +onlyGivenNames x2
    have k3 : Kept q p x2 := by
      unfold x2
      refine kept_ite ?_ ?_
      · apply State.dmEndBit_kept
        exact k1
      · exact k1
    clear_value x2
    extract_lets +onlyGivenNames x4
    have k5 : Kept q p x4 := by
      unfold x4
      refine kept_ite ?_ ?_
      · apply State.dmResumeBit_kept
        exact k3
      · exact k3
    clear_value x4
    refine kept_ite ?_ ?_
    · apply State.dmStartBit_kept
      exact k5
    · exact k5

theorem State.dmCtrl_kept {q p} {a0 a1 a2} (h2 : Kept q p a2) : Kept q p (State.dmCtrl a0 a1 a2) := by
  unfold State.dmCtrl
  refine kept_ite ?_ ?_
  · exact h2
  · extract_lets +onlyGivenNames x0
    have k1 : Kept q p x0 := by
      unfold x0
      apply State.maskWrite_kept
      exact h2
    clear_value x0
    refine kept_ite ?_ ?_
    · apply State.setReg_kept
      exact k1
    · exact k1

theorem State.dmHalt_kept {q p} {a0 a1 a2 a3 a4 a5} (h5 : Kept q p a5) : Kept q p (State.dmHalt a0 a1 a2 a3 a4 a5) := by
  unfold State.dmHalt
  extract_lets +onlyGivenNames x0
  clear_value x0
  extract_lets +onlyGivenNames x1
  have k2 : Kept q p x1 := by
    unfold x1
    apply State.bump_kept
    apply State.setField_kept
    apply State.putDm_kept
    exact h5
  clear_value x1
  extract_lets +onlyGivenNames x3
  have k4 : Kept q p x3 := by
    unfold x3
    apply State.setReg_kept
    apply State.setReg_kept
    exact k2
  clear_value x3
  apply State.report1_kept
  apply State.dmComplete_kept
  apply State.orReg_kept
  exact k4

theorem State.dramByte_kept {q p} {a0 a1 a2} (h2 : Kept q p a2) : Kept q p (State.dramByte a0 a1 a2) := by
  unfold State.dramByte
  refine kept_ite ?_ ?_
  · exact State.couplingByte_kept h2
  · obtain ⟨e1, e2, e3, e4⟩ := h2
    subst e2
    exact ⟨e1, rfl, e3, Tab.wf_put a0 a1 e4⟩

theorem State.touchLine_kept {q p} {a0 a1 a2 a3 a4} (h4 : Kept q p a4) : Kept q p (State.touchLine a0 a1 a2 a3 a4) := by
  unfold State.touchLine
  extract_lets +onlyGivenNames x0
  clear_value x0
  apply State.setMeta_kept
  exact h4

theorem State.dramWrite_kept {q p} {a0 a1 a2 a3} (h3 : Kept q p a3) : Kept q p (State.dramWrite a0 a1 a2 a3) := by
  unfold State.dramWrite
  refine kept_ite ?_ ?_
  · exact h3
  · extract_lets +onlyGivenNames x0
    have k1 : Kept q p x0 := by
      unfold x0
      refine kept_foldl_snd ?_ ?_
      · intro z2 z3 k4
        refine kept_pair_snd ?_
        apply State.dramByte_kept
        exact k4
      · exact h3
    clear_value x0
    refine kept_foldl ?_ ?_
    · intro z5 z6 k7
      apply State.touchLine_kept
      exact k7
    · exact k1

theorem State.spWrite_kept {q p} {a0 a1 a2 a3} (h3 : Kept q p a3) : Kept q p (State.spWrite a0 a1 a2 a3) := by
  unfold State.spWrite
  refine kept_ite ?_ ?_
  · exact h3
  · extract_lets +onlyGivenNames x0
    clear_value x0
    apply State.setUnit_kept
    exact h3

theorem State.hkInj_kept {q p} {a0 a1} (h1 : Kept q p a1) : Kept q p (State.hkInj a0 a1) := by
  unfold State.hkInj
  extract_lets +onlyGivenNames x0
  have k1 : Kept q p x0 := by
    unfold x0
    apply State.maskWrite_kept
    exact h1
  clear_value x0
  refine kept_ite ?_ ?_
  · exact k1
  · refine kept_ite ?_ ?_
    · apply State.orReg_kept
      exact k1
    · apply State.setReg_kept
      refine kept_mk' (kept_comp ?_)
      exact k1

theorem State.slotInject_kept {q p} {a0 a1} (h1 : Kept q p a1) : Kept q p (State.slotInject a0 a1) := by
  unfold State.slotInject
  split
  · exact h1
  · refine kept_ite ?_ ?_
    · exact h1
    · extract_lets +onlyGivenNames x6
      clear_value x6
      extract_lets +onlyGivenNames x7
      clear_value x7
      extract_lets +onlyGivenNames x8
      have k9 : Kept q p x8 := by
        unfold x8
        apply State.setReg64_kept
        apply State.setReg_kept
        refine kept_mk' (kept_comp ?_)
        exact h1
      clear_value x8
      apply State.recEvent_kept
      exact k9

theorem State.slotListed_kept {q p} {a0 a1 a2} (h2 : Kept q p a2) : Kept q p (State.slotListed a0 a1 a2) := by
  unfold State.slotListed
  extract_lets +onlyGivenNames x0
  clear_value x0
  refine kept_ite ?_ ?_
  · apply State.setReg_kept
    exact h2
  · extract_lets +onlyGivenNames x1
    clear_value x1
    extract_lets +onlyGivenNames x2
    have k3 : Kept q p x2 := by
      unfold x2
      apply State.setReg_kept
      exact h2
    clear_value x2
    refine kept_mk' (kept_comp ?_)
    exact k3

theorem State.hkSlot_kept {q p} {a0 a1} (h1 : Kept q p a1) : Kept q p (State.hkSlot a0 a1) := by
  unfold State.hkSlot
  extract_lets +onlyGivenNames x0
  clear_value x0
  refine kept_ite ?_ ?_
  · exact h1
  · extract_lets +onlyGivenNames x1
    clear_value x1
    extract_lets +onlyGivenNames x2
    have k3 : Kept q p x2 := by
      unfold x2
      refine kept_mk' (kept_comp ?_)
      exact h1
    clear_value x2
    refine kept_ite ?_ ?_
    · apply State.slotInject_kept
      refine kept_ite ?_ ?_
      · apply State.orReg_kept
        exact k3
      · exact k3
    · apply State.slotListed_kept
      exact k3

theorem State.showDomain_kept {q p} {a0 a1 a2 a3 a4} (h4 : Kept q p a4) : Kept q p (State.showDomain a0 a1 a2 a3 a4) := by
  unfold State.showDomain
  extract_lets +onlyGivenNames x0
  clear_value x0
  apply State.setReg_kept
  exact h4

theorem State.thmCallable_kept {q p} {a0 a1} (h1 : Kept q p a1) : Kept q p (State.thmCallable a0 a1) := by
  unfold State.thmCallable
  refine kept_ite ?_ ?_
  · apply State.switchOn_kept
    exact h1
  · exact h1

theorem State.thmEvent_kept {q p} {a0 a1 a2 a3 a4} (h4 : Kept q p a4) : Kept q p (State.thmEvent a0 a1 a2 a3 a4) := by
  unfold State.thmEvent
  extract_lets +onlyGivenNames x0
  clear_value x0
  refine kept_ite ?_ ?_
  · refine kept_ite ?_ ?_
    · apply State.orReg_kept
      exact h4
    · apply State.event_kept
      exact h4
  · apply State.eventTo_kept
    exact h4

theorem State.thmShutdown_kept {q p} {a0 a1 a2} (h2 : Kept q p a2) : Kept q p (State.thmShutdown a0 a1 a2) := by
  unfold State.thmShutdown
  refine kept_ite ?_ ?_
  · apply State.report1_kept
    apply State.logPut_kept
    exact h2
  · apply State.stopCore_kept
    apply State.report1_kept
    apply State.logPut_kept
    exact h2

theorem State.thmMoved_kept {q p} {a0 a1 a2 a3 a4 a5 a6 a7 a8} (h8 : Kept q p a8) : Kept q p (State.thmMoved a0 a1 a2 a3 a4 a5 a6 a7 a8) := by
  unfold State.thmMoved
  refine kept_ite ?_ ?_
  · refine kept_ite ?_ ?_
    · exact h8
    · extract_lets +onlyGivenNames x0
      have k1 : Kept q p x0 := by
        unfold x0
        apply State.thmEvent_kept
        exact h8
      clear_value x0
      refine kept_ite ?_ ?_
      · exact k1
      · apply State.report1_kept
        exact k1
  · extract_lets +onlyGivenNames x2
    have k3 : Kept q p x2 := by
      unfold x2
      refine kept_ite ?_ ?_
      · exact h8
      · apply State.orReg_kept
        exact h8
    clear_value x2
    extract_lets +onlyGivenNames x4
    have k5 : Kept q p x4 := by
      unfold x4
      apply State.thmEvent_kept
      exact k3
    clear_value x4
    extract_lets +onlyGivenNames x6
    have k7 : Kept q p x6 := by
      unfold x6
      refine kept_ite ?_ ?_
      · apply State.thmEvent_kept
        exact k3
      · refine kept_ite ?_ ?_
        · apply State.thmEvent_kept
          exact k5
        · exact k5
    clear_value x6
    extract_lets +onlyGivenNames x8
    have k9 : Kept q p x8 := by
      unfold x8
      refine kept_ite ?_ ?_
      · apply State.report1_kept
        exact k7
      · refine kept_ite ?_ ?_
        · apply State.levelEnd_kept
          exact k7
        · exact k7
    clear_value x8
    extract_lets +onlyGivenNames x10
    have k11 : Kept q p x10 := by
      unfold x10
      refine kept_ite ?_ ?_
      · apply State.setReg_kept
        exact k9
      · exact k9
    clear_value x10
    refine kept_ite ?_ ?_
    · apply State.thmShutdown_kept
      exact k11
    · refine kept_ite ?_ ?_
      · apply State.thmCallable_kept
        exact k11
      · exact k11

theorem State.judgeDomain_kept {q p} {a0 a1} (h0 : Kept q p a0) : Kept q p (State.judgeDomain a0 a1) := by
  unfold State.judgeDomain
  extract_lets +onlyGivenNames x0
  clear_value x0
  extract_lets +onlyGivenNames x1
  have k2 : Kept q p x1 := by
    unfold x1
    refine kept_ite ?_ ?_
    · exact h0
    · apply State.setReg_kept
      exact h0
  clear_value x1
  extract_lets +onlyGivenNames x3
  clear_value x3
  extract_lets +onlyGivenNames x4
  clear_value x4
  extract_lets +onlyGivenNames x5
  clear_value x5
  split
  · apply State.setField_kept
    apply State.setThmDom_kept
    exact k2
  · extract_lets +onlyGivenNames x12
    clear_value x12
    apply State.thmMoved_kept
    apply State.showDomain_kept
    apply State.setThmDom_kept
    exact k2

theorem State.markSuspect_kept {q p} {a0 a1} (h1 : Kept q p a1) : Kept q p (State.markSuspect a0 a1) := by
  unfold State.markSuspect
  extract_lets +onlyGivenNames x0
  have k1 : Kept q p x0 := by
    unfold x0
    refine kept_ite ?_ ?_
    · apply State.orReg_kept
      exact h1
    · apply State.orReg_kept
      exact h1
  clear_value x0
  extract_lets +onlyGivenNames x2
  have k3 : Kept q p x2 := by
    unfold x2
    split
    · apply State.orReg_kept
      exact k1
    · exact k1
  clear_value x2
  apply State.orReg_kept
  refine kept_mk' (kept_comp ?_)
  exact k3

theorem State.recHk_kept {q p} {a0} (h0 : Kept q p a0) : Kept q p (State.recHk a0) := by
  unfold State.recHk
  apply State.recAppend_kept
  exact h0

theorem State.retemp_kept {q p} {a0} (h0 : Kept q p a0) : Kept q p (State.retemp a0) := by
  unfold State.retemp
  refine kept_ite ?_ ?_
  · exact h0
  · extract_lets +onlyGivenNames x0
    clear_value x0
    extract_lets +onlyGivenNames x1
    clear_value x1
    refine kept_ite ?_ ?_
    · exact h0
    · apply State.requestBoundary_kept
      apply State.orReg_kept
      refine kept_mk' (kept_comp ?_)
      exact h0

theorem State.takeChecks_kept {q p} {a0 a1} (h1 : Kept q p a1) : Kept q p (State.takeChecks a0 a1) := by
  unfold State.takeChecks
  extract_lets +onlyGivenNames x0
  have k1 : Kept q p x0 := by
    unfold x0
    refine kept_foldl ?_ ?_
    · intro z2 z3 k4
      extract_lets +onlyGivenNames x5
      clear_value x5
      extract_lets +onlyGivenNames x6
      have k7 : Kept q p x6 := by
        unfold x6
        refine kept_mk' (kept_comp ?_)
        exact k4
      clear_value x6
      split
      · apply State.setReg_kept
        exact k7
      · exact k7
    · exact h1
  clear_value x0
  extract_lets +onlyGivenNames x13
  clear_value x13
  extract_lets +onlyGivenNames x14
  have k15 : Kept q p x14 := by
    unfold x14
    refine kept_foldl ?_ ?_
    · intro z16 z17 k18
      apply State.markSuspect_kept
      exact k18
    · exact k1
  clear_value x14
  refine kept_ite ?_ ?_
  · exact k15
  · apply State.report_kept
    exact k15

theorem State.takeLegs_kept {q p} {a0 a1} (h1 : Kept q p a1) : Kept q p (State.takeLegs a0 a1) := by
  unfold State.takeLegs
  refine kept_foldl ?_ ?_
  · intro z0 z1 k2
    extract_lets +onlyGivenNames x3
    clear_value x3
    split
    · refine kept_ite ?_ ?_
      · apply State.clrReg_kept
        exact k2
      · apply State.setReg_kept
        exact k2
    · apply State.clrReg_kept
      exact k2
  · exact h1

theorem State.takeTiles_kept {q p} {a0} (h0 : Kept q p a0) : Kept q p (State.takeTiles a0) := by
  unfold State.takeTiles
  refine kept_foldl ?_ ?_
  · intro z0 z1 k2
    extract_lets +onlyGivenNames x3
    clear_value x3
    extract_lets +onlyGivenNames x4
    have k5 : Kept q p x4 := by
      unfold x4
      split
      · apply State.setField_kept
        exact k2
      · exact k2
    clear_value x4
    apply State.setReg_kept
    exact k5
  · exact h0

theorem State.roundEnd_kept {q p} {a0 a1} (h1 : Kept q p a1) : Kept q p (State.roundEnd a0 a1) := by
  unfold State.roundEnd
  extract_lets +onlyGivenNames x0
  clear_value x0
  extract_lets +onlyGivenNames x1
  have k2 : Kept q p x1 := by
    unfold x1
    refine kept_mk' (kept_comp ?_)
    exact h1
  clear_value x1
  extract_lets +onlyGivenNames x3
  clear_value x3
  extract_lets +onlyGivenNames x4
  clear_value x4
  extract_lets +onlyGivenNames x5
  have k6 : Kept q p x5 := by
    unfold x5
    apply State.takeTiles_kept
    apply State.takeLegs_kept
    exact k2
  clear_value x5
  extract_lets +onlyGivenNames x7
  clear_value x7
  extract_lets +onlyGivenNames x8
  clear_value x8
  extract_lets +onlyGivenNames x9
  clear_value x9
  extract_lets +onlyGivenNames x10
  have k11 : Kept q p x10 := by
    unfold x10
    refine kept_mk' (kept_comp ?_)
    exact k6
  clear_value x10
  extract_lets +onlyGivenNames x12
  have k13 : Kept q p x12 := by
    unfold x12
    refine kept_foldl ?_ ?_
    · intro z14 z15 k16
      apply State.judgeDomain_kept
      exact k16
    · exact k11
  clear_value x12
  extract_lets +onlyGivenNames x17
  have k18 : Kept q p x17 := by
    unfold x17
    apply State.takeChecks_kept
    exact k13
  clear_value x17
  apply State.retemp_kept
  apply State.setReg64_kept
  apply State.recHk_kept
  exact k18

theorem State.thmCmd_kept {q p} {a0 a1} (h1 : Kept q p a1) : Kept q p (State.thmCmd a0 a1) := by
  unfold State.thmCmd
  extract_lets +onlyGivenNames x0
  clear_value x0
  extract_lets +onlyGivenNames x1
  have k2 : Kept q p x1 := by
    unfold x1
    apply State.clrReg_kept
    apply State.clrReg_kept
    exact h1
  clear_value x1
  extract_lets +onlyGivenNames x3
  clear_value x3
  extract_lets +onlyGivenNames x4
  have k5 : Kept q p x4 := by
    unfold x4
    refine kept_ite ?_ ?_
    · refine kept_mk' (kept_comp ?_)
      exact k2
    · exact h1
  clear_value x4
  extract_lets +onlyGivenNames x6
  clear_value x6
  refine kept_ite ?_ ?_
  · extract_lets +onlyGivenNames x7
    have k8 : Kept q p x7 := by
      unfold x7
      apply State.clrReg_kept
      exact k5
    clear_value x7
    extract_lets +onlyGivenNames x9
    have k10 : Kept q p x9 := by
      unfold x9
      split
      · apply State.clrReg_kept
        exact k8
      · exact k8
    clear_value x9
    refine kept_mk' (kept_comp ?_)
    exact k10
  · exact k5

theorem execHkInjStart_kept {q p} {a0 a1 a2} (h2 : Kept q p a2) : KeptRes q p (execHkInjStart a0 a1 a2) := by
  unfold execHkInjStart
  refine keptRes_next ?_
  apply State.baseWrite_kept
  · intro z0 k1
    apply State.hkInj_kept
    exact k1
  · exact h2

theorem execHkRoundEnd_kept {q p} {a0 a1} (h1 : Kept q p a1) : KeptRes q p (execHkRoundEnd a0 a1) := by
  unfold execHkRoundEnd
  refine keptRes_next ?_
  refine kept_ite ?_ ?_
  · apply State.roundEnd_kept
    exact h1
  · exact h1

theorem execHkSlot_kept {q p} {a0 a1} (h1 : Kept q p a1) : KeptRes q p (execHkSlot a0 a1) := by
  unfold execHkSlot
  refine keptRes_next ?_
  refine kept_ite ?_ ?_
  · exact h1
  · apply State.hkSlot_kept
    exact h1

theorem execThmClrPic_kept {q p} {a0 a1 a2} (h2 : Kept q p a2) : KeptRes q p (execThmClrPic a0 a1 a2) := by
  unfold execThmClrPic
  refine keptRes_next ?_
  apply State.baseWrite_kept
  · intro z0 k1
    apply State.thmCmd_kept
    exact k1
  · exact h2

theorem execThmClrSuspect_kept {q p} {a0 a1 a2} (h2 : Kept q p a2) : KeptRes q p (execThmClrSuspect a0 a1 a2) := by
  unfold execThmClrSuspect
  refine keptRes_next ?_
  apply State.baseWrite_kept
  · intro z0 k1
    apply State.thmCmd_kept
    exact k1
  · exact h2

theorem State.showFails_kept {q p} {a0} (h0 : Kept q p a0) : Kept q p (State.showFails a0) := by
  unfold State.showFails
  extract_lets +onlyGivenNames x0
  clear_value x0
  refine kept_foldl ?_ ?_
  · intro z1 z2 k3
    apply State.setField_kept
    apply State.setField_kept
    exact k3
  · exact h0

theorem State.accessFail_kept {q p} {a0 a1} (h1 : Kept q p a1) : Kept q p (State.accessFail a0 a1) := by
  unfold State.accessFail
  extract_lets +onlyGivenNames x0
  clear_value x0
  extract_lets +onlyGivenNames x1
  clear_value x1
  apply State.showFails_kept
  apply State.orReg_kept
  refine kept_mk' (kept_comp ?_)
  exact h1

theorem State.bootRecord_kept {q p} {a0 a1 a2} (h2 : Kept q p a2) : Kept q p (State.bootRecord a0 a1 a2) := by
  unfold State.bootRecord
  extract_lets +onlyGivenNames x0
  clear_value x0
  refine kept_mk' (kept_comp ?_)
  exact h2

theorem State.activate_kept {q p} {a0 a1} (h1 : Kept q p a1) : Kept q p (State.activate a0 a1) := by
  unfold State.activate
  extract_lets +onlyGivenNames x0
  clear_value x0
  refine kept_ite ?_ ?_
  · apply State.refuse_kept
    exact h1
  · split
    · extract_lets +onlyGivenNames x3
      have k4 : Kept q p x3.2 := by
        unfold x3
        apply State.drawNat_kept
        exact h1
      clear_value x3
      apply State.complete_kept
      exact k4
    · refine kept_ite ?_ ?_
      · apply State.complete_kept
        exact h1
      · refine kept_ite ?_ ?_
        · apply State.refuse_kept
          exact h1
        · split
          · apply State.complete_kept
            apply State.bootRecord_kept
            exact h1
          · refine kept_ite ?_ ?_
            · apply State.refuse_kept
              exact h1
            · refine kept_mk' (kept_comp ?_)
              exact h1

theorem State.attestNow_kept {q p} {a0 a1 a2} (h1 : Kept q p a1) : Kept q p (State.attestNow a0 a1 a2) := by
  unfold State.attestNow
  extract_lets +onlyGivenNames x0
  clear_value x0
  extract_lets +onlyGivenNames x1
  clear_value x1
  apply State.complete_kept
  refine kept_ite ?_ ?_
  · apply State.hostWrite_kept
    exact h1
  · exact h1

theorem State.attest_kept {q p} {a0 a1} (h1 : Kept q p a1) : Kept q p (State.attest a0 a1) := by
  unfold State.attest
  refine kept_ite ?_ ?_
  · apply State.complete_kept
    exact h1
  · refine kept_ite ?_ ?_
    · extract_lets +onlyGivenNames x0
      have k1 : Kept q p x0 := by
        unfold x0
        apply State.hashStart_kept
        exact h1
      clear_value x0
      refine kept_mk' (kept_comp ?_)
      exact k1
    · apply State.attestNow_kept
      exact h1

theorem State.dropNonce_kept {q p} {a0 a1} (h1 : Kept q p a1) : Kept q p (State.dropNonce a0 a1) := by
  unfold State.dropNonce
  refine kept_foldl ?_ ?_
  · intro z0 z1 k2
    apply State.setReg_kept
    exact k2
  · apply State.setUnit_kept
    exact h1

theorem State.flashDone_kept {q p} {a0 a1} (h1 : Kept q p a1) : Kept q p (State.flashDone a0 a1) := by
  unfold State.flashDone
  split
  · extract_lets +onlyGivenNames x10
    clear_value x10
    extract_lets +onlyGivenNames x11
    have k12 : Kept q p x11 := by
      unfold x11
      refine kept_mk' (kept_comp ?_)
      exact h1
    clear_value x11
    refine kept_ite ?_ ?_
    · apply State.complete_kept
      apply State.bootRecord_kept
      refine kept_mk' (kept_comp ?_)
      exact k12
    · apply State.complete_kept
      refine kept_mk' (kept_comp ?_)
      exact k12
  · exact h1

theorem State.fuseDone_kept {q p} {a0 a1} (h1 : Kept q p a1) : Kept q p (State.fuseDone a0 a1) := by
  unfold State.fuseDone
  split
  · apply State.showFuses_kept
    refine kept_ite ?_ ?_
    · refine kept_mk' (kept_comp ?_)
      exact h1
    · refine kept_mk' (kept_comp ?_)
      exact h1
  · apply State.showFuses_kept
    refine kept_ite ?_ ?_
    · refine kept_mk' (kept_comp ?_)
      exact h1
    · refine kept_mk' (kept_comp ?_)
      exact h1
  · exact h1

theorem State.hashDone_kept {q p} {a0} (h0 : Kept q p a0) : Kept q p (State.hashDone a0) := by
  unfold State.hashDone
  refine kept_ite ?_ ?_
  · exact h0
  · extract_lets +onlyGivenNames x0
    have k1 : Kept q p x0 := by
      unfold x0
      apply State.hashEnd_kept
      exact h0
    clear_value x0
    refine kept_foldl ?_ ?_
    · intro z2 z3 k4
      apply State.attestNow_kept
      exact k4
    · refine kept_mk' (kept_comp ?_)
      exact k1

theorem State.openScope_kept {q p} {a0 a1 a2} (h2 : Kept q p a2) : Kept q p (State.openScope a0 a1 a2) := by
  unfold State.openScope
  extract_lets +onlyGivenNames x0
  clear_value x0
  extract_lets +onlyGivenNames x1
  have k2 : Kept q p x1 := by
    unfold x1
    apply State.showFails_kept
    refine kept_mk' (kept_comp ?_)
    exact h2
  clear_value x1
  refine kept_ite ?_ ?_
  · exact k2
  · apply State.eventTo_kept
    apply State.orReg_kept
    apply State.orReg_kept
    exact k2

theorem State.secChallenge_kept {q p} {a0 a1 a2} (h2 : Kept q p a2) : Kept q p (State.secChallenge a0 a1 a2) := by
  unfold State.secChallenge
  extract_lets +onlyGivenNames x0
  clear_value x0
  refine kept_ite ?_ ?_
  · exact h2
  · extract_lets +onlyGivenNames x1
    have k2 : Kept q p x1.2 := by
      unfold x1
      apply State.drawNat_kept
      exact h2
    clear_value x1
    extract_lets +onlyGivenNames x3
    clear_value x3
    extract_lets +onlyGivenNames x4
    clear_value x4
    extract_lets +onlyGivenNames x5
    clear_value x5
    extract_lets +onlyGivenNames x6
    have k7 : Kept q p x6 := by
      unfold x6
      apply State.setUnit_kept
      exact k2
    clear_value x6
    refine kept_foldl ?_ ?_
    · intro z8 z9 k10
      apply State.setReg_kept
      exact k10
    · exact k7

theorem State.secClose_kept {q p} {a0 a1 a2} (h2 : Kept q p a2) : Kept q p (State.secClose a0 a1 a2) := by
  unfold State.secClose
  extract_lets +onlyGivenNames x0
  clear_value x0
  refine kept_ite ?_ ?_
  · apply State.closeScopes_kept
    exact h2
  · refine kept_ite ?_ ?_
    · apply State.closeScope_kept
      exact h2
    · exact h2

theorem State.secEnrol_kept {q p} {a0 a1} (h1 : Kept q p a1) : Kept q p (State.secEnrol a0 a1) := by
  unfold State.secEnrol
  extract_lets +onlyGivenNames x0
  clear_value x0
  extract_lets +onlyGivenNames x1
  clear_value x1
  extract_lets +onlyGivenNames x2
  clear_value x2
  refine kept_ite ?_ ?_
  · apply State.orReg_kept
    exact h1
  · refine kept_ite ?_ ?_
    · apply State.orReg_kept
      exact h1
    · refine kept_mk' (kept_comp ?_)
      exact h1

theorem State.secPassword_kept {q p} {a0 a1 a2} (h2 : Kept q p a2) : Kept q p (State.secPassword a0 a1 a2) := by
  unfold State.secPassword
  extract_lets +onlyGivenNames x0
  clear_value x0
  extract_lets +onlyGivenNames x1
  clear_value x1
  extract_lets +onlyGivenNames x2
  clear_value x2
  extract_lets +onlyGivenNames x3
  have k4 : Kept q p x3 := by
    unfold x3
    refine kept_ite ?_ ?_
    · apply State.openScope_kept
      exact h2
    · apply State.accessFail_kept
      exact h2
  clear_value x3
  apply State.setUnit_kept
  exact k4

theorem State.secRaise_kept {q p} {a0 a1} (h1 : Kept q p a1) : Kept q p (State.secRaise a0 a1) := by
  unfold State.secRaise
  extract_lets +onlyGivenNames x0
  clear_value x0
  refine kept_ite ?_ ?_
  · apply State.orReg_kept
    exact h1
  · refine kept_ite ?_ ?_
    · apply State.orReg_kept
      exact h1
    · extract_lets +onlyGivenNames x1
      clear_value x1
      refine kept_ite ?_ ?_
      · exact h1
      · extract_lets +onlyGivenNames x2
        clear_value x2
        extract_lets +onlyGivenNames x3
        clear_value x3
        extract_lets +onlyGivenNames x4
        clear_value x4
        refine kept_mk' (kept_comp ?_)
        exact h1

theorem State.secRespond_kept {q p} {a0 a1 a2} (h2 : Kept q p a2) : Kept q p (State.secRespond a0 a1 a2) := by
  unfold State.secRespond
  extract_lets +onlyGivenNames x0
  extract_lets +onlyGivenNames x1
  extract_lets +onlyGivenNames x2
  clear_value x2
  extract_lets +onlyGivenNames x3
  clear_value x3
  extract_lets +onlyGivenNames x4
  clear_value x4
  extract_lets +onlyGivenNames x5
  clear_value x5
  extract_lets +onlyGivenNames x6
  have k7 : Kept q p x6 := by
    unfold x6
    refine kept_ite ?_ ?_
    · exact h2
    · apply State.orReg_kept
      exact h2
  clear_value x6
  apply State.dropNonce_kept
  refine kept_ite ?_ ?_
  · apply State.openScope_kept
    exact k7
  · apply State.accessFail_kept
    exact k7

theorem State.secCmd_kept {q p} {a0 a1 a2} (h2 : Kept q p a2) : Kept q p (State.secCmd a0 a1 a2) := by
  unfold State.secCmd
  refine kept_ite ?_ ?_
  · extract_lets +onlyGivenNames x0
    have k1 : Kept q p x0 := by
      unfold x0
      refine kept_ite ?_ ?_
      · exact h2
      · apply State.orReg_kept
        exact h2
    clear_value x0
    refine kept_ite ?_ ?_
    · apply State.secClose_kept
      exact k1
    · exact k1
  · extract_lets +onlyGivenNames x2
    have k3 : Kept q p x2 := by
      unfold x2
      refine kept_ite ?_ ?_
      · apply State.secPassword_kept
        exact h2
      · exact h2
    clear_value x2
    extract_lets +onlyGivenNames x4
    have k5 : Kept q p x4 := by
      unfold x4
      refine kept_ite ?_ ?_
      · apply State.secChallenge_kept
        exact k3
      · exact k3
    clear_value x4
    extract_lets +onlyGivenNames x6
    have k7 : Kept q p x6 := by
      unfold x6
      refine kept_ite ?_ ?_
      · apply State.secRespond_kept
        exact k5
      · exact k5
    clear_value x6
    extract_lets +onlyGivenNames x8
    have k9 : Kept q p x8 := by
      unfold x8
      refine kept_ite ?_ ?_
      · apply State.secClose_kept
        exact k7
      · exact k7
    clear_value x8
    extract_lets +onlyGivenNames x10
    have k11 : Kept q p x10 := by
      unfold x10
      refine kept_ite ?_ ?_
      · apply State.secRaise_kept
        exact k9
      · exact k9
    clear_value x10
    refine kept_ite ?_ ?_
    · apply State.secEnrol_kept
      exact k11
    · exact k11

theorem State.stage_kept {q p} {a0 a1 a2} (h2 : Kept q p a2) : Kept q p (State.stage a0 a1 a2) := by
  unfold State.stage
  refine kept_ite ?_ ?_
  · apply State.complete_kept
    exact h2
  · extract_lets +onlyGivenNames x0
    clear_value x0
    refine kept_ite ?_ ?_
    · apply State.refuse_kept
      exact h2
    · split
      · apply State.refuse_kept
        exact h2
      · extract_lets +onlyGivenNames x5
        clear_value x5
        extract_lets +onlyGivenNames x6
        clear_value x6
        extract_lets +onlyGivenNames x7
        clear_value x7
        extract_lets +onlyGivenNames x8
        have k9 : Kept q p x8 := by
          unfold x8
          refine kept_mk' (kept_comp ?_)
          exact h2
        clear_value x8
        refine kept_ite ?_ ?_
        · apply State.complete_kept
          exact k9
        · apply State.complete_kept
          exact k9

theorem execAttest_kept {q p} {a0 a1} (h1 : Kept q p a1) : KeptRes q p (execAttest a0 a1) := by
  unfold execAttest
  refine keptRes_next ?_
  apply State.runDesc_kept
  · intro z0 k1
    apply State.attest_kept
    exact k1
  · exact h1

theorem execDrtHashDone_kept {q p} {a0} (h0 : Kept q p a0) : KeptRes q p (execDrtHashDone a0) := by
  unfold execDrtHashDone
  refine keptRes_next ?_
  apply State.hashDone_kept
  exact h0

theorem execFlashWriteDone_kept {q p} {a0 a1 a2} (h2 : Kept q p a2) : KeptRes q p (execFlashWriteDone a0 a1 a2) := by
  unfold execFlashWriteDone
  split
  · refine keptRes_next ?_
    refine kept_ite ?_ ?_
    · apply State.flashDone_kept
      exact h2
    · exact h2
  · refine keptRes_next ?_
    exact h2

theorem execFuseProgramDone_kept {q p} {a0 a1 a2} (h2 : Kept q p a2) : KeptRes q p (execFuseProgramDone a0 a1 a2) := by
  unfold execFuseProgramDone
  extract_lets +onlyGivenNames x0
  clear_value x0
  refine keptRes_next ?_
  refine kept_ite ?_ ?_
  · apply State.fuseDone_kept
    exact h2
  · exact h2

theorem execFwStageActivate_kept {q p} {a0 a1} (h1 : Kept q p a1) : KeptRes q p (execFwStageActivate a0 a1) := by
  unfold execFwStageActivate
  refine keptRes_next ?_
  apply State.runDesc_kept
  · intro z0 k1
    refine kept_ite ?_ ?_
    · apply State.activate_kept
      exact k1
    · apply State.refuse_kept
      exact k1
  · exact h1

theorem execFwStageDiscard_kept {q p} {a0 a1} (h1 : Kept q p a1) : KeptRes q p (execFwStageDiscard a0 a1) := by
  unfold execFwStageDiscard
  refine keptRes_next ?_
  apply State.runDesc_kept
  · intro z0 k1
    refine kept_ite ?_ ?_
    · apply State.complete_kept
      refine kept_mk' (kept_comp ?_)
      exact k1
    · apply State.refuse_kept
      exact k1
  · exact h1

theorem execFwStageStage_kept {q p} {a0 a1 a2} (h2 : Kept q p a2) : KeptRes q p (execFwStageStage a0 a1 a2) := by
  unfold execFwStageStage
  refine keptRes_next ?_
  apply State.runDesc_kept
  · intro z0 k1
    refine kept_ite ?_ ?_
    · apply State.stage_kept
      apply State.recReads_kept
      exact k1
    · apply State.refuse_kept
      exact k1
  · exact h2

theorem execNonceExpiry_kept {q p} {a0 a1} (h1 : Kept q p a1) : KeptRes q p (execNonceExpiry a0 a1) := by
  unfold execNonceExpiry
  split
  · refine keptRes_next ?_
    refine kept_ite ?_ ?_
    · apply State.dropNonce_kept
      exact h1
    · exact h1
  · refine keptRes_next ?_
    exact h1

theorem execSecChallenge_kept {q p} {a0 a1 a2} (h2 : Kept q p a2) : KeptRes q p (execSecChallenge a0 a1 a2) := by
  unfold execSecChallenge
  refine keptRes_next ?_
  apply State.secCmd_kept
  exact h2

theorem execSecClose_kept {q p} {a0 a1 a2} (h2 : Kept q p a2) : KeptRes q p (execSecClose a0 a1 a2) := by
  unfold execSecClose
  refine keptRes_next ?_
  apply State.secCmd_kept
  exact h2

theorem execSecEnrol_kept {q p} {a0 a1 a2} (h2 : Kept q p a2) : KeptRes q p (execSecEnrol a0 a1 a2) := by
  unfold execSecEnrol
  refine keptRes_next ?_
  apply State.secCmd_kept
  exact h2

theorem execSecPassword_kept {q p} {a0 a1 a2} (h2 : Kept q p a2) : KeptRes q p (execSecPassword a0 a1 a2) := by
  unfold execSecPassword
  refine keptRes_next ?_
  apply State.secCmd_kept
  exact h2

theorem execSecRaiseFloor_kept {q p} {a0 a1 a2} (h2 : Kept q p a2) : KeptRes q p (execSecRaiseFloor a0 a1 a2) := by
  unfold execSecRaiseFloor
  refine keptRes_next ?_
  apply State.secCmd_kept
  exact h2

theorem execSecRespond_kept {q p} {a0 a1 a2} (h2 : Kept q p a2) : KeptRes q p (execSecRespond a0 a1 a2) := by
  unfold execSecRespond
  refine keptRes_next ?_
  apply State.secCmd_kept
  exact h2

theorem State.readEffect_kept {q p} {a0 a1} (h1 : Kept q p a1) : Kept q p (State.readEffect a0 a1) := by
  unfold State.readEffect
  extract_lets +onlyGivenNames x0
  have k1 : Kept q p x0 := by
    unfold x0
    refine kept_ite ?_ ?_
    · refine kept_mk' (kept_comp ?_)
      exact h1
    · exact h1
  clear_value x0
  extract_lets +onlyGivenNames x2
  have k3 : Kept q p x2 := by
    unfold x2
    refine kept_foldl ?_ ?_
    · intro z4 z5 k6
      refine kept_mk' (kept_comp ?_)
      exact k6
    · exact k1
  clear_value x2
  refine kept_ite ?_ ?_
  · apply State.setField_kept
    exact k3
  · split
    · refine kept_ite ?_ ?_
      · apply State.setField_kept
        exact k3
      · exact k3
    · exact k3

theorem State.genWrite_kept {q p} {a0 a1 a2 a3 a4 a5 a6} (h6 : Kept q p a6) : Kept q p (State.genWrite a0 a1 a2 a3 a4 a5 a6) := by
  unfold State.genWrite
  apply State.clrReg_kept
  apply State.rwlWrite_kept
  exact h6

theorem State.plainWrite_kept {q p} {a0 a1 a2 a3} (h3 : Kept q p a3) : Kept q p (State.plainWrite a0 a1 a2 a3) := by
  unfold State.plainWrite
  apply State.genWrite_kept
  exact h3

theorem State.drtWrite_kept {q p} {a0 a1 a2 a3} (h3 : Kept q p a3) : Kept q p (State.drtWrite a0 a1 a2 a3) := by
  unfold State.drtWrite
  refine kept_ite ?_ ?_
  · apply State.drtCmd_kept
    exact h3
  · refine kept_ite ?_ ?_
    · apply State.tauWrite_kept
      exact h3
    · apply State.plainWrite_kept
      exact h3

theorem State.fabWrite_kept {q p} {a0 a1 a2 a3 a4} (h4 : Kept q p a4) : Kept q p (State.fabWrite a0 a1 a2 a3 a4) := by
  unfold State.fabWrite
  refine kept_ite ?_ ?_
  · apply State.fabCtrl_kept
    exact h4
  · refine kept_ite ?_ ?_
    · apply State.healthWrite_kept
      exact h4
    · apply State.genWrite_kept
      exact h4

theorem State.srcCfgWrite_kept {q p} {a0 a1 a2 a3 a4} (h4 : Kept q p a4) : Kept q p (State.srcCfgWrite a0 a1 a2 a3 a4) := by
  unfold State.srcCfgWrite
  refine kept_ite ?_ ?_
  · exact h4
  · refine kept_ite ?_ ?_
    · apply State.orReg_kept
      exact h4
    · apply State.maskWrite_kept
      exact h4

theorem State.fltWrite_kept {q p} {a0 a1 a2 a3 a4 a5} (h5 : Kept q p a5) : Kept q p (State.fltWrite a0 a1 a2 a3 a4 a5) := by
  unfold State.fltWrite
  refine kept_ite ?_ ?_
  · apply State.fltCmd_kept
    exact h5
  · refine kept_ite ?_ ?_
    · apply State.srcCfgWrite_kept
      exact h5
    · refine kept_ite ?_ ?_
      · refine kept_ite ?_ ?_
        · apply State.plainWrite_kept
          exact h5
        · exact h5
      · refine kept_ite ?_ ?_
        · refine kept_ite ?_ ?_
          · apply State.srcClear_kept
            exact h5
          · exact h5
        · apply State.plainWrite_kept
          exact h5

theorem State.gstWrite_kept {q p} {a0 a1 a2 a3} (h3 : Kept q p a3) : Kept q p (State.gstWrite a0 a1 a2 a3) := by
  unfold State.gstWrite
  refine kept_ite ?_ ?_
  · refine kept_ite ?_ ?_
    · apply State.setReg_kept
      apply State.setReg_kept
      exact h3
    · exact h3
  · apply State.plainWrite_kept
    exact h3

theorem State.loopWrite_kept {q p} {a0 a1 a2 a3} (h3 : Kept q p a3) : Kept q p (State.loopWrite a0 a1 a2 a3) := by
  unfold State.loopWrite
  refine kept_ite ?_ ?_
  · refine kept_ite ?_ ?_
    · apply State.setReg_kept
      exact h3
    · exact h3
  · refine kept_ite ?_ ?_
    · apply State.squallCtrl_kept
      exact h3
    · apply State.genWrite_kept
      exact h3

theorem State.memWrite_kept {q p} {a0 a1 a2 a3} (h3 : Kept q p a3) : Kept q p (State.memWrite a0 a1 a2 a3) := by
  unfold State.memWrite
  refine kept_ite ?_ ?_
  · apply State.memCtrl_kept
    exact h3
  · refine kept_ite ?_ ?_
    · apply State.memCmd_kept
      exact h3
    · refine kept_ite ?_ ?_
      · apply State.memProbe_kept
        exact h3
      · apply State.plainWrite_kept
        exact h3

theorem State.monWideWrite_kept {q p} {a0 a1 a2 a3} (h3 : Kept q p a3) : Kept q p (State.monWideWrite a0 a1 a2 a3) := by
  unfold State.monWideWrite
  refine kept_ite ?_ ?_
  · refine kept_ite ?_ ?_
    · apply State.alignRequest_kept
      exact h3
    · exact h3
  · refine kept_ite ?_ ?_
    · apply State.diagCtrl_kept
      exact h3
    · apply State.plainWrite_kept
      exact h3

theorem State.portRegWrite_kept {q p} {a0 a1 a2 a3 a4} (h4 : Kept q p a4) : Kept q p (State.portRegWrite a0 a1 a2 a3 a4) := by
  unfold State.portRegWrite
  refine kept_ite ?_ ?_
  · apply State.portWrite_kept
    exact h4
  · refine kept_ite ?_ ?_
    · apply State.portWrite_kept
      exact h4
    · refine kept_ite ?_ ?_
      · apply State.portWrite_kept
        exact h4
      · refine kept_ite ?_ ?_
        · apply State.portWrite_kept
          exact h4
        · apply State.plainWrite_kept
          exact h4

theorem State.recRegWrite_kept {q p} {a0 a1 a2 a3} (h3 : Kept q p a3) : Kept q p (State.recRegWrite a0 a1 a2 a3) := by
  unfold State.recRegWrite
  refine kept_ite ?_ ?_
  · apply State.recCtrlWrite_kept
    exact h3
  · refine kept_ite ?_ ?_
    · apply State.recSizeWrite_kept
      exact h3
    · refine kept_ite ?_ ?_
      · apply State.recPullWrite_kept
        exact h3
      · refine kept_ite ?_ ?_
        · apply State.rpCtrl_kept
          exact h3
        · apply State.plainWrite_kept
          exact h3

theorem State.rqWrite_kept {q p} {a0 a1 a2 a3 a4} (h4 : Kept q p a4) : Kept q p (State.rqWrite a0 a1 a2 a3 a4) := by
  unfold State.rqWrite
  refine kept_ite ?_ ?_
  · apply State.rqCtrl_kept
    exact h4
  · apply State.genWrite_kept
    exact h4

theorem State.siteWrite_kept {q p} {a0 a1 a2 a3} (h3 : Kept q p a3) : Kept q p (State.siteWrite a0 a1 a2 a3) := by
  unfold State.siteWrite
  refine kept_ite ?_ ?_
  · apply State.siteCtrl_kept
    exact h3
  · refine kept_ite ?_ ?_
    · apply State.siteCheckCtrl_kept
      exact h3
    · apply State.genWrite_kept
      exact h3

theorem State.spareWrite_kept {q p} {a0 a1 a2 a3 a4} (h4 : Kept q p a4) : Kept q p (State.spareWrite a0 a1 a2 a3 a4) := by
  unfold State.spareWrite
  extract_lets +onlyGivenNames x0
  clear_value x0
  refine kept_ite ?_ ?_
  · apply State.spRequest_kept
    exact h4
  · apply State.spRelease_kept
    exact h4

theorem State.tileWrite_kept {q p} {a0 a1 a2 a3 a4 a5} (h5 : Kept q p a5) : Kept q p (State.tileWrite a0 a1 a2 a3 a4 a5) := by
  unfold State.tileWrite
  refine kept_ite ?_ ?_
  · apply State.tctrlWrite_kept
    exact h5
  · refine kept_ite ?_ ?_
    · apply State.spareWrite_kept
      exact h5
    · refine kept_ite ?_ ?_
      · apply State.slewWrite_kept
        exact h5
      · refine kept_ite ?_ ?_
        · refine kept_ite ?_ ?_
          · exact h5
          · apply State.plainWrite_kept
            exact h5
        · refine kept_ite ?_ ?_
          · apply State.queueWrite_kept
            exact h5
          · refine kept_ite ?_ ?_
            · refine kept_ite ?_ ?_
              · apply State.setReg_kept
                exact h5
              · exact h5
            · refine kept_ite ?_ ?_
              · apply State.spareWrite_kept
                exact h5
              · refine kept_ite ?_ ?_
                · apply State.injWrite_kept
                  exact h5
                · refine kept_ite ?_ ?_
                  · apply State.monCfgWrite_kept
                    exact h5
                  · apply State.plainWrite_kept
                    exact h5

theorem State.timWrite_kept {q p} {a0 a1 a2 a3} (h3 : Kept q p a3) : Kept q p (State.timWrite a0 a1 a2 a3) := by
  unfold State.timWrite
  refine kept_ite ?_ ?_
  · apply State.timCtrl_kept
    exact h3
  · refine kept_ite ?_ ?_
    · apply State.secSetWrite_kept
      exact h3
    · refine kept_ite ?_ ?_
      · apply State.freqWrite_kept
        exact h3
      · apply State.plainWrite_kept
        exact h3

theorem State.tknWrite_kept {q p} {a0 a1 a2 a3} (h3 : Kept q p a3) : Kept q p (State.tknWrite a0 a1 a2 a3) := by
  unfold State.tknWrite
  refine kept_ite ?_ ?_
  · apply State.resumeWrite_kept
    exact h3
  · refine kept_ite ?_ ?_
    · apply State.rehCtrlWrite_kept
      exact h3
    · apply State.plainWrite_kept
      exact h3

theorem State.toutWrite_kept {q p} {a0 a1 a2 a3 a4} (h4 : Kept q p a4) : Kept q p (State.toutWrite a0 a1 a2 a3 a4) := by
  unfold State.toutWrite
  refine kept_ite ?_ ?_
  · apply State.toutCfgWrite_kept
    exact h4
  · apply State.genWrite_kept
    exact h4

theorem State.baseEffect_kept {q p} {a0 a1 a2 a3 a4 a5} (h5 : Kept q p a5) : Kept q p (State.baseEffect a0 a1 a2 a3 a4 a5) := by
  unfold State.baseEffect
  extract_lets +onlyGivenNames x0
  clear_value x0
  extract_lets +onlyGivenNames x1
  clear_value x1
  split
  · apply State.fabWrite_kept
    exact h5
  · apply State.siteWrite_kept
    exact h5
  · apply State.tileWrite_kept
    exact h5
  · apply State.tileWrite_kept
    exact h5
  · apply State.monWideWrite_kept
    exact h5
  · apply State.rqWrite_kept
    exact h5
  · apply State.rqWrite_kept
    exact h5
  · apply State.portRegWrite_kept
    exact h5
  · refine kept_ite ?_ ?_
    · apply State.rteCtrl_kept
      exact h5
    · apply State.plainWrite_kept
      exact h5
  · apply State.gstWrite_kept
    exact h5
  · apply State.loopWrite_kept
    exact h5
  · apply State.drtWrite_kept
    exact h5
  · apply State.timWrite_kept
    exact h5
  · apply State.toutWrite_kept
    exact h5
  · refine kept_ite ?_ ?_
    · apply State.schCtrl_kept
      exact h5
    · apply State.plainWrite_kept
      exact h5
  · apply State.genWrite_kept
    exact h5
  · refine kept_ite ?_ ?_
    · apply State.calCmd_kept
      exact h5
    · apply State.plainWrite_kept
      exact h5
  · apply State.tknWrite_kept
    exact h5
  · refine kept_ite ?_ ?_
    · apply State.rstCtrlWrite_kept
      exact h5
    · apply State.plainWrite_kept
      exact h5
  · apply State.memWrite_kept
    exact h5
  · apply State.fltWrite_kept
    exact h5
  · refine kept_ite ?_ ?_
    · apply State.thmCmd_kept
      exact h5
    · apply State.plainWrite_kept
      exact h5
  · refine kept_ite ?_ ?_
    · apply State.hkInj_kept
      exact h5
    · apply State.plainWrite_kept
      exact h5
  · apply State.recRegWrite_kept
    exact h5
  · apply State.plainWrite_kept
    exact h5

theorem State.baseRegWrite_kept {q p} {a0 a1 a2 a3 a4 a5} (h5 : Kept q p a5) : Kept q p (State.baseRegWrite a0 a1 a2 a3 a4 a5) := by
  unfold State.baseRegWrite
  refine kept_ite ?_ ?_
  · apply State.claim_kept
    exact h5
  · refine kept_ite ?_ ?_
    · apply State.renewWrite_kept
      exact h5
    · refine kept_ite ?_ ?_
      · apply State.releaseWrite_kept
        exact h5
      · refine kept_ite ?_ ?_
        · apply State.rehReport_kept
          exact h5
        · apply State.baseWrite_kept
          · intro z0 k1
            apply State.baseEffect_kept
            exact k1
          · exact h5

theorem State.dmchWrite_kept {q p} {a0 a1 a2 a3 a4 a5} (h5 : Kept q p a5) : Kept q p (State.dmchWrite a0 a1 a2 a3 a4 a5) := by
  unfold State.dmchWrite
  refine kept_ite ?_ ?_
  · apply State.dmCtl_kept
    exact h5
  · refine kept_ite ?_ ?_
    · apply State.dmIgnored_kept
      apply State.maskWrite_kept
      exact h5
    · apply State.plainWrite_kept
      exact h5

theorem State.fltuWrite_kept {q p} {a0 a1 a2 a3 a4 a5} (h5 : Kept q p a5) : Kept q p (State.fltuWrite a0 a1 a2 a3 a4 a5) := by
  unfold State.fltuWrite
  refine kept_ite ?_ ?_
  · apply State.srcCfgWrite_kept
    exact h5
  · refine kept_ite ?_ ?_
    · refine kept_ite ?_ ?_
      · apply State.plainWrite_kept
        exact h5
      · exact h5
    · refine kept_ite ?_ ?_
      · refine kept_ite ?_ ?_
        · apply State.srcClear_kept
          exact h5
        · exact h5
      · apply State.plainWrite_kept
        exact h5

theorem State.pmcWrite_kept {q p} {a0 a1 a2 a3 a4 a5} (h5 : Kept q p a5) : Kept q p (State.pmcWrite a0 a1 a2 a3 a4 a5) := by
  unfold State.pmcWrite
  refine kept_ite ?_ ?_
  · apply State.pmcCtrl_kept
    exact h5
  · refine kept_ite ?_ ?_
    · apply State.pmcWinCtrl_kept
      exact h5
    · refine kept_ite ?_ ?_
      · apply State.pmcCntWrite_kept
        exact h5
      · refine kept_ite ?_ ?_
        · apply State.pmcEvtWrite_kept
          exact h5
        · apply State.plainWrite_kept
          exact h5

theorem State.queueRegWrite_kept {q p} {a0 a1 a2 a3 a4 a5} (h5 : Kept q p a5) : Kept q p (State.queueRegWrite a0 a1 a2 a3 a4 a5) := by
  unfold State.queueRegWrite
  extract_lets +onlyGivenNames x0
  clear_value x0
  extract_lets +onlyGivenNames x1
  clear_value x1
  refine kept_ite ?_ ?_
  · apply State.qCtrl_kept
    exact h5
  · refine kept_ite ?_ ?_
    · extract_lets +onlyGivenNames x2
      have k3 : Kept q p x2.2 := by
        unfold x2
        apply State.drawNat_kept
        exact h5
      clear_value x2
      apply State.sqCfgWrite_kept
      exact k3
    · refine kept_ite ?_ ?_
      · apply State.cqCfgWrite_kept
        exact h5
      · refine kept_ite ?_ ?_
        · apply State.eqCfgWrite_kept
          exact h5
        · refine kept_ite ?_ ?_
          · apply State.trCfgWrite_kept
            exact h5
          · extract_lets +onlyGivenNames x4
            clear_value x4
            apply State.refreshAll_kept
            apply State.genWrite_kept
            exact h5

theorem State.secWrite_kept {q p} {a0 a1 a2 a3 a4 a5} (h5 : Kept q p a5) : Kept q p (State.secWrite a0 a1 a2 a3 a4 a5) := by
  unfold State.secWrite
  refine kept_ite ?_ ?_
  · apply State.secCmd_kept
    exact h5
  · refine kept_ite ?_ ?_
    · extract_lets +onlyGivenNames x0
      clear_value x0
      extract_lets +onlyGivenNames x1
      clear_value x1
      apply State.setUnit_kept
      exact h5
    · apply State.plainWrite_kept
      exact h5

theorem State.unitRegWrite_kept {q p} {a0 a1 a2 a3 a4 a5} (h5 : Kept q p a5) : Kept q p (State.unitRegWrite a0 a1 a2 a3 a4 a5) := by
  unfold State.unitRegWrite
  extract_lets +onlyGivenNames x0
  clear_value x0
  refine kept_ite ?_ ?_
  · exact h5
  · split
    · refine kept_ite ?_ ?_
      · apply State.hlCtrl_kept
        exact h5
      · apply State.plainWrite_kept
        exact h5
    · apply State.cuSelfWrite_kept
      exact h5
    · apply State.refreshAll_kept
      apply State.plainWrite_kept
      exact h5
    · apply State.queueRegWrite_kept
      exact h5
    · apply State.queueRegWrite_kept
      exact h5
    · apply State.queueRegWrite_kept
      exact h5
    · apply State.queueRegWrite_kept
      exact h5
    · apply State.queueRegWrite_kept
      exact h5
    · refine kept_ite ?_ ?_
      · apply State.spCmdWrite_kept
        exact h5
      · refine kept_ite ?_ ?_
        · apply State.spBankWrite_kept
          exact h5
        · apply State.plainWrite_kept
          exact h5
    · refine kept_ite ?_ ?_
      · apply State.dmCtrl_kept
        exact h5
      · apply State.plainWrite_kept
        exact h5
    · apply State.dmchWrite_kept
      exact h5
    · apply State.fltuWrite_kept
      exact h5
    · apply State.secWrite_kept
      exact h5
    · apply State.pmcWrite_kept
      exact h5
    · apply State.pmcWrite_kept
      exact h5
    · refine kept_ite ?_ ?_
      · apply State.cellCfgWrite_kept
        exact h5
      · exact h5
    · apply State.plainWrite_kept
      exact h5

theorem State.regWrite_kept {q p} {a0 a1 a2 a3} (h3 : Kept q p a3) : Kept q p (State.regWrite a0 a1 a2 a3) := by
  unfold State.regWrite
  refine kept_ite ?_ ?_
  · exact h3
  · split
    · exact h3
    · split
      · apply State.baseRegWrite_kept
        exact h3
      · apply State.unitRegWrite_kept
        exact h3

theorem State.hostRegRead_kept {q p} {a0 a1} (h1 : Kept q p a1) : Kept q p (State.hostRegRead a0 a1) := by
  unfold State.hostRegRead
  refine kept_ite ?_ ?_
  · apply State.orReg_kept
    exact h1
  · extract_lets +onlyGivenNames x0
    clear_value x0
    refine kept_foldl ?_ ?_
    · intro z1 z2 k3
      split
      · apply State.readEffect_kept
        exact k3
      · exact k3
    · exact h1

theorem State.msixWrite_kept {q p} {a0 a1 a2 a3 a4} (h4 : Kept q p a4) : Kept q p (State.msixWrite a0 a1 a2 a3 a4) := by
  unfold State.msixWrite
  extract_lets +onlyGivenNames x0
  clear_value x0
  refine kept_ite ?_ ?_
  · exact h4
  · refine kept_ite ?_ ?_
    · extract_lets +onlyGivenNames x1
      clear_value x1
      extract_lets +onlyGivenNames x2
      clear_value x2
      apply State.drainMsix_kept
      apply State.setFn_kept
      exact h4
    · apply State.setFn_kept
      exact h4

theorem State.wordWrite_kept {q p} {a0 a1 a2 a3} (h3 : Kept q p a3) : Kept q p (State.wordWrite a0 a1 a2 a3) := by
  unfold State.wordWrite
  refine kept_ite ?_ ?_
  · apply State.msixWrite_kept
    exact h3
  · split
    · apply State.regWrite_kept
      exact h3
    · exact h3

theorem State.hostRegWrite_kept {q p} {a0 a1 a2} (h2 : Kept q p a2) : Kept q p (State.hostRegWrite a0 a1 a2) := by
  unfold State.hostRegWrite
  refine kept_ite ?_ ?_
  · apply State.orReg_kept
    exact h2
  · refine kept_ite ?_ ?_
    · apply State.orReg_kept
      exact h2
    · extract_lets +onlyGivenNames x0
      have k1 : Kept q p x0 := by
        unfold x0
        apply State.wordWrite_kept
        exact h2
      clear_value x0
      refine kept_ite ?_ ?_
      · apply State.wordWrite_kept
        exact k1
      · exact k1

theorem execBadAccessRead_kept {q p} {a0 a1} (h1 : Kept q p a1) : KeptRes q p (execBadAccessRead a0 a1) := by
  unfold execBadAccessRead
  refine keptRes_next ?_
  apply State.hostRegRead_kept
  exact h1

theorem execClearOnRead_kept {q p} {a0 a1} (h1 : Kept q p a1) : KeptRes q p (execClearOnRead a0 a1) := by
  unfold execClearOnRead
  refine keptRes_next ?_
  apply State.hostRegRead_kept
  exact h1

theorem execLatchingRead_kept {q p} {a0 a1} (h1 : Kept q p a1) : KeptRes q p (execLatchingRead a0 a1) := by
  unfold execLatchingRead
  refine keptRes_next ?_
  apply State.hostRegRead_kept
  exact h1

theorem execRegisterWrite_kept {q p} {a0 a1 a2} (h2 : Kept q p a2) : KeptRes q p (execRegisterWrite a0 a1 a2) := by
  unfold execRegisterWrite
  refine keptRes_next ?_
  apply State.hostRegWrite_kept
  exact h2

theorem State.regWords_kept {q p} {a0 a1 a2 a3} (h3 : Kept q p a3) : Kept q p (State.regWords a0 a1 a2 a3) := by
  unfold State.regWords
  refine kept_ite ?_ ?_
  · exact h3
  · refine kept_foldl_snd ?_ ?_
    · intro z0 z1 k2
      refine kept_pair_snd ?_
      apply State.regWrite_kept
      exact k2
    · exact h3

theorem State.dmStore_kept {q p} {a0 a1 a2 a3 a4} (h4 : Kept q p a4) : Kept q p (State.dmStore a0 a1 a2 a3 a4) := by
  unfold State.dmStore
  refine kept_ite ?_ ?_
  · refine kept_ite ?_ ?_
    · apply State.hostWrite_kept
      exact h4
    · exact h4
  · split
    · apply State.dramWrite_kept
      exact h4
    · apply State.spWrite_kept
      exact h4
    · apply State.regWords_kept
      exact h4
    · refine kept_ite ?_ ?_
      · apply State.regWords_kept
        exact h4
      · exact h4
    · refine kept_ite ?_ ?_
      · apply State.regWords_kept
        exact h4
      · exact h4
    · exact h4

theorem State.dmScatter_kept {q p} {a0 a1 a2 a3 a4 a5 a6} (h6 : Kept q p a6) : Kept q p (State.dmScatter a0 a1 a2 a3 a4 a5 a6) := by
  induction a3 generalizing a4 a5 a6 with
  | zero => exact h6
  | succ n ih =>
    cases a5 with
    | nil => exact h6
    | cons b r => exact ih (State.dmStore_kept h6)

theorem State.dmAdvance_kept {q p} {a0 a1 a2 a3 a4} (h4 : Kept q p a4) : Kept q p (State.dmAdvance a0 a1 a2 a3 a4).2 := by
  unfold State.dmAdvance
  extract_lets +onlyGivenNames x1
  clear_value x1
  extract_lets +onlyGivenNames x3
  have k4 : Kept q p x3 := by
    unfold x3
    split
    · apply State.dmStore_kept
      exact h4
    · apply State.dmScatter_kept
      exact h4
  clear_value x3
  refine kept_pair_snd ?_
  apply State.pmcEvent_kept
  apply State.pmcEvent_kept
  exact k4

theorem State.dmDone_kept {q p} {a0 a1 a2 a3} (h3 : Kept q p a3) : Kept q p (State.dmDone a0 a1 a2 a3) := by
  unfold State.dmDone
  split
  · exact h3
  · refine kept_ite ?_ ?_
    · exact h3
    · extract_lets +onlyGivenNames x5
      clear_value x5
      extract_lets +onlyGivenNames x6
      have k7 : Kept q p x6.2 := by
        unfold x6
        apply State.dmAdvance_kept
        exact h3
      clear_value x6
      apply State.dmFinish_kept
      exact k7

theorem State.dmFail_kept {q p} {a0 a1 a2 a3 a4 a5} (h5 : Kept q p a5) : Kept q p (State.dmFail a0 a1 a2 a3 a4 a5) := by
  unfold State.dmFail
  split
  · exact h5
  · refine kept_ite ?_ ?_
    · exact h5
    · extract_lets +onlyGivenNames x5
      have k6 : Kept q p x5.2 := by
        unfold x5
        apply State.dmAdvance_kept
        exact h5
      clear_value x5
      extract_lets +onlyGivenNames x7
      clear_value x7
      extract_lets +onlyGivenNames x8
      clear_value x8
      extract_lets +onlyGivenNames x9
      clear_value x9
      extract_lets +onlyGivenNames x10
      have k11 : Kept q p x10 := by
        unfold x10
        apply State.burstTrace_kept
        exact k6
      clear_value x10
      refine kept_ite ?_ ?_
      · apply State.dmHalt_kept
        exact k11
      · apply State.putDm_kept
        exact k11

theorem State.dmPausedAt_kept {q p} {a0 a1 a2 a3} (h3 : Kept q p a3) : Kept q p (State.dmPausedAt a0 a1 a2 a3) := by
  unfold State.dmPausedAt
  split
  · exact h3
  · refine kept_ite ?_ ?_
    · exact h3
    · extract_lets +onlyGivenNames x5
      have k6 : Kept q p x5.2 := by
        unfold x5
        apply State.dmAdvance_kept
        exact h3
      clear_value x5
      refine kept_ite ?_ ?_
      · apply State.dmFinish_kept
        exact k6
      · refine kept_ite ?_ ?_
        · apply State.dmFinish_kept
          exact k6
        · apply State.putDm_kept
          exact k6

theorem State.poisonRead_kept {q p} {a0 a1} (h1 : Kept q p a1) : Kept q p (State.poisonRead a0 a1) := by
  unfold State.poisonRead
  split
  · apply State.orReg_kept
    apply State.memUe_kept
    exact h1
  · exact h1

theorem State.dmPoison_kept {q p} {a0 a1 a2 a3 a4} (h4 : Kept q p a4) : Kept q p (State.dmPoison a0 a1 a2 a3 a4) := by
  unfold State.dmPoison
  split
  · exact h4
  · refine kept_ite ?_ ?_
    · exact h4
    · extract_lets +onlyGivenNames x5
      have k6 : Kept q p x5.2 := by
        unfold x5
        apply State.dmAdvance_kept
        exact h4
      clear_value x5
      extract_lets +onlyGivenNames x7
      have k8 : Kept q p x7 := by
        unfold x7
        apply State.dmHalt_kept
        apply State.pmcEvent_kept
        apply State.poisonRead_kept
        exact k6
      clear_value x7
      apply State.orReg_kept
      apply State.orReg_kept
      exact k8

theorem State.dmRetry_kept {q p} {a0 a1 a2} (h2 : Kept q p a2) : Kept q p (State.dmRetry a0 a1 a2) := by
  unfold State.dmRetry
  split
  · exact h2
  · split
    · exact h2
    · refine kept_ite ?_ ?_
      · exact h2
      · extract_lets +onlyGivenNames x16
        have k17 : Kept q p x16 := by
          unfold x16
          apply State.orReg_kept
          apply State.bump_kept
          apply State.putDm_kept
          exact h2
        clear_value x16
        apply State.pmcEvent_kept
        apply State.setField_kept
        exact k17

theorem State.pullRequest_kept {q p} {a0 a1 a2} (h2 : Kept q p a2) : Kept q p (State.pullRequest a0 a1 a2) := by
  unfold State.pullRequest
  split
  · split
    · exact h2
    · extract_lets +onlyGivenNames x17
      have k18 : Kept q p x17.2 := by
        unfold x17
        apply State.drawNat_kept
        exact h2
      clear_value x17
      extract_lets +onlyGivenNames x19
      clear_value x19
      extract_lets +onlyGivenNames x20
      clear_value x20
      extract_lets +onlyGivenNames x21
      clear_value x21
      apply State.dmBegin_kept
      exact k18
  · exact h2

theorem State.rqRequest_kept {q p} {a0 a1 a2 a3} (h3 : Kept q p a3) : Kept q p (State.rqRequest a0 a1 a2 a3) := by
  unfold State.rqRequest
  extract_lets +onlyGivenNames x0
  clear_value x0
  extract_lets +onlyGivenNames x1
  clear_value x1
  extract_lets +onlyGivenNames x2
  clear_value x2
  extract_lets +onlyGivenNames x3
  clear_value x3
  extract_lets +onlyGivenNames x4
  clear_value x4
  refine kept_ite ?_ ?_
  · exact h3
  · refine kept_ite ?_ ?_
    · apply State.orReg_kept
      exact h3
    · extract_lets +onlyGivenNames x5
      clear_value x5
      extract_lets +onlyGivenNames x6
      clear_value x6
      extract_lets +onlyGivenNames x7
      clear_value x7
      extract_lets +onlyGivenNames x8
      clear_value x8
      extract_lets +onlyGivenNames x9
      have k10 : Kept q p x9 := by
        unfold x9
        apply State.setRq_kept
        apply State.clrReg_kept
        exact h3
      clear_value x9
      extract_lets +onlyGivenNames x11
      clear_value x11
      extract_lets +onlyGivenNames x12
      have k13 : Kept q p x12 := by
        unfold x12
        refine kept_mk' (kept_comp ?_)
        exact k10
      clear_value x12
      extract_lets +onlyGivenNames x14
      clear_value x14
      apply State.dmBegin_kept
      exact k13

theorem State.hwRequest_kept {q p} {a0 a1 a2} (h2 : Kept q p a2) : Kept q p (State.hwRequest a0 a1 a2) := by
  unfold State.hwRequest
  refine kept_ite ?_ ?_
  · exact h2
  · split
    · split
      · apply State.rqRequest_kept
        exact h2
      · exact h2
    · apply State.pullRequest_kept
      exact h2
    · exact h2

theorem State.hwWithdraw_kept {q p} {a0 a1 a2 a3} (h3 : Kept q p a3) : Kept q p (State.hwWithdraw a0 a1 a2 a3) := by
  unfold State.hwWithdraw
  split
  · exact h3
  · split
    · exact h3
    · split
      · refine kept_ite ?_ ?_
        · apply State.hwSettle_kept
          apply State.dmShow_kept
          apply State.freeDm_kept
          exact h3
        · exact h3
      · extract_lets +onlyGivenNames x31
        have k32 : Kept q p x31.2 := by
          unfold x31
          apply State.dmAdvance_kept
          exact h3
        clear_value x31
        apply State.dmFinish_kept
        apply State.orReg_kept
        exact k32

theorem State.moveLoad_kept {q p} {a0 a1 a2} (h2 : Kept q p a2) : Kept q p (State.moveLoad a0 a1 a2) := by
  unfold State.moveLoad
  extract_lets +onlyGivenNames x0
  clear_value x0
  extract_lets +onlyGivenNames x1
  have k2 : Kept q p x1 := by
    unfold x1
    apply State.setReg_kept
    exact h2
  clear_value x1
  extract_lets +onlyGivenNames x3
  have k4 : Kept q p x3 := by
    unfold x3
    apply State.setReg64_kept
    apply State.setReg64_kept
    exact k2
  clear_value x3
  extract_lets +onlyGivenNames x5
  have k6 : Kept q p x5 := by
    unfold x5
    refine kept_foldl ?_ ?_
    · intro z7 z8 k9
      apply State.setReg_kept
      apply State.setReg_kept
      apply State.setReg_kept
      exact k9
    · exact k4
  clear_value x5
  apply State.setReg_kept
  exact k6

theorem State.moveStart_kept {q p} {a0 a1} (h1 : Kept q p a1) : Kept q p (State.moveStart a0 a1) := by
  unfold State.moveStart
  split
  · apply State.refuse_kept
    exact h1
  · split
    · apply State.refuse_kept
      exact h1
    · apply State.dmBegin_kept
      apply State.moveLoad_kept
      exact h1

theorem execDmBurstFail_kept {q p} {a0 a1 a2 a3 a4 a5} (h5 : Kept q p a5) : KeptRes q p (execDmBurstFail a0 a1 a2 a3 a4 a5) := by
  unfold execDmBurstFail
  refine keptRes_next ?_
  apply State.dmFail_kept
  exact h5

theorem execDmCountClear_kept {q p} {a0 a1 a2} (h2 : Kept q p a2) : KeptRes q p (execDmCountClear a0 a1 a2) := by
  unfold execDmCountClear
  refine keptRes_next ?_
  apply State.dmCtrl_kept
  exact h2

theorem execDmEnd_kept {q p} {a0 a1 a2 a3} (h3 : Kept q p a3) : KeptRes q p (execDmEnd a0 a1 a2 a3) := by
  unfold execDmEnd
  refine keptRes_next ?_
  apply State.dmCtl_kept
  exact h3

theorem execDmHwRequest_kept {q p} {a0 a1 a2} (h2 : Kept q p a2) : KeptRes q p (execDmHwRequest a0 a1 a2) := by
  unfold execDmHwRequest
  refine keptRes_next ?_
  apply State.hwRequest_kept
  exact h2

theorem execDmHwWithdraw_kept {q p} {a0 a1 a2 a3} (h3 : Kept q p a3) : KeptRes q p (execDmHwWithdraw a0 a1 a2 a3) := by
  unfold execDmHwWithdraw
  refine keptRes_next ?_
  apply State.hwWithdraw_kept
  exact h3

theorem execDmPause_kept {q p} {a0 a1 a2 a3} (h3 : Kept q p a3) : KeptRes q p (execDmPause a0 a1 a2 a3) := by
  unfold execDmPause
  refine keptRes_next ?_
  apply State.dmCtl_kept
  exact h3

theorem execDmPaused_kept {q p} {a0 a1 a2 a3} (h3 : Kept q p a3) : KeptRes q p (execDmPaused a0 a1 a2 a3) := by
  unfold execDmPaused
  refine keptRes_next ?_
  apply State.dmPausedAt_kept
  exact h3

theorem execDmPoisonHalt_kept {q p} {a0 a1 a2 a3 a4} (h4 : Kept q p a4) : KeptRes q p (execDmPoisonHalt a0 a1 a2 a3 a4) := by
  unfold execDmPoisonHalt
  refine keptRes_next ?_
  apply State.dmPoison_kept
  exact h4

theorem execDmResume_kept {q p} {a0 a1 a2 a3} (h3 : Kept q p a3) : KeptRes q p (execDmResume a0 a1 a2 a3) := by
  unfold execDmResume
  refine keptRes_next ?_
  apply State.dmCtl_kept
  exact h3

theorem execDmRetryTimer_kept {q p} {a0 a1 a2} (h2 : Kept q p a2) : KeptRes q p (execDmRetryTimer a0 a1 a2) := by
  unfold execDmRetryTimer
  refine keptRes_next ?_
  apply State.dmRetry_kept
  exact h2

theorem execDmStart_kept {q p} {a0 a1 a2 a3} (h3 : Kept q p a3) : KeptRes q p (execDmStart a0 a1 a2 a3) := by
  unfold execDmStart
  refine keptRes_next ?_
  apply State.dmCtl_kept
  exact h3

theorem execDmTransferDone_kept {q p} {a0 a1 a2 a3} (h3 : Kept q p a3) : KeptRes q p (execDmTransferDone a0 a1 a2 a3) := by
  unfold execDmTransferDone
  refine keptRes_next ?_
  apply State.dmDone_kept
  exact h3

theorem execDmUnpause_kept {q p} {a0 a1 a2 a3} (h3 : Kept q p a3) : KeptRes q p (execDmUnpause a0 a1 a2 a3) := by
  unfold execDmUnpause
  refine keptRes_next ?_
  apply State.dmCtl_kept
  exact h3

theorem execMove_kept {q p} {a0 a1} (h1 : Kept q p a1) : KeptRes q p (execMove a0 a1) := by
  unfold execMove
  refine keptRes_next ?_
  apply State.runDesc_kept
  · intro z0 k1
    apply State.moveStart_kept
    exact k1
  · exact h1

end Sys2Proof.Machine
end

