-- ==== Sys2Proof/Laws/KeptStep.lean ====
section
/-! SUPPORT. `Kept` goes through every operation of the replay engine and `exec` itself: one lemma per operation,
so that no proof about the queue, the part or the canonical form unfolds one. -/

namespace Sys2Proof.Machine

theorem State.rpAwait_kept {q p} {a0 a1 a2} (h2 : Kept q p a2) : Kept q p (State.rpAwait a0 a1 a2) := by
  unfold State.rpAwait
  refine kept_mk' (kept_comp ?_)
  exact h2

theorem State.rpCommand_kept {q p} {a0 a1} (h1 : Kept q p a1) : Kept q p (State.rpCommand a0 a1) := by
  unfold State.rpCommand
  extract_lets +onlyGivenNames x0
  clear_value x0
  extract_lets +onlyGivenNames x1
  clear_value x1
  split
  · apply State.basteTake_kept
    exact h1
  · refine kept_ite ?_ ?_
    · exact h1
    · apply State.timed_kept
      · intro z6 z7 k8
        apply State.loopSetAct_kept
        exact k8
      · exact h1
  · refine kept_ite ?_ ?_
    · apply State.timed_kept
      · intro z11 z12 k13
        apply State.squallAct_kept
        exact k13
      · exact h1
    · refine kept_ite ?_ ?_
      · apply State.timed_kept
        · intro z14 z15 k16
          apply State.modeAct_kept
          exact k16
        · exact h1
      · exact h1
  · apply State.setLoad_kept
    exact h1
  · refine kept_ite ?_ ?_
    · exact h1
    · apply State.timed_kept
      · intro z21 z22 k23
        apply State.codesAct_kept
        exact k23
      · exact h1
  · exact h1

theorem State.rpClass_kept {q p} {a0 a1} (h1 : Kept q p a1) : Kept q p (State.rpClass a0 a1) := by
  unfold State.rpClass
  extract_lets +onlyGivenNames x0
  clear_value x0
  refine kept_ite ?_ ?_
  · exact h1
  · extract_lets +onlyGivenNames x1
    clear_value x1
    extract_lets +onlyGivenNames x2
    have k3 : Kept q p x2 := by
      unfold x2
      refine kept_mk' (kept_comp ?_)
      exact h1
    clear_value x2
    apply State.ditherClasses_kept
    · exact k3
    · exact h1

theorem State.rpClock_kept {q p} {a0 a1} (h1 : Kept q p a1) : Kept q p (State.rpClock a0 a1) := by
  unfold State.rpClock
  extract_lets +onlyGivenNames x0
  clear_value x0
  extract_lets +onlyGivenNames x1
  clear_value x1
  extract_lets +onlyGivenNames x2
  clear_value x2
  extract_lets +onlyGivenNames x3
  clear_value x3
  extract_lets +onlyGivenNames x4
  clear_value x4
  extract_lets +onlyGivenNames x5
  clear_value x5
  refine kept_mk' (kept_comp ?_)
  exact h1

theorem State.rpGain_kept {q p} {a0 a1} (h1 : Kept q p a1) : Kept q p (State.rpGain a0 a1) := by
  unfold State.rpGain
  split
  · exact h1
  · extract_lets +onlyGivenNames x6
    clear_value x6
    apply State.setMon_kept
    exact h1

theorem State.rpInject_kept {q p} {a0 a1} (h1 : Kept q p a1) : Kept q p (State.rpInject a0 a1) := by
  unfold State.rpInject
  extract_lets +onlyGivenNames x0
  clear_value x0
  extract_lets +onlyGivenNames x1
  clear_value x1
  refine kept_mk' (kept_comp ?_)
  exact h1

theorem State.rpSafe_kept {q p} {a0 a1} (h1 : Kept q p a1) : Kept q p (State.rpSafe a0 a1) := by
  unfold State.rpSafe
  refine kept_ite ?_ ?_
  · apply State.abortSquall_kept
    refine kept_ite ?_ ?_
    · apply State.parkData_kept
      exact h1
    · apply State.holdData_kept
      exact h1
  · refine kept_ite ?_ ?_
    · apply State.unhold_kept
      exact h1
    · apply State.unhold_kept
      apply State.presetHeld_kept
      exact h1

theorem State.rpSubst_kept {q p} {a0 a1} (h1 : Kept q p a1) : Kept q p (State.rpSubst a0 a1) := by
  unfold State.rpSubst
  extract_lets +onlyGivenNames x0
  clear_value x0
  extract_lets +onlyGivenNames x1
  clear_value x1
  split
  · exact h1
  · extract_lets +onlyGivenNames x9
    clear_value x9
    extract_lets +onlyGivenNames x10
    clear_value x10
    refine kept_ite ?_ ?_
    · split
      · apply State.spSwitch_kept
        exact h1
      · exact h1
    · extract_lets +onlyGivenNames x26
      clear_value x26
      refine kept_ite ?_ ?_
      · exact h1
      · apply State.spSwitch_kept
        apply State.orReg_kept
        apply State.setField_kept
        exact h1

theorem State.rpEvent_kept {q p} {a0 a1} (h1 : Kept q p a1) : Kept q p (State.rpEvent a0 a1) := by
  unfold State.rpEvent
  split
  · apply State.rpGain_kept
    exact h1
  · apply State.rpSubst_kept
    exact h1
  · apply State.rpSafe_kept
    exact h1
  · apply State.calBoundary_kept
    exact h1
  · apply State.rpClass_kept
    exact h1
  · apply State.setReg_kept
    exact h1
  · refine kept_mk' (kept_comp ?_)
    exact h1
  · apply State.rpClock_kept
    exact h1
  · refine kept_ite ?_ ?_
    · apply State.rpAwait_kept
      exact h1
    · refine kept_ite ?_ ?_
      · exact h1
      · extract_lets +onlyGivenNames x18
        clear_value x18
        apply State.squallBegin_kept
        exact h1
  · apply State.rpAwait_kept
    exact h1
  · refine kept_ite ?_ ?_
    · apply State.rpAwait_kept
      exact h1
    · apply State.healthPut_kept
      exact h1
  · apply State.rpInject_kept
    exact h1
  · apply State.setReg64_kept
    apply State.setReg_kept
    exact h1
  · exact h1

theorem State.rpFine_kept {q p} {a0 a1} (h1 : Kept q p a1) : Kept q p (State.rpFine a0 a1) := by
  unfold State.rpFine
  extract_lets +onlyGivenNames x0
  clear_value x0
  extract_lets +onlyGivenNames x1
  clear_value x1
  extract_lets +onlyGivenNames x2
  have k3 : ∀ y0 y1, Kept q p y0 → Kept q p (x2 y0 y1) := by
    unfold x2
    intro z4 z5 k6
    extract_lets +onlyGivenNames x7
    clear_value x7
    refine kept_ite ?_ ?_
    · exact k6
    · extract_lets +onlyGivenNames x8
      clear_value x8
      apply State.finePut_kept
      exact k6
  clear_value x2
  apply State.tapsIn_kept
  apply State.fineWith_kept
  · exact k3
  · exact h1

theorem State.rpStop_kept {q p} {a0 a1} (h1 : Kept q p a1) : Kept q p (State.rpStop a0 a1) := by
  unfold State.rpStop
  refine kept_mk' (kept_comp ?_)
  exact h1

theorem State.rpDiff_kept {q p} {a0 a1 a2 a3 a4} (h4 : Kept q p a4) : Kept q p (State.rpDiff a0 a1 a2 a3 a4) := by
  unfold State.rpDiff
  refine kept_ite ?_ ?_
  · exact h4
  · extract_lets +onlyGivenNames x0
    have k1 : Kept q p x0 := by
      unfold x0
      refine kept_ite ?_ ?_
      · exact h4
      · apply State.setReg_kept
        apply State.setReg_kept
        apply State.setReg64_kept
        exact h4
    clear_value x0
    extract_lets +onlyGivenNames x2
    have k3 : Kept q p x2 := by
      unfold x2
      apply State.bump_kept
      exact k1
    clear_value x2
    refine kept_ite ?_ ?_
    · apply State.rpStop_kept
      exact k3
    · exact k3

theorem State.rpSame_kept {q p} {a0 a1 a2 a3 a4} (h4 : Kept q p a4) : Kept q p (State.rpSame a0 a1 a2 a3 a4) := by
  unfold State.rpSame
  refine kept_ite ?_ ?_
  · exact h4
  · apply State.rpDiff_kept
    exact h4

theorem State.rpGustRec_kept {q p} {a0 a1} (h1 : Kept q p a1) : Kept q p (State.rpGustRec a0 a1) := by
  unfold State.rpGustRec
  extract_lets +onlyGivenNames x0
  clear_value x0
  extract_lets +onlyGivenNames x1
  clear_value x1
  extract_lets +onlyGivenNames x2
  have k3 : Kept q p x2 := by
    unfold x2
    apply State.rpSame_kept
    exact h1
  clear_value x2
  refine kept_ite ?_ ?_
  · exact k3
  · extract_lets +onlyGivenNames x4
    have k5 : Kept q p x4.2 := by
      unfold x4
      apply State.formTnow_kept
      exact k3
    clear_value x4
    extract_lets +onlyGivenNames x6
    clear_value x6
    extract_lets +onlyGivenNames x7
    clear_value x7
    extract_lets +onlyGivenNames x8
    have k9 : Kept q p x8 := by
      unfold x8
      apply State.fireGust_kept
      apply State.loadNext_kept
      exact k5
    clear_value x8
    refine kept_mk' (kept_comp ?_)
    exact k9

theorem State.rpHk_kept {q p} {a0 a1} (h1 : Kept q p a1) : Kept q p (State.rpHk a0 a1) := by
  unfold State.rpHk
  extract_lets +onlyGivenNames x0
  have k1 : Kept q p x0 := by
    unfold x0
    refine kept_foldl ?_ ?_
    · intro z2 z3 k4
      apply State.setReg_kept
      exact k4
    · exact h1
  clear_value x0
  extract_lets +onlyGivenNames x5
  have k6 : Kept q p x5 := by
    unfold x5
    apply State.takeTiles_kept
    exact k1
  clear_value x5
  extract_lets +onlyGivenNames x7
  clear_value x7
  apply State.retemp_kept
  refine kept_mk' (kept_comp ?_)
  exact k6

theorem State.rpRegWrite_kept {q p} {a0 a1} (h1 : Kept q p a1) : Kept q p (State.rpRegWrite a0 a1) := by
  unfold State.rpRegWrite
  extract_lets +onlyGivenNames x0
  clear_value x0
  extract_lets +onlyGivenNames x1
  clear_value x1
  split
  · exact h1
  · refine kept_ite ?_ ?_
    · exact h1
    · apply State.regWrite_kept
      exact h1

theorem State.rpTime_kept {q p} {a0 a1} (h1 : Kept q p a1) : Kept q p (State.rpTime a0 a1) := by
  unfold State.rpTime
  extract_lets +onlyGivenNames x0
  clear_value x0
  extract_lets +onlyGivenNames x1
  clear_value x1
  refine kept_mk' (kept_comp ?_)
  exact h1

theorem State.rpApply_kept {q p} {a0 a1 a2} (h2 : Kept q p a2) : Kept q p (State.rpApply a0 a1 a2) := by
  unfold State.rpApply
  split
  · apply State.rpFine_kept
    exact h2
  · apply State.rpAwait_kept
    exact h2
  · apply State.rpHk_kept
    exact h2
  · apply State.rpCommand_kept
    exact h2
  · apply State.rpRegWrite_kept
    exact h2
  · apply State.rpTime_kept
    exact h2
  · apply State.rpGustRec_kept
    exact h2
  · apply State.rpEvent_kept
    exact h2
  · apply State.rpStop_kept
    exact h2
  · exact h2

theorem State.rpCompare_kept {q p} {a0 a1} (h0 : Kept q p a0) : Kept q p (State.rpCompare a0 a1) := by
  unfold State.rpCompare
  extract_lets +onlyGivenNames x0
  clear_value x0
  split
  · extract_lets +onlyGivenNames x7
    clear_value x7
    extract_lets +onlyGivenNames x8
    have k9 : Kept q p x8 := by
      unfold x8
      refine kept_mk' (kept_comp ?_)
      exact h0
    clear_value x8
    refine kept_foldl ?_ ?_
    · intro z10 z11 k12
      apply State.rpSame_kept
      exact k12
    · exact k9
  · exact h0

theorem State.rpOpen_kept {q p} {a0 a1 a2} (h2 : Kept q p a2) : Kept q p (State.rpOpen a0 a1 a2) := by
  unfold State.rpOpen
  extract_lets +onlyGivenNames x0
  clear_value x0
  refine kept_ite ?_ ?_
  · apply State.rpStop_kept
    exact h2
  · refine kept_ite ?_ ?_
    · apply State.rpStop_kept
      exact h2
    · refine kept_ite ?_ ?_
      · apply State.rpStop_kept
        exact h2
      · refine kept_mk' (kept_comp ?_)
        exact h2

theorem State.rpFeed_kept {q p} {a0 a1} (h1 : Kept q p a1) : Kept q p (State.rpFeed a0 a1) := by
  induction a0 generalizing a1 with
  | zero => exact h1
  | succ n ih =>
    unfold State.rpFeed
    refine kept_ite ?_ ?_
    · exact h1
    · extract_lets +onlyGivenNames x0
      clear_value x0
      extract_lets +onlyGivenNames x1
      clear_value x1
      refine kept_ite ?_ ?_
      · apply ih
        apply State.rpOpen_kept
        exact h1
      · extract_lets +onlyGivenNames x2
        clear_value x2
        refine kept_ite ?_ ?_
        · exact h1
        · extract_lets +onlyGivenNames x3
          clear_value x3
          extract_lets +onlyGivenNames x4
          clear_value x4
          extract_lets +onlyGivenNames x5
          have k6 : Kept q p x5 := by
            unfold x5
            apply State.rpApply_kept
            refine kept_mk' (kept_comp ?_)
            exact h1
          clear_value x5
          refine kept_ite ?_ ?_
          · exact k6
          · apply ih
            exact k6

theorem State.rpInstant_kept {q p} {a0} (h0 : Kept q p a0) : Kept q p (State.rpInstant a0) := by
  unfold State.rpInstant
  refine kept_ite ?_ ?_
  · apply State.loopInstant_kept
    exact h0
  · exact h0

theorem State.rpJudge_kept {q p} {a0 a1} (h1 : Kept q p a1) : Kept q p (State.rpJudge a0 a1) := by
  induction a0 generalizing a1 with
  | zero => exact h1
  | succ n ih => exact ih (kept_foldl (fun _ _ h => State.rpCompare_kept h) h1)

theorem State.rpTick_kept {q p} {a0 a1 a2} (h2 : Kept q p a2) : Kept q p (State.rpTick a0 a1 a2) := by
  unfold State.rpTick
  extract_lets +onlyGivenNames x0
  have k1 : Kept q p x0 := by
    unfold x0
    apply State.rpInstant_kept
    exact h2
  clear_value x0
  extract_lets +onlyGivenNames x2
  have k3 : Kept q p x2 := by
    unfold x2
    apply State.tickOn_kept
    apply State.rpFeed_kept
    apply State.rpJudge_kept
    exact k1
  clear_value x2
  extract_lets +onlyGivenNames x4
  clear_value x4
  extract_lets +onlyGivenNames x5
  have k6 : Kept q p x5 := by
    unfold x5
    apply State.rpFeed_kept
    apply State.evalWhere_kept
    apply State.takeShape_kept
    exact k3
  clear_value x5
  extract_lets +onlyGivenNames x7
  have k8 : Kept q p x7.1 := by
    unfold x7
    apply State.noteCompliance_kept
    exact k6
  clear_value x7
  extract_lets +onlyGivenNames x9
  have k10 : Kept q p x9 := by
    unfold x9
    apply State.setReg64_kept
    exact k8
  clear_value x9
  extract_lets +onlyGivenNames x11
  clear_value x11
  refine kept_ite ?_ ?_
  · exact k10
  · apply State.report_kept
    exact k10

theorem execReplayEnd_kept {q p} {a0} (h0 : Kept q p a0) : KeptRes q p (execReplayEnd a0) := by
  unfold execReplayEnd
  refine keptRes_ite ?_ ?_
  · refine keptRes_next ?_
    exact h0
  · extract_lets +onlyGivenNames x0
    have k1 : Kept q p x0 := by
      unfold x0
      refine kept_ite ?_ ?_
      · exact h0
      · apply State.rpJudge_kept
        apply State.rpStop_kept
        exact h0
    clear_value x0
    refine keptRes_next ?_
    apply State.endReplay_kept
    exact k1

theorem execReplayStart_kept {q p} {a0 a1 a2} (h2 : Kept q p a2) : KeptRes q p (execReplayStart a0 a1 a2) := by
  unfold execReplayStart
  refine keptRes_next ?_
  apply State.baseWrite_kept
  · intro z0 k1
    apply State.rpCtrl_kept
    exact k1
  · exact h2

theorem execReplayStop_kept {q p} {a0 a1 a2} (h2 : Kept q p a2) : KeptRes q p (execReplayStop a0 a1 a2) := by
  unfold execReplayStop
  refine keptRes_next ?_
  apply State.baseWrite_kept
  · intro z0 k1
    apply State.rpCtrl_kept
    exact k1
  · exact h2

theorem execUpdateTick_kept {q p} {a0 a1 a2 a3} (h3 : Kept q p a3) : KeptRes q p (execUpdateTick a0 a1 a2 a3) := by
  unfold execUpdateTick
  refine keptRes_next ?_
  refine kept_ite ?_ ?_
  · exact h3
  · refine kept_ite ?_ ?_
    · apply State.rpTick_kept
      exact h3
    · apply State.tick_kept
      exact h3

theorem exec_kept {q p} {a0 a1} (h1 : Kept q p a1) : KeptRes q p (exec a0 a1) := by
  unfold exec
  split
  · apply execFabLoad_kept
    exact h1
  · apply execFabLoadDeferredRead_kept
    exact h1
  · apply execFabLoadEnd_kept
    exact h1
  · apply execFabEnable_kept
    exact h1
  · apply execFabDisable_kept
    exact h1
  · apply execHealthMarkWrite_kept
    exact h1
  · apply execSiteBiasEnable_kept
    exact h1
  · apply execSiteSenseEnable_kept
    exact h1
  · apply execSiteBiasFault_kept
    exact h1
  · apply execSiteCheckStart_kept
    exact h1
  · apply execSiteCheckStop_kept
    exact h1
  · apply execSiteCheckDone_kept
    exact h1
  · apply execUpdateTick_kept
    exact h1
  · apply execDrvQueueWrite_kept
    exact h1
  · apply execDrvQueueFlush_kept
    exact h1
  · apply execDrvSlewWrite_kept
    exact h1
  · apply execDrvCountClear_kept
    exact h1
  · apply execPreEmphasisEnd_kept
    exact h1
  · apply execDrvSpareRequest_kept
    exact h1
  · apply execDrvSpareRelease_kept
    exact h1
  · apply execDrvSpareTrackingDone_kept
    exact h1
  · apply execFineLaneInstant_kept
    exact h1
  · apply execResultQueueAgeExpiry_kept
    exact h1
  · apply execMonCfgWrite_kept
    exact h1
  · apply execMonGridAlignRequest_kept
    exact h1
  · apply execGridAlign_kept
    exact h1
  · apply execMonInjectStart_kept
    exact h1
  · apply execMonInjectStop_kept
    exact h1
  · apply execMonDiagStart_kept
    exact h1
  · apply execMonDiagStop_kept
    exact h1
  · apply execMonDiagDone_kept
    exact h1
  · apply execMonCountClear_kept
    exact h1
  · apply execResultQueueEnable_kept
    exact h1
  · apply execResultQueueDisable_kept
    exact h1
  · apply execMonSpareRequest_kept
    exact h1
  · apply execMonSpareRelease_kept
    exact h1
  · apply execMonSpareReadinessDone_kept
    exact h1
  · apply execMonPortCfgWrite_kept
    exact h1
  · apply execRouteLookup_kept
    exact h1
  · apply execRoutePreload_kept
    exact h1
  · apply execRouteSolve_kept
    exact h1
  · apply execRouteInvalidate_kept
    exact h1
  · apply execRouteFlush_kept
    exact h1
  · apply execRouteRehash_kept
    exact h1
  · apply execCacheInsert_kept
    exact h1
  · apply execCacheAgeSweep_kept
    exact h1
  · apply execRehashDone_kept
    exact h1
  · apply execCacheClearDone_kept
    exact h1
  · apply execRouteCountClear_kept
    exact h1
  · apply execMapBaste_kept
    exact h1
  · apply execBasteComplete_kept
    exact h1
  · apply execGust_kept
    exact h1
  · apply execGustPreloadStart_kept
    exact h1
  · apply execGustArmed_kept
    exact h1
  · apply execGustTrigger_kept
    exact h1
  · apply execTrigInEdge_kept
    exact h1
  · apply execGustVerify_kept
    exact h1
  · apply execGustReverify_kept
    exact h1
  · apply execLullEnd_kept
    exact h1
  · apply execDraughtPoint_kept
    exact h1
  · apply execDraughtEnd_kept
    exact h1
  · apply execGustCountClear_kept
    exact h1
  · apply execLoopInstant_kept
    exact h1
  · apply execLoopOutputApply_kept
    exact h1
  · apply execLoopModeManual_kept
    exact h1
  · apply execLoopModeAuto_kept
    exact h1
  · apply execLoopCellModeWrite_kept
    exact h1
  · apply execClrStrike_kept
    exact h1
  · apply execLoopClsHoldWrite_kept
    exact h1
  · apply execLoopClassWrite_kept
    exact h1
  · apply execLoopSet_kept
    exact h1
  · apply execSquallStart_kept
    exact h1
  · apply execSquallStop_kept
    exact h1
  · apply execSquallEnd_kept
    exact h1
  · apply execLoopCountClear_kept
    exact h1
  · apply execDrtTauWrite_kept
    exact h1
  · apply execDrtCommit_kept
    exact h1
  · apply execDrtInvalidate_kept
    exact h1
  · apply execDrtCountClear_kept
    exact h1
  · apply execPpsEdge_kept
    exact h1
  · apply execPpsLost_kept
    exact h1
  · apply execPpsPhaseEnd_kept
    exact h1
  · apply execSecondsArm_kept
    exact h1
  · apply execTimedActionDue_kept
    exact h1
  · apply execSchedLoad_kept
    exact h1
  · apply execSchedCommit_kept
    exact h1
  · apply execSchedStop_kept
    exact h1
  · apply execSchedStopAtEnd_kept
    exact h1
  · apply execSchedCancel_kept
    exact h1
  · apply execSchedStart_kept
    exact h1
  · apply execScheduleEdge_kept
    exact h1
  · apply execTimePulse_kept
    exact h1
  · apply execToutEnable_kept
    exact h1
  · apply execToutPulse_kept
    exact h1
  · apply execCalRun_kept
    exact h1
  · apply execCalRunEnd_kept
    exact h1
  · apply execCalSetLoad_kept
    exact h1
  · apply execCharTable_kept
    exact h1
  · apply execCharCoupling_kept
    exact h1
  · apply execCharTrimSweep_kept
    exact h1
  · apply execCharThrowSweep_kept
    exact h1
  · apply execCouplingRunEnd_kept
    exact h1
  · apply execCharRunEnd_kept
    exact h1
  · apply execCalIdle_kept
    exact h1
  · apply execCalIdleLapse_kept
    exact h1
  · apply execCalAbort_kept
    exact h1
  · apply execCalSeqStop_kept
    exact h1
  · apply execCalHashDrt_kept
    exact h1
  · apply execDrtHashDone_kept
    exact h1
  · apply execPerstAssert_kept
    exact h1
  · apply execPerstRelease_kept
    exact h1
  · apply execHotReset_kept
    exact h1
  · apply execLinkDown_kept
    exact h1
  · apply execFlrPf_kept
    exact h1
  · apply execFlrVf_kept
    exact h1
  · apply execLinkRetrain_kept
    exact h1
  · apply execD3hotEntry_kept
    exact h1
  · apply execD3hotExit_kept
    exact h1
  · apply execLinkError_kept
    exact h1
  · apply execHlCountClear_kept
    exact h1
  · apply execRegisterWrite_kept
    exact h1
  · apply execBadAccessRead_kept
    exact h1
  · apply execLatchingRead_kept
    exact h1
  · apply execClearOnRead_kept
    exact h1
  · apply execHostReadFail_kept
    exact h1
  · apply execQueuePoll_kept
    exact h1
  · apply execDescriptorFetch_kept
    exact h1
  · apply execArbitrationGrant_kept
    exact h1
  · apply execBucketRefill_kept
    exact h1
  · apply execCompletionPost_kept
    exact h1
  · apply execRingInterruptTimer_kept
    exact h1
  · apply execFunctionEnable_kept
    exact h1
  · apply execFunctionDisable_kept
    exact h1
  · apply execSqEnable_kept
    exact h1
  · apply execSqDisable_kept
    exact h1
  · apply execCqEnable_kept
    exact h1
  · apply execCqDisable_kept
    exact h1
  · apply execEqEnable_kept
    exact h1
  · apply execTrEnable_kept
    exact h1
  · apply execQCountClear_kept
    exact h1
  · apply execNop_kept
    exact h1
  · apply execMapQuery_kept
    exact h1
  · apply execMove_kept
    exact h1
  · apply execTelemCtrl_kept
    exact h1
  · apply execElementDirectCodes_kept
    exact h1
  · apply execElementDirectRead_kept
    exact h1
  · apply execSpareMapSubstitute_kept
    exact h1
  · apply execSpareMapRelease_kept
    exact h1
  · apply execFaultCtrlRead_kept
    exact h1
  · apply execFaultCtrlClear_kept
    exact h1
  · apply execFaultCtrlConfig_kept
    exact h1
  · apply execStateSave_kept
    exact h1
  · apply execAttest_kept
    exact h1
  · apply execFwStageStage_kept
    exact h1
  · apply execFwStageActivate_kept
    exact h1
  · apply execFwStageDiscard_kept
    exact h1
  · apply execFlashWriteDone_kept
    exact h1
  · apply execRecCtrlStatus_kept
    exact h1
  · apply execRecFreeze_kept
    exact h1
  · apply execRecRelease_kept
    exact h1
  · apply execRecSizeSet_kept
    exact h1
  · apply execRecModeSet_kept
    exact h1
  · apply execRecTriggersSet_kept
    exact h1
  · apply execRecPostExpiry_kept
    exact h1
  · apply execRecPullStart_kept
    exact h1
  · apply execRecPullEnd_kept
    exact h1
  · apply execReplayStart_kept
    exact h1
  · apply execReplayStop_kept
    exact h1
  · apply execReplayEnd_kept
    exact h1
  · apply execTknClaim_kept
    exact h1
  · apply execTknRenew_kept
    exact h1
  · apply execTknRelease_kept
    exact h1
  · apply execTknResume_kept
    exact h1
  · apply execTknRehStart_kept
    exact h1
  · apply execTknRehCall_kept
    exact h1
  · apply execTknRehDismiss_kept
    exact h1
  · apply execTknRehReport_kept
    exact h1
  · apply execLeaseExpiry_kept
    exact h1
  · apply execFirmwareVerified_kept
    exact h1
  · apply execGraceEnd_kept
    exact h1
  · apply execClaimDeadline_kept
    exact h1
  · apply execUnitBootFail_kept
    exact h1
  · apply execReservationExpiry_kept
    exact h1
  · apply execImageSavePeriodic_kept
    exact h1
  · apply execImageSaveEvent_kept
    exact h1
  · apply execRehearsalAutoDue_kept
    exact h1
  · apply execRehearsalTimeout_kept
    exact h1
  · apply execRevertRehearsalDue_kept
    exact h1
  · apply execWtrExpiry_kept
    exact h1
  · apply execSuccessorReadyTimeout_kept
    exact h1
  · apply execPorRise_kept
    exact h1
  · apply execColdReset_kept
    exact h1
  · apply execPllLock_kept
    exact h1
  · apply execDramTrained_kept
    exact h1
  · apply execDramInitDone_kept
    exact h1
  · apply execPeerCallTimeout_kept
    exact h1
  · apply execResetNAssert_kept
    exact h1
  · apply execPwrRstDevice_kept
    exact h1
  · apply execPwrRstUnit_kept
    exact h1
  · apply execPwrCuSelfReset_kept
    exact h1
  · apply execWarmResetRelease_kept
    exact h1
  · apply execDrivePowerDown_kept
    exact h1
  · apply execVanaLow_kept
    exact h1
  · apply execVcoreLow_kept
    exact h1
  · apply execVphyLow_kept
    exact h1
  · apply execDriveRailLow_kept
    exact h1
  · apply execVioLow_kept
    exact h1
  · apply execSupplyMonitorRelease_kept
    exact h1
  · apply execDramScrub_kept
    exact h1
  · apply execRowCopyDone_kept
    exact h1
  · apply execBankCopyDone_kept
    exact h1
  · apply execMemSpareBank_kept
    exact h1
  · apply execFuseCommitDone_kept
    exact h1
  · apply execMemProbe_kept
    exact h1
  · apply execMemCountClear_kept
    exact h1
  · apply execSpPstateWrite_kept
    exact h1
  · apply execSpPstateDone_kept
    exact h1
  · apply execSpOwnerWrite_kept
    exact h1
  · apply execSpRetireCmd_kept
    exact h1
  · apply execSpRetireDone_kept
    exact h1
  · apply execDmStart_kept
    exact h1
  · apply execDmPause_kept
    exact h1
  · apply execDmPaused_kept
    exact h1
  · apply execDmUnpause_kept
    exact h1
  · apply execDmResume_kept
    exact h1
  · apply execDmEnd_kept
    exact h1
  · apply execDmBurstFail_kept
    exact h1
  · apply execDmRetryTimer_kept
    exact h1
  · apply execDmPoisonHalt_kept
    exact h1
  · apply execDmTransferDone_kept
    exact h1
  · apply execDmHwRequest_kept
    exact h1
  · apply execDmHwWithdraw_kept
    exact h1
  · apply execDmCountClear_kept
    exact h1
  · apply execFaultReport_kept
    exact h1
  · apply execFltRelease_kept
    exact h1
  · apply execFltClrAll_kept
    exact h1
  · apply execFltClrFirst_kept
    exact h1
  · apply execFltSrcClr_kept
    exact h1
  · apply execLogCommit_kept
    exact h1
  · apply execHkSlot_kept
    exact h1
  · apply execHkRoundEnd_kept
    exact h1
  · apply execHkInjStart_kept
    exact h1
  · apply execThmClrSuspect_kept
    exact h1
  · apply execThmClrPic_kept
    exact h1
  · apply execSecPassword_kept
    exact h1
  · apply execSecChallenge_kept
    exact h1
  · apply execSecRespond_kept
    exact h1
  · apply execSecClose_kept
    exact h1
  · apply execSecEnrol_kept
    exact h1
  · apply execSecRaiseFloor_kept
    exact h1
  · apply execFuseProgramDone_kept
    exact h1
  · apply execNonceExpiry_kept
    exact h1
  · apply execPmcClrAll_kept
    exact h1
  · apply execPmcFreeze_kept
    exact h1
  · apply execPmcUnfreeze_kept
    exact h1
  · apply execPmcCntWrite_kept
    exact h1
  · apply execPmcEvtWrite_kept
    exact h1
  · apply execPmcCounterWrap_kept
    exact h1
  · apply execPmcWindowEnd_kept
    exact h1
  · apply execPllUnlock_kept
    exact h1
  · apply execPllRelock_kept
    exact h1
  · apply execJtagInstruction_kept
    exact h1
  · apply execWatchdog_kept
    exact h1
  · apply execLinkUp_kept
    exact h1
  · apply execToutPulseEnd_kept
    exact h1

end Sys2Proof.Machine
end

