-- ==== Sys2Proof/Laws/Memory.lean ====
section
/-! SUPPORT. The stacked memory: its canonical form, and what a byte reads as after a write (R471, R475). -/
namespace Sys2Proof.Machine.State

/-- DRAM lists nothing after reset, which is canonical. -/
theorem reset_dram_wf : Tab.wf (openByte reset.part reset.mem.userFree) reset.mem.dram = true := rfl

/-- A stored byte keeps DRAM canonical. -/
theorem dramByte_wf {s : State} (a : Nat) (b : Byte) (h : Tables s.part s.regs s.mem.dram s.mem.userFree) :
    Tables (s.dramByte a b).part (s.dramByte a b).regs (s.dramByte a b).mem.dram (s.dramByte a b).mem.userFree := by
  have k : Kept s.pending s.part (s.dramByte a b) := dramByte_kept ⟨rfl, rfl, h⟩
  rw [k.2.1]; exact k.2.2

/-- A data mover's write keeps DRAM canonical. -/
theorem dramWrite_wf {s : State} (u : Cu) (a : Nat) (l : List Byte) (h : Tables s.part s.regs s.mem.dram s.mem.userFree) :
    Tables (s.dramWrite u a l).part (s.dramWrite u a l).regs (s.dramWrite u a l).mem.dram (s.dramWrite u a l).mem.userFree := by
  have k : Kept s.pending s.part (s.dramWrite u a l) := dramWrite_kept ⟨rfl, rfl, h⟩
  rw [k.2.1]; exact k.2.2

/-- A byte stored outside the coupling table, which State holds as coefficients, reads back. -/
theorem dramAt_dramByte_self (s : State) (a : Nat) (b : Byte) (h : ¬(0x18000000 ≤ a ∧ a < 0x18000000 + 100859904)) :
    (s.dramByte a b).dramAt a = b := by
  unfold dramByte; rw [if_neg h]; exact Tab.get_put_self _ _ _ _

end Sys2Proof.Machine.State
end

