-- ==== Sys2Proof/Laws/PerInstr.lean ====
section
/-! SUPPORT. The family WF: a well-formed command that carries a descriptor carries 64 bytes of one of 16 functions and 64 SQs (R338, R357, R385). -/
namespace Sys2Proof.Laws

/-- The descriptor of a row that has one by either way in. -/
def Via.cmd : Via → Option Cmd
  | .reg _ _ => none
  | .desc c => some c

/-- The descriptor a command carries. -/
def Instr.cmd (i : Instr) : Option Cmd :=
  match i with
  | .fabLoad _ _ => none
  | .fabLoadDeferredRead => none
  | .fabLoadEnd _ => none
  | .fabEnable _ _ => none
  | .fabDisable _ _ => none
  | .healthMarkWrite _ _ _ => none
  | .siteBiasEnable _ _ => none
  | .siteSenseEnable _ _ => none
  | .siteBiasFault _ => none
  | .siteCheckStart _ _ => none
  | .siteCheckStop _ _ => none
  | .siteCheckDone _ => none
  | .updateTick _ _ _ => none
  | .drvQueueWrite _ _ _ => none
  | .drvQueueFlush _ _ _ => none
  | .drvSlewWrite _ _ _ => none
  | .drvCountClear _ _ _ => none
  | .preEmphasisEnd _ => none
  | .drvSpareRequest _ _ _ _ => none
  | .drvSpareRelease _ _ _ _ => none
  | .drvSpareTrackingDone _ _ _ => none
  | .fineLaneInstant _ => none
  | .resultQueueAgeExpiry _ => none
  | .monCfgWrite _ _ _ => none
  | .monGridAlignRequest _ _ => none
  | .gridAlign => none
  | .monInjectStart _ _ _ => none
  | .monInjectStop _ _ _ => none
  | .monDiagStart _ _ => none
  | .monDiagStop _ _ => none
  | .monDiagDone _ => none
  | .monCountClear _ _ _ => none
  | .resultQueueEnable _ _ _ => none
  | .resultQueueDisable _ _ _ => none
  | .monSpareRequest _ _ _ _ => none
  | .monSpareRelease _ _ _ _ => none
  | .monSpareReadinessDone _ _ _ => none
  | .monPortCfgWrite _ _ _ _ _ => none
  | .routeLookup c _ _ => some c
  | .routePreload c _ _ => some c
  | .routeSolve c _ => some c
  | .routeInvalidate c _ => some c
  | .routeFlush c => some c
  | .routeRehash c => some c
  | .cacheInsert _ => none
  | .cacheAgeSweep _ => none
  | .rehashDone _ => none
  | .cacheClearDone => none
  | .routeCountClear _ _ => none
  | .mapBaste c _ _ => some c
  | .basteComplete _ => none
  | .gust c => some c
  | .gustPreloadStart => none
  | .gustArmed => none
  | .gustTrigger => none
  | .trigInEdge _ _ => none
  | .gustVerify => none
  | .gustReverify => none
  | .lullEnd => none
  | .draughtPoint _ => none
  | .draughtEnd => none
  | .gustCountClear _ _ => none
  | .loopInstant _ => none
  | .loopOutputApply => none
  | .loopModeManual c => some c
  | .loopModeAuto c => some c
  | .loopCellModeWrite _ _ _ => none
  | .clrStrike _ _ _ => none
  | .loopClsHoldWrite _ _ => none
  | .loopClassWrite _ _ _ _ => none
  | .loopSet c => some c
  | .squallStart via => Via.cmd via
  | .squallStop _ _ => none
  | .squallEnd => none
  | .loopCountClear _ _ => none
  | .drtTauWrite _ _ _ => none
  | .drtCommit _ _ => none
  | .drtInvalidate _ _ => none
  | .drtCountClear _ _ => none
  | .ppsEdge _ => none
  | .ppsLost => none
  | .ppsPhaseEnd => none
  | .secondsArm _ _ => none
  | .timedActionDue => none
  | .schedLoad c _ => some c
  | .schedCommit via => Via.cmd via
  | .schedStop via => Via.cmd via
  | .schedStopAtEnd via => Via.cmd via
  | .schedCancel via => Via.cmd via
  | .schedStart => none
  | .scheduleEdge => none
  | .timePulse c => some c
  | .toutEnable _ _ _ => none
  | .toutPulse _ => none
  | .calRun c => some c
  | .calRunEnd _ => none
  | .calSetLoad c _ => some c
  | .charTable c => some c
  | .charCoupling c _ => some c
  | .charTrimSweep c _ => some c
  | .charThrowSweep c _ => some c
  | .couplingRunEnd _ => none
  | .charRunEnd _ => none
  | .calIdle _ _ => none
  | .calIdleLapse => none
  | .calAbort _ _ => none
  | .calSeqStop _ _ => none
  | .calHashDrt _ _ => none
  | .drtHashDone => none
  | .perstAssert _ => none
  | .perstRelease _ => none
  | .hotReset _ => none
  | .linkDown _ => none
  | .flrPf _ => none
  | .flrVf _ _ => none
  | .linkRetrain _ _ _ _ _ _ => none
  | .d3hotEntry _ _ => none
  | .d3hotExit _ _ => none
  | .linkError _ _ => none
  | .hlCountClear _ _ => none
  | .registerWrite _ _ => none
  | .badAccessRead _ => none
  | .latchingRead _ => none
  | .clearOnRead _ => none
  | .hostReadFail _ _ => none
  | .queuePoll _ _ _ => none
  | .descriptorFetch _ _ _ _ _ => none
  | .arbitrationGrant _ => none
  | .bucketRefill => none
  | .completionPost _ _ _ _ => none
  | .ringInterruptTimer _ _ _ => none
  | .functionEnable _ _ _ => none
  | .functionDisable _ _ _ => none
  | .sqEnable _ _ _ _ _ => none
  | .sqDisable _ _ _ _ => none
  | .cqEnable _ _ _ _ => none
  | .cqDisable _ _ _ _ => none
  | .eqEnable _ _ _ => none
  | .trEnable _ _ _ _ => none
  | .qCountClear _ _ _ => none
  | .nop c => some c
  | .mapQuery c => some c
  | .move c => some c
  | .telemCtrl c _ => some c
  | .elementDirectCodes c => some c
  | .elementDirectRead c => some c
  | .spareMapSubstitute c => some c
  | .spareMapRelease c => some c
  | .faultCtrlRead c => some c
  | .faultCtrlClear c => some c
  | .faultCtrlConfig c => some c
  | .stateSave c => some c
  | .attest c => some c
  | .fwStageStage c _ => some c
  | .fwStageActivate c => some c
  | .fwStageDiscard c => some c
  | .flashWriteDone _ _ => none
  | .recCtrlStatus c => some c
  | .recFreeze via => Via.cmd via
  | .recRelease via => Via.cmd via
  | .recSizeSet c => some c
  | .recModeSet c => some c
  | .recTriggersSet c => some c
  | .recPostExpiry => none
  | .recPullStart _ _ => none
  | .recPullEnd => none
  | .replayStart _ _ => none
  | .replayStop _ _ => none
  | .replayEnd => none
  | .tknClaim _ _ => none
  | .tknRenew _ _ => none
  | .tknRelease _ _ => none
  | .tknResume _ _ => none
  | .tknRehStart _ _ => none
  | .tknRehCall _ _ => none
  | .tknRehDismiss _ _ => none
  | .tknRehReport _ _ => none
  | .leaseExpiry _ => none
  | .firmwareVerified _ _ _ _ => none
  | .graceEnd => none
  | .claimDeadline => none
  | .unitBootFail _ _ => none
  | .reservationExpiry => none
  | .imageSavePeriodic => none
  | .imageSaveEvent => none
  | .rehearsalAutoDue => none
  | .rehearsalTimeout => none
  | .revertRehearsalDue => none
  | .wtrExpiry => none
  | .successorReadyTimeout => none
  | .porRise _ _ => none
  | .coldReset => none
  | .pllLock => none
  | .dramTrained _ => none
  | .dramInitDone => none
  | .peerCallTimeout => none
  | .resetNAssert _ => none
  | .pwrRstDevice _ _ => none
  | .pwrRstUnit _ _ => none
  | .pwrCuSelfReset _ _ => none
  | .warmResetRelease => none
  | .drivePowerDown => none
  | .vanaLow => none
  | .vcoreLow _ => none
  | .vphyLow _ _ => none
  | .driveRailLow _ => none
  | .vioLow => none
  | .supplyMonitorRelease _ _ => none
  | .dramScrub _ _ => none
  | .rowCopyDone => none
  | .bankCopyDone => none
  | .memSpareBank _ _ => none
  | .fuseCommitDone _ => none
  | .memProbe _ _ => none
  | .memCountClear _ _ => none
  | .spPstateWrite _ _ _ => none
  | .spPstateDone _ _ => none
  | .spOwnerWrite _ _ _ => none
  | .spRetireCmd _ _ => none
  | .spRetireDone _ _ _ => none
  | .dmStart _ _ _ => none
  | .dmPause _ _ _ => none
  | .dmPaused _ _ _ => none
  | .dmUnpause _ _ _ => none
  | .dmResume _ _ _ => none
  | .dmEnd _ _ _ => none
  | .dmBurstFail _ _ _ _ _ => none
  | .dmRetryTimer _ _ => none
  | .dmPoisonHalt _ _ _ _ => none
  | .dmTransferDone _ _ _ => none
  | .dmHwRequest _ _ => none
  | .dmHwWithdraw _ _ _ => none
  | .dmCountClear _ _ => none
  | .faultReport _ => none
  | .fltRelease _ _ => none
  | .fltClrAll _ _ => none
  | .fltClrFirst _ _ => none
  | .fltSrcClr _ _ _ => none
  | .logCommit _ => none
  | .hkSlot _ => none
  | .hkRoundEnd _ => none
  | .hkInjStart _ _ => none
  | .thmClrSuspect _ _ => none
  | .thmClrPic _ _ => none
  | .secPassword _ _ => none
  | .secChallenge _ _ => none
  | .secRespond _ _ => none
  | .secClose _ _ => none
  | .secEnrol _ _ => none
  | .secRaiseFloor _ _ => none
  | .fuseProgramDone _ _ => none
  | .nonceExpiry _ => none
  | .pmcClrAll _ _ => none
  | .pmcFreeze _ _ => none
  | .pmcUnfreeze _ _ => none
  | .pmcCntWrite _ _ _ => none
  | .pmcEvtWrite _ _ _ => none
  | .pmcCounterWrap _ _ => none
  | .pmcWindowEnd _ _ => none
  | .pllUnlock => none
  | .pllRelock => none
  | .jtagInstruction _ => none
  | .watchdog _ => none
  | .linkUp _ _ _ _ _ _ => none
  | .toutPulseEnd _ => none

/-- What the family says of a command. -/
def WF.Statement (i : Instr) : Prop :=
  i.wf = true → ∀ c, Instr.cmd i = some c → c.desc.length = 64 ∧ c.func < 16 ∧ c.sq < 64

namespace WF

theorem ofWf {c : Cmd} (h : c.wf = true) : c.desc.length = 64 ∧ c.func < 16 ∧ c.sq < 64 := by
  unfold Cmd.wf at h; simp only [Bool.and_eq_true, decide_eq_true_eq] at h; exact ⟨h.2, h.1.1, h.1.2⟩

theorem ofCmd (c : Cmd) (h : c.wf = true) (x : Cmd) (e : some c = some x) : x.desc.length = 64 ∧ x.func < 16 ∧ x.sq < 64 := by
  cases e; exact ofWf h

theorem ofVia (v : Via) (h : v.wf = true) (x : Cmd) (e : Via.cmd v = some x) : x.desc.length = 64 ∧ x.func < 16 ∧ x.sq < 64 := by
  cases v with
  | reg u w => cases e
  | desc c => cases e; exact ofWf h

theorem fabLoad (u : Cu) (v : Word) : Statement (.fabLoad u v) := fun _ _ h => nomatch h
theorem fabLoadDeferredRead : Statement (.fabLoadDeferredRead) := fun _ _ h => nomatch h
theorem fabLoadEnd (d : HostData) : Statement (.fabLoadEnd d) := fun _ _ h => nomatch h
theorem fabEnable (u : Cu) (v : Word) : Statement (.fabEnable u v) := fun _ _ h => nomatch h
theorem fabDisable (u : Cu) (v : Word) : Statement (.fabDisable u v) := fun _ _ h => nomatch h
theorem healthMarkWrite (u : Cu) (idx : Nat) (v : Word) : Statement (.healthMarkWrite u idx v) := fun _ _ h => nomatch h
theorem siteBiasEnable (u : Cu) (v : Word) : Statement (.siteBiasEnable u v) := fun _ _ h => nomatch h
theorem siteSenseEnable (u : Cu) (v : Word) : Statement (.siteSenseEnable u v) := fun _ _ h => nomatch h
theorem siteBiasFault (tiles : List Nat) : Statement (.siteBiasFault tiles) := fun _ _ h => nomatch h
theorem siteCheckStart (u : Cu) (v : Word) : Statement (.siteCheckStart u v) := fun _ _ h => nomatch h
theorem siteCheckStop (u : Cu) (v : Word) : Statement (.siteCheckStop u v) := fun _ _ h => nomatch h
theorem siteCheckDone (meas : List (Nat × PadMeas)) : Statement (.siteCheckDone meas) := fun _ _ h => nomatch h
theorem updateTick (fast : List (Nat × MonRaw)) (low : List Nat) (parity : List Nat) : Statement (.updateTick fast low parity) := fun _ _ h => nomatch h
theorem drvQueueWrite (u : Cu) (ch : Nat) (v : Word) : Statement (.drvQueueWrite u ch v) := fun _ _ h => nomatch h
theorem drvQueueFlush (u : Cu) (ch : Nat) (v : Word) : Statement (.drvQueueFlush u ch v) := fun _ _ h => nomatch h
theorem drvSlewWrite (u : Cu) (ch : Nat) (v : Word) : Statement (.drvSlewWrite u ch v) := fun _ _ h => nomatch h
theorem drvCountClear (u : Cu) (tile : Nat) (v : Word) : Statement (.drvCountClear u tile v) := fun _ _ h => nomatch h
theorem preEmphasisEnd (ch : Nat) : Statement (.preEmphasisEnd ch) := fun _ _ h => nomatch h
theorem drvSpareRequest (u : Cu) (tile : Nat) (j : Nat) (v : Word) : Statement (.drvSpareRequest u tile j v) := fun _ _ h => nomatch h
theorem drvSpareRelease (u : Cu) (tile : Nat) (j : Nat) (v : Word) : Statement (.drvSpareRelease u tile j v) := fun _ _ h => nomatch h
theorem drvSpareTrackingDone (tile : Nat) (j : Nat) (agree : Bool) : Statement (.drvSpareTrackingDone tile j agree) := fun _ _ h => nomatch h
theorem fineLaneInstant (raw : List (Nat × MonRaw)) : Statement (.fineLaneInstant raw) := fun _ _ h => nomatch h
theorem resultQueueAgeExpiry (q : Nat) : Statement (.resultQueueAgeExpiry q) := fun _ _ h => nomatch h
theorem monCfgWrite (u : Cu) (ch : Nat) (v : Word) : Statement (.monCfgWrite u ch v) := fun _ _ h => nomatch h
theorem monGridAlignRequest (u : Cu) (v : Word) : Statement (.monGridAlignRequest u v) := fun _ _ h => nomatch h
theorem gridAlign : Statement (.gridAlign) := fun _ _ h => nomatch h
theorem monInjectStart (u : Cu) (tile : Nat) (v : Word) : Statement (.monInjectStart u tile v) := fun _ _ h => nomatch h
theorem monInjectStop (u : Cu) (tile : Nat) (v : Word) : Statement (.monInjectStop u tile v) := fun _ _ h => nomatch h
theorem monDiagStart (u : Cu) (v : Word) : Statement (.monDiagStart u v) := fun _ _ h => nomatch h
theorem monDiagStop (u : Cu) (v : Word) : Statement (.monDiagStop u v) := fun _ _ h => nomatch h
theorem monDiagDone (res : List (Nat × List DiagRes)) : Statement (.monDiagDone res) := fun _ _ h => nomatch h
theorem monCountClear (u : Cu) (tile : Nat) (v : Word) : Statement (.monCountClear u tile v) := fun _ _ h => nomatch h
theorem resultQueueEnable (u : Cu) (q : Nat) (v : Word) : Statement (.resultQueueEnable u q v) := fun _ _ h => nomatch h
theorem resultQueueDisable (u : Cu) (q : Nat) (v : Word) : Statement (.resultQueueDisable u q v) := fun _ _ h => nomatch h
theorem monSpareRequest (u : Cu) (tile : Nat) (j : Nat) (v : Word) : Statement (.monSpareRequest u tile j v) := fun _ _ h => nomatch h
theorem monSpareRelease (u : Cu) (tile : Nat) (j : Nat) (v : Word) : Statement (.monSpareRelease u tile j v) := fun _ _ h => nomatch h
theorem monSpareReadinessDone (tile : Nat) (j : Nat) (agree : Bool) : Statement (.monSpareReadinessDone tile j agree) := fun _ _ h => nomatch h
theorem monPortCfgWrite (u : Cu) (port : Nat) (out : Bool) (dwell : Bool) (v : Word) : Statement (.monPortCfgWrite u port out dwell v) := fun _ _ h => nomatch h
theorem routeLookup (c : Cmd) (d : HostData) (badWays : List Nat) : Statement (.routeLookup c d badWays) := ofCmd c
theorem routePreload (c : Cmd) (d : HostData) (badWays : List Nat) : Statement (.routePreload c d badWays) := ofCmd c
theorem routeSolve (c : Cmd) (d : HostData) : Statement (.routeSolve c d) := ofCmd c
theorem routeInvalidate (c : Cmd) (d : HostData) : Statement (.routeInvalidate c d) := ofCmd c
theorem routeFlush (c : Cmd) : Statement (.routeFlush c) := ofCmd c
theorem routeRehash (c : Cmd) : Statement (.routeRehash c) := ofCmd c
theorem cacheInsert (u : Cu) : Statement (.cacheInsert u) := fun _ _ h => nomatch h
theorem cacheAgeSweep (bad : List (Nat × Bool)) : Statement (.cacheAgeSweep bad) := fun _ _ h => nomatch h
theorem rehashDone (bad : List (Nat × Bool)) : Statement (.rehashDone bad) := fun _ _ h => nomatch h
theorem cacheClearDone : Statement (.cacheClearDone) := fun _ _ h => nomatch h
theorem routeCountClear (u : Cu) (v : Word) : Statement (.routeCountClear u v) := fun _ _ h => nomatch h
theorem mapBaste (c : Cmd) (d : HostData) (badWays : List Nat) : Statement (.mapBaste c d badWays) := ofCmd c
theorem basteComplete (u : Cu) : Statement (.basteComplete u) := fun _ _ h => nomatch h
theorem gust (c : Cmd) : Statement (.gust c) := ofCmd c
theorem gustPreloadStart : Statement (.gustPreloadStart) := fun _ _ h => nomatch h
theorem gustArmed : Statement (.gustArmed) := fun _ _ h => nomatch h
theorem gustTrigger : Statement (.gustTrigger) := fun _ _ h => nomatch h
theorem trigInEdge (pin : Nat) (frac : Nat) : Statement (.trigInEdge pin frac) := fun _ _ h => nomatch h
theorem gustVerify : Statement (.gustVerify) := fun _ _ h => nomatch h
theorem gustReverify : Statement (.gustReverify) := fun _ _ h => nomatch h
theorem lullEnd : Statement (.lullEnd) := fun _ _ h => nomatch h
theorem draughtPoint (poison : Bool) : Statement (.draughtPoint poison) := fun _ _ h => nomatch h
theorem draughtEnd : Statement (.draughtEnd) := fun _ _ h => nomatch h
theorem gustCountClear (u : Cu) (v : Word) : Statement (.gustCountClear u v) := fun _ _ h => nomatch h
theorem loopInstant (overrun : Bool) : Statement (.loopInstant overrun) := fun _ _ h => nomatch h
theorem loopOutputApply : Statement (.loopOutputApply) := fun _ _ h => nomatch h
theorem loopModeManual (c : Cmd) : Statement (.loopModeManual c) := ofCmd c
theorem loopModeAuto (c : Cmd) : Statement (.loopModeAuto c) := ofCmd c
theorem loopCellModeWrite (u : Cu) (cell : Nat) (v : Word) : Statement (.loopCellModeWrite u cell v) := fun _ _ h => nomatch h
theorem clrStrike (u : Cu) (cell : Nat) (v : Word) : Statement (.clrStrike u cell v) := fun _ _ h => nomatch h
theorem loopClsHoldWrite (u : Cu) (v : Word) : Statement (.loopClsHoldWrite u v) := fun _ _ h => nomatch h
theorem loopClassWrite (u : Cu) (cls : Nat) (off : Nat) (v : Word) : Statement (.loopClassWrite u cls off v) := fun _ _ h => nomatch h
theorem loopSet (c : Cmd) : Statement (.loopSet c) := ofCmd c
theorem squallStart (via : Via) : Statement (.squallStart via) := ofVia via
theorem squallStop (u : Cu) (v : Word) : Statement (.squallStop u v) := fun _ _ h => nomatch h
theorem squallEnd : Statement (.squallEnd) := fun _ _ h => nomatch h
theorem loopCountClear (u : Cu) (v : Word) : Statement (.loopCountClear u v) := fun _ _ h => nomatch h
theorem drtTauWrite (u : Cu) (k : Nat) (v : Word) : Statement (.drtTauWrite u k v) := fun _ _ h => nomatch h
theorem drtCommit (u : Cu) (v : Word) : Statement (.drtCommit u v) := fun _ _ h => nomatch h
theorem drtInvalidate (u : Cu) (v : Word) : Statement (.drtInvalidate u v) := fun _ _ h => nomatch h
theorem drtCountClear (u : Cu) (v : Word) : Statement (.drtCountClear u v) := fun _ _ h => nomatch h
theorem ppsEdge (frac : Nat) : Statement (.ppsEdge frac) := fun _ _ h => nomatch h
theorem ppsLost : Statement (.ppsLost) := fun _ _ h => nomatch h
theorem ppsPhaseEnd : Statement (.ppsPhaseEnd) := fun _ _ h => nomatch h
theorem secondsArm (u : Cu) (v : Word) : Statement (.secondsArm u v) := fun _ _ h => nomatch h
theorem timedActionDue : Statement (.timedActionDue) := fun _ _ h => nomatch h
theorem schedLoad (c : Cmd) (d : HostData) : Statement (.schedLoad c d) := ofCmd c
theorem schedCommit (via : Via) : Statement (.schedCommit via) := ofVia via
theorem schedStop (via : Via) : Statement (.schedStop via) := ofVia via
theorem schedStopAtEnd (via : Via) : Statement (.schedStopAtEnd via) := ofVia via
theorem schedCancel (via : Via) : Statement (.schedCancel via) := ofVia via
theorem schedStart : Statement (.schedStart) := fun _ _ h => nomatch h
theorem scheduleEdge : Statement (.scheduleEdge) := fun _ _ h => nomatch h
theorem timePulse (c : Cmd) : Statement (.timePulse c) := ofCmd c
theorem toutEnable (u : Cu) (idx : Nat) (v : Word) : Statement (.toutEnable u idx v) := fun _ _ h => nomatch h
theorem toutPulse (idx : Nat) : Statement (.toutPulse idx) := fun _ _ h => nomatch h
theorem calRun (c : Cmd) : Statement (.calRun c) := ofCmd c
theorem calRunEnd (res : List CalRes) : Statement (.calRunEnd res) := fun _ _ h => nomatch h
theorem calSetLoad (c : Cmd) (d : HostData) : Statement (.calSetLoad c d) := ofCmd c
theorem charTable (c : Cmd) : Statement (.charTable c) := ofCmd c
theorem charCoupling (c : Cmd) (d : HostData) : Statement (.charCoupling c d) := ofCmd c
theorem charTrimSweep (c : Cmd) (d : HostData) : Statement (.charTrimSweep c d) := ofCmd c
theorem charThrowSweep (c : Cmd) (d : HostData) : Statement (.charThrowSweep c d) := ofCmd c
theorem couplingRunEnd (res : List CoupRes) : Statement (.couplingRunEnd res) := fun _ _ h => nomatch h
theorem charRunEnd (res : List SweepRes) : Statement (.charRunEnd res) := fun _ _ h => nomatch h
theorem calIdle (u : Cu) (v : Word) : Statement (.calIdle u v) := fun _ _ h => nomatch h
theorem calIdleLapse : Statement (.calIdleLapse) := fun _ _ h => nomatch h
theorem calAbort (u : Cu) (v : Word) : Statement (.calAbort u v) := fun _ _ h => nomatch h
theorem calSeqStop (u : Cu) (v : Word) : Statement (.calSeqStop u v) := fun _ _ h => nomatch h
theorem calHashDrt (u : Cu) (v : Word) : Statement (.calHashDrt u v) := fun _ _ h => nomatch h
theorem drtHashDone : Statement (.drtHashDone) := fun _ _ h => nomatch h
theorem perstAssert (u : Cu) : Statement (.perstAssert u) := fun _ _ h => nomatch h
theorem perstRelease (u : Cu) : Statement (.perstRelease u) := fun _ _ h => nomatch h
theorem hotReset (u : Cu) : Statement (.hotReset u) := fun _ _ h => nomatch h
theorem linkDown (u : Cu) : Statement (.linkDown u) := fun _ _ h => nomatch h
theorem flrPf (u : Cu) : Statement (.flrPf u) := fun _ _ h => nomatch h
theorem flrVf (u : Cu) (f : Nat) : Statement (.flrVf u f) := fun _ _ h => nomatch h
theorem linkRetrain (u : Cu) (rate : Nat) (width : Nat) (reversed : Bool) (l0p : Bool) (flit : Bool) : Statement (.linkRetrain u rate width reversed l0p flit) := fun _ _ h => nomatch h
theorem d3hotEntry (u : Cu) (f : Nat) : Statement (.d3hotEntry u f) := fun _ _ h => nomatch h
theorem d3hotExit (u : Cu) (f : Nat) : Statement (.d3hotExit u f) := fun _ _ h => nomatch h
theorem linkError (u : Cu) (uncorrectable : Bool) : Statement (.linkError u uncorrectable) := fun _ _ h => nomatch h
theorem hlCountClear (u : Cu) (v : Word) : Statement (.hlCountClear u v) := fun _ _ h => nomatch h
theorem registerWrite (a : Access) (v : Nat) : Statement (.registerWrite a v) := fun _ _ h => nomatch h
theorem badAccessRead (a : Access) : Statement (.badAccessRead a) := fun _ _ h => nomatch h
theorem latchingRead (a : Access) : Statement (.latchingRead a) := fun _ _ h => nomatch h
theorem clearOnRead (a : Access) : Statement (.clearOnRead a) := fun _ _ h => nomatch h
theorem hostReadFail (u : Cu) (w : ReadFor) : Statement (.hostReadFail u w) := fun _ _ h => nomatch h
theorem queuePoll (u : Cu) (p : List (Nat × PollData)) (rtt : Nat) : Statement (.queuePoll u p rtt) := fun _ _ h => nomatch h
theorem descriptorFetch (u : Cu) (f : Nat) (sqn : Nat) (ds : List (List Byte)) (rtt : Nat) : Statement (.descriptorFetch u f sqn ds rtt) := fun _ _ h => nomatch h
theorem arbitrationGrant (u : Cu) : Statement (.arbitrationGrant u) := fun _ _ h => nomatch h
theorem bucketRefill : Statement (.bucketRefill) := fun _ _ h => nomatch h
theorem completionPost (u : Cu) (f : Nat) (c : Nat) (head : Nat) : Statement (.completionPost u f c head) := fun _ _ h => nomatch h
theorem ringInterruptTimer (u : Cu) (f : Nat) (q : Nat) : Statement (.ringInterruptTimer u f q) := fun _ _ h => nomatch h
theorem functionEnable (u : Cu) (f : Nat) (v : Word) : Statement (.functionEnable u f v) := fun _ _ h => nomatch h
theorem functionDisable (u : Cu) (f : Nat) (v : Word) : Statement (.functionDisable u f v) := fun _ _ h => nomatch h
theorem sqEnable (u : Cu) (f : Nat) (sqn : Nat) (v : Word) (slot : Nat) : Statement (.sqEnable u f sqn v slot) := fun _ _ h => nomatch h
theorem sqDisable (u : Cu) (f : Nat) (sqn : Nat) (v : Word) : Statement (.sqDisable u f sqn v) := fun _ _ h => nomatch h
theorem cqEnable (u : Cu) (f : Nat) (q : Nat) (v : Word) : Statement (.cqEnable u f q v) := fun _ _ h => nomatch h
theorem cqDisable (u : Cu) (f : Nat) (q : Nat) (v : Word) : Statement (.cqDisable u f q v) := fun _ _ h => nomatch h
theorem eqEnable (u : Cu) (f : Nat) (v : Word) : Statement (.eqEnable u f v) := fun _ _ h => nomatch h
theorem trEnable (u : Cu) (f : Nat) (q : Nat) (v : Word) : Statement (.trEnable u f q v) := fun _ _ h => nomatch h
theorem qCountClear (u : Cu) (f : Nat) (v : Word) : Statement (.qCountClear u f v) := fun _ _ h => nomatch h
theorem nop (c : Cmd) : Statement (.nop c) := ofCmd c
theorem mapQuery (c : Cmd) : Statement (.mapQuery c) := ofCmd c
theorem move (c : Cmd) : Statement (.move c) := ofCmd c
theorem telemCtrl (c : Cmd) (d : HostData) : Statement (.telemCtrl c d) := ofCmd c
theorem elementDirectCodes (c : Cmd) : Statement (.elementDirectCodes c) := ofCmd c
theorem elementDirectRead (c : Cmd) : Statement (.elementDirectRead c) := ofCmd c
theorem spareMapSubstitute (c : Cmd) : Statement (.spareMapSubstitute c) := ofCmd c
theorem spareMapRelease (c : Cmd) : Statement (.spareMapRelease c) := ofCmd c
theorem faultCtrlRead (c : Cmd) : Statement (.faultCtrlRead c) := ofCmd c
theorem faultCtrlClear (c : Cmd) : Statement (.faultCtrlClear c) := ofCmd c
theorem faultCtrlConfig (c : Cmd) : Statement (.faultCtrlConfig c) := ofCmd c
theorem stateSave (c : Cmd) : Statement (.stateSave c) := ofCmd c
theorem attest (c : Cmd) : Statement (.attest c) := ofCmd c
theorem fwStageStage (c : Cmd) (d : HostData) : Statement (.fwStageStage c d) := ofCmd c
theorem fwStageActivate (c : Cmd) : Statement (.fwStageActivate c) := ofCmd c
theorem fwStageDiscard (c : Cmd) : Statement (.fwStageDiscard c) := ofCmd c
theorem flashWriteDone (u : Cu) (code : Nat) : Statement (.flashWriteDone u code) := fun _ _ h => nomatch h
theorem recCtrlStatus (c : Cmd) : Statement (.recCtrlStatus c) := ofCmd c
theorem recFreeze (via : Via) : Statement (.recFreeze via) := ofVia via
theorem recRelease (via : Via) : Statement (.recRelease via) := ofVia via
theorem recSizeSet (c : Cmd) : Statement (.recSizeSet c) := ofCmd c
theorem recModeSet (c : Cmd) : Statement (.recModeSet c) := ofCmd c
theorem recTriggersSet (c : Cmd) : Statement (.recTriggersSet c) := ofCmd c
theorem recPostExpiry : Statement (.recPostExpiry) := fun _ _ h => nomatch h
theorem recPullStart (u : Cu) (v : Word) : Statement (.recPullStart u v) := fun _ _ h => nomatch h
theorem recPullEnd : Statement (.recPullEnd) := fun _ _ h => nomatch h
theorem replayStart (u : Cu) (v : Word) : Statement (.replayStart u v) := fun _ _ h => nomatch h
theorem replayStop (u : Cu) (v : Word) : Statement (.replayStop u v) := fun _ _ h => nomatch h
theorem replayEnd : Statement (.replayEnd) := fun _ _ h => nomatch h
theorem tknClaim (u : Cu) (v : Word) : Statement (.tknClaim u v) := fun _ _ h => nomatch h
theorem tknRenew (u : Cu) (v : Word) : Statement (.tknRenew u v) := fun _ _ h => nomatch h
theorem tknRelease (u : Cu) (v : Word) : Statement (.tknRelease u v) := fun _ _ h => nomatch h
theorem tknResume (u : Cu) (v : Word) : Statement (.tknResume u v) := fun _ _ h => nomatch h
theorem tknRehStart (u : Cu) (v : Word) : Statement (.tknRehStart u v) := fun _ _ h => nomatch h
theorem tknRehCall (u : Cu) (v : Word) : Statement (.tknRehCall u v) := fun _ _ h => nomatch h
theorem tknRehDismiss (u : Cu) (v : Word) : Statement (.tknRehDismiss u v) := fun _ _ h => nomatch h
theorem tknRehReport (u : Cu) (v : Word) : Statement (.tknRehReport u v) := fun _ _ h => nomatch h
theorem leaseExpiry (cause : Nat) : Statement (.leaseExpiry cause) := fun _ _ h => nomatch h
theorem firmwareVerified (u : Cu) (bank : Option Nat) (fail : Nat) (hdr : List Byte) : Statement (.firmwareVerified u bank fail hdr) := fun _ _ h => nomatch h
theorem graceEnd : Statement (.graceEnd) := fun _ _ h => nomatch h
theorem claimDeadline : Statement (.claimDeadline) := fun _ _ h => nomatch h
theorem unitBootFail (u : Cu) (cause : Nat) : Statement (.unitBootFail u cause) := fun _ _ h => nomatch h
theorem reservationExpiry : Statement (.reservationExpiry) := fun _ _ h => nomatch h
theorem imageSavePeriodic : Statement (.imageSavePeriodic) := fun _ _ h => nomatch h
theorem imageSaveEvent : Statement (.imageSaveEvent) := fun _ _ h => nomatch h
theorem rehearsalAutoDue : Statement (.rehearsalAutoDue) := fun _ _ h => nomatch h
theorem rehearsalTimeout : Statement (.rehearsalTimeout) := fun _ _ h => nomatch h
theorem revertRehearsalDue : Statement (.revertRehearsalDue) := fun _ _ h => nomatch h
theorem wtrExpiry : Statement (.wtrExpiry) := fun _ _ h => nomatch h
theorem successorReadyTimeout : Statement (.successorReadyTimeout) := fun _ _ h => nomatch h
theorem porRise (prefB : Bool) (testmode : Bool) : Statement (.porRise prefB testmode) := fun _ _ h => nomatch h
theorem coldReset : Statement (.coldReset) := fun _ _ h => nomatch h
theorem pllLock : Statement (.pllLock) := fun _ _ h => nomatch h
theorem dramTrained (vcoreOk : Bool) : Statement (.dramTrained vcoreOk) := fun _ _ h => nomatch h
theorem dramInitDone : Statement (.dramInitDone) := fun _ _ h => nomatch h
theorem peerCallTimeout : Statement (.peerCallTimeout) := fun _ _ h => nomatch h
theorem resetNAssert (lowNs : Nat) : Statement (.resetNAssert lowNs) := fun _ _ h => nomatch h
theorem pwrRstDevice (u : Cu) (v : Word) : Statement (.pwrRstDevice u v) := fun _ _ h => nomatch h
theorem pwrRstUnit (u : Cu) (v : Word) : Statement (.pwrRstUnit u v) := fun _ _ h => nomatch h
theorem pwrCuSelfReset (u : Cu) (v : Word) : Statement (.pwrCuSelfReset u v) := fun _ _ h => nomatch h
theorem warmResetRelease : Statement (.warmResetRelease) := fun _ _ h => nomatch h
theorem drivePowerDown : Statement (.drivePowerDown) := fun _ _ h => nomatch h
theorem vanaLow : Statement (.vanaLow) := fun _ _ h => nomatch h
theorem vcoreLow (u : Cu) : Statement (.vcoreLow u) := fun _ _ h => nomatch h
theorem vphyLow (u : Cu) (v12 : Bool) : Statement (.vphyLow u v12) := fun _ _ h => nomatch h
theorem driveRailLow (vhtr : Bool) : Statement (.driveRailLow vhtr) := fun _ _ h => nomatch h
theorem vioLow : Statement (.vioLow) := fun _ _ h => nomatch h
theorem supplyMonitorRelease (rail : Nat) (u : Cu) : Statement (.supplyMonitorRelease rail u) := fun _ _ h => nomatch h
theorem dramScrub (stack : Nat) (e : ScrubRes) : Statement (.dramScrub stack e) := fun _ _ h => nomatch h
theorem rowCopyDone : Statement (.rowCopyDone) := fun _ _ h => nomatch h
theorem bankCopyDone : Statement (.bankCopyDone) := fun _ _ h => nomatch h
theorem memSpareBank (u : Cu) (v : Word) : Statement (.memSpareBank u v) := fun _ _ h => nomatch h
theorem fuseCommitDone (ok : Bool) : Statement (.fuseCommitDone ok) := fun _ _ h => nomatch h
theorem memProbe (u : Cu) (v : Word) : Statement (.memProbe u v) := fun _ _ h => nomatch h
theorem memCountClear (u : Cu) (v : Word) : Statement (.memCountClear u v) := fun _ _ h => nomatch h
theorem spPstateWrite (u : Cu) (b : Nat) (v : Word) : Statement (.spPstateWrite u b v) := fun _ _ h => nomatch h
theorem spPstateDone (u : Cu) (b : Nat) : Statement (.spPstateDone u b) := fun _ _ h => nomatch h
theorem spOwnerWrite (u : Cu) (b : Nat) (v : Word) : Statement (.spOwnerWrite u b v) := fun _ _ h => nomatch h
theorem spRetireCmd (u : Cu) (v : Word) : Statement (.spRetireCmd u v) := fun _ _ h => nomatch h
theorem spRetireDone (u : Cu) (b : Nat) (zeros : List Nat) : Statement (.spRetireDone u b zeros) := fun _ _ h => nomatch h
theorem dmStart (u : Cu) (n : Nat) (v : Word) : Statement (.dmStart u n v) := fun _ _ h => nomatch h
theorem dmPause (u : Cu) (n : Nat) (v : Word) : Statement (.dmPause u n v) := fun _ _ h => nomatch h
theorem dmPaused (u : Cu) (n : Nat) (data : List Byte) : Statement (.dmPaused u n data) := fun _ _ h => nomatch h
theorem dmUnpause (u : Cu) (n : Nat) (v : Word) : Statement (.dmUnpause u n v) := fun _ _ h => nomatch h
theorem dmResume (u : Cu) (n : Nat) (v : Word) : Statement (.dmResume u n v) := fun _ _ h => nomatch h
theorem dmEnd (u : Cu) (n : Nat) (v : Word) : Statement (.dmEnd u n v) := fun _ _ h => nomatch h
theorem dmBurstFail (u : Cu) (n : Nat) (data : List Byte) (addr : Nat) (cause : Nat) : Statement (.dmBurstFail u n data addr cause) := fun _ _ h => nomatch h
theorem dmRetryTimer (u : Cu) (n : Nat) : Statement (.dmRetryTimer u n) := fun _ _ h => nomatch h
theorem dmPoisonHalt (u : Cu) (n : Nat) (data : List Byte) (addr : Nat) : Statement (.dmPoisonHalt u n data addr) := fun _ _ h => nomatch h
theorem dmTransferDone (u : Cu) (n : Nat) (data : List Byte) : Statement (.dmTransferDone u n data) := fun _ _ h => nomatch h
theorem dmHwRequest (u : Cu) (n : Nat) : Statement (.dmHwRequest u n) := fun _ _ h => nomatch h
theorem dmHwWithdraw (u : Cu) (n : Nat) (beats : Option Nat) : Statement (.dmHwWithdraw u n beats) := fun _ _ h => nomatch h
theorem dmCountClear (u : Cu) (v : Word) : Statement (.dmCountClear u v) := fun _ _ h => nomatch h
theorem faultReport (reports : List FaultRep) : Statement (.faultReport reports) := fun _ _ h => nomatch h
theorem fltRelease (u : Cu) (v : Word) : Statement (.fltRelease u v) := fun _ _ h => nomatch h
theorem fltClrAll (u : Cu) (v : Word) : Statement (.fltClrAll u v) := fun _ _ h => nomatch h
theorem fltClrFirst (u : Cu) (v : Word) : Statement (.fltClrFirst u v) := fun _ _ h => nomatch h
theorem fltSrcClr (u : Cu) (src : Nat) (v : Word) : Statement (.fltSrcClr u src v) := fun _ _ h => nomatch h
theorem logCommit (ok : Bool) : Statement (.logCommit ok) := fun _ _ h => nomatch h
theorem hkSlot (value : Option Int) : Statement (.hkSlot value) := fun _ _ h => nomatch h
theorem hkRoundEnd (legs : List (Nat × Nat × Nat)) : Statement (.hkRoundEnd legs) := fun _ _ h => nomatch h
theorem hkInjStart (u : Cu) (v : Word) : Statement (.hkInjStart u v) := fun _ _ h => nomatch h
theorem thmClrSuspect (u : Cu) (v : Word) : Statement (.thmClrSuspect u v) := fun _ _ h => nomatch h
theorem thmClrPic (u : Cu) (v : Word) : Statement (.thmClrPic u v) := fun _ _ h => nomatch h
theorem secPassword (u : Cu) (v : Word) : Statement (.secPassword u v) := fun _ _ h => nomatch h
theorem secChallenge (u : Cu) (v : Word) : Statement (.secChallenge u v) := fun _ _ h => nomatch h
theorem secRespond (u : Cu) (v : Word) : Statement (.secRespond u v) := fun _ _ h => nomatch h
theorem secClose (u : Cu) (v : Word) : Statement (.secClose u v) := fun _ _ h => nomatch h
theorem secEnrol (u : Cu) (v : Word) : Statement (.secEnrol u v) := fun _ _ h => nomatch h
theorem secRaiseFloor (u : Cu) (v : Word) : Statement (.secRaiseFloor u v) := fun _ _ h => nomatch h
theorem fuseProgramDone (u : Cu) (ok : Bool) : Statement (.fuseProgramDone u ok) := fun _ _ h => nomatch h
theorem nonceExpiry (u : Cu) : Statement (.nonceExpiry u) := fun _ _ h => nomatch h
theorem pmcClrAll (u : Cu) (v : Word) : Statement (.pmcClrAll u v) := fun _ _ h => nomatch h
theorem pmcFreeze (u : Cu) (v : Word) : Statement (.pmcFreeze u v) := fun _ _ h => nomatch h
theorem pmcUnfreeze (u : Cu) (v : Word) : Statement (.pmcUnfreeze u v) := fun _ _ h => nomatch h
theorem pmcCntWrite (u : Cu) (n : Nat) (v : Word) : Statement (.pmcCntWrite u n v) := fun _ _ h => nomatch h
theorem pmcEvtWrite (u : Cu) (n : Nat) (v : Word) : Statement (.pmcEvtWrite u n v) := fun _ _ h => nomatch h
theorem pmcCounterWrap (u : Cu) (n : Nat) : Statement (.pmcCounterWrap u n) := fun _ _ h => nomatch h
theorem pmcWindowEnd (u : Cu) (bytes : List Nat) : Statement (.pmcWindowEnd u bytes) := fun _ _ h => nomatch h
theorem pllUnlock : Statement (.pllUnlock) := fun _ _ h => nomatch h
theorem pllRelock : Statement (.pllRelock) := fun _ _ h => nomatch h
theorem jtagInstruction (ir : Nat) : Statement (.jtagInstruction ir) := fun _ _ h => nomatch h
theorem watchdog (u : Cu) : Statement (.watchdog u) := fun _ _ h => nomatch h
theorem linkUp (u : Cu) (rate : Nat) (width : Nat) (reversed : Bool) (l0p : Bool) (flit : Bool) : Statement (.linkUp u rate width reversed l0p flit) := fun _ _ h => nomatch h
theorem toutPulseEnd (idx : Nat) : Statement (.toutPulseEnd idx) := fun _ _ h => nomatch h

end WF
end Sys2Proof.Laws
end

