-- ==== Sys2Proof/Laws/Step.lean ====
section
/-! SUPPORT. What a step is, by the queue. -/
namespace Sys2Proof.Machine

theorem step_front {c : Instr} {rest : List Instr} {s : State} (h : s.pending = c :: rest) : step s = exec c { s with pending := rest } := by
  unfold step; rw [h]

theorem step_empty {s : State} (h : s.pending = []) : step s = .next s.idle := by unfold step; rw [h]

end Sys2Proof.Machine
end

