-- ==== Sys2Proof/Laws/Write.lean ====
section
/-! SUPPORT. A holder's write of a base register, and how registers, fields and bits read through the records it leaves. -/
namespace Sys2Proof.Machine.State

/-- The holder's write is recorded and carried out (R342, R571). -/
theorem baseWrite_holder {u : Cu} {s : State} (h : s.holds u = true) (k : Nat) (v : Word) (f : State → State) :
    s.baseWrite u k v f = f (s.recWrite u k v) := by unfold baseWrite; rw [h]; rfl

/-- Another unit's write is dropped (R342, R423). -/
theorem baseWrite_other {u : Cu} {s : State} (h : s.holds u = false) (k : Nat) (v : Word) (f : State → State) :
    s.baseWrite u k v f = s.dropWrite u := by unfold baseWrite; rw [h]; rfl

section
variable {k : Nat} (s : State)

theorem recWrite_rbit (h : k ∉ recKeys) (u : Cu) (j : Nat) (v : Word) (i : Nat) : (s.recWrite u j v).rbit k i = s.rbit k i := by
  unfold rbit; rw [recWrite_reg h]
theorem recWrite_fld (h : k ∉ recKeys) (u : Cu) (j : Nat) (v : Word) (hi lo : Nat) : (s.recWrite u j v).fld k hi lo = s.fld k hi lo := by
  unfold fld; rw [recWrite_reg h]
theorem recWrite_rnat (h : k ∉ recKeys) (u : Cu) (j : Nat) (v : Word) : (s.recWrite u j v).rnat k = s.rnat k := by
  unfold rnat; rw [recWrite_reg h]
theorem recWrite_rnat64 {k' : Nat} (h : k ∉ recKeys) (h' : k' ∉ recKeys) (u : Cu) (j : Nat) (v : Word) :
    (s.recWrite u j v).rnat64 k k' = s.rnat64 k k' := by unfold rnat64; rw [recWrite_rnat _ h, recWrite_rnat _ h']
theorem recEvent_rbit (h : k ∉ recKeys) (sub : Nat) (l : List Byte) (i : Nat) : (s.recEvent sub l).rbit k i = s.rbit k i := by
  unfold rbit; rw [recEvent_reg h]
theorem recAppend_rbit (h : k ∉ recKeys) (typ : Nat) (l : List Byte) (i : Nat) : (s.recAppend typ l).rbit k i = s.rbit k i := by
  unfold rbit; rw [recAppend_reg h]

@[simp] theorem recWrite_clk (u : Cu) (j : Nat) (v : Word) : (s.recWrite u j v).clk = s.clk := by simp [clk]
@[simp] theorem recWrite_now (u : Cu) (j : Nat) (v : Word) : (s.recWrite u j v).now = s.now := by simp [now]
theorem recWrite_fabOn (u : Cu) (j : Nat) (v : Word) : (s.recWrite u j v).fabOn = s.fabOn := recWrite_rbit s (by decide) u j v 0
theorem recWrite_fabValid (u : Cu) (j : Nat) (v : Word) : (s.recWrite u j v).fabValid = s.fabValid := recWrite_rbit s (by decide) u j v 0
theorem recWrite_holder (u : Cu) (j : Nat) (v : Word) : (s.recWrite u j v).holder = s.holder := by
  unfold holder tknState tknUnit; rw [recWrite_fld s (by decide), recWrite_rbit s (by decide)]

theorem fld_setReg_ne {j : Nat} (h : j ≠ k) (v : Word) (hi lo : Nat) : (s.setReg k v).fld j hi lo = s.fld j hi lo := by
  unfold fld; rw [reg_setReg_ne _ h]
theorem fld_orReg_ne {j : Nat} (h : j ≠ k) (m hi lo : Nat) : (s.orReg k m).fld j hi lo = s.fld j hi lo := s.fld_setReg_ne h _ hi lo
theorem fld_clrReg_ne {j : Nat} (h : j ≠ k) (m hi lo : Nat) : (s.clrReg k m).fld j hi lo = s.fld j hi lo := s.fld_setReg_ne h _ hi lo
theorem rnat_setReg_ne {j : Nat} (h : j ≠ k) (v : Word) : (s.setReg k v).rnat j = s.rnat j := by unfold rnat; rw [reg_setReg_ne _ h]
theorem rnat64_setReg_ne {j j' : Nat} (h : j ≠ k) (h' : j' ≠ k) (v : Word) : (s.setReg k v).rnat64 j j' = s.rnat64 j j' := by
  unfold rnat64; rw [rnat_setReg_ne s h, rnat_setReg_ne s h']
end

end Sys2Proof.Machine.State
end

