-- ==== Sys2Proof/Tests/Slice0.lean ====
section
/-! SUPPORT. Checks of the model on small states: ill-formed commands that WellFormed refuses, a witness for the hypotheses of each obligation, and
a few values worked out by hand from the rules of spec/. -/
namespace Sys2Proof.Tests
open Sys2Proof Sys2Proof.Machine Sys2Proof.Machine.State

set_option Elab.async false

/-! ### Small states and commands -/

/-- A device that has started: boot done, DRAM trained, CU-A running with its link up and holding the token. -/
def up : State :=
  { (State.reset.setReg Reg.PWR_BOOT 0xF).setReg Reg.TKN_STATE 0x20000001 with
    time := { State.reset.time with on := true }
    pwr := { State.reset.pwr with por := false, dramUp := true }
    ua := { UnitSt.reset with core := .running, linkUp := true, perst := false } }

/-- `up` with register values; the first of two for one register stands. -/
def upR (l : List (Nat × Word)) : State := l.foldr (fun e s => s.setReg e.1 e.2) up

/-- `up` with a map-mode fabric of order 4 that is driven: 56 cells and 16 ports. -/
def onR (l : List (Nat × Word)) : State :=
  let s := upR (l ++ [(Reg.FAB_CTRL, 1), (Reg.FAB_STATUS, 1), (Reg.FAB_CELLS, 56), (Reg.FAB_GEOM, 0x00100004)])
  { s with fab := { s.fab with powered := true } }

/-- The bytes of a descriptor of unit A, function 0, SQ 0: opcode and (byte, value) pairs. -/
def cmd (op : Nat) (l : List (Nat × Nat)) : Cmd :=
  { unit := .a, func := 0, sq := 0, desc := (List.range 64).map (fun i => BitVec.ofNat 8 (Tab.get 0 i ((0, op) :: l))) }

/-- A state in which the descriptor has been accepted and has not started. -/
def go (c : Cmd) (s : State) : State :=
  s.setUnit .a { s.unit .a with flights := [{ func := 0, sq := 0, tag := 0, desc := c.desc, started := false }] }

/-- `Ready` as a test. -/
def readyB (c : Cmd) (op : Nat) (s : State) : Bool :=
  s.waiting c && decide ((s.startFlight c).descCheck c = none) && decide (c.op = op)

theorem ready_of {c : Cmd} {op : Nat} {s : State} (h : readyB c op s = true) : Ready c op s := by
  simp only [readyB, Bool.and_eq_true, decide_eq_true_eq] at h
  exact ⟨h.1.1, h.1.2, h.2⟩

/-! ### Witnesses: the step, the fabric and the site -/

theorem wit_StepRunsFront : (∃ s : State, s.pending = [.pllLock]) ∧ State.reset.pending = [] := ⟨⟨{ up with pending := [.pllLock] }, rfl⟩, rfl⟩

/-- The canonical form and a step that answers. -/
theorem wit_StepKeepsSound : up.Sound ∧ ∃ t, step { up with pending := [.perstRelease .a] } = .next t :=
  ⟨⟨⟨by decide +kernel, by decide +kernel⟩, by decide +kernel⟩, ⟨_, rfl⟩⟩

theorem wit_FabricLoads :
    (let s := upR []
     let w := (s.recWrite .a Reg.FAB_CTRL (0 ||| 2)).setReg Reg.FAB_CTRL (putBit (s.reg Reg.FAB_CTRL) 2 (bit 0 2))
     s.holds .a = true ∧ s.fabOn = false ∧ w.fabOn = false ∧ w.rbit Reg.FAB_STATUS 1 = false) ∧
    (let l : FabLoad := { stored := false, addr := 0, len := 64, waitDown := true, startClk := 0 }
     let s : State := { up with fab := { up.fab with load := some l } }
     s.fab.load = some l ∧ l.waitDown = true ∧ s.fab.powered = false) ∧
    (let l : FabLoad := { stored := false, addr := 0, len := 64, waitDown := false, startClk := 0 }
     let s : State := { up with fab := { up.fab with load := some l } }
     s.fab.load = some l ∧ l.waitDown = false ∧ l.stored = false) := by decide +kernel

/-- The bytes of `n` bytes each that make up a list of numbers. -/
def nums (n : Nat) (l : List Nat) : List Byte := l.flatMap (bytesOf n)

/-- One ELEMENTS entry of a drive element (R30). -/
def driveEl (kind chan role : Nat) : List Byte :=
  nums 4 [kind * 2 ^ 29 + chan] ++ nums 1 [role, 1] ++ nums 2 [0, 1000, 0] ++ nums 1 [0, 0xFF, 0, 0]

/-- One ELEMENTS entry of a monitor element. -/
def monEl (kind index chan role : Nat) : List Byte :=
  nums 4 [kind * 2 ^ 29 + index * 2 ^ 16 + chan] ++ nums 1 [role, 1] ++ nums 2 [0, 0, 0] ++ nums 1 [0xFF, 0xFF, 0, 0]

/-- A record of one cell between two ports in graph mode, laid out by R28–R38 without its CRC: the cell takes both input ports and feeds both output ports. -/
def fdrNoCrc : List Byte × List Byte :=
  (nums 4 [0x31524446] ++ nums 2 [0x0100, 4] ++ nums 4 [304],
   nums 1 [0, 0] ++ nums 2 [2, 1, 1, 0, 0] ++ nums 4 [0] ++ nums 8 [1, 0, 0, 0] ++
   nums 2 [1, 0x0100] ++ nums 4 [128, 128, 8] ++ nums 2 [2, 0x0100] ++ nums 4 [256, 8, 1] ++
   nums 2 [4, 0x0100] ++ nums 4 [264, 24, 3] ++ nums 2 [5, 0x0100] ++ nums 4 [288, 16, 2] ++
   driveEl 0 0 2 ++ driveEl 1 1 2 ++ driveEl 2 2 1 ++ monEl 3 0 0 8 ++
   monEl 4 0 1 9 ++ monEl 4 1 2 9 ++ monEl 5 0 3 9 ++ monEl 5 1 4 9 ++
   nums 2 [0x8000, 0x8001, 0, 1] ++ nums 4 [12, 16, 20] ++ nums 2 [1, 0, 1, 0, 1, 0] ++
   nums 2 [0, 1, 0, 0, 2, 3, 0, 0])

/-- That record with its CRC (R28). -/
def fdrBytes : List Byte :=
  fdrNoCrc.1 ++ bytesOf 4 (Crypto.crc32c (fdrNoCrc.1 ++ [0, 0, 0, 0] ++ fdrNoCrc.2)).toNat ++ fdrNoCrc.2

/-- A result that is a value satisfying a test. -/
def okB {ε α : Type} (p : α → Bool) : Except ε α → Bool
  | .ok f => p f
  | .error _ => false

theorem ok_of {ε α : Type} {p : α → Bool} {x : Except ε α} (h : okB p x = true) : ∃ f, x = .ok f := by
  cases x with
  | ok f => exact ⟨f, rfl⟩
  | error e => cases h

set_option maxRecDepth 100000 in
theorem test_fdr_accepted : okB (fun f => f.graph && decide (f.cells = 1)) (FdrRead.check .wl5128 (fit 304 fdrBytes) 304) = true := by
  decide +kernel

/-- The accepted load: a load of this record. -/
theorem wit_FabricLoadAccepted :
    let l : FabLoad := { stored := false, addr := 0, len := 304, waitDown := false, startClk := 0 }
    let s : State := { up with fab := { up.fab with load := some l } }
    s.fab.load = some l ∧ l.waitDown = false ∧ l.stored = false ∧ ∃ f, FdrRead.check s.part (fit l.len fdrBytes) l.len = .ok f :=
  ⟨rfl, rfl, rfl, ok_of test_fdr_accepted⟩

theorem wit_FabEnable :
    (let s := upR [(Reg.FAB_STATUS, 1)]
     let w := (s.recWrite .a Reg.FAB_CTRL (1 ||| 1)).setReg Reg.FAB_CTRL (putBit (s.reg Reg.FAB_CTRL) 2 (bit 1 2))
     s.holds .a = true ∧ bit (1 : Word) 1 = false ∧ s.fabOn = false ∧ w.fld (Reg.THM_DOMAIN 0) 31 30 ≠ 3 ∧ w.fabValid = true ∧
       w.rbit Reg.FAB_STATUS 1 = false ∧ w.safeState ≠ 3 ∧ w.gap = false) ∧
    (let s := upR []
     let w := (s.recWrite .a Reg.FAB_CTRL (1 ||| 1)).setReg Reg.FAB_CTRL (putBit (s.reg Reg.FAB_CTRL) 2 (bit 1 2))
     s.holds .a = true ∧ s.fabOn = false ∧ w.fld (Reg.THM_DOMAIN 0) 31 30 ≠ 3 ∧ w.fabValid = false) ∧
    (let s := onR []
     s.holds .a = true ∧ bit (0 : Word) 1 = false ∧ s.fabOn = true ∧ bit (0 : Word) 2 = s.rbit Reg.FAB_CTRL 2) := by decide +kernel

theorem wit_HealthMarks :
    let s := onR []
    let bad (v : Word) := (List.range 8).any (fun j => decide (8 * 0 + j < s.nCells) && decide (5 ≤ nibble v j % 8))
    let w (v : Word) := s.recWrite .a (Reg.FAB_HEALTH 0) v
    s.holds .a = true ∧ bad 5 = true ∧ bad 0 = false ∧ (w 0).reg (Reg.FAB_HEALTH 0) = (w 0).healthWord 0 0 ∧ bad 1 = false ∧
      (w 1).reg (Reg.FAB_HEALTH 0) ≠ (w 1).healthWord 0 1 := by decide +kernel

theorem wit_SiteBias : (up.holds .a = true) ∧
    (let s := upR [(Reg.SITE_CTRL, 1)]
     s.rbit Reg.SITE_CTRL 0 = true ∧ 63 < s.part.tiles ∧ s.site.released.contains 63 = false) := by decide +kernel

def siteChk : SiteCheck := { mode1 := false, drive := true, mon := false, sense := false, dest := 64, startClk := 0 }

theorem wit_SiteChecks :
    (let s := upR [(Reg.SITE_RES_LO, 64)]
     let w := (s.recWrite .a Reg.SITE_CHECK_CTRL (4 ||| 1)).maskWrite Reg.SITE_CHECK_CTRL (0 ||| 0x3C) (4 ||| 1)
     s.holds .a = true ∧ bit (4 : Word) 1 = false ∧ s.fabOn = false ∧ w.fabOn = false ∧ s.site.check = none ∧
       bit (w.reg Reg.SITE_CHECK_CTRL) 2 = true ∧ w.rnat64 Reg.SITE_RES_LO Reg.SITE_RES_HI ≠ 0) ∧
    (let s := upR [(Reg.SITE_RES_LO, 64), (Reg.FAB_STATUS, 1)]
     let w := (s.recWrite .a Reg.SITE_CHECK_CTRL (0 ||| 1)).maskWrite Reg.SITE_CHECK_CTRL (0 ||| 0x3C) (0 ||| 1)
     s.fabOn = false ∧ w.fabOn = false ∧ s.site.check = none ∧ w.fabValid = true ∧ w.rnat64 Reg.SITE_RES_LO Reg.SITE_RES_HI ≠ 0) ∧
    (let s : State := { up with site := { up.site with check := some siteChk } }
     s.holds .a = true ∧ bit (2 : Word) 0 = false ∧ s.site.check = some siteChk) := by decide +kernel

/-- The four cases of R79. -/
theorem wit_SiteCheckRefused :
    (up.holds .a = true ∧ bit (4 : Word) 1 = false) ∧ (onR []).fabOn = true ∧
    ({ up with site := { up.site with check := some siteChk } } : State).site.check ≠ none ∧
    (let w := (up.recWrite .a Reg.SITE_CHECK_CTRL (0 ||| 1)).rwlWrite Reg.SITE_CHECK_CTRL 0 0x3C (up.fabOn || up.site.check.isSome) Reg.SITE_STATUS 0x40 (0 ||| 1)
     w.rbit Reg.SITE_CHECK_CTRL 2 = false ∧ up.fabValid = false) ∧ up.rnat64 Reg.SITE_RES_LO Reg.SITE_RES_HI = 0 := by decide +kernel

theorem wit_EpochWrapEmptiesCache :
    (upR [(Reg.FAB_EPOCH, 0xFFFFFFFF)]).rnat Reg.FAB_EPOCH = 0xFFFFFFFF ∧ (upR [(Reg.FAB_EPOCH, 0xFFFFFFFE)]).rnat Reg.FAB_EPOCH < 0xFFFFFFFF := by
  decide +kernel

theorem wit_UpdateTick : up.time.on = true ∧ up.inReplay = false := by decide +kernel

/-! ### Witnesses: drive, spares, monitors, result queues -/

/-- An auxiliary channel that serves an element: the host may queue to it. -/
def auxCh : Chan := { kind := 6, role := 4, codeMax := 1000 }

/-- `s` with drive channel 0 so. -/
def chan0 (c : Chan) (s : State) : State := { s with drv := { s.drv with chans := [(0, c)] } }

theorem wit_DriveRegisterWrites :
    up.holds .a = true ∧ 15359 < 240 * up.part.tiles ∧
    (let s := (chan0 auxCh (onR [])).recWrite .a (Reg.DRV_QUEUE (0 / 240) (0 % 240)) (5 &&& 0x7FFFFFFF)
     s.hostMayQueue 0 = true ∧ (s.chan 0).queue.length < 16) ∧
    (let s := (chan0 { auxCh with queue := List.replicate 16 5 } (onR [])).recWrite .a (Reg.DRV_QUEUE (0 / 240) (0 % 240)) (5 &&& 0x7FFFFFFF)
     s.hostMayQueue 0 = true ∧ 16 ≤ (s.chan 0).queue.length) ∧
    (let s := (onR []).recWrite .a (Reg.DRV_QUEUE (0 / 240) (0 % 240)) (5 &&& 0x7FFFFFFF)
     s.hostMayQueue 0 = false) ∧
    (let w := up.recWrite .a (Reg.DRV_SLEW (0 / 240) (0 % 240)) 5
     ¬(0 % 240 < 228 ∧ (w.chan 0).partner.isSome)) ∧ 63 < up.part.tiles ∧
    (let p : Pulse := { startClk := 10, width := 8, amp := 5, sweep := false }
     let s : State := { chan0 { auxCh with pulse := some p } up with time := { up.time with clk := 12 } }
     (s.chan 0).pulse = some p ∧ 4 * p.startClk + p.width ≤ 4 * s.clk) := by decide +kernel

theorem wit_SpareRequests :
    up.holds .a = true ∧ 63 < up.part.tiles ∧
    (let k : SpKey := { mon := false, tile := 0, j := 11 }
     (let w := (chan0 auxCh (onR [])).recWrite .a (spReg k) (0 ||| 0x80000000)
      w.spEn k = false ∧ w.spForce k = false ∧ w.spUsable k (field (0 : Word) 7 0) = true) ∧
     (let w := (onR []).recWrite .a (spReg k) (0 ||| 0x80000000)
      w.spEn k = false ∧ w.spForce k = false ∧ w.spUsable k (field (0 : Word) 7 0) = false) ∧
     (let w := (onR [(spReg k, 0x80080000)]).recWrite .a (spReg k) (0 &&& 0x7FFFFFFF)
      w.spForce k = true ∧ w.spPend k = false) ∧
     (let w := (onR [(spReg k, 0x80100000)]).recWrite .a (spReg k) (0 &&& 0x7FFFFFFF)
      w.spForce k = false ∧ w.spPend k = true)) ∧
    (let k : SpKey := { mon := true, tile := 63, j := 3 }
     let w := (onR [(spReg k, 0x80080000)]).recWrite .a (spReg k) (0 &&& 0x7FFFFFFF)
     w.spForce k = true ∧ w.spPend k = false) := by decide +kernel

theorem wit_SpareReadiness :
    (let k : SpKey := { mon := false, tile := 63, j := 11 }
     let t : SpareTrack := { release := false, startG := some 0, ready := false, cmd := none, late := false }
     let s : State := { onR [(spReg k, 0x80100000)] with drv := { up.drv with track := [(spId k, t)] }, time := { up.time with g := 64 } }
     Tab.find (spId k) s.drv.track = some t ∧ t.startG = some 0 ∧ s.fabOn = true ∧ s.spPend k = true ∧ s.spReady k = false ∧ 0 + 64 ≤ s.time.g ∧
       63 < s.part.tiles ∧ s.spForce k = false ∧ (up.spCmd k).1 = none) ∧
    (let k : SpKey := { mon := true, tile := 63, j := 3 }
     let s := onR [(spReg k, 0x80100000)]
     63 < s.part.tiles ∧ s.spPend k = true ∧ s.spReady k = false ∧ s.fabOn = true ∧ s.dacUser 63 ≠ 1) := by decide +kernel

theorem wit_MonitorLanes :
    (up.time.on = true ∧ up.inReplay = false ∧ up.time.g % 32 = 0 ∧ up.mon.fineAt ≠ some up.time.g) ∧
    (let s := upR [(Reg.MON_GSTAT, 2), (Reg.TIM_STATUS, 2)]
     s.rbit Reg.MON_GSTAT 1 = true ∧ s.time.on = true ∧
       s.time.ns * 2 ^ 32 + s.time.frac < incOf s.freq (if s.time.phLeft = 0 then 0 else s.time.ph) ∧ s.fld Reg.TIM_STATUS 2 0 = 2) ∧
    (up.holds .a = true ∧ 63 < up.part.tiles ∧ (up.recWrite .a (Reg.MON_INJ 63) (0 ||| 0x80000000)).dacUser 63 = 0 ∧
      (upR [(Reg.MON_INJ 63, 0x80000000)]).dacUser 63 ≠ 0) ∧
    (let w := up.recWrite .a Reg.MON_DIAG_CTRL (0 ||| 1)
     bit (0 : Word) 1 = false ∧ w.mon.diag = none ∧ w.fabOn = false) ∧
    (let w : State := ({ up with mon := { up.mon with diag := some 1 } } : State).recWrite .a Reg.MON_DIAG_CTRL (0 ||| 1)
     w.mon.diag.isSome = true) ∧
    (field ((0 : Word) ||| 1) 2 2 = 0 ∧ ((onR []).recWrite .a Reg.MON_DIAG_CTRL (0 ||| 1)).fabOn = true) ∧
    (let s : State := { up with mon := { up.mon with diag := some 1 } }
     s.holds .a = true ∧ bit (0 : Word) 0 = false ∧ (s.recWrite .a Reg.MON_DIAG_CTRL (0 ||| 2)).mon.diag = some 1 ∧ s.mon.diag = some 1) := by decide +kernel

theorem wit_MonitorConfiguration :
    up.holds .a = true ∧ 6143 < 96 * up.part.tiles ∧
    (let m := (up.recWrite .a (Reg.MON_CFG (0 / 96) (0 % 96)) 0).monCh 0
     let cur := m.req.getD (m.gain + 4 * b2n m.filt + 8 * b2n m.auto)
     m.role ≠ 8 ∧ bit (0 : Word) 11 = false ∧ field (0 : Word) 9 8 = cur % 4 ∧ bit (0xA00 : Word) 11 = true ∧ field (0xA00 : Word) 9 8 ≠ cur % 4) ∧
    (let s : State := { up with mon := { up.mon with chans := [(0, { role := 8 })] } }
     ((s.recWrite .a (Reg.MON_CFG (0 / 96) (0 % 96)) 0x800).monCh 0).role = 8 ∧ bit (0x800 : Word) 11 = true) ∧ 511 < up.part.ports := by
  decide +kernel

/-- EN asked for on result queue 15 by a holder's write of `v`. -/
def rqAsk (v : Word) (s : State) : State :=
  (s.recWrite .a (Reg.MON_RQ_CTRL 15) (v ||| 0x80000000)).maskWrite (Reg.MON_RQ_CTRL 15) (0 ||| 0x43FF0F07) (v ||| 0x80000000)

/-- Pads 0–287 are mapped: at the fast lane's rate they exceed the limit of R143, which 256 pads reach. -/
def rqWide : State := upR ((List.range 9).map (fun i => (Reg.MON_RQ_MAP 15 i, 0xFFFFFFFF)))

/-- With queue 15 alone, the rate of R143 is its own. -/
theorem rqFits_alone (s : State) (h : ((List.range 15).all (fun i => !s.rbit (Reg.MON_RQ_CTRL i) 31)) = true) :
    s.rqFits 15 = decide (s.rqRate 15 ≤ 409600000) := by
  have g : ∀ i, i < 15 → s.rbit (Reg.MON_RQ_CTRL i) 31 = false := fun i hi => by
    simpa using List.all_eq_true.mp h i (List.mem_range.mpr hi)
  have fold : ∀ n, n ≤ 15 → (List.range n).foldl
      (fun a i => if i = 15 ∨ s.rbit (Reg.MON_RQ_CTRL i) 31 = true then a + s.rqRate i else a) 0 = 0 := by
    intro n
    induction n with
    | zero => intro _; rfl
    | succ n ih =>
      intro hn
      have e := g n (by omega)
      have hne : n ≠ 15 := by omega
      simp [List.range_succ, ih (by omega), e, hne]
  unfold State.rqFits
  rw [List.range_succ (n := 15), List.foldl_append, fold 15 (by omega)]
  simp

theorem rqRate_decim_one (s : State) (q : Nat) (d : s.rqDecim q = 1) :
    s.rqRate q = ((List.range 6144).filter (fun p => s.rqMapped q p)).length * (if s.rbit (Reg.MON_RQ_CTRL q) 30 then 50000 else 1600000) := by
  unfold State.rqRate
  rw [d, Nat.div_one]

theorem filter_range_le (p : Nat → Bool) {a b : Nat} (h : a ≤ b) : ((List.range a).filter p).length ≤ ((List.range b).filter p).length :=
  ((List.range_sublist.mpr h).filter p).length_le

/-- The spec's own example of R143: every pad on the fine lane with one queue. -/
theorem test_rq_fits : (rqAsk 0x40010000 up).rqFits 15 = true := by
  rw [rqFits_alone _ (by decide +kernel), rqRate_decim_one _ _ (by decide +kernel),
    show (rqAsk 0x40010000 up).rbit (Reg.MON_RQ_CTRL 15) 30 = true by decide +kernel, if_pos rfl]
  have n := List.length_filter_le (fun p => (rqAsk 0x40010000 up).rqMapped 15 p) (List.range 6144)
  rw [List.length_range] at n
  generalize ((List.range 6144).filter _).length = x at n ⊢
  exact decide_eq_true (by omega)

theorem test_rq_too_fast : (rqAsk 0x00010000 rqWide).rqFits 15 = false := by
  rw [rqFits_alone _ (by decide +kernel), rqRate_decim_one _ _ (by decide +kernel),
    show (rqAsk 0x00010000 rqWide).rbit (Reg.MON_RQ_CTRL 15) 30 = false by decide +kernel, if_neg Bool.false_ne_true]
  have n : 257 ≤ ((List.range 257).filter (fun p => (rqAsk 0x00010000 rqWide).rqMapped 15 p)).length := by decide +kernel
  have m := le_trans n (filter_range_le _ (show 257 ≤ 6144 by decide))
  generalize ((List.range 6144).filter _).length = x at m ⊢
  exact decide_eq_false (by omega)

theorem wit_ResultQueues :
    (up.holds .a = true ∧ (up.recWrite .a (Reg.MON_RQ_CTRL 15) (0x40010000 ||| 0x80000000)).rbit (Reg.MON_RQ_CTRL 15) 31 = false ∧
      (rqAsk 0x40010000 up).rbit (Reg.MON_RQ_CTRL 15) 31 = false) ∧
    (rqWide.holds .a = true ∧ (rqWide.recWrite .a (Reg.MON_RQ_CTRL 15) (0x00010000 ||| 0x80000000)).rbit (Reg.MON_RQ_CTRL 15) 31 = false ∧
      (rqAsk 0x00010000 rqWide).rbit (Reg.MON_RQ_CTRL 15) 31 = false) ∧
    (let s := upR [(Reg.MON_RQ_CTRL 15, 0x80000000)]
     let w := (s.recWrite .a (Reg.MON_RQ_CTRL 15) (0 &&& 0x7FFFFFFF)).rwlWrite (Reg.MON_RQ_CTRL 15) 0 0x43FF0F07
       ((s.recWrite .a (Reg.MON_RQ_CTRL 15) (0 &&& 0x7FFFFFFF)).rbit (Reg.MON_RQ_CTRL 15) 31) (Reg.MON_RQ_STATUS 15) 0x80000 (0 &&& 0x7FFFFFFF)
     w.rbit (Reg.MON_RQ_CTRL 15) 31 = true) := by decide +kernel

theorem wit_ResultQueueAge :
    let r : MonRes := { tag := 0, value := 1, g := 0, at_ := 0 }
    let s : State := { upR [(Reg.MON_RQ_WM 15, 0x00010000)] with mon := { up.mon with queues := [(15, { store := [r] })] }, time := { up.time with clk := 205 } }
    (s.rq 15).store = [r] ∧ s.fld (Reg.MON_RQ_WM 15) 27 16 ≠ 0 ∧ r.at_ + clksUs (s.fld (Reg.MON_RQ_WM 15) 27 16) ≤ s.clk ∧ (s.rq 15).asked = false := by
  decide +kernel

/-! ### Witnesses: routes and the cache, Bastes, Gusts -/

/-- `MapGood` as a test. -/
def mapGoodB (c : Cmd) (sub : Nat) (l : List Byte) (s : State) : Bool :=
  decide (c.b 4 = sub) && !s.graph && s.fabValid && hostAddrOk (c.q 16) && decide (c.w 24 = 2 * s.nPorts) && (decide (2 < sub) || decide (c.q 32 % 8 = 0)) &&
    decide (l.length = c.w 24) && s.mapAccepted (wideMap l)

theorem mapGood_of {c : Cmd} {sub : Nat} {l : List Byte} {s : State} (h : mapGoodB c sub l s = true) : MapGood c sub l s := by
  simp only [mapGoodB, Bool.and_eq_true, Bool.not_eq_true', decide_eq_true_eq, Bool.or_eq_true] at h
  obtain ⟨⟨⟨⟨⟨⟨⟨a, b⟩, d⟩, e⟩, f⟩, g⟩, i⟩, j⟩ := h
  exact ⟨a, b, d, e, f, fun k => g.resolve_left (by omega), i, j⟩

/-- The identity map of 16 ports, wide form (R23), and its packed form. -/
def idMap : List Byte := (List.range 16).flatMap (bytesOf 2)
def idPacked : List Byte := Benes.packMap (wideMap idMap)

/-- ROUTE_CACHE with sub-operation `sub` and the map at host address 64. -/
def routeCmd (sub : Nat) : Cmd := cmd 0x07 [(4, sub), (16, 64), (24, 32)]

/-- The cache enabled and ready. -/
def cacheOn : List (Nat × Word) := [(Reg.RTE_CACHE_CTRL, 3), (Reg.RTE_CACHE_STATUS, 1)]

/-- The identity map is in the cache, at the way its hash names (R171). -/
def cacheHit : State :=
  let s := onR cacheOn
  let h := s.rteHash false (s.rnat Reg.FAB_EPOCH) 16 idPacked
  let e : RteEntry := { hash := h, epoch := s.rnat Reg.FAB_EPOCH, ports := 16, flushGen := s.rteGen, age := 0, sgen := s.rteSgen, detour := false,
                        repaired := false, shift := 0, cand := 0, steps := 0, map := idPacked, vec := 0 }
  { s with rte := { s.rte with table := [(4 * (h % 2 ^ 18), e)] } }

/-- A command's start with what it read recorded. -/
def started (c : Cmd) (l : List Byte) (s : State) : State := ((go c s).startFlight c).recReads c (.bytes l)

/-- The lookup a command makes of the identity map. -/
def looked (c : Cmd) (s : State) : State.Looked × State :=
  (started c idMap s).rteLookup c.unit ((started c idMap s).rnat Reg.FAB_EPOCH) (wideMap idMap).length idPacked []

theorem wit_RouteLookup :
    (Ready (routeCmd 0) 7 (go (routeCmd 0) cacheHit) ∧ MapGood (routeCmd 0) 0 idMap (started (routeCmd 0) idMap cacheHit) ∧
      (looked (routeCmd 0) cacheHit).1.hit.isSome = true) ∧
    (Ready (routeCmd 0) 7 (go (routeCmd 0) (onR cacheOn)) ∧ MapGood (routeCmd 0) 0 idMap (started (routeCmd 0) idMap (onR cacheOn)) ∧
      (looked (routeCmd 0) (onR cacheOn)).1.hit.isNone = true) :=
  ⟨⟨ready_of (by decide +kernel), mapGood_of (by decide +kernel), by decide +kernel⟩,
   ⟨ready_of (by decide +kernel), mapGood_of (by decide +kernel), by decide +kernel⟩⟩

theorem wit_RouteCommands :
    (Ready (routeCmd 1) 7 (go (routeCmd 1) (onR cacheOn)) ∧ MapGood (routeCmd 1) 1 idMap (started (routeCmd 1) idMap (onR cacheOn))) ∧
    (Ready (routeCmd 2) 7 (go (routeCmd 2) (onR cacheOn)) ∧ MapGood (routeCmd 2) 2 idMap (started (routeCmd 2) idMap (onR cacheOn))) ∧
    (Ready (routeCmd 3) 7 (go (routeCmd 3) (onR cacheOn)) ∧ MapGood (routeCmd 3) 3 idMap (started (routeCmd 3) idMap (onR cacheOn))) ∧
    (Ready (cmd 0x07 [(4, 4)]) 7 (go (cmd 0x07 [(4, 4)]) up) ∧ (cmd 0x07 [(4, 4)]).b 4 = 4) ∧
    (Ready (cmd 0x07 [(4, 5)]) 7 (go (cmd 0x07 [(4, 5)]) up) ∧ (cmd 0x07 [(4, 5)]).b 4 = 5) ∧
    (((go (cmd 0x07 [(4, 5)]) (upR [(Reg.FAB_GEOM, 0x80020000)])).startFlight (cmd 0x07 [(4, 5)])).graph = true ∧
      ((go (cmd 0x07 [(4, 5)]) up).startFlight (cmd 0x07 [(4, 5)])).graph = false ∧
      ((go (cmd 0x07 [(4, 5)]) up).startFlight (cmd 0x07 [(4, 5)])).rteBusy = false ∧
      ((go (cmd 0x07 [(4, 5)]) (upR [(Reg.RTE_CACHE_STATUS, 2)])).startFlight (cmd 0x07 [(4, 5)])).rteBusy = true ∧ up.holds .a = true) :=
  ⟨⟨ready_of (by decide +kernel), mapGood_of (by decide +kernel)⟩, ⟨ready_of (by decide +kernel), mapGood_of (by decide +kernel)⟩,
   ⟨ready_of (by decide +kernel), mapGood_of (by decide +kernel)⟩, ⟨ready_of (by decide +kernel), by decide +kernel⟩,
   ⟨ready_of (by decide +kernel), by decide +kernel⟩, by decide +kernel⟩

/-- A solved route that waits for its insert. -/
def anInsert : RteInsert :=
  { map := idPacked, res := { verdict := 0, vec := 0, shift := 0, cand := 0, steps := 0, detour := false, hit := false, constrained := 0, epoch := 0 } }

/-- Every way of the identity map's bucket holds another entry. -/
def cacheFull : State :=
  let s := onR cacheOn
  let b := 4 * (s.rteHash false 0 16 idPacked % 2 ^ 18)
  let e : RteEntry := { hash := 0, epoch := 0, ports := 16, flushGen := s.rteGen, age := 0, sgen := false, detour := false, repaired := false, shift := 0,
                        cand := 0, steps := 0, map := [], vec := 0 }
  { s with rte := { s.rte with table := [(b, e), (b + 1, e), (b + 2, e), (b + 3, e)] } }

theorem wit_CacheInserts :
    let q (s : State) : State := s.setInserts .a []
    let h := (q (onR cacheOn)).rteHash false 0 (q (onR cacheOn)).nPorts idPacked
    ((onR cacheOn).setInserts .a [anInsert]).inserts .a = [anInsert] ∧ (q up).rteUsable = false ∧ (q (onR cacheOn)).rnat Reg.FAB_EPOCH = anInsert.res.epoch ∧
      (q (onR cacheOn)).rteUsable = true ∧ ((q (onR cacheOn)).rteFree (h % 2 ^ 18)).isSome = true ∧ (q cacheFull).rnat Reg.FAB_EPOCH = anInsert.res.epoch ∧
      (q cacheFull).rteUsable = true ∧ (q cacheFull).rteFree (h % 2 ^ 18) = none := by decide +kernel

theorem wit_CacheEngines :
    (let s : State := { upR [(Reg.RTE_CACHE_STATUS, 1), (Reg.RTE_AGE_PERIOD, 0)] with time := { up.time with clk := clksS 4 } }
     s.rbit Reg.RTE_CACHE_STATUS 0 = true ∧ s.rte.ageDue + clksS (max 4 (s.fld Reg.RTE_AGE_PERIOD 15 0)) ≤ s.clk) ∧
    (upR [(Reg.RTE_CACHE_STATUS, 2)]).rteBusy = true ∧ (upR [(Reg.RTE_CACHE_STATUS, 4)]).rbit Reg.RTE_CACHE_STATUS 2 = true := by decide +kernel

/-- MAP_BASTE of slot 5 from the park origin: a map, or a vector. -/
def basteMap : Cmd := cmd 0x02 [(4, 5), (6, 0xFE), (7, 0xFF), (16, 64), (24, 32)]
def basteVec : Cmd := cmd 0x02 [(4, 5), (5, 1), (6, 0xFE), (7, 0xFF), (16, 64), (24, 0x60), (25, 2)]

/-- A driven graph-mode fabric of 4 cells and 2 ports. -/
def graphOn : State := onR [(Reg.FAB_GEOM, 0x80020000), (Reg.FAB_CELLS, 4)]

/-- A Baste whose content is ready. -/
def readyBaste : Baste :=
  { cmd := basteMap, data := .bytes [], badWays := [], work := some { slot := 5, new := { st := 2, bgen := 1 }, status := 0, flags := 0, verdict := 0, steps := 0, stuck := none } }

theorem wit_Bastes :
    Ready basteMap 2 (go basteMap (onR [])) ∧ Ready basteVec 2 (go basteVec graphOn) ∧
    (let bad : Cmd := cmd 0x02 [(4, 5), (6, 0), (7, 1), (16, 64), (24, 32)]
     originOk (bad.h 6) = false ∧ originOk (basteMap.h 6) = true ∧ hostAddrOk (basteMap.q 16) = true ∧
     ((started basteMap idMap (up.setBastes .a [readyBaste])).bastes basteMap.unit) = [readyBaste] ∧ readyBaste.work.isSome = true ∧
     (started basteMap idMap up).bastes basteMap.unit = [] ∧
     ((started basteMap idMap up).setBastes .a [{ cmd := basteMap, data := .bytes idMap, badWays := [], work := none }]).basteRefusal basteMap (.bytes idMap)
       = some 5) ∧
    (let l : List Byte := List.replicate 608 0
     let y := (started basteVec l graphOn).setBastes .a [{ cmd := basteVec, data := .bytes l, badWays := [], work := none }]
     originOk (basteVec.h 6) = true ∧ hostAddrOk (basteVec.q 16) = true ∧ (started basteVec l graphOn).bastes basteVec.unit = [] ∧
       y.basteRefusal basteVec (.bytes l) = none ∧ y.graph = true) ∧
    (up.setBastes .a [readyBaste]).bastes .a = [readyBaste] ∧ (∀ w, readyBaste.work = some w → (up.setBastes .a [readyBaste]).halfBusy w = false) :=
  ⟨ready_of (by decide +kernel), ready_of (by decide +kernel), by decide +kernel, by decide +kernel, by decide +kernel,
   fun w h => by cases h; decide +kernel⟩

/-- GUST of slot 5, whole, at once or at 1 s. -/
def gustNow : Cmd := cmd 0x03 [(4, 5)]
def gustTimed : Cmd := cmd 0x03 [(4, 5), (8, 1)]

/-- Slot 5 in state `st`. -/
def slot5 (st : Nat) (s : State) : State := s.setSlot 5 { st := st, bgen := 1 }

theorem wit_GustWaits :
    Ready gustNow 3 (go gustNow (onR [])) ∧ Ready gustTimed 3 (go gustTimed (onR [])) ∧
    (let x (s : State) : State := (go gustNow s).startFlight gustNow
     ((x up).fabOn = false ∧ ((x (onR [])).slot (gustNow.b 4)).st = 0) ∧ ((x (slot5 1 (onR []))).fabOn = true ∧ ((x (slot5 1 (onR []))).slot (gustNow.b 4)).st = 1) ∧
       ((x (slot5 2 (onR []))).fabOn = true ∧ ((x (slot5 2 (onR []))).slot (gustNow.b 4)).st = 2 ∧ gustNow.isNow = true ∧ gustTimed.isNow = false ∧
         ((x (slot5 2 (onR []))).gst.reqs.filter (fun r => r.due.isSome)).length < 64)) :=
  ⟨ready_of (by decide +kernel), ready_of (by decide +kernel), by decide +kernel⟩

/-- A request of each source for slot 5. -/
def reqOf (src : GustSrc) : GustReq := { src := src, slot := 5, partl := false, due := none, late := false }
def preOf (src : GustSrc) : Preload := { req := reqOf src, startClk := 0, tnow := [], noDraught := false, stale := false, calOld := false }

/-- A schedule whose next edge is now: slot 5, then a second entry. -/
def schedNow : SchList := { ents := [{ dur := 5000, slot := 5, partl := false }, { dur := 5000, slot := 5, partl := false }], base := 0, s := 0, k := 0, cycles := 0, cyc := 0, pos := 1, edge := 100 }

theorem wit_Preloads :
    (let s : State := { onR [] with gst := { up.gst with pins := [reqOf (.pin 0)] } }
     s.inReplay = false ∧ s.takeLatched.pathRank = 4 ∧ s.takeLatched.gst.pins = [reqOf (.pin 0)]) ∧
    (let s : State := { slot5 2 (onR []) with sch := { up.sch with active := some schedNow } }
     s.inReplay = false ∧ s.takeLatched.pathRank = 4 ∧ s.takeLatched.gst.pins = [] ∧ s.takeLatched.schedReq.isSome = true) ∧
    (let s : State := { onR [] with gst := { up.gst with reqs := [reqOf (.desc gustNow)] } }
     s.inReplay = false ∧ s.takeLatched.pathRank = 4 ∧ s.takeLatched.gst.pins = [] ∧ s.takeLatched.schedReq = none ∧ s.takeLatched.descReq = some (reqOf (.desc gustNow))) ∧
    (let s := slot5 2 (onR [])
     (s.slot (preOf (.desc gustNow)).req.slot).st = 2 ∧ (s.slot (preOf (.desc gustNow)).req.slot).epoch = s.rnat Reg.FAB_EPOCH) := by decide +kernel

theorem wit_GustTriggers :
    (let armed (s : State) : State := { s with gst := { s.gst with armed := some (preOf (.desc gustNow)) } }
     let full := armed (slot5 2 (onR []))
     let near : State := { full with sch := { up.sch with active := some schedNow } }
     let held : State := armed (slot5 2 (onR [(Reg.FLT_SAFE, 1)]))
     full.inReplay = false ∧ full.takeLatched.gst.armed = some (preOf (.desc gustNow)) ∧ near.takeLatched.gst.armed = some (preOf (.desc gustNow)) ∧
       near.takeLatched.windowTest (reqOf (.desc gustNow)) gustNow = some none ∧ full.takeLatched.windowTest (reqOf (.desc gustNow)) gustNow = none ∧
       full.takeLatched.fabOn = true ∧ (full.takeLatched.slot 5).st = 2 ∧ full.takeLatched.unsafeNow = false ∧
       held.takeLatched.gst.armed = some (preOf (.desc gustNow)) ∧ held.takeLatched.windowTest (reqOf (.desc gustNow)) gustNow = none ∧
       held.takeLatched.fabOn = true ∧ (held.takeLatched.slot 5).st = 2 ∧ held.takeLatched.unsafeNow = true) ∧
    (let armed (s : State) : State := { s with gst := { s.gst with armed := some (preOf (.pin 3)) } }
     let full := armed (slot5 2 (onR []))
     let latch := armed (slot5 2 (onR [(Reg.FLT_SAFE, 1), (Reg.GST_PIN_CFG 3, 0xA0000000)]))
     let miss := armed (slot5 2 (onR [(Reg.FLT_SAFE, 1), (Reg.GST_PIN_CFG 3, 0x80000000)]))
     full.takeLatched.gst.armed = some (preOf (.pin 3)) ∧ (reqOf (.pin 3)).edgeClk ≤ full.takeLatched.clk ∧ full.takeLatched.unsafeNow = false ∧
       full.takeLatched.fabOn = true ∧ (full.takeLatched.slot 5).st = 2 ∧
       latch.takeLatched.unsafeNow = true ∧ latch.takeLatched.rbit (Reg.GST_PIN_CFG 3) 29 = true ∧ latch.takeLatched.gst.armed = some (preOf (.pin 3)) ∧
       miss.takeLatched.unsafeNow = true ∧ miss.takeLatched.rbit (Reg.GST_PIN_CFG 3) 29 = false ∧ miss.takeLatched.gst.armed = some (preOf (.pin 3))) := by
  decide +kernel

theorem wit_PinEdges :
    let s : State := { onR [(Reg.GST_PIN_CFG 3, 0x80000000)] with time := { up.time with clk := 818 }, gst := { up.gst with pinLast := [(2, 0), (3, 0)] } }
    s.rbit (Reg.GST_PIN_CFG 3) 31 = true ∧ s.pwr.warm = none ∧ s.inReplay = false ∧ Tab.find 3 s.gst.pinLast = some 0 ∧ s.clk < 0 + clksNs 4000 ∧
      Tab.find 3 up.gst.pinLast = none ∧ up.gst.armed = none ∧ up.gst.pre = none := by decide +kernel

/-- A Gust taken whose verification is to be judged now. -/
def aVerify : Verify :=
  { req := reqOf (.desc gustNow), d := 0, seq := 1, partl := false, cells := 1, vAt := 0, left := 1, judged := false, everFailed := false, ports := [],
    changed := [], ctrl := 1, vloss := 0, vfloor := 0, moved := true, cflags := 0 }

theorem wit_GustVerification :
    (let s : State := { onR [] with gst := { up.gst with verify := some aVerify } }
     let r := s.judge aVerify
     let s1 : State := { r.2 with gst := { r.2.gst with verify := some { r.1 with vAt := s.time.g + 1 } } }
     s.gst.verify = some aVerify ∧ aVerify.judged = false ∧ aVerify.vAt ≤ s.time.g ∧ s.inReplay = false ∧ bit aVerify.ctrl 0 = true ∧
       (s1.failing r.1).isEmpty = true) ∧
    bit ({ aVerify with ctrl := 0 } : Verify).ctrl 0 = false ∧
    (let v : Verify := { aVerify with judged := true }
     ({ onR [] with gst := { up.gst with verify := some v } } : State).gst.verify = some v ∧ v.judged = true ∧ v.left ≠ 0 ∧ v.vAt ≤ (onR []).time.g) := by
  decide +kernel

/-- Judging at V the one changed port of a Gust. -/
theorem judge_one (v : Verify) (s : State) (q p : Nat) (d l : Int) (h : v.ports = [(q, p, d)]) (hj : v.judged = false) (j : s.judgePort v q p = (2, l)) :
    s.judge v =
      let w := s.setVres q 2
      let v1 : Verify := { v with ports := [(q, p, l)], judged := true }
      let fl := w.failing v1
      let w1 := (w.setReg Reg.GST_VSUM1 (word (2 ^ 16 * min fl.length 1023 + min (w.passed v1) 1023))).setReg Reg.GST_VFIRST
        (match fl with | e :: _ => word (2 ^ 16 * low 16 e.2.2 + e.1) | [] => 0x3FF)
      ({ v1 with everFailed := v.everFailed || !fl.isEmpty }, w1) := by
  simp only [State.judge, h, hj, List.foldl_cons, List.foldl_nil, j, Bool.false_eq_true, if_false, false_and, List.any_cons, decide_true, Bool.true_or, if_true,
    List.nil_append] <;>
  (generalize State.failing _ _ = fl; cases fl <;> rfl)

/-- A Gust that changed port 0, which is to be judged. -/
def aFailing : Verify := { aVerify with ports := [(0, 0, 0)], vfloor := 0x8000 }

/-- Light enters port 0 and none leaves it: the loss of R201 is far above the expected one. -/
def dark : State :=
  { onR [] with mon := { up.mon with chans := [(0, { kind := 4, role := 9, fast := 1000 }), (1, { kind := 5, role := 9, fast := 0 })] }, gst := { up.gst with verify := some aFailing } }

/-- Its power, 0.01 dB, to the open last digit (R148). -/
theorem dark_power (e : Nat) (h : Config.powErr 1000 0 16777216 % 3 = e) : powerOf 1000 0 16777216 15 = clampI (-1515 + (e : Int) - 1) (-32767) 32767 := by
  have x : Maths.log1000 16777216000 549755813888 = -1515 := by decide +kernel
  simp [powerOf, x, h]

theorem dark_judged : ∃ l ∈ [31252, 31253, (31254 : Int)], dark.judgePort aFailing 0 0 = (2, l) := by
  have mi : dark.monOf 4 0 = some 0 := by decide +kernel
  have mo : dark.monOf 5 0 = some 1 := by decide +kernel
  have ci : dark.monCh 0 = { kind := 4, role := 9, fast := 1000 } := by decide +kernel
  have co : dark.monCh 1 = { kind := 5, role := 9, fast := 0 } := by decide +kernel
  have ki : dark.rnat (sideK 0 false) = 16777216 := by decide +kernel
  have pw : dark.rbit (sidePwr 0 false) 16 = false := by decide +kernel
  have vl : aFailing.vloss = 0 := rfl
  have vf : sext 16 (field aFailing.vfloor 15 0) = -32768 := by decide +kernel
  have hi : dark.fastPower 0 false = (powerOf 1000 0 16777216 15, 0) := by simp [State.fastPower, mi, ci, ki]
  have ho : dark.fastPower 0 true = (-32768, 0) := by simp [State.fastPower, mo, co, powerOf]
  obtain ⟨e, he⟩ : ∃ e, Config.powErr 1000 0 16777216 % 3 = e := ⟨_, rfl⟩
  have lt : e < 3 := he ▸ Nat.mod_lt _ (by decide)
  rw [dark_power e he] at hi
  have z : field 0#32 15 0 = 0 ∧ field 0#32 31 16 = 0 := by decide
  interval_cases e <;> simp [State.judgePort, hi, ho, vf, vl, pw, z.1, z.2, clampI]

/-- A changed port whose output has no light after the Gust: the verdict is a failure, and an instant is left. -/
theorem wit_GustStillFailing :
    let v := aFailing
    let s := dark
    let r := s.judge v
    let s1 : State := { r.2 with gst := { r.2.gst with verify := some { r.1 with vAt := s.time.g + 1 } } }
    s.gst.verify = some v ∧ v.vAt ≤ s.time.g ∧ s.inReplay = false ∧ bit v.ctrl 0 = true ∧ (s1.failing r.1).isEmpty = false ∧ r.1.left ≠ 0 := by
  obtain ⟨l, m, hl⟩ := dark_judged
  have e := judge_one aFailing dark 0 0 0 l rfl rfl hl
  dsimp only
  rw [e]
  clear e hl
  simp only [List.mem_cons, List.not_mem_nil, or_false] at m
  rcases m with rfl | rfl | rfl <;> decide +kernel

/-- A Lull that replays a trajectory without arms. -/
def aTraj : Traj :=
  { dropped := 0, clipped := 0, sources := 0, tgen := 0, originSlot := 0xFFFE, originBgen := 0, slot := 5, bgen := 1, tBaste := [], arms := [], half := false }
def aLull : Lull :=
  { d := 0, endClk := 0, null := false, slot := 5, seq := 1, len := 0, play := some aTraj, played := none, point := 198, offs := [], lim := 0, iFold := [], iAt := [], counted := [], outs := [] }

theorem wit_LullsAndPoints :
    (let l : Lull := { aLull with play := none }
     let s : State := { onR [] with gst := { up.gst with lull := some l } }
     s.gst.lull = some l ∧ l.endClk ≤ s.time.lastTick ∧ s.inReplay = false ∧ (s.drtFinish (fun _ => true)).gst.lull.isSome = true ∧
     (((s.drtFinish (fun _ => true)).clrReg Reg.GST_STATUS 0x300000).event 4 0x43 0 s.now l.seq l.slot l.len 0).inReplay = false) ∧
    (let s : State := { onR [] with gst := { up.gst with lull := some aLull }, time := { up.time with clk := 409600 } }
     s.gst.lull = some aLull ∧ aLull.play = some aTraj ∧ aLull.point < 199 ∧ aLull.d + 2048 * (aLull.point + 1) ≤ s.clk ∧ aLull.play.isSome = true ∧
       aLull.d + 409600 ≤ s.clk) := by decide +kernel

theorem wit_GustAndDraughtCommands :
    up.holds .a = true ∧ up.rbit Reg.DRT_STATUS 1 = false ∧
    (let s := upR [(Reg.DRT_STATUS, 2)]
     s.holds .a = true ∧ s.rbit Reg.DRT_STATUS 1 = true ∧ ((s.recWrite .a (Reg.DRT_TAU0 + 4 * 2) 1).reg (Reg.DRT_TAU0 + 4 * 2) ^^^ 1) &&& 0xFFFF ≠ 0) ∧
    bit (0 : Word) 0 = false ∧ bit (0 : Word) 1 = false ∧ bit (0 : Word) 2 = false := by decide +kernel

/-! ### Witnesses: loops, time, schedules, calibration, characterisation -/

/-- Loops enabled; cell 0 has one. -/
def loopsOn : State := { onR [(Reg.LOOP_CTRL, 1)] with loop := { up.loop with cells := [(0, { hasLoop := true })] } }

theorem wit_LoopInstants :
    (up.time.on = true ∧ up.time.g % up.loopPeriod = 0 ∧ up.loop.instAt ≠ some up.time.g) ∧
    (let s1 (s : State) : State := (((({ s with loop := { s.loop with instAt := some s.time.g } } : State).throttleInstant).instantChanges).recDrive)
     (s1 up).loopsRun = false ∧ (s1 loopsOn).loopsRun = true ∧ loopsOn.loopsRun = true ∧ loopsOn.inReplay = false) ∧
    (let outs (s : State) : State := { s with loop := { s.loop with outs := [{ cell := 0, arm := 0, code := 1 }], outAt := 1 } }
     (outs up).loop.outs.isEmpty = false ∧ (outs up).loop.outAt ≤ up.time.g + 1 ∧ (outs up).fabOn = false ∧
       (outs loopsOn).heldNow = false ∧ (outs loopsOn).drv.held = false ∧ (outs loopsOn).fabOn = true) := by decide +kernel

theorem wit_LoopLawStaysInLimits : ∃ (v : ClsVals) (lo hi : Nat), lo + v.amp + v.amp ≤ hi ∧ hi ≤ 65535 ∧ v.amp ≠ 0 :=
  ⟨{ kp := 0, ki := 0, kd := 0, delay := 0, lullSh := 0, demodSh := 0, dfSh := 0, sh := 0, amp := 4096, floor := 0, dimDb := 0, hlth0 := 0, hlth1 := 0, residFs := 0 }, 57343, 65535, by decide, by decide, by decide⟩

/-- LOOP_MODE over cell 0, and LOOP_SET of class 15. -/
def modeCmd (mode : Nat) : Cmd := cmd 0x09 [(4, mode), (18, 1)]
def setCmd (cls : Nat) : Cmd := cmd 0x08 [(4, cls), (5, 1)]

theorem wit_LoopDescriptors :
    (Ready (modeCmd 1) 9 (go (modeCmd 1) loopsOn) ∧ Ready (modeCmd 2) 9 (go (modeCmd 2) loopsOn) ∧
      Ready (cmd 0x09 [(4, 1), (18, 57)]) 9 (go (cmd 0x09 [(4, 1), (18, 57)]) loopsOn)) ∧
    (Ready (setCmd 15) 8 (go (setCmd 15) loopsOn) ∧ Ready (setCmd 16) 8 (go (setCmd 16) loopsOn)) ∧
    ((modeCmd 1).isNow = true ∧ (modeCmd 1).b 4 = 1 ∧ (modeCmd 2).b 4 = 2 ∧
      (modeCmd 1).h 16 + (modeCmd 1).h 18 ≤ ((go (modeCmd 1) loopsOn).startFlight (modeCmd 1)).nCells ∧
      (cmd 0x09 [(4, 1), (18, 57)]).h 16 + (cmd 0x09 [(4, 1), (18, 57)]).h 18 > ((go (modeCmd 1) loopsOn).startFlight (modeCmd 1)).nCells ∧
      setBad (setCmd 15) = false ∧ setBad (setCmd 16) = true) :=
  ⟨⟨ready_of (by decide +kernel), ready_of (by decide +kernel), ready_of (by decide +kernel)⟩,
   ⟨ready_of (by decide +kernel), ready_of (by decide +kernel)⟩, by decide +kernel⟩

theorem wit_LoopWrites :
    up.holds .a = true ∧ loopsOn.holds .a = true ∧ (loopsOn.loopCell 0).hasLoop = true ∧ bit (2 : Word) 31 = false ∧ clsOffs.contains 0x20 = true := by
  decide +kernel

/-- LOOP_MODE SQUALL of class 0, hysteresis 10, cell 0. -/
def squallCmd : Cmd := cmd 0x09 [(4, 3), (6, 10), (48, 1)]
def aSquall : Squall :=
  { cls := 0, h := 10, cells := [{ cell := 0, prevMode := 1, b := 0, level := 0, inst := 0, rises := [], lo := 0, hi := 0, result := 1, tu16 := 0, amp := 0 }],
    started := true, cmd := none, late := false }

theorem wit_SquallRuns :
    (let w (v : Word) (s : State) : State := (s.recWrite .a Reg.LOOP_SQ_CTRL (v ||| 1)).maskWrite Reg.LOOP_SQ_CTRL 0x0FFF0FF0 (v ||| 1)
     let cells (v : Word) (s : State) := (List.range (field v 7 4 + 1)).map (fun j => (w v s).fld (Reg.LOOP_SQ_CELL j) 12 0)
     bit (0xA0000 : Word) 1 = false ∧ (w 0xA0000 up).squallOk (field (0xA0000 : Word) 11 8) (field (0xA0000 : Word) 27 16) (cells 0xA0000 up) = false ∧
       (w 0xA0000 loopsOn).squallOk (field (0xA0000 : Word) 11 8) (field (0xA0000 : Word) 27 16) (cells 0xA0000 loopsOn) = true ∧
       (loopsOn.recWrite .a Reg.LOOP_SQ_CTRL (0xA0000 ||| 1)).heldNow = false) ∧
    Ready squallCmd 9 (go squallCmd loopsOn) ∧
    (let x (s : State) : State := (go squallCmd s).startFlight squallCmd
     let run : State := { loopsOn with loop := { loopsOn.loop with squall := some aSquall } }
     let held : State := loopsOn.setReg Reg.FLT_SAFE 1
     squallCmd.isNow = true ∧ squallCmd.b 4 = 3 ∧ (x run).loop.squall.isSome = true ∧ 1 ≤ squallCmd.b 48 ∧ squallCmd.b 48 ≤ 16 ∧
       (∀ i ∈ (List.range (squallCmd.b 48)).map (fun j => squallCmd.h (16 + 2 * j)), i < (x loopsOn).nCells) ∧
       (x held).squallOk (squallCmd.b 5) (squallCmd.h 6) ((List.range (squallCmd.b 48)).map (fun j => squallCmd.h (16 + 2 * j))) = true ∧ (x held).unsafeNow = true ∧
       (x loopsOn).squallOk (squallCmd.b 5) (squallCmd.h 6) ((List.range (squallCmd.b 48)).map (fun j => squallCmd.h (16 + 2 * j))) = true ∧
       (x loopsOn).unsafeNow = false ∧
       run.loop.squall = some aSquall ∧ aSquall.started = true ∧ (aSquall.cells.all (fun x => decide (x.result ≠ 0))) = true) :=
  ⟨by decide +kernel, ready_of (by decide +kernel), by decide +kernel⟩

theorem wit_PpsEdges :
    (let s (e : Option Nat) (clk : Nat) : State := { upR [(Reg.TIM_CTRL, 1)] with time := { up.time with edge := e, clk := clk } }
     (s none 0).rbit Reg.TIM_CTRL 0 = true ∧ (s none 0).time.on = true ∧ (s none 0).pwr.warm = none ∧ (s none 0).inReplay = false ∧
       (s (some 10) 184320009).time.edge = some 10 ∧ (s (some 10) 184320009).clk < 10 + 184320000 ∧ (s none 0).time.edge = none ∧
       (s none 225280000).time.lost = false ∧ (s none 225280000).time.ppsSince + 225280000 ≤ (s none 225280000).clk) ∧
    (let s : State := { up with time := { up.time with ph := -3, phLeft := 0 } }
     s.time.ph ≠ 0 ∧ s.time.phLeft = 0 ∧ s.inReplay = false) ∧
    (up.holds .a = true ∧ bit (0x80000001 : Word) 31 = true ∧ up.rbit Reg.TIM_CTRL 0 = false ∧
      (((up.recWrite .a Reg.TIM_SEC_SET_HI 0x80000001).setReg Reg.TIM_SEC_SET_HI (0x80000001 &&& 0x8000FFFF)).orReg Reg.TIM_STATUS 0x10).armedSec ≠ up.time.sec) := by
  decide +kernel

/-- SCHED_LOAD of `n` entries, commit or not, and the bytes of one entry of 5 µs. -/
def loadCmd (n commit : Nat) : Cmd := cmd 0x05 [(4, n % 256), (5, n / 256), (6, commit), (16, 64)]
def loadList (dur : Nat) : List Byte := bytesOf 4 dur ++ [5, 0, 0, 0]

theorem wit_ScheduleLoads :
    (Ready (loadCmd 1 0) 5 (go (loadCmd 1 0) (onR [])) ∧ Ready (loadCmd 257 0) 5 (go (loadCmd 257 0) (onR [])) ∧ Ready (loadCmd 1 1) 5 (go (loadCmd 1 1) (onR []))) ∧
    (let c := loadCmd 1 0
     let x := started c (loadList 5000) (onR [])
     let armed := started c (loadList 5000) ({ onR [] with sch := { up.sch with pend := some schedNow } })
     256 < (loadCmd 257 0).h 4 ∧ c.h 4 ≠ 0 ∧ c.h 4 ≤ 256 ∧ hostAddrOk (c.q 16) = true ∧ c.w 28 < 1000000000 ∧ armed.sch.pend.isSome = true ∧
       x.sch.pend = none ∧ listOk (loadEnts (loadList 3999) 1) = false ∧ listOk (loadEnts (loadList 5000) (c.h 4)) = true ∧
       loadClean (loadList 5000) (c.h 4) = true ∧ 8 * c.h 4 ≤ (loadList 5000).length ∧ (c.b 6).testBit 0 = false ∧ ((loadCmd 1 1).b 6).testBit 0 = true ∧
       (loadCmd 1 1).h 4 = 1 ∧ (started (loadCmd 1 1) (loadList 5000) (onR [])).sch.pend = none) :=
  ⟨⟨ready_of (by decide +kernel), ready_of (by decide +kernel), ready_of (by decide +kernel)⟩, by decide +kernel⟩

/-- A pending list of one entry as the registers hold it. -/
def pendOne : State := onR [(Reg.SCH_P_COUNT, 1), (Reg.SCH_P_DUR 0, 5000), (Reg.SCH_P_SLOT 0, 5)]

def ctlCmd (op : Nat) : Cmd := cmd 0x06 [(4, op)]

theorem wit_ScheduleControls :
    (Ready (ctlCmd 0) 6 (go (ctlCmd 0) (onR [])) ∧ Ready (ctlCmd 1) 6 (go (ctlCmd 1) (onR [])) ∧ Ready (ctlCmd 2) 6 (go (ctlCmd 2) (onR [])) ∧
      Ready (ctlCmd 3) 6 (go (ctlCmd 3) (onR []))) ∧
    ((match pendOne.commitList 0 with | .inr _ => true | .inl _ => false) = true ∧ up.holds .a = true ∧ bit (0 : Word) 0 = false ∧ bit (0 : Word) 1 = false ∧
      bit (0 : Word) 2 = false ∧ bit (0 : Word) 3 = false ∧ (ctlCmd 0).isNow = true ∧ (ctlCmd 3).b 4 = 3) :=
  ⟨⟨ready_of (by decide +kernel), ready_of (by decide +kernel), ready_of (by decide +kernel), ready_of (by decide +kernel)⟩, by decide +kernel⟩

theorem wit_ScheduleRuns :
    (let s : State := { up with sch := { up.sch with pend := some schedNow } }
     s.sch.pend = some schedNow ∧ schedNow.s ≤ s.now ∧ s.inReplay = false) ∧
    (let s (l : SchList) : State := { up with sch := { up.sch with active := some l }, time := { up.time with ns := 100 } }
     let l0 : SchList := { schedNow with pos := 0 }
     (s schedNow).sch.active = some schedNow ∧ schedNow.ents[schedNow.pos]? = some { dur := 5000, slot := 5, partl := false } ∧ schedNow.edge ≤ (s schedNow).now ∧
       schedNow.pos ≠ 0 ∧ (s l0).sch.active = some l0 ∧ l0.ents[l0.pos]? = some { dur := 5000, slot := 5, partl := false } ∧ l0.pos = 0 ∧
       (s l0).sch.stopAtEnd = false ∧ l0.cycles = 0 ∧ ({ s l0 with sch := { (s l0).sch with stopAtEnd := true } } : State).sch.stopAtEnd = true) := by decide +kernel

/-- TIME_PULSE on output 3: period 0, width 20 ns, and period 40 ns. -/
def pulseCmd (per : Nat) : Cmd := cmd 0x10 [(4, 3), (16, per), (20, 20)]

theorem wit_TimeOutputs :
    (Ready (pulseCmd 0) 0x10 (go (pulseCmd 0) up) ∧ Ready (pulseCmd 40) 0x10 (go (pulseCmd 40) up)) ∧
    (let c := pulseCmd 40
     c.b 4 ≤ 3 ∧ 20 ≤ c.w 20 ∧ 40 ≤ c.w 16 ∧ c.w 20 + 20 ≤ c.w 16 ∧ c.w 24 ≤ 1000000 ∧ (pulseCmd 0).w 16 = 0 ∧
       ((go c (upR [(Reg.TIM_TOUT_CFG 3, 0x80000000)])).startFlight c).rbit (Reg.TIM_TOUT_CFG (c.b 4)) 31 = true ∧
       ((go c up).startFlight c).rbit (Reg.TIM_TOUT_CFG (c.b 4)) 31 = false) ∧
    (let w (v : Word) : State := (up.recWrite .a (Reg.TIM_TOUT_CFG 3) (v ||| 0x80000000)).maskWrite (Reg.TIM_TOUT_CFG 3) (0x80000000 ||| 0x63000000) (v ||| 0x80000000)
     up.holds .a = true ∧ up.rbit (Reg.TIM_TOUT_CFG 3) 31 = false ∧ (w 0).toutMode 3 = 0 ∧ (w 0).rnat (Reg.TIM_TOUT_SEC 3) = 0 ∧ (w 0).rnat (Reg.TIM_TOUT_NS 3) = 0 ∧
       (w 0x01000000).toutMode 3 ≠ 0) ∧
    (let s : State := (upR [(Reg.TIM_TOUT_CFG 3, 0x80000000)]).setTout 3 { running := true }
     (s.tout 3).running = true ∧ s.rbit (Reg.TIM_TOUT_CFG 3) 31 = true ∧ s.toutMode 3 = 0 ∧ s.toutDue 3 (s.tout 3).nextAt = true) ∧
    (let s : State := up.setTout 3 { high := true }
     (s.tout 3).high = true ∧ (s.tout 3).endClk ≤ s.clk) :=
  ⟨⟨ready_of (by decide +kernel), ready_of (by decide +kernel)⟩, by decide +kernel, by decide +kernel, by decide +kernel, by decide +kernel⟩

/-- CAL_RUN of steps `steps` on tile 0; of tiles beyond the WL2564's. -/
def calCmd (steps : Nat) : Cmd := cmd 0x0A [(4, steps), (16, 1)]

theorem wit_CalibrationRuns :
    (Ready (calCmd 0) 0x0A (go (calCmd 0) up) ∧ Ready (calCmd 1) 0x0A (go (calCmd 1) up) ∧
      Ready (calCmd 1) 0x0A (go (calCmd 1) ({ up with cal := { up.cal with run := some { cmd := calCmd 1 } } }))) ∧
    (let x (s : State) : State := (go (calCmd 1) s).startFlight (calCmd 1)
     (calCmd 0).b 4 = 0 ∧ (calCmd 1).b 4 ≠ 0 ∧ (calCmd 1).q 16 < 2 ^ (x up).part.tiles ∧
       (x ({ up with cal := { up.cal with run := some { cmd := calCmd 1 } } })).cal.run.isSome = true ∧ (x up).cal.run = none ∧ (x up).heldNow = false ∧
       (x (upR [(Reg.FLT_SAFE, 1)])).heldNow = true) :=
  ⟨⟨ready_of (by decide +kernel), ready_of (by decide +kernel), ready_of (by decide +kernel)⟩, by decide +kernel⟩

/-- CAL_SET_LOAD of `n` records. -/
def setLoadCmd (n : Nat) : Cmd := cmd 0x0B [(16, 64), (24, n % 256), (25, n / 256)]

theorem wit_CalibrationLoads :
    (Ready (setLoadCmd 1) 0x0B (go (setLoadCmd 1) up) ∧ Ready (setLoadCmd 577) 0x0B (go (setLoadCmd 577) up)) ∧
    (let x (s : State) : State := started (setLoadCmd 1) [] s
     (x ({ up with cal := { up.cal with run := some { cmd := calCmd 1 } } })).cal.run.isSome = true ∧ (x up).cal.run = none ∧
       9 * (x up).part.tiles < (setLoadCmd 577).w 24 ∧ (setLoadCmd 1).w 24 ≠ 0 ∧ (setLoadCmd 576).w 24 ≤ 9 * (x up).part.tiles ∧
       (x up).loadRecs ((setLoadCmd 1).w 24) [] [] = none) :=
  ⟨⟨ready_of (by decide +kernel), ready_of (by decide +kernel)⟩, by decide +kernel⟩

theorem leAll_bytesOf (n v : Nat) : leAll (bytesOf n v) = v % 256 ^ n := by
  induction n generalizing v with
  | zero => simp [bytesOf, leAll, Nat.mod_one]
  | succ n ih =>
    simp only [bytesOf, leAll, ih, BitVec.toNat_ofNat]
    rw [show 256 ^ (n + 1) = 256 * 256 ^ n by rw [Nat.pow_succ, Nat.mul_comm], Nat.mod_mul]

/-- The number that lies at an offset of a byte string. -/
theorem le_at (x h t : List Byte) : le (h ++ (x ++ t)) h.length x.length = leAll x := by
  induction x generalizing h with
  | nil => rfl
  | cons b r ih =>
    have e := ih (h ++ [b])
    simp only [List.length_append, List.length_cons, List.length_nil, List.append_assoc, List.cons_append, List.nil_append] at e
    simp only [List.length_cons, le, leAll, List.cons_append]
    rw [e]
    simp [byteAt]

theorem le_from {l : List Byte} {off n : Nat} (h x t : List Byte) (e : l = h ++ (x ++ t)) (ho : h.length = off) (hn : x.length = n) : le l off n = leAll x := by
  subst e ho hn
  exact le_at x h t

/-- A record of tile 0, slot 0 (R327) with its CRC. -/
def recHead : List Byte := bytesOf 4 0x54434C43 ++ List.replicate 40 0
def recCrc (tail : List Byte) : List Byte := bytesOf 4 (Crypto.crc32c (recHead ++ bytesOf 4 0 ++ tail)).toNat
def recWith (tail : List Byte) : List Byte := recHead ++ (recCrc tail ++ tail)

theorem length_recHead : recHead.length = 44 := by decide
theorem length_recCrc (tail : List Byte) : (recCrc tail).length = 4 := rfl

theorem recOf_recWith (tail : List Byte) (s : State) (hl : s.rnat (Reg.SEC_DEVID_LO .a) = 0) (hh : s.rnat (Reg.SEC_DEVID_HI .a) = 0) :
    ∃ r, s.recOf (recWith tail) = some (0, 0, r) := by
  have m : le (recWith tail) 0 4 = 0x54434C43 :=
    (le_from [] (bytesOf 4 0x54434C43) (List.replicate 40 0 ++ (recCrc tail ++ tail)) (by simp only [recWith, recHead, List.append_assoc, List.nil_append]) rfl rfl).trans
      (by decide)
  have z4 (h : List Byte) (off : Nat) (t : List Byte) (e : recHead = h ++ (List.replicate 4 0 ++ t)) (ho : h.length = off) : le (recWith tail) off 4 = 0 :=
    (le_from h (List.replicate 4 0) (t ++ (recCrc tail ++ tail)) (by rw [recWith, e]; simp only [List.append_assoc]) ho rfl).trans (by decide)
  have d8 := z4 (recHead.take 8) 8 (List.replicate 32 0) (by decide) (by decide)
  have d12 := z4 (recHead.take 12) 12 (List.replicate 28 0) (by decide) (by decide)
  have d4 := z4 (recHead.take 4) 4 (List.replicate 36 0) (by decide) (by decide)
  have c : le (recWith tail) 0x2C 4 = (Crypto.crc32c (recHead ++ bytesOf 4 0 ++ tail)).toNat := by
    have e := (le_from recHead (recCrc tail) tail rfl length_recHead (length_recCrc tail)).trans (leAll_bytesOf 4 _)
    rw [Nat.mod_eq_of_lt (by have := (Crypto.crc32c (recHead ++ bytesOf 4 0 ++ tail)).isLt; omega)] at e
    exact e
  have z : (recWith tail).take 0x2C ++ bytesOf 4 0 ++ (recWith tail).drop 0x30 = recHead ++ bytesOf 4 0 ++ tail := by
    have a : (recWith tail).take 0x2C = recHead := by rw [recWith, List.take_left' length_recHead]
    have b : (recWith tail).drop 0x30 = tail := by
      rw [recWith, ← List.append_assoc, List.drop_left' (by rw [List.length_append, length_recHead, length_recCrc])]
    rw [a, b]
  have b4 : byteAt (recWith tail) 4 = 0 ∧ byteAt (recWith tail) 5 = 0 := by
    have := d4
    simp only [le, Nat.reduceAdd] at this
    omega
  unfold State.recOf
  rw [m, d8, d12, c, z, hl, hh, b4.1, b4.2, if_neg (by simp)]
  exact ⟨_, rfl⟩

def aRec : List Byte := recWith (List.replicate 8144 0)

theorem length_recWith (tail : List Byte) : (recWith tail).length = 48 + tail.length := by
  rw [recWith, List.length_append, List.length_append, length_recHead, length_recCrc]
  omega

theorem loadRecs_one (s : State) (b : List Byte) (r : CalRec) (hb : b.length = 8192) (hr : s.recOf b = some (0, 0, r)) (ht : 0 < s.part.tiles) :
    s.loadRecs 1 b [] = some (Tab.set 0 r []) := by
  rw [State.loadRecs, List.take_of_length_le (Nat.le_of_eq hb), hr]
  exact if_pos ⟨ht, by decide, rfl⟩

theorem rnat_started (c : Cmd) (l : List Byte) (s : State) (x : Nat) (hx : x ∉ recKeys) : (started c l s).rnat x = ((go c s).startFlight c).rnat x := by
  have e : (started c l s).reg x = ((go c s).startFlight c).reg x := by
    simp only [started, State.recReads, State.commandRec]
    split
    · exact (recAppend_only _ _ _).regs x hx
    · rfl
  simp only [State.rnat, e]

theorem part_tiles (s : State) : 0 < s.part.tiles := by
  cases s.part <;> decide

/-- A record that a set may load: the fifth clause of the loads. -/
theorem wit_CalibrationLoadAccepted : ∃ news, (started (setLoadCmd 1) aRec up).loadRecs ((setLoadCmd 1).w 24) aRec [] = some news := by
  have n : (setLoadCmd 1).w 24 = 1 := by decide +kernel
  obtain ⟨r, hr⟩ := recOf_recWith (List.replicate 8144 0) (started (setLoadCmd 1) aRec up)
    ((rnat_started _ _ _ _ (by decide +kernel)).trans (by decide +kernel)) ((rnat_started _ _ _ _ (by decide +kernel)).trans (by decide +kernel))
  rw [n]
  exact ⟨_, loadRecs_one _ _ r ((length_recWith _).trans (by rw [List.length_replicate])) hr (part_tiles _)⟩

/-- A table of one entry that ends it and loops for ever. -/
def endlessRun : CharRun := { cmd := cmd 0x0C [], kind := 0, cells := [], modes := [], table := [0, 0, 0, 0, 0xFF] ++ List.replicate 11 0 }

theorem wit_CalibrationCommands :
    up.holds .a = true ∧ bit (0 : Word) 0 = false ∧ bit (0 : Word) 1 = false ∧ bit (0 : Word) 2 = false ∧ bit (0 : Word) 3 = false ∧
    (({ up with cal := { up.cal with char := some endlessRun } } : State).cal.char = some endlessRun ∧ endlessRun.kind = 0 ∧ endless endlessRun = true) ∧
    up.cal.char = none ∧ up.drt.hashing = none ∧
    (let s : State := { up with cal := { up.cal with idleSince := some 0 }, time := { up.time with clk := clksMs 10 } }
     s.cal.idleSince = some 0 ∧ 0 + clksMs 10 ≤ s.clk) ∧
    ({ up with drt := { up.drt with hashing := some 0 } } : State).drt.hashing = some 0 := by decide +kernel

/-- CHAR_RUN of kind `k` with a count of `n`. -/
def charCmd (k n : Nat) : Cmd := cmd 0x0C [(4, k), (16, 64), (24, n % 256), (25, n / 256)]

theorem wit_CharacterisationStarts :
    (Ready (charCmd 0 1) 0x0C (go (charCmd 0 1) (onR [])) ∧ Ready (charCmd 0 0) 0x0C (go (charCmd 0 0) (onR [])) ∧ Ready (charCmd 1 1) 0x0C (go (charCmd 1 1) (onR [])) ∧
      Ready (charCmd 2 1) 0x0C (go (charCmd 2 1) (onR [])) ∧ Ready (charCmd 3 1) 0x0C (go (charCmd 3 1) (onR []))) ∧
    (let x (s : State) : State := (go (charCmd 0 1) s).startFlight (charCmd 0 1)
     let y := started (charCmd 1 1) [55, 0] (onR [])
     let c := charCmd 1 1
     (x ({ up with cal := { up.cal with char := some endlessRun } })).seqBusy = true ∧ (x up).seqBusy = false ∧ (x (upR [(Reg.FLT_SAFE, 1)])).heldNow = true ∧
       (x up).heldNow = false ∧ (charCmd 0 0).h 24 = 0 ∧ (charCmd 0 1).h 24 ≠ 0 ∧ (charCmd 0 1).h 24 ≤ 4096 ∧ (charCmd 0 1).b 5 ≤ 1 ∧
       y.seqBusy = false ∧ y.heldNow = false ∧ c.b 4 = 1 ∧ c.h 24 ≠ 0 ∧ c.h 24 ≤ 14592 ∧ 2 * c.h 24 ≤ [55, (0 : Byte)].length ∧
       (hostList (c.h 24) [55, 0]).all (fun a => decide (a / 3 < y.nCells)) = true ∧ (hostList (c.h 24) [55, 0]).all (fun a => decide (a < y.nCells)) = true ∧
       (charCmd 2 1).b 4 = 2 ∧ (charCmd 3 1).b 4 = 3) :=
  ⟨⟨ready_of (by decide +kernel), ready_of (by decide +kernel), ready_of (by decide +kernel), ready_of (by decide +kernel), ready_of (by decide +kernel)⟩,
   by decide +kernel⟩

theorem wit_CharacterisationEnds :
    (∃ s : State, s.drt.coupling = some { cmd := charCmd 1 1, sources := [], aborted := [], modes := [] }) ∧
    (∃ s : State, s.cal.char = some { endlessRun with ended := 1 } ∧ ({ endlessRun with ended := 1 } : CharRun).kind = 0 ∧ ({ endlessRun with ended := 1 } : CharRun).ended ≠ 0) ∧
    ∃ s : State, s.cal.char = some { endlessRun with kind := 2 } ∧ ({ endlessRun with kind := 2 } : CharRun).kind ≠ 0 :=
  ⟨⟨{ up with drt := { up.drt with coupling := _ } }, rfl⟩, ⟨{ up with cal := { up.cal with char := _ } }, rfl, rfl, by decide⟩,
   ⟨{ up with cal := { up.cal with char := _ } }, rfl, by decide⟩⟩

/-! ### Witnesses: the host link, accesses, queues, descriptors on parts -/

/-- `up` with unit A's link down. -/
def noLink : State := up.setUnit .a { up.unit .a with linkUp := false }

theorem wit_LinkEvents :
    (up.unit .a).linkUp = true ∧ linkOk 1 1 = true ∧ linkOk 7 16 = true ∧ (noLink.unit .a).perst = false ∧ (noLink.unit .a).linkUp = false ∧
    bit (0x80000000 : Word) 31 = true ∧ (∃ f, 1 ≤ f ∧ f ≤ 15) := ⟨by decide +kernel, by decide, by decide, by decide +kernel, by decide +kernel, by decide, 15, by decide, by decide⟩

/-- Accesses of unit A's physical function by offset and length. -/
def acc (off len : Nat) : Access := { unit := .a, func := 0, bar := 0, off := off, len := len }

theorem wit_RegisterAccesses :
    badShape (acc 0 9) = true ∧ badShape (acc 4 8) = true ∧ (badShape (acc 0 2) = false ∧ wholeRegs (acc 0 2) = false) ∧
    (badShape (acc 2 4) = false ∧ wholeRegs (acc 2 4) = false) ∧ accessKey (acc 0xFFFFFC 4) 0xFFFFFC = some 0xFFFFFC ∧
    accessKey (acc 0 8) 0 = some 0x1000000 ∧ accessKey (acc 0 8) 4 = some 0x1000004 ∧
    (absentKey up.part Reg.LOOP_CTRL = false ∧ (keyRow Reg.LOOP_CTRL).isSome = true ∧ keyUnit Reg.LOOP_CTRL = none ∧ up.holds .b = false ∧
      Reg.LOOP_CTRL ∉ [Reg.TKN_CLAIM, Reg.TKN_RENEW, Reg.TKN_RELEASE, Reg.TKN_REH_REPORT]) := by decide +kernel

/-- Function 0 of unit A with SQ 0 so, its queue registers set up and polled. -/
def sqOn (q : Sq) (l : List (Nat × Word)) : State :=
  (upR (l ++ [(Reg.Q_CTRL .a 0, 1), (Reg.Q_SQ_CFG .a 0 0, 0x80010000), (Reg.Q_CQ_CFG .a 0 0, 0x80000004), (Reg.Q_CQ_CFG .a 0 63, 0x80000004)])).setSq .a 0 0 q

theorem wit_QueueReads :
    (((List.replicate 9 ([] : List Byte)).take ((sqOn { tail := 9 } []).fetchable .a 0 0)).isEmpty = false ∧ (sqOn { tail := 9 } []).fetchable .a 0 0 = 8) ∧
    (let s := (sqOn {} []).setCq .a 0 63 { tail := 1 }
     63 < 64 ∧ s.rbit (Reg.Q_CQ_CFG .a 0 63) 31 = true ∧ dist32 1 (s.cq .a 0 63).head ≤ dist32 (s.cq .a 0 63).tail (s.cq .a 0 63).head ∧
       dist32 (s.cq .a 0 63).tail (s.cq .a 0 63).head < dist32 2 (s.cq .a 0 63).head) ∧
    (up.fn .a 0).pollFails < 7 ∧ 7 ≤ ((up.setFn .a 0 { pollFails := 7 }).fn .a 0).pollFails ∧ (up.sq .a 0 136).fetchFails = 0 ∧
    1 ≤ ((sqOn { fetchFails := 1 } []).sq .a 0 0).fetchFails := by decide +kernel

theorem wit_QueueEnables :
    (bit (1 : Word) 0 = true ∧ bit (1 : Word) 31 = false ∧ up.rbit (Reg.Q_CTRL .a 15) 0 = false ∧ (up.fn .a 15).d3 = false) ∧
    (bit (0 : Word) 0 = false ∧ bit (0 : Word) 31 = false ∧ bit (0x80000000 : Word) 0 = false ∧ bit (0x80000000 : Word) 31 = true) ∧
    (let v : Word := 0x80000000
     let w (s : State) : State := s.maskWrite (Reg.Q_SQ_CFG .a 0 63) (0x00FF0000 ||| 0x3F00001F) v
     let off := upR []
     let on := upR [(Reg.Q_CQ_CFG .a 0 0, 0x80000004)]
     off.rbit (Reg.Q_SQ_CFG .a 0 63) 31 = false ∧ off.rbit (Reg.Q_CQ_CFG .a 0 ((w off).cqOf .a 0 63)) 31 = false ∧
       on.rbit (Reg.Q_SQ_CFG .a 0 63) 31 = false ∧ on.rbit (Reg.Q_CQ_CFG .a 0 ((w on).cqOf .a 0 63)) 31 = true) ∧
    (up.rbit (Reg.Q_CQ_CFG .a 0 63) 31 = false ∧ (sqOn {} []).rbit (Reg.Q_CQ_CFG .a 0 0) 31 = true ∧ (sqOn {} []).cqInUse .a 0 0 = true ∧
      (sqOn {} []).rbit (Reg.Q_CQ_CFG .a 0 63) 31 = true ∧ (sqOn {} []).cqInUse .a 0 63 = false) ∧
    (up.rbit (Reg.Q_EQ_CFG .a 0) 31 = false ∧ up.rbit (Reg.Q_TR_CFG .a 0 7) 31 = false) := by decide +kernel

theorem wit_GrantsAndTimers :
    (let s := sqOn { fetched := [(cmd 1 []).desc] } []
     let w := s.refreshAll .a
     w.unitFull .a = false ∧ w.grantee .a = some (0, 0) ∧ (w.sq .a 0 0).fetched = [(cmd 1 []).desc]) ∧
    (let s : State := { (upR [(Reg.Q_CQ_MOD .a 0 63, 0x00010000)]).setCq .a 0 63 { pendCount := 1, pendSince := some 0 } with time := { up.time with clk := 205 } }
     63 < 64 ∧ (s.cq .a 0 63).pendSince = some 0 ∧ s.fld (Reg.Q_CQ_MOD .a 0 63) 27 16 ≠ 0 ∧ 0 + clksUs (s.fld (Reg.Q_CQ_MOD .a 0 63) 27 16) ≤ s.clk) ∧
    (5 + 5 * 100 ≤ (if 1 = 0 then 1 else 1) * 1000000) := by decide +kernel

/-- MAP_QUERY of slot 5, parts `what`. -/
def queryCmd (what : Nat) : Cmd := cmd 0x04 [(4, 1), (5, 5), (6, what), (16, 64), (24, 64)]
/-- MOVE of unit A from the host to DRAM; a source in a host address too far, and both sides in the host. -/
def moveCmd (sides : Nat) : Cmd := cmd 0x0D [(4, 0xFF), (5, sides), (6, 4), (16, 64)]

theorem wit_QueryCommands :
    (Ready (cmd 1 []) 1 (go (cmd 1 []) up) ∧ Ready (queryCmd 1) 4 (go (queryCmd 1) up) ∧ Ready (queryCmd 0) 4 (go (queryCmd 0) up) ∧
      Ready (cmd 0x14 []) 0x14 (go (cmd 0x14 []) up) ∧ Ready (moveCmd 1) 0x0D (go (moveCmd 1) up) ∧ Ready (moveCmd 3) 0x0D (go (moveCmd 3) up)) ∧
    (let x (st : Nat) : State := (go (queryCmd 1) (slot5 st up)).startFlight (queryCmd 1)
     (queryCmd 1).b 4 = 1 ∧ ((x 0).slot ((queryCmd 1).b 5)).st = 0 ∧ ((x 1).slot ((queryCmd 1).b 5)).st = 1 ∧ (queryCmd 1).b 6 ≠ 0 ∧ (queryCmd 1).b 6 ≤ 15 ∧
       ((queryCmd 1).b 6).testBit 2 = false ∧ ((x 2).slot ((queryCmd 1).b 5)).st ≠ 0 ∧ ((x 2).slot ((queryCmd 1).b 5)).st ≠ 1 ∧ (queryCmd 0).b 6 = 0) ∧
    ((go (moveCmd 3) up).startFlight (moveCmd 3)).moveRefusal (moveCmd 3) = some 5 ∧ ((go (moveCmd 1) up).startFlight (moveCmd 1)).moveRefusal (moveCmd 1) = none ∧
    ((go (moveCmd 1) up).startFlight (moveCmd 1)).moveChannel (moveCmd 1) = some 0 :=
  ⟨⟨ready_of (by decide +kernel), ready_of (by decide +kernel), ready_of (by decide +kernel), ready_of (by decide +kernel), ready_of (by decide +kernel),
    ready_of (by decide +kernel)⟩, by decide +kernel, by decide +kernel, by decide +kernel, by decide +kernel⟩

/-- ELEMENT_DIRECT of the auxiliary element 0: `n` codes now, or READ; SPARE_MAP of it; a fabric that has it on channel 0 and a monitor on channel 5. -/
def codesCmd (n : Nat) : Cmd := cmd 0x11 [(5, n), (19, 0xC0)]
def readCmd (kind : Nat) : Cmd := cmd 0x11 [(4, 1), (19, 32 * kind)]
def spareCmd (op : Nat) : Cmd := cmd 0x12 [(4, op), (5, 0xFF), (19, 0xC0)]
def auxElem : Elem := { kind := 6, index := 0, chan := 0, role := 4, range := 0, codeMin := 0, codeMax := 1000, codePark := 0, cls := 0, tone := 0, flags := 0 }
def auxFdr : Fdr :=
  { order := 0, extra := 0, graph := false, ports := 0, cells := 0, auxDrive := 1, auxMon := 0, tiles := 1, elements := [auxElem], topo := [], brzMask := 0, brzAmp := [],
    neigh := [], portEnts := [], park := .allBar, sense := [], terminated := 0, digest := [] }
def auxOn (l : List (Nat × Word)) : State :=
  let s := chan0 auxCh (onR l)
  { s with fab := { s.fab with fdr := some auxFdr }, mon := { s.mon with chans := [(5, { kind := 3, role := 1 })] } }

theorem wit_ElementCommands :
    (Ready (codesCmd 1) 0x11 (go (codesCmd 1) (auxOn [])) ∧ Ready (codesCmd 16) 0x11 (go (codesCmd 16) (auxOn [])) ∧
      Ready (readCmd 6) 0x11 (go (readCmd 6) (auxOn [])) ∧ Ready (readCmd 3) 0x11 (go (readCmd 3) (auxOn [])) ∧
      Ready (spareCmd 0) 0x12 (go (spareCmd 0) (auxOn [])) ∧ Ready (spareCmd 1) 0x12 (go (spareCmd 1) (auxOn []))) ∧
    (let c := codesCmd 16
     let x (s : State) : State := (go c s).startFlight c
     let full : State := { auxOn [] with drv := { (auxOn []).drv with chans := [(0, { auxCh with queue := [1] })] } }
     c.isNow = true ∧ c.b 4 = 0 ∧ 1 ≤ (codesCmd 1).b 5 ∧ c.b 5 ≤ 16 ∧ elKind c = 6 ∧ (x (auxOn [])).drvOf (elKind c) (elIdx c) = some 0 ∧
       (x (auxOn [(Reg.FLT_SAFE, 1)])).heldNow = true ∧ (x (auxOn [(Reg.FLT_SAFE, 1)])).drvOf (elKind c) (elIdx c) = some 0 ∧
       (x (auxOn [])).heldNow = false ∧ (x (auxOn [])).hostMayQueue 0 = true ∧ ((x (auxOn [])).chan 0).queue.length + c.b 5 ≤ 16 ∧
       16 < ((x full).chan 0).queue.length + c.b 5 ∧ (x full).hostMayQueue 0 = true ∧
       (x (auxOn [(Reg.FAB_CTRL, 0)])).hostMayQueue 0 = false ∧ (x (auxOn [(Reg.FAB_CTRL, 0)])).heldNow = false ∧
       (x (auxOn [(Reg.FAB_CTRL, 0)])).drvOf (elKind c) (elIdx c) = some 0) ∧
    ((readCmd 3).b 4 = 1 ∧ 3 ≤ elKind (readCmd 3) ∧ elKind (readCmd 3) ≠ 6 ∧ elKind (readCmd 6) = 6 ∧
      ((go (readCmd 6) (auxOn [])).startFlight (readCmd 6)).servingOf (elKind (readCmd 6)) (elIdx (readCmd 6)) = some 0 ∧
      ((go (readCmd 3) (auxOn [])).startFlight (readCmd 3)).servingOf (elKind (readCmd 3)) (elIdx (readCmd 3)) = some 5) ∧
    (let x (op : Nat) (s : State) : State := (go (spareCmd op) s).startFlight (spareCmd op)
     let k : SpKey := { mon := false, tile := 0, j := 0 }
     let s1 := auxOn [(spReg k, 0x80080000)]
     (spareCmd 0).isNow = true ∧ (x 0 (auxOn [])).padSite 6 0 = some (false, 0, 0) ∧ (spareCmd 0).b 5 = 0xFF ∧
       0 < spFirst { mon := false, tile := 0, j := 99 } ∧ (x 0 (auxOn [])).spTaken { mon := false, tile := 0, j := 99 } 0 = false ∧
       (spEntries false 0).find? (fun k => (x 0 (auxOn [])).spUsable k 0 && !(x 0 (auxOn [])).spEn k && !(x 0 (auxOn [])).spPend k && !(x 0 (auxOn [])).spForce k) = some k ∧
       (spareCmd 1).b 4 = 1 ∧ (spEntries false 0).find? (fun k => ((x 1 s1).spForce k || (x 1 s1).spPend k) && decide ((x 1 s1).fld (spReg k) 7 0 = 0)) = some k ∧
       (x 1 s1).spPend k = false) :=
  ⟨⟨ready_of (by decide +kernel), ready_of (by decide +kernel), ready_of (by decide +kernel), ready_of (by decide +kernel), ready_of (by decide +kernel),
    ready_of (by decide +kernel)⟩, by decide +kernel, by decide +kernel, by decide +kernel⟩

/-- TELEM_CTRL of queue 15 to ring 7 of function 0, DECIM 1, WM 1: EN or not. -/
def telemCmd (flags : Nat) : Cmd := cmd 0x0F [(4, 15), (5, 7), (6, flags), (16, 1), (18, 1)]

theorem wit_TelemControl :
    (Ready (telemCmd 3) 0x0F (go (telemCmd 3) up) ∧ Ready (telemCmd 1) 0x0F (go (telemCmd 1) up) ∧ Ready (telemCmd 0) 0x0F (go (telemCmd 0) up)) ∧
    (let c := telemCmd 3
     let x := started c [] (upR [(Reg.Q_TR_CFG .a 0 7, 0x80000004)])
     c.b 4 ≤ 15 ∧ c.b 5 ≤ 7 ∧ c.b 6 ≤ 3 ∧ c.h 16 ≤ 1024 ∧ c.h 18 ≠ 0 ∧ c.h 18 ≤ 2048 ∧ c.h 20 ≤ 0xFFF ∧ x.rbit (Reg.Q_TR_CFG .a 0 7) 31 = true ∧
       x.rbit (Reg.MON_RQ_CTRL 15) 31 = false ∧ (c.b 6).testBit 0 = true ∧ ((telemCmd 0).b 6).testBit 0 = false) :=
  ⟨⟨ready_of (by decide +kernel), ready_of (by decide +kernel), ready_of (by decide +kernel)⟩, by decide +kernel⟩

theorem test_telem_fits : ((started (telemCmd 3) [] (upR [(Reg.Q_TR_CFG .a 0 7, 0x80000004)])).telemSet (telemCmd 3) []).rqFits 15 = true := by
  let t := (started (telemCmd 3) [] (upR [(Reg.Q_TR_CFG .a 0 7, 0x80000004)])).telemSet (telemCmd 3) []
  show t.rqFits 15 = true
  rw [rqFits_alone _ (by decide +kernel), rqRate_decim_one _ _ (by decide +kernel), show t.rbit (Reg.MON_RQ_CTRL 15) 30 = true by decide +kernel, if_pos rfl]
  have n := List.length_filter_le (fun p => t.rqMapped 15 p) (List.range 6144)
  rw [List.length_range] at n
  generalize ((List.range 6144).filter _).length = x at n ⊢
  exact decide_eq_true (by omega)

theorem test_telem_too_fast :
    ((started (telemCmd 1) [] (rqWide.setReg (Reg.Q_TR_CFG .a 0 7) 0x80000004)).telemSet (telemCmd 1) []).rqFits 15 = false := by
  let t := (started (telemCmd 1) [] (rqWide.setReg (Reg.Q_TR_CFG .a 0 7) 0x80000004)).telemSet (telemCmd 1) []
  show t.rqFits 15 = false
  rw [rqFits_alone _ (by decide +kernel), rqRate_decim_one _ _ (by decide +kernel), show t.rbit (Reg.MON_RQ_CTRL 15) 30 = false by decide +kernel,
    if_neg Bool.false_ne_true]
  have n : 257 ≤ ((List.range 257).filter (fun p => t.rqMapped 15 p)).length := by decide +kernel
  have m := le_trans n (filter_range_le _ (show 257 ≤ 6144 by decide))
  generalize ((List.range 6144).filter _).length = x at m ⊢
  exact decide_eq_false (by omega)

/-- FAULT_CTRL: OP, SOURCE, N and class. -/
def faultCmd (op src : Nat) : Cmd :=
  cmd 0x13 ([(4, op), (16, src % 256), (17, src / 256)] ++ if op = 2 then [(18, 255), (24, 2), (25, 3)] else [])

theorem wit_FaultCommands :
    (Ready (faultCmd 0 27) 0x13 (go (faultCmd 0 27) up) ∧ Ready (faultCmd 0 96) 0x13 (go (faultCmd 0 96) up) ∧
      Ready (faultCmd 1 0xFFFF) 0x13 (go (faultCmd 1 0xFFFF) up) ∧ Ready (faultCmd 1 0xFFFE) 0x13 (go (faultCmd 1 0xFFFE) up) ∧
      Ready (faultCmd 1 27) 0x13 (go (faultCmd 1 27) up) ∧ Ready (faultCmd 2 75) 0x13 (go (faultCmd 2 75) up)) ∧
    (let x (s : State) : State := (go (faultCmd 1 27) s).startFlight (faultCmd 1 27)
     faultReach (faultCmd 0 27) = true ∧ (faultCmd 0 27).h 16 ≠ 0xFFFE ∧ faultReach (faultCmd 0 96) = false ∧ faultReach (faultCmd 0 28) = false ∧
       faultReach (faultCmd 1 27) = true ∧ (x (up.setReg Reg.TKN_STATE 0)).faultToken (faultCmd 1 27) = false ∧ (x up).faultToken (faultCmd 1 0xFFFF) = true ∧
       (faultCmd 1 0xFFFF).h 16 = 0xFFFF ∧ (faultCmd 1 0xFFFE).h 16 = 0xFFFE ∧ (x (upR [(srcReg 27 8, 0x40000000)])).levelOn 27 = true ∧ (x up).levelOn 27 = false ∧
       faultReach (faultCmd 2 75) = true ∧ (x up).faultToken (faultCmd 2 75) = true ∧ (faultCmd 2 75).h 18 ≤ 255 ∧ (faultCmd 2 75).b 24 ≤ 2 ∧ (faultCmd 2 75).b 25 ≤ 3) :=
  ⟨⟨ready_of (by decide +kernel), ready_of (by decide +kernel), ready_of (by decide +kernel), ready_of (by decide +kernel), ready_of (by decide +kernel),
    ready_of (by decide +kernel)⟩, by decide +kernel⟩

/-! ### Witnesses: recorder, replay, token, power -/

/-- REC_CTRL of an operation and a value. -/
def recCmd (op v : Nat) : Cmd := cmd 0x0E [(4, op), (16, v)]

theorem wit_RecorderCommands :
    (Ready (recCmd 0 0) 0x0E (go (recCmd 0 0) up) ∧ Ready (recCmd 1 0) 0x0E (go (recCmd 1 0) up) ∧ Ready (recCmd 2 0) 0x0E (go (recCmd 2 0) up) ∧
      Ready (recCmd 3 112) 0x0E (go (recCmd 3 112) up) ∧ Ready (recCmd 4 1) 0x0E (go (recCmd 4 1) up) ∧ Ready (recCmd 5 15) 0x0E (go (recCmd 5 15) up)) ∧
    (let x (s : State) : State := (go (recCmd 3 112) s).startFlight (recCmd 3 112)
     1 ≤ (recCmd 3 112).q 16 ∧ (recCmd 3 112).q 16 ≤ (match (x up).part with | .wl5128 => 112 | .wl2564 => 48) ∧ (x up).rbit Reg.REC_STATUS 2 = false ∧
       (x (upR [(Reg.REC_STATUS, 4)])).rbit Reg.REC_STATUS 2 = true ∧ (recCmd 4 1).q 16 ≤ 1 ∧ (recCmd 5 15).q 16 ≤ 15) ∧
    (let v : Word := 0x80000000
     let on := upR [(Reg.REC_CTRL, 1)]
     let cold := upR [(Reg.REC_CTRL, 1), (Reg.REC_STATUS, 4)]
     let off := upR [(Reg.REC_CTRL, 0)]
     bit v 31 = true ∧ bit v 30 = false ∧ bit (0x40000000 : Word) 30 = true ∧ bit (0x40000000 : Word) 31 = false ∧ on.holds .a = true ∧
       on.rbit Reg.REC_PULL_STATUS 31 = false ∧ on.rbit Reg.REC_CTRL 0 = true ∧ on.rbit Reg.REC_STATUS 2 = false ∧
       cold.holds .a = true ∧ cold.rbit Reg.REC_PULL_STATUS 31 = false ∧ cold.rbit Reg.REC_STATUS 2 = true ∧ off.rbit Reg.REC_CTRL 0 = false ∧
       off.holds .a = true ∧ off.rbit Reg.REC_PULL_STATUS 31 = false ∧ field v 16 0 = 0) ∧
    (let s : State := { up with recd := { up.recd with postTrig := some (0, 1, 0, 0), pull := some [] } }
     s.recd.postTrig = some (0, 1, 0, 0) ∧ 0 ≤ s.clk ∧ s.recd.pull = some []) :=
  ⟨⟨ready_of (by decide +kernel), ready_of (by decide +kernel), ready_of (by decide +kernel), ready_of (by decide +kernel), ready_of (by decide +kernel),
    ready_of (by decide +kernel)⟩, by decide +kernel, by decide +kernel, by decide +kernel⟩

/-- A bench whose ring holds one block of the given mode: a checkpoint of zeros, whose image is held. -/
def bench (mode : Nat) : State :=
  let b : Block :=
    { unit := .a, mode := mode, bseq := 0, gFirst := 0, gLast := 0, used := 216, tgen := 0, gap := false, freeze := false, lost := 0,
      recs := [{ typ := 0x0B, cont := false, g := 0, payload := List.replicate 144 0 }] }
  let im : Image :=
    { kind := 0, unit := .a, gen := 0, tgen := 0, g := 0, sec := 0, ns := 0, epoch := 0, calGen := 0, active := 0, seq := 0, hash := [], cells := [],
      health := [], spares := [], recSec := [] }
  { upR [(Reg.REC_CTRL, 0), (Reg.REC_RP_FROM, 0), (Reg.REC_RP_FROM_OFF, 8), (Reg.REC_RP_SLOTS_LO, 0), (Reg.REC_RP_SLOTS_HI, 2)] with
    recd := { up.recd with ring := [(0, b)] }
    tkn := { up.tkn with images := [(0, im)] } }

theorem wit_FreezeStops : up.rbit Reg.REC_STATUS 2 = false ∧ (upR [(Reg.REC_STATUS, 4)]).rbit Reg.REC_STATUS 2 = true := by decide +kernel

theorem wit_Replays :
    (let w (v : Word) (s : State) : State := (s.recWrite .a Reg.REC_RP_CTRL v).maskWrite Reg.REC_RP_CTRL 3 v
     let check (s : State) : Nat :=
       let at_ := (s.fld Reg.REC_RP_FROM 16 0, s.fld Reg.REC_RP_FROM_OFF 16 0)
       s.rpCheck (s.recAt at_.1 at_.2) (s.recWhole 64 at_).1
     let v : Word := 0x80000000
     bit v 31 = true ∧ bit v 30 = false ∧ (bench 0).holds .a = true ∧ (w 0x80000001 (bench 0)).rpRefused (bit (0x80000001 : Word) 0) = true ∧
       (w v (bench 0)).rpRefused (bit v 0) = false ∧ check (w v (bench 0)) = 0 ∧ (w v (bench 0)).blockField 0 7 1 ≠ 1 ∧
       (w v (bench 1)).rpRefused (bit v 0) = false ∧ check (w v (bench 1)) = 0 ∧ (w v (bench 1)).blockField 0 7 1 = 1 ∧
       (let none_ : State := { bench 0 with recd := up.recd }
        (w v none_).rpRefused (bit v 0) = false ∧ check (w v none_) ≠ 0)) ∧
    (let s : State := { bench 0 with recd := { (bench 0).recd with replay := true, rpEnd := 2 } }
     bit (0x40000000 : Word) 30 = true ∧ bit (0x40000000 : Word) 31 = false ∧ s.holds .a = true ∧ s.recd.replay = true ∧ s.inReplay = true ∧ s.recd.rpEnd = 2) := by
  decide +kernel

/-- `up` at another clock. -/
def atClk (n : Nat) (s : State) : State := { s with time := { s.time with clk := n } }

theorem wit_TokenClaims :
    (let start := upR [(Reg.TKN_STATE, 1), (Reg.TKN_CFG, 0)]
     let ready := upR [(Reg.TKN_STATE, 0x20800001)]
     let held : State := { up with tkn := { up.tkn with leaseEnd := 1 } }
     bit (1 : Word) 0 ≠ decide (Cu.a = .b) ∧ bit (0 : Word) 0 ≠ decide (Cu.b = .b) ∧ bit (0 : Word) 0 = decide (Cu.a = .b) ∧ up.mayClaim .a = false ∧
       start.mayClaim .a = true ∧ field (0 : Word) 31 16 ≠ start.tgen ∧ field (0x10000 : Word) 31 16 = start.tgen ∧ start.tknState = 0 ∧
       held.holds .a = true ∧ held.clk < held.tkn.leaseEnd ∧ field (0x10000 : Word) 31 16 = held.tgen ∧ held.rbit Reg.TKN_STATUS 2 = false ∧
       ready.holds .a = true ∧ bit (0x10100 : Word) 8 = true ∧ ready.succReady = true ∧ field (0x10100 : Word) 31 16 = ready.tgen) ∧
    (up.holds .a = true ∧ bit (1 : Word) 0 = true ∧ up.gap = false ∧ (upR [(Reg.TKN_STATE, 0x30000001)]).gap = true ∧
      (upR [(Reg.TKN_STATE, 0x30000001)]).holds .a = true) := by decide +kernel

theorem wit_TokenTimers :
    (up.holder = some .a ∧ up.tkn.leaseEnd ≤ up.clk) ∧
    (let s := atClk (clksMs up.imgPeriod) up
     s.holder = some .a ∧ s.tkn.lastSave + clksMs s.imgPeriod ≤ s.clk) ∧
    (let s : State := { atClk (clksMs 10) up with tkn := { up.tkn with eventSave := true } }
     s.holder = some .a ∧ s.tkn.eventSave = true ∧ s.tkn.lastSave + clksMs 10 ≤ s.clk) ∧
    (let s := upR [(Reg.TKN_STATE, 0x40000001)]
     s.tknState = 2 ∧ s.tkn.graceEnd ≤ s.clk) ∧
    (let s := atClk (clksS 1) (upR [(Reg.TKN_STATE, 0x60000001)])
     s.tknState = 3 ∧ s.tkn.freeAt + clksS 1 ≤ s.clk ∧ s.peerFail s.lapsedUnit.peer = false) ∧
    (let s : State := { upR [(Reg.TKN_STATE, 0x80000001)] with tkn := { up.tkn with releaser := .b } }
     s.tknState = 4 ∧ s.tkn.resvEnd ≤ s.clk ∧ s.tknUnit ≠ s.tkn.releaser) := by decide +kernel

theorem wit_UnitBoots :
    let s := atClk (clksMs 150) (up.setUnit .b { up.unit .b with core := .booting 0 })
    (s.unit .b).core = .booting 0 ∧ 0 + clksMs 150 ≤ s.clk := by decide +kernel

/-- `up` with the other unit under rehearsal, or called. -/
def rehOn (succ : Bool) : State := { up with tkn := { up.tkn with rehearsal := some { unit := .b, start := 0, succ := succ, auto := false } } }

theorem wit_Rehearsals :
    (up.holder = some .a ∧ up.holds .a = true ∧ bit (0 : Word) 0 = false ∧ bit (0 : Word) 1 = false ∧ bit (0 : Word) 2 = false ∧
      (upR [(Reg.TKN_STATE, 0x20800001)]).succReady = true ∧ (upR [(Reg.TKN_STATE, 0x20800001)]).holder = some .a) ∧
    ((rehOn true).tkn.rehearsal = some { unit := .b, start := 0, succ := true, auto := false } ∧ bit (1 : Word) 0 = true ∧ field (0xF0000000 : Word) 31 28 ≠ 0 ∧
      bit (0xF0000000 : Word) 0 = false ∧ 0 + clksS 1 ≤ (atClk (clksS 1) (rehOn false)).clk ∧
      (atClk (clksS 1) (rehOn false)).tkn.rehearsal = some { unit := .b, start := 0, succ := false, auto := false }) ∧
    (let s0 := upR [(Reg.TKN_CFG, 0x200), (Reg.TKN_REH_CTRL, 0xFF00)]
     let s := atClk (s0.tkn.rehDue.getD s0.tkn.resetAt + s0.rehPeriod) s0
     s.holder = some .a ∧ s.rbit Reg.TKN_CFG 9 = true ∧ s.rehPeriod ≠ 0 ∧ s.tkn.rehDue.getD s.tkn.resetAt + s.rehPeriod ≤ s.clk) ∧
    (let s (k : TknSt) : State := { upR [(Reg.TKN_CFG, 0x10100)] with tkn := k }
     let rev := s { up.tkn with revertDue := some 0 }
     let wtr := s { up.tkn with wtrEnd := some 0 }
     let busy := s { (rehOn false).tkn with wtrEnd := some 0 }
     rev.tkn.revertDue = some 0 ∧ 0 ≤ rev.clk ∧ rev.reverting = true ∧ wtr.tkn.wtrEnd = some 0 ∧ wtr.reverting = true ∧ wtr.rehRefused = false ∧
       wtr.succReady = false ∧ busy.reverting = true ∧ busy.rehRefused = true) := by decide +kernel

theorem wit_PowerUp :
    State.reset.pwr.por = true ∧
    (let s : State := { State.reset with pwr := { State.reset.pwr with por := false } }
     s.pwr.por = false ∧ s.rbit Reg.PWR_BOOT 0 = false) ∧
    (let s := upR [(Reg.PWR_BOOT, 1)]
     s.baseUp = true ∧ s.pwr.testmode = false ∧ s.rbit Reg.PWR_BOOT 1 = false) ∧
    (let s := upR [(Reg.PWR_BOOT, 3), (Reg.RTE_CACHE_STATUS, 4)]
     s.baseUp = true ∧ s.rbit Reg.PWR_BOOT 1 = true ∧ s.rbit Reg.PWR_BOOT 2 = false ∧ s.rbit Reg.RTE_CACHE_STATUS 2 = true) ∧
    (let s := atClk (clksS 1) (upR [(Reg.PWR_BOOT, 7), (Reg.TKN_STATE, 0)])
     s.baseUp = true ∧ s.rbit Reg.PWR_BOOT 1 = true ∧ s.tknState = 0 ∧ s.rbit Reg.PWR_BOOT 7 = false ∧ s.pwr.t0 + clksS 1 ≤ s.clk) := by decide +kernel

theorem wit_ResetsAndSupplies :
    (up.holds .a = true ∧ field (0xD1E50004 : Word) 31 16 = 0xD1E5 ∧ bit (0xD1E50001 : Word) 2 = false ∧ bit (0xD1E50001 : Word) 0 = true ∧
      bit (0xD1E50001 : Word) 1 = false ∧ field (0xD1E50001 : Word) 31 16 = 0xD1E5 ∧ field (0 : Word) 31 16 ≠ 0xD1E5) ∧
    (let s : State := { up with pwr := { up.pwr with warm := some (2, 0, true) } }
     s.pwr.warm = some (2, 0, true) ∧ s.pwr.relAt ≤ s.clk ∧ s.pwr.low.contains 8 = false) ∧
    (let s : State := { up with fab := { up.fab with downAt := some 0 } }
     s.fab.downAt = some 0 ∧ 0 ≤ s.clk ∧ s.driveDown.pwr.warm = none) ∧
    (up.islandOnly .a = false ∧ up.pwr.por = false ∧ up.time.on = true) ∧
    (let w : State := { up with pwr := { up.pwr with low := up.pwr.low.filter (· ≠ 2) } }
     w.pwr.low.any (fun m => decide (m / 2 = 1)) = false) ∧
    (let s : State := { up with time := { up.time with on := false } }
     s.time.on = false ∧ s.pwr.por = false ∧ s.rbit Reg.PWR_BOOT 0 = true) := by decide +kernel

/-! ### Witnesses: memory, data movers, faults, heat, trust, counters, whole families -/

/-- `up` with the stacked memory so. -/
def memOn (m : MemSt) (l : List (Nat × Word)) : State := { upR l with mem := m }

theorem wit_MemoryScrub :
    (let s := upR [(Reg.MEM_SCRUB, 1)]
     s.stackUp 2 = false ∧ s.stackUp 1 = true ∧ s.fld Reg.MEM_SCRUB 15 0 ≠ 0 ∧ s.isPoison 0 = false ∧
       (s.fld (Reg.MEM_SCRUB_POS 0) 29 0 = 0 ∧ (upR [(Reg.MEM_SCRUB, 0)]).fld Reg.MEM_SCRUB 15 0 = 0)) ∧
    (let s := upR [(Reg.MEM_SCRUB, 1), (Reg.MEM_CTRL, 1)]
     1 ≤ [5].length ∧ [5, 6].length ≤ (if s.rbit Reg.MEM_CTRL 1 then 1 else 2)) ∧
    (let t (s : State) : State :=
       (((s.bump (Reg.MEM_CE_CNT 0) 31 0 1).orReg Reg.MEM_STATUS 2).memErr (lineAddr 0 0) (2 ^ 28 * [5].length) (5 + 256 * 0x7F)).report1 14 0
     let one := t (upR [(Reg.MEM_SCRUB, 1), (Reg.MEM_CTRL, 1), (Reg.MEM_CE_THR, 1)])
     let two := t (upR [(Reg.MEM_SCRUB, 1), (Reg.MEM_CTRL, 1), (Reg.MEM_CE_THR, 2)])
     one.rbit Reg.MEM_CTRL 0 = true ∧ one.rowThr ≤ (one.within (Tab.get [] (rowOf 0 0) one.mem.rowCe)).length ∧
       (two.within (Tab.get [] (rowOf 0 0) two.mem.rowCe)).length < two.rowThr) ∧
    (let s (thr : Word) := memOn { up.mem with meta_ := [(0, 0)] } [(Reg.MEM_SCRUB, 1), (Reg.MEM_CE_THR, thr)]
     let t (s : State) : State :=
       let m := s.metaOf 0
       ((((m.2.setMeta 0 (m.1 + 2 ^ 24)).bump (Reg.MEM_UE_CNT 0) 31 0 1).orReg Reg.MEM_STATUS 4).memErr (lineAddr 0 0) 0x80000000 0x7F7F).report1 15 0
     (s 0x100).isPoison 0 = false ∧ (t (s 0x100)).bankThr ≤ ((t (s 0x100)).within (Tab.get [] (bankOf 0 0) (t (s 0x100)).mem.bankUe)).length ∧
       ((t (s 0x200)).within (Tab.get [] (bankOf 0 0) (t (s 0x200)).mem.bankUe)).length < (t (s 0x200)).bankThr) ∧
    (memOn { up.mem with meta_ := [(0, 2 ^ 24)] } []).isPoison 0 = true := by decide +kernel

theorem wit_MemorySparing :
    (let s := memOn { up.mem with rowCopy := [0], bankCopy := [31], fuses := [.bank 31], meta_ := [(0, 7)], spareBanks := [(15, 0)] } [(Reg.MEM_CTRL, 4)]
     s.mem.rowCopy = [0] ∧ s.mem.bankCopy = [31] ∧ s.mem.fuses = [.bank 31] ∧ s.rbit Reg.MEM_CTRL 2 = true ∧ (upR [(Reg.MEM_CTRL, 0)]).rbit Reg.MEM_CTRL 2 = false ∧
       s.holds .a = true ∧ s.stackUp (field (0x00000F00 : Word) 16 16) = true ∧
       ({ s with pwr := { s.pwr with dramUp := false } } : State).stackUp (field (0x00010000 : Word) 16 16) = false ∧
       (let bank (v : Word) := 32 * (16 * field v 16 16 + field v 11 8) + field v 4 0
        bank 0xF00 ∉ s.mem.bankCopy ∧ Tab.find (16 * field (0xF00 : Word) 16 16 + field (0xF00 : Word) 11 8) s.mem.spareBanks ≠ none ∧
          bank 0xE00 ∉ s.mem.bankCopy ∧ Tab.find (16 * field (0xE00 : Word) 16 16 + field (0xE00 : Word) 11 8) s.mem.spareBanks = none ∧
          ∀ b ∈ s.mem.bankCopy, b / 32 ≠ 16 * field (0xE00 : Word) 16 16 + field (0xE00 : Word) 11 8) ∧
       Tab.find ((s.rnat Reg.MEM_PROBE_LO + 2 ^ 32 * field (0 : Word) 15 0) / 64) s.mem.meta_ = some 7) := by decide +kernel

/-- `up` with unit A's scratchpads so. -/
def spOn (x : SpSt) (l : List (Nat × Word)) : State := (upR l).setUnit .a { up.unit .a with sp := x }

theorem wit_Scratchpads :
    (let v : Word := 0x80000000
     up.islandOnly .a = false ∧ field (0xC0000000 : Word) 31 30 = 3 ∧
       field v 31 30 = ((upR [(Reg.SP_BANK .a 31, 0x80000000)]).maskWrite (Reg.SP_BANK .a 31) 0xF v).spState .a 31 ∧
       field v 31 30 < 3 ∧ field v 31 30 ≠ (up.maskWrite (Reg.SP_BANK .a 31) 0xF v).spState .a 31 ∧
       field (0 : Word) 31 30 ≠ ((upR [(Reg.SP_BANK .a 31, 0x80000000)]).maskWrite (Reg.SP_BANK .a 31) 0xF 0).spState .a 31) ∧
    (31 ∈ ((spOn { change := [31] } []).unit .a).sp.change ∧ 31 ∉ ((spOn { change := [31] } []).unit .a).sp.retireWait) ∧
    (let full := upR [(Reg.SP_RETMAP_A, 0)]
     let on := upR [(Reg.SP_RETMAP_A, 0xFFFFFFFF), (Reg.SP_BANK .a 31, 0x80000000)]
     let off := upR [(Reg.SP_RETMAP_A, 0xFFFFFFFF), (Reg.SP_BANK .a 31, 0)]
     field (31 : Word) 4 0 = 31 ∧ full.islandOnly .a = false ∧ full.freePool .a = none ∧ on.freePool .a = some 0 ∧ on.spServes .a 31 = true ∧
       off.freePool .a = some 0 ∧ off.spServes .a 31 = false ∧ 31 ∉ (off.unit .a).sp.retireWait ∧ (∀ r ∈ (on.unit .a).sp.retiring, r.1 ≠ 31)) ∧
    ((spOn { retiring := [(31, 3)] } []).unit .a).sp.retiring.find? (fun r => decide (r.1 = 31)) = some (31, 3) := by decide +kernel

/-- `up` with channel 15 of unit A's data movers so: elements of 4 bytes. -/
def dmOn (x : DmChan) (l : List (Nat × Word)) : State := (upR ((Reg.DM_ELEM .a 15, 4) :: l)).setDm .a 15 x

theorem wit_DataMoverControl :
    (up.islandOnly .a = false ∧ up.dmChan .a 15 = none ∧ bit (1 : Word) 0 = true ∧ bit (1 : Word) 1 = false ∧ bit (1 : Word) 2 = false ∧ bit (1 : Word) 3 = false ∧
      (upR [(Reg.DM_CFG .a 15, 0x80000000)]).rbit (Reg.DM_CFG .a 15) 30 = false ∧ (upR [(Reg.DM_CFG .a 15, 0x80000000)]).dmHwsrc .a 15 = 0 ∧
      (upR [(Reg.DM_CFG .a 15, 0x10000000)]).dmHwsrc .a 15 ≠ 0 ∧ bit (0x80000000 : Word) 31 = true) := by decide +kernel

theorem wit_DataMoverBits :
    ((dmOn {} []).dmChan .a 15 = some {} ∧ (dmOn { halted := true } []).dmChan .a 15 = some { halted := true } ∧ bit (4 : Word) 2 = true ∧ bit (8 : Word) 3 = true ∧
      bit (2 : Word) 1 = true) := by decide +kernel

theorem wit_DataMoverStretches :
    (let drain (x : DmChan) : State := dmOn x [(Reg.DM_CTL .a 15, 2)]
     let adv (x : DmChan) (d : List Byte) : DmChan := ((drain x).dmAdvance .a 15 x d).1
     let four : List Byte := [1, 2, 3, 4]
     (drain {}).dmMoving .a 15 = some {} ∧ (drain {}).dmDraining .a 15 {} = true ∧ (drain {}).dmTotal .a 15 {} ≤ (adv {} four).moved ∧
       (adv {} []).moved < (drain {}).dmTotal .a 15 {} ∧ (drain { ending := true }).dmMoving .a 15 = some { ending := true } ∧
       (adv { ending := true } []).moved < (drain { ending := true }).dmTotal .a 15 { ending := true } ∧
       (dmOn {} []).dmMoving .a 15 = some {} ∧ (dmOn {} []).dmLeft .a 15 {} ≤ four.length ∧ ([] : List Byte).length < (dmOn {} []).dmLeft .a 15 {} ∧
       (dmOn {} [(Reg.DM_CTRL .a, 0)]).fld (Reg.DM_CTRL .a) 2 0 < 0 + 1 ∧ 0 + 1 ≤ (dmOn {} [(Reg.DM_CTRL .a, 7)]).fld (Reg.DM_CTRL .a) 2 0) := by decide +kernel

theorem wit_DataMoverRequest :
    (let r : DmReq := { src := 1, queue := 0, func := 0, dst := 0, data := [1, 2], gs := [] }
     (dmOn { hw := some r } []).dmMoving .a 15 = some { hw := some r }) := by decide +kernel

theorem wit_DataMoverRetry :
    ((dmOn { retryAt := some 0 } []).dmChan .a 15 = some { retryAt := some 0 } ∧ 0 ≤ (dmOn { retryAt := some 0 } []).clk) := by decide +kernel

/-- Queue 15 has a result to move, and channel 15 is bound to the result queues. -/
def asking : State :=
  { upR [(Reg.DM_CFG .a 15, 0x10000000), (Reg.MON_RQ_CTRL 15, 0x80000000)] with
    mon := { up.mon with queues := [(15, { store := [{ tag := 0, value := 1, g := 0, at_ := 0 }], asked := true })] } }

theorem wit_DataMoverHardware :
    asking.holds .a = true ∧ asking.islandOnly .a = false ∧ asking.dmChan .a 15 = none ∧ asking.dmHwsrc .a 15 = 1 ∧
      (upR [(Reg.DM_CFG .a 15, 0x20000000)]).dmHwsrc .a 15 = 2 ∧ (upR [(Reg.DM_CFG .a 15, 0)]).dmHwsrc .a 15 = 0 :=
  ⟨by decide +kernel, by decide +kernel, by decide +kernel, by decide +kernel, by decide +kernel, by decide +kernel⟩

theorem test_queue_asks : asking.rqNext = some 15 := by decide +kernel

/-- Reports of a source. -/
def repOf (src : Nat) : FaultRep := { src := src, detail := 0 }
def aLog : LogRec :=
  { seq := 0xFFFFFFFF, kind := 0, cls := 0, react := 0, src := 0, ns := 0, sec := 0, tgen := 0, g := 0, total := 0, suppressed := 0, units := 0, temp := 0, detail := 0 }

theorem wit_FaultReports :
    srcExists 27 = true ∧ srcExists 28 = false ∧ up.ofPreferred 27 = false ∧ up.ofPreferred 64 = true ∧ srcExists 64 = true ∧
    (let x := (up.classify 0).classify 1
     srcExists 0 = true ∧ srcExists 1 = true ∧ 2 ≤ x.srcClass 0 ∧ 2 ≤ x.srcClass 1 ∧ x.rbit Reg.FLT_FIRST 31 = false ∧ x.srcClass 0 = x.srcClass 1) ∧
    (let x := (up.classify 0).classify 27
     2 ≤ x.srcClass 27 ∧ x.srcClass 27 < x.srcClass 0 ∧ x.rbit Reg.FLT_FIRST 31 = false) ∧
    (let s : State := { up with flt := { up.flt with buf := [aLog] } }
     s.flt.buf = [aLog]) := by decide +kernel

theorem wit_FaultClasses : srcExists 27 = true ∧ srcExists 75 = true ∧ 2 ≤ (up.classify 27).srcClass 27 := by decide +kernel

theorem wit_FirstRecordIsTheWorst :
    let rs := [repOf 27, repOf 0]
    let x := rs.foldl (fun (t : State) r => t.classify r.src) up
    let hot := (rs.map FaultRep.src).eraseDups.filter (fun a => decide (2 ≤ x.srcClass a))
    (∀ r ∈ rs, srcExists r.src = true) ∧ up.rbit Reg.FLT_FIRST 31 = false ∧ 0 ∈ hot ∧
      (∀ a ∈ hot, x.srcClass a < x.srcClass 0 ∨ (x.srcClass a = x.srcClass 0 ∧ 0 ≤ a)) := by decide +kernel

theorem wit_FaultClears :
    (let a (s : State) : State := s.recWrite .a Reg.FLT_CMD ((0 : Word) ||| 1)
     let safe (l : List (Nat × Word)) : State := { upR ((Reg.FLT_SAFE, 1) :: l) with flt := { up.flt with callers := [5] } }
     up.holds .a = true ∧ bit (0 : Word) 0 = false ∧ bit (0 : Word) 1 = false ∧ bit (0 : Word) 2 = false ∧ (a up).safeState = 0 ∧
       (a (upR [(Reg.FLT_SAFE, 3)])).safeState = 3 ∧ (a (safe [])).safeState ≠ 0 ∧ (a (safe [])).safeState ≠ 3 ∧
       (∀ q ∈ (a (safe [])).flt.callers, (a (safe [])).rbit (srcReg q 8) 31 = false) ∧
       (∃ q ∈ (a (safe [(srcReg 5 8, 0x80000000)])).flt.callers, (a (safe [(srcReg 5 8, 0x80000000)])).rbit (srcReg q 8) 31 = true)) ∧
    (srcExists 27 = true ∧ bit (1 : Word) 0 = true ∧ (up.recWrite .a (Reg.FLT_SRC_CLR 27) 1).levelOn 27 = false ∧
      ((upR [(srcReg 27 8, 0x40000000)]).recWrite .a (Reg.FLT_SRC_CLR 27) 1).levelOn 27 = true ∧ srcExists 64 = true ∧ srcExists 107 = true ∧
      (if 64 < 96 then Cu.a else Cu.b) = .a ∧ (if 107 < 96 then Cu.a else Cu.b) = .b ∧ up.levelOn 64 = false ∧ (upR [(srcReg 64 8, 0x40000000)]).levelOn 64 = true) := by
  decide +kernel

/-- `up` at a slot of the housekeeping round, with an injected conversion that is pending. -/
def slotAt' (k : Nat) (inj : Option (Nat × Bool)) (l : List (Nat × Word)) : State := { upR l with thm := { up.thm with slot := k, inj := inj } }

theorem wit_HousekeepingSlots :
    (up.rbit Reg.PWR_BOOT 0 = true ∧ up.inReplay = false ∧ 192 ≤ (slotAt' 192 none []).thm.slot ∧ up.thm.slot < 192 ∧ (143 < 144) ∧
      (slotAt' 165 none []).part = .wl5128) ∧
    (let s : State := { slotAt' 144 none [(Reg.SITE_CTRL, 2)] with fab := { up.fab with fdr := some { auxFdr with sense := [(0, 100)] } } }
     s.thm.slot = 144 ∧ s.slotFree 144 = false) ∧
    (let s := slotAt' 191 (some (7, true)) [(Reg.CAL_STATUS, 1)]
     s.thm.slot = 191 ∧ s.thm.inj = some (7, true) ∧ s.rbit Reg.CAL_STATUS 0 = true ∧ (slotAt' 176 (some (7, true)) []).rbit Reg.CAL_STATUS 0 = false ∧
       (slotAt' 176 none []).thm.inj = none ∧ up.holds .a = true ∧ (slotAt' 0 (some (7, false)) []).thm.inj ≠ none) := by decide +kernel

theorem wit_HousekeepingRounds :
    (up.rbit Reg.PWR_BOOT 0 = true ∧ up.inReplay = false ∧ (upR [(Reg.PWR_BOOT, 0)]).rbit Reg.PWR_BOOT 0 = false) ∧
    (up.holds .a = true ∧ bit (143 : Word) 30 = false ∧ field (143 : Word) 7 0 < 144 ∧ 144 ≤ field (144 : Word) 7 0 ∧ bit (144 : Word) 30 = false ∧
      bit (0 : Word) 31 = false) ∧
    (let t (p : Word) : State := (up.recWrite .a Reg.THM_CMD (putBit p 30 true)).clrReg (Reg.THM_PSUSPECT (field p 6 0 / 32)) (2 ^ (field p 6 0 % 32))
     (t 127).diodeReg (144 + field (127 : Word) 6 0) = none ∧ (t 15).diodeReg (144 + field (15 : Word) 6 0) = some (Reg.HK_VALUE 159)) := by decide +kernel

theorem wit_ThermalJudgement :
    (3 ≤ 3 ∧ 0 ≤ 3 ∧ 0 ≤ 0 ∧ (2 ≤ 2 ∧ 2 ≤ 2 ∧ true = true) ∧ ({ deep := 2 } : ThmDom).deep = 2 ∧ ({} : ThmDom).deep < 2) ∧
    (2 < 3 ∧ ({} : ThmDom).dir ≠ 1 ∧ ({ dir := 1, us := [2, 3] } : ThmDom).us = [2, 3] ∧ 2 ≤ 3) ∧
    (0 ≤ 2 ∧ 1 < 2 ∧ ({ dir := 2, us := [0, 1], level := 1 } : ThmDom).level ≤ 1 ∧ 1 < ({ dir := 2, us := [0, 1], level := 2 } : ThmDom).level) := by decide

/-- FW_STAGE of an operation for both units; ATTEST to a buffer of `len` bytes; a firmware header. -/
def fwCmd (op len : Nat) : Cmd := cmd 0x16 [(4, op), (5, if op = 1 then 3 else 0), (16, if op = 0 then 64 else 0), (24, len % 256), (25, len / 256)]
def attestCmd (fresh len : Nat) : Cmd := cmd 0x15 [(4, fresh), (48, 64), (56, len % 256), (57, len / 256)]
def secOn (f : Option FlashJob) (staged : Option (List Byte × Nat × Nat)) (banks : List (Nat × List Byte)) (b : Nat) : State :=
  { up with sec := { up.sec with flash := f, staged := staged, banks := banks, primaryA := 0, primaryB := b } }

theorem wit_FirmwareAndAttestation :
    (Ready (fwCmd 0 4) 0x16 (go (fwCmd 0 4) up) ∧ Ready (fwCmd 1 0) 0x16 (go (fwCmd 1 0) up) ∧ Ready (fwCmd 2 0) 0x16 (go (fwCmd 2 0) up) ∧
      Ready (attestCmd 0 3823) 0x15 (go (attestCmd 0 3823) up) ∧ Ready (attestCmd 1 3824) 0x15 (go (attestCmd 1 3824) up) ∧
      Ready (attestCmd 0 3824) 0x15 (go (attestCmd 0 3824) up)) ∧
    (let c := fwCmd 0 4
     c.b 4 = 0 ∧ c.w 24 ≤ 0x800000 ∧ (started c [] (secOn (some (.activate c 1 3)) none [] 0)).sec.flash = some (.activate c 1 3) ∧
       (started c [] up).sec.flash = none ∧ (((go c up).startFlight c).recReads c (.failed 0)).sec.flash = none ∧
       (started c [] up).imgCheck (fit (c.w 24) []) false ≠ 0) ∧
    (let c := fwCmd 1 0
     let x (s : State) : State := (go c s).startFlight c
     let st (code : Nat) := some (([] : List Byte), 8192, code)
     c.b 4 = 1 ∧ c.b 5 % 4 ≠ 0 ∧ (x (secOn none (st 6) [] 0)).sec.staged = st 6 ∧ (x (secOn none (st 0) [] 0)).sec.staged = st 0 ∧
       (x (secOn none (st 0) [] 0)).sec.flash = none ∧ (x (secOn none (st 0) [] 0)).sec.primaryA = (x (secOn none (st 0) [] 0)).sec.primaryB ∧
       (x (secOn none (st 0) [] 1)).sec.primaryA ≠ (x (secOn none (st 0) [] 1)).sec.primaryB ∧
       (x (secOn none (st 0) [] 0)).bankHdr 0 = none ∧ (x (secOn none (st 0) [] 0)).bankHdr 1 = none ∧
       (x (secOn none (st 0) [(0, [])] 0)).bankHdr 0 = some [] ∧ (fwCmd 2 0).b 4 = 2 ∧
       (secOn (some (.activate c 1 3)) (st 0) [] 0).sec.flash = some (.activate c 1 3) ∧ (secOn (some (.activate c 1 3)) (st 0) [] 0).sec.staged = st 0 ∧
       16 % 16 = 0 ∧ 7 % 16 ≠ 0) ∧
    ((attestCmd 0 3823).w 56 < 3824 ∧ 3824 ≤ (attestCmd 1 3824).w 56 ∧ ((attestCmd 1 3824).b 4).testBit 0 = true ∧ ((attestCmd 0 3824).b 4).testBit 0 = false) :=
  ⟨⟨ready_of (by decide +kernel), ready_of (by decide +kernel), ready_of (by decide +kernel), ready_of (by decide +kernel), ready_of (by decide +kernel),
    ready_of (by decide +kernel)⟩, by decide +kernel, by decide +kernel, by decide +kernel⟩

/-- Where bank 0's header is the staged one, bank 0 holds it; where no bank shows a header, none does. -/
theorem test_held (s : State) (hdr : List Byte) (h : s.bankHdr 0 = some hdr) :
    [0, 1].find? (fun b => decide ((s.bankHdr b).map measureOf = some (measureOf hdr))) = some 0 := by simp [h]

theorem test_not_held (s : State) (hdr : List Byte) (h0 : s.bankHdr 0 = none) (h1 : s.bankHdr 1 = none) :
    [0, 1].find? (fun b => decide ((s.bankHdr b).map measureOf = some (measureOf hdr))) = none := by simp [h0, h1]

theorem wit_StagedImageDiscarded : Ready (fwCmd 2 0) 0x16 (go (fwCmd 2 0) up) ∧ (fwCmd 2 0).b 4 = 2 := ⟨ready_of (by decide +kernel), by decide⟩

theorem wit_FieldAccess :
    (up.islandOnly .a = false ∧ (2 : Word) &&& 0x7C = 0 ∧ bit (2 : Word) 1 = true ∧ (0x104 : Word) &&& 0x7A = 0 ∧ bit (0x104 : Word) 2 = true ∧
      field (0x104 : Word) 11 8 = 1 ∧ field (0x304 : Word) 11 8 = 3 ∧ (0x108 : Word) &&& 0x76 = 0 ∧ bit (0x108 : Word) 3 = true ∧ field (0x108 : Word) 11 8 = 1 ∧
      (0xF10 : Word) &&& 0x6E = 0 ∧ bit (0xF10 : Word) 4 = true ∧ field (0xF10 : Word) 11 8 = 15 ∧ field (0x310 : Word) 11 8 < 4 ∧
      (0x20 : Word) &&& 0x5E = 0 ∧ bit (0x20 : Word) 5 = true ∧ (0x40 : Word) &&& 0x3E = 0 ∧ bit (0x40 : Word) 6 = true) ∧
    (let s := up.setUnit .a { up.unit .a with sec := { nonce := some (1, 0) } }
     (s.unit .a).sec.nonce = some (1, 0) ∧ 0 + clksS 60 ≤ (atClk (clksS 60) s).clk ∧ ((atClk (clksS 60) s).unit .a).sec.nonce = some (1, 0)) ∧
    (let hdr : List Byte := List.replicate 12 0 ++ [5, 0, 0, 0]
     let n (s : State) : Nat := min (match Tab.find s.sec.primaryA s.sec.banks with | some h => le h 0x0C 4 | none => 0) 64
     up.holds .b = false ∧ (secOn none none [] 1).sec.primaryA ≠ (secOn none none [] 1).sec.primaryB ∧ (secOn none none [] 0).holds .a = true ∧
       (secOn none none [] 0).sec.primaryA = (secOn none none [] 0).sec.primaryB ∧ (secOn none none [] 0).sec.flash = none ∧
       n (secOn none none [] 0) ≤ (secOn none none [] 0).sec.floor ∧ (secOn none none [(0, hdr)] 0).sec.floor < n (secOn none none [(0, hdr)] 0) ∧
       Tab.find (1 - (secOn none none [(0, hdr)] 0).sec.primaryA) (secOn none none [(0, hdr)] 0).sec.banks = none) ∧
    (let s := upR [(Reg.SEC_SCOPE .a, 1)]
     s.enrolled = false ∧ s.holds .a = true ∧ s.rbit (Reg.SEC_SCOPE .a) 0 = true ∧ s.sec.flash = none ∧
       ((byteAt (s.bufBytes .a 0x7E0 1) 0) / 2 % 8 * 2 + 1).testBit 3 = false) ∧
    (secOn (some (.floor .a 64)) none [] 0).sec.flash = some (.floor .a 64) := by decide +kernel

theorem wit_CounterCommands :
    (bit (0 : Word) 31 = false ∧ (upR [(Reg.PMC_CTRL .a, 0)]).pmcOn .a = false ∧ (upR [(Reg.PMC_CTRL .a, 1)]).pmcOn .a = true ∧
      ((upR [(Reg.PMC_CTRL .a, 1)]).pmcSettle .a).reg (Reg.PMC_CNT .a 255) ≠ 5 ∧ ((upR [(Reg.PMC_CTRL .a, 1)]).pmcSettle .a).reg (Reg.PMC_CNT .a 255) = 0 ∧
      pmcEvtOk .a 0x0C = true ∧ pmcEvtOk .a 0x0D = false ∧ pmcEvtOk .a 0xFF10 = true ∧ pmcEvtOk .a 0x1010 = false) ∧
    (let s := upR [(Reg.PMC_WIN_CTRL .a, 0x80000000)]
     s.rbit (Reg.PMC_WIN_CTRL .a) 31 = true ∧ s.time.g % s.winTicks .a = 0 ∧ s.clk = s.time.lastTick ∧ up.rbit (Reg.PMC_WIN_CTRL .a) 31 = false) := by
  decide +kernel

theorem wit_CounterCarries :
    let s := upR [(Reg.PMC_CNT .a 254, 0xFFFFFFFF), (Reg.PMC_EVT .a 254, 0x80000000), (Reg.PMC_CNT .a 255, 0xFFFFFFFF)]
    254 % 2 = 0 ∧ bit (s.reg (Reg.PMC_EVT .a 254)) 31 = true ∧ 2 ^ 32 ≤ s.rnat (Reg.PMC_CNT .a 255) + 1 ∧ bit (s.reg (Reg.PMC_EVT .a 255)) 31 = false ∧
      s.rnat (Reg.PMC_CNT .a 254) + 0 < 2 ^ 32 := by decide +kernel

theorem wit_NonHolderWritesDropped :
    up.holds .b = false ∧ 15359 < 240 * up.part.tiles ∧ 6143 < 96 * up.part.tiles ∧ 63 < up.part.tiles := by decide +kernel

theorem wit_RefusedDescriptors :
    (let s := go (cmd 2 []) (up.setReg Reg.TKN_STATE 0)
     s.waiting (cmd 2 []) = true ∧ (s.startFlight (cmd 2 [])).descCheck (cmd 2 []) = some (4, 0) ∧ check3 (cmd 2 []).desc = true ∧
       s.islandOnly .a = false ∧ needsToken (cmd 2 []).desc = true ∧ s.holds .a = false) ∧
    (let s := go (cmd 0x7F []) up
     s.waiting (cmd 0x7F []) = true ∧ (s.startFlight (cmd 0x7F [])).descCheck (cmd 0x7F []) = some (5, 0)) := by decide +kernel

theorem wit_RegisterFrames : up.holds .a = true ∧ bit (0 : Word) 0 = false ∧ bit (0 : Word) 2 = false ∧ (∃ t, exec (.drtCommit .a 1) up = .next t) :=
  ⟨by decide +kernel, by decide, by decide, _, rfl⟩

theorem wit_MemoryFrames : (∃ t, exec (.pmcFreeze .a 0) up = .next t) ∧ (∃ t, exec (.memProbe .a 0) up = .next t) := ⟨⟨_, rfl⟩, ⟨_, rfl⟩⟩

/-! ### Well-formedness: an ill-formed command for every check, at the first value out of range -/

/-- A descriptor of 64 bytes, and one of 63. -/
def okCmd : Cmd := cmd 1 []
def shortCmd : Cmd := { okCmd with desc := List.replicate 63 0 }

theorem test_cmd_wf :
    okCmd.wf = true ∧ shortCmd.wf = false ∧ ({ okCmd with func := 16 } : Cmd).wf = false ∧ ({ okCmd with sq := 64 } : Cmd).wf = false ∧
      (Via.desc shortCmd).wf = false ∧ (Via.reg .a 0).wf = true ∧ (acc 0 4).wf = true ∧ (acc 0 0).wf = false ∧
      ({ acc 0 4 with func := 16 } : Access).wf = false ∧ ({ acc 0 4 with bar := 6 } : Access).wf = false := by decide +kernel

theorem test_ill_formed_refused :
    ([
    .healthMarkWrite .a 608 0, .drvQueueWrite .a 15360 0, .drvQueueFlush .a 15360 0, .drvSlewWrite .a 15360 0, .drvCountClear .a 64 0,
    .preEmphasisEnd 15360, .drvSpareRequest .a 64 0 0, .drvSpareRequest .a 0 12 0, .drvSpareRelease .a 64 0 0, .drvSpareRelease .a 0 12 0,
    .drvSpareTrackingDone 64 0 false, .drvSpareTrackingDone 0 12 false, .resultQueueAgeExpiry 16, .monCfgWrite .a 6144 0, .monInjectStart .a 64 0,
    .monInjectStop .a 64 0, .monCountClear .a 64 0, .resultQueueEnable .a 16 0, .resultQueueDisable .a 16 0, .monSpareRequest .a 64 0 0,
    .monSpareRequest .a 0 4 0, .monSpareRelease .a 64 0 0, .monSpareRelease .a 0 4 0, .monSpareReadinessDone 64 0 false,
    .monSpareReadinessDone 0 4 false, .monPortCfgWrite .a 512 false false 0, .routeLookup shortCmd (.bytes []) [],
    .routePreload shortCmd (.bytes []) [], .routeSolve shortCmd (.bytes []), .routeInvalidate shortCmd (.bytes []), .routeFlush shortCmd,
    .routeRehash shortCmd, .mapBaste shortCmd (.bytes []) [], .gust shortCmd, .trigInEdge 4 0, .trigInEdge 0 64, .loopModeManual shortCmd,
    .loopModeAuto shortCmd, .loopCellModeWrite .a 4864 0, .clrStrike .a 4864 0, .loopClassWrite .a 16 0 0, .loopClassWrite .a 0 64 0,
    .loopSet shortCmd, .squallStart (.desc shortCmd), .drtTauWrite .a 3 0, .ppsEdge 64, .schedLoad shortCmd (.bytes []),
    .schedCommit (.desc shortCmd), .schedStop (.desc shortCmd), .schedStopAtEnd (.desc shortCmd), .schedCancel (.desc shortCmd), .timePulse shortCmd,
    .toutEnable .a 4 0, .toutPulse 4, .calRun shortCmd, .calSetLoad shortCmd (.bytes []), .charTable shortCmd, .charCoupling shortCmd (.bytes []),
    .charTrimSweep shortCmd (.bytes []), .charThrowSweep shortCmd (.bytes []), .flrVf .a 16, .d3hotEntry .a 16, .d3hotExit .a 16,
    .registerWrite (acc 0 0) 0, .badAccessRead (acc 0 0), .latchingRead (acc 0 0), .clearOnRead (acc 0 0)] : List Instr).all (fun i => !i.wf) = true := by decide +kernel

theorem test_ill_formed_refused_more :
    ([
    .descriptorFetch .a 16 0 [] 0, .descriptorFetch .a 0 64 [] 0, .completionPost .a 16 0 0, .completionPost .a 0 64 0, .ringInterruptTimer .a 16 64,
    .ringInterruptTimer .a 0 137, .ringInterruptTimer .a 0 63, .functionEnable .a 16 0, .functionDisable .a 16 0, .sqEnable .a 16 0 0 0,
    .sqEnable .a 0 64 0 0, .sqDisable .a 16 0 0, .sqDisable .a 0 64 0, .cqEnable .a 16 0 0, .cqEnable .a 0 64 0, .cqDisable .a 16 0 0,
    .cqDisable .a 0 64 0, .eqEnable .a 16 0, .trEnable .a 16 0 0, .trEnable .a 0 8 0, .qCountClear .a 16 0, .nop shortCmd, .mapQuery shortCmd,
    .move shortCmd, .telemCtrl shortCmd (.bytes []), .elementDirectCodes shortCmd, .elementDirectRead shortCmd, .spareMapSubstitute shortCmd,
    .spareMapRelease shortCmd, .faultCtrlRead shortCmd, .faultCtrlClear shortCmd, .faultCtrlConfig shortCmd, .stateSave shortCmd, .attest shortCmd,
    .fwStageStage shortCmd (.bytes []), .fwStageActivate shortCmd, .fwStageDiscard shortCmd, .recCtrlStatus shortCmd, .recFreeze (.desc shortCmd),
    .recRelease (.desc shortCmd), .recSizeSet shortCmd, .recModeSet shortCmd, .recTriggersSet shortCmd, .leaseExpiry 3, .unitBootFail .a 4,
    .dramScrub 2 .clean, .spPstateWrite .a 32 0, .spPstateDone .a 32, .spOwnerWrite .a 32 0, .spRetireDone .a 32 [], .dmStart .a 16 0,
    .dmPause .a 16 0, .dmPaused .a 16 [], .dmUnpause .a 16 0, .dmResume .a 16 0, .dmEnd .a 16 0, .dmBurstFail .a 16 [] 0 0, .dmRetryTimer .a 16,
    .dmPoisonHalt .a 16 [] 0, .dmTransferDone .a 16 [], .dmHwRequest .a 16, .dmHwWithdraw .a 16 none, .fltSrcClr .a 128 0, .pmcCntWrite .a 256 0,
    .pmcEvtWrite .a 256 0, .pmcCounterWrap .a 256, .toutPulseEnd 4] : List Instr).all (fun i => !i.wf) = true := by decide +kernel

theorem test_in_range_accepted :
    ([
    .healthMarkWrite .a 0 0, .drvQueueWrite .a 0 0, .drvQueueFlush .a 0 0, .drvSlewWrite .a 0 0, .drvCountClear .a 0 0, .preEmphasisEnd 0,
    .drvSpareRequest .a 0 0 0, .drvSpareRelease .a 0 0 0, .drvSpareTrackingDone 0 0 false, .resultQueueAgeExpiry 0, .monCfgWrite .a 0 0,
    .monInjectStart .a 0 0, .monInjectStop .a 0 0, .monCountClear .a 0 0, .resultQueueEnable .a 0 0, .resultQueueDisable .a 0 0,
    .monSpareRequest .a 0 0 0, .monSpareRelease .a 0 0 0, .monSpareReadinessDone 0 0 false, .monPortCfgWrite .a 0 false false 0,
    .routeLookup okCmd (.bytes []) [], .routePreload okCmd (.bytes []) [], .routeSolve okCmd (.bytes []), .routeInvalidate okCmd (.bytes []),
    .routeFlush okCmd, .routeRehash okCmd, .mapBaste okCmd (.bytes []) [], .gust okCmd, .trigInEdge 0 0, .loopModeManual okCmd, .loopModeAuto okCmd,
    .loopCellModeWrite .a 0 0, .clrStrike .a 0 0, .loopClassWrite .a 0 0 0, .loopSet okCmd, .squallStart (.desc okCmd), .drtTauWrite .a 0 0,
    .ppsEdge 0, .schedLoad okCmd (.bytes []), .schedCommit (.desc okCmd), .schedStop (.desc okCmd), .schedStopAtEnd (.desc okCmd),
    .schedCancel (.desc okCmd), .timePulse okCmd, .toutEnable .a 0 0, .toutPulse 0, .calRun okCmd, .calSetLoad okCmd (.bytes []), .charTable okCmd,
    .charCoupling okCmd (.bytes []), .charTrimSweep okCmd (.bytes []), .charThrowSweep okCmd (.bytes []), .flrVf .a 0, .d3hotEntry .a 0,
    .d3hotExit .a 0, .registerWrite (acc 0 4) 0, .badAccessRead (acc 0 4), .latchingRead (acc 0 4), .clearOnRead (acc 0 4),
    .descriptorFetch .a 0 0 [] 0, .completionPost .a 0 0 0, .ringInterruptTimer .a 0 64, .functionEnable .a 0 0, .functionDisable .a 0 0,
    .sqEnable .a 0 0 0 0, .sqDisable .a 0 0 0, .cqEnable .a 0 0 0, .cqDisable .a 0 0 0, .eqEnable .a 0 0, .trEnable .a 0 0 0, .qCountClear .a 0 0,
    .nop okCmd, .mapQuery okCmd, .move okCmd, .telemCtrl okCmd (.bytes []), .elementDirectCodes okCmd, .elementDirectRead okCmd,
    .spareMapSubstitute okCmd, .spareMapRelease okCmd, .faultCtrlRead okCmd, .faultCtrlClear okCmd, .faultCtrlConfig okCmd, .stateSave okCmd,
    .attest okCmd, .fwStageStage okCmd (.bytes []), .fwStageActivate okCmd, .fwStageDiscard okCmd, .recCtrlStatus okCmd, .recFreeze (.desc okCmd),
    .recRelease (.desc okCmd), .recSizeSet okCmd, .recModeSet okCmd, .recTriggersSet okCmd, .leaseExpiry 0, .unitBootFail .a 0, .dramScrub 0 .clean,
    .spPstateWrite .a 0 0, .spPstateDone .a 0, .spOwnerWrite .a 0 0, .spRetireDone .a 0 [], .dmStart .a 0 0, .dmPause .a 0 0, .dmPaused .a 0 [],
    .dmUnpause .a 0 0, .dmResume .a 0 0, .dmEnd .a 0 0, .dmBurstFail .a 0 [] 0 0, .dmRetryTimer .a 0, .dmPoisonHalt .a 0 [] 0,
    .dmTransferDone .a 0 [], .dmHwRequest .a 0, .dmHwWithdraw .a 0 none, .fltSrcClr .a 0 0, .pmcCntWrite .a 0 0, .pmcEvtWrite .a 0 0,
    .pmcCounterWrap .a 0, .toutPulseEnd 0] : List Instr).all Instr.wf = true := by decide +kernel

/-! ### The spec's own worked examples -/

/-- Class 3 of the loop examples. -/
def class3 : ClsVals :=
  { kp := 384502, ki := 35492, kd := 0, delay := 0, lullSh := 2, demodSh := 0, dfSh := 0, sh := 8, amp := 1200, floor := 0, dimDb := 0, hlth0 := 0, hlth1 := 0, residFs := 0 }

/-- "One loop instant on cell 3,000" (07, after R226): the code outside a Lull and in one, and the integrator. -/
theorem test_loop_instant :
    (loopLaw class3 { i := 1402470400 } 1200 false false 0 60000).2 = (21430, false) ∧
    (loopLaw class3 { i := 1402470400 } 1200 false true 0 60000).2 = (21408, false) ∧
    (loopLaw class3 { i := 1402470400 } 1200 false false 0 60000).1.i = 1402470400 + 166368 := by decide +kernel

/-- The limits of R225: 1,200 and 58,800 of a code from 0 to 60,000; the integrator moves inward only. -/
theorem test_loop_saturates :
    (loopLaw class3 { i := 58800 * 65536 } 1200 false false 0 60000).2 = (58800, true) ∧
    (loopLaw class3 { i := 58800 * 65536 } 1200 false false 0 60000).1.i = 58800 * 65536 ∧
    (loopLaw class3 { i := 1200 * 65536 } (-1200) false false 0 60000).2 = (1200, true) := by decide +kernel

/-- "A Squall of class 3 on three cells" (07, after R237). -/
theorem test_squall_proposal :
    let x (a t : Nat) : SqCell := { cell := 0, prevMode := 0, b := 0, level := 0, inst := 0, rises := [], lo := 0, hi := 0, result := 1, tu16 := t, amp := a }
    (kpOf 200 8 (x 5000 208), kiOf 200 8 (x 5000 208)) = (384502, 35492) ∧ (kpOf 200 8 (x 4800 200), kiOf 200 8 (x 4800 200)) = (400523, 38450) ∧
      (kpOf 200 8 (x 5300 216), kiOf 200 8 (x 5300 216)) = (362738, 32243) := by decide +kernel

/-- R275's example: e of +300,000 ps and FSH 3. -/
theorem test_slew :
    let t := slew 300000 (upR [(Reg.TIM_CTRL, 3), (Reg.TIM_SLEW, 0x030186A0), (Reg.TIM_FREQ, 0)])
    t.freq = -787 ∧ t.time.ph = -6291 ∧ t.time.phLeft = 204800000 := by decide +kernel

/-- "Breeze on trim A of cell 3,000, tone 10" (03, after R101). -/
theorem test_breeze :
    brzStart true 3000 = 437940216 ∧ brzInc 10 = 8053064 ∧ Maths.sineTab 425 = 19901 := by decide +kernel

theorem test_breeze_dither : breeze (437940216 + 8053064) 1200 = 729 := by decide +kernel

/-- "A neighbour throw energised next to cell 3,000" (08): the responses W and the interpolated coefficients. -/
theorem test_draught_response :
    [Maths.response 8000 0, Maths.response 8000 5, Maths.response 60000 0, Maths.response 60000 5, Maths.response 500000 0, Maths.response 500000 5,
      Maths.response 500000 199] = [15229, 32734, 2620, 19666, 326, 3413, 32162] := by decide +kernel

theorem test_draught_coefficients :
    [lerp 4000 (-20) 5500 (-26) 4600, lerp 4000 (-60) 5500 (-66) 4600, lerp 4000 (-110) 5500 (-125) 4600] = [-23, -63, -116] := by decide

/-- "Calibrating trim A of cell 3,000 in service" (10): GAIN and OFFSET of each pass and of the mean, and the correction at 46.00 °C. -/
theorem test_drive_calibration :
    [drvCalOf 1 4150000 61838400, drvCalOf 1 4150400 61839000, drvCalOf 2 8300400 123677400] = [(16286, -29), (16286, -30), (16286, -29)] := by decide +kernel

theorem test_correction_at_46 : (lerp 4120 16286 5460 16270 4600, lerp 4120 (-29) 5460 (-35) 4600) = (16280, -32) := by decide

/-- "Dark rule on a 16-port fabric" (01, R24): input 2 goes to output 5 and input 14 to output 9. -/
theorem test_dark_rule :
    let map : List Nat := [0, 1, 3, 4, 5, 0x3FF, 6, 7, 8, 0x3FF, 9, 10, 11, 12, 13, 15]
    ((Benes.complete 16 map 0).getD 5 0, (Benes.complete 16 map 0).getD 9 0) = (2, 14) := by decide

/-- "Outer level of a 16-port solve" (05, after R160): bytes 0 and 6 of the vector, and where input 5 goes. -/
def exampleMap : List Nat := [5, 12, 0, 9, 14, 3, 7, 10, 1, 15, 6, 2, 11, 4, 8, 13]

theorem test_solve :
    let r := Benes.solve { n := 4, e := 0 } [] exampleMap
    r.verdict = 0 ∧ r.vec % 256 = 0x7D ∧ r.vec / 2 ^ 48 % 256 = 0xA2 ∧ (Benes.path { n := 4, e := 0 } r.vec 5).2 = 0 ∧
      r.vec / 2 ^ 8 % 16 = 0xC ∧ r.vec / 2 ^ 40 % 16 = 0 := by decide +kernel

/-- The same with cell 1 STUCK_CROSS: the outer loop is turned over. -/
theorem test_solve_stuck :
    let r := Benes.solve { n := 4, e := 0 } [(1, 4)] exampleMap
    r.verdict = 0 ∧ r.vec % 256 = 0x82 ∧ r.vec / 2 ^ 48 % 256 = 0x5D := by decide +kernel

/-- "Three queues of one function sharing the engine" (12, after R374): the first five grants, and SQ 2's start from V. -/
def threeQueues : State :=
  let q (t : Nat) : Sq := { eligible := true, finTag := t }
  (upR [(Reg.Q_SQ_CFG .a 0 0, 0x80040000), (Reg.Q_SQ_CFG .a 0 1, 0x80010000), (Reg.Q_SQ_CFG .a 0 2, 0x80020000)]).setFn .a 0
    { eligible := true, sqs := [(0, q 262144), (1, q 1048576)] }

def grantOnce (x : List Nat × State) : List Nat × State :=
  match x.2.grantee .a with
  | some (f, q) => (x.1 ++ [q], x.2.chargeTags .a f q)
  | none => x

theorem test_grants :
    let r := grantOnce (grantOnce (grantOnce (grantOnce (grantOnce ([], threeQueues)))))
    r.1 = [0, 0, 0, 0, 1] ∧ (r.2.fn .a 0).vtime = 3 * 262144 ∧ (r.2.sq .a 0 0).finTag = 5 * 262144 ∧ (r.2.sq .a 0 1).finTag = 8 * 262144 := by decide +kernel

theorem test_grants_go_on :
    let r := grantOnce (grantOnce (grantOnce (grantOnce (grantOnce ([], threeQueues)))))
    let s := r.2.setSq .a 0 2 { eligible := true, startTag := 3 * 262144, finTag := 5 * 262144 }
    (grantOnce (grantOnce (grantOnce (grantOnce (grantOnce (grantOnce (grantOnce ([], s)))))))).1 = [0, 2, 0, 0, 2, 0, 1] := by decide +kernel

/-- "A schedule started in the past" (09, R290). -/
theorem test_schedule_start :
    schedStart 1700000000000000000 100000 1700000005123456789 = (1700000005123600000, 51236) := by decide

/-- "Extending a stamp" (09, R283): the low half of 1,700,000,005 s 123,600,000 ns. -/
theorem test_stamp : 1700000005123600000 % 2 ^ 32 = 0x678DEE80 ∧ (word 1700000005500000003).toNat = 0x7DFD5703 := by decide

/-- "Element Address of a trim arm" (00, after R10): trim B of cell 1,234 served by the spare channel 4,070. -/
theorem test_element_address :
    ({ up with drv := { up.drv with chans := [(4070, { kind := 1, elem := 1234, role := 1, partner := some 4 })] } } : State).elemAddr 1 1234 = 0x24D20FE6 ∧
    ({ up with drv := { up.drv with chans := [(3844, { kind := 1, elem := 1234, role := 1 })] } } : State).elemAddr 1 1234 = 0x24D20F04 := by decide +kernel

/-- "Loss of light on port 300" (04, after R151): POWER of the exact 0.05 mW, whose report may be one unit off (R148). -/
theorem test_port_power : Maths.log1000 (3774874 * 1864135) (2 ^ 47) = -1301 ∧ Maths.roundDiv (2 ^ 24) 9 = 1864135 := by decide +kernel

/-- "A control unit hovering at its throttle threshold" (19, after R559): WARN, thresholds 105 and 110 °C, in 0.01 °C. -/
def hover (x : ThmDom × Nat) (t : Nat) : ThmDom × Nat :=
  thmJudge x.1 x.2 (if 11000 ≤ t then 2 else 1) (if 10600 ≤ t then 2 else 1) 2 (decide (11000 ≤ t))

theorem test_thermal_rounds :
    let a := [11020, 11050, 10990, 11010, 11030].foldl hover ({}, 1)
    let b := hover a 11040
    let c := [11010, 10820, 10700, 10700, 10580, 10560, 10610].foldl hover b
    let d := [10590, 10570, 10520].foldl hover c
    a.2 = 1 ∧ (b.2, b.1.level) = (2, 1) ∧ (c.2, c.1.level) = (2, 1) ∧ d.2 = 1 := by decide +kernel

/-- "A tiring row under the route cache" (16, after R487): line 0x021D2218 lies in channel 8, bank 1, row 2,164. -/
theorem test_row_of_line : rowOf 0 0x021D2218 = ((0 * 16 + 8) * 32 + 1) * 65536 + 2164 ∧ lineAddr 0 0x021D2218 = 0x87488600 := by decide

/-- "Pulling one temperature band" (17, after R510): the position registers with 144,512 bytes moved. -/
def pulling : State :=
  (((upR [(Reg.DM_ELEM .a 0, 1440), (dmLoop .a 0 0, 3), (dmLoop .a 0 1, 64), (dmLoop .a 0 2, 1), (dmSstep .a 0 0, 8192), (dmSstep .a 0 1, 73728),
    (dmDstep .a 0 0, word (2 ^ 32 - 92160)), (dmDstep .a 0 1, 1440)]).setReg64 (Reg.DM_SRC_LO .a 0) (Reg.DM_SRC_HI .a 0) 0x11006070).setReg64
    (Reg.DM_DST_LO .a 0) (Reg.DM_DST_HI .a 0) 0x7C002D000).dmPosition .a 0 { moved := 144512, dstHost := true }

theorem test_pull_position :
    [pulling.fld (dmLoop .a 0 0) 31 16, pulling.fld (dmLoop .a 0 1) 31 16, pulling.fld (dmLoop .a 0 2) 31 16, pulling.rnat (Reg.DM_OFF .a 0),
      pulling.rnat64 (Reg.DM_MOVED_LO .a 0) (Reg.DM_MOVED_HI .a 0), pulling.rnat64 (Reg.DM_CUR_SRC_LO .a 0) (Reg.DM_CUR_SRC_HI .a 0),
      pulling.rnat64 (Reg.DM_CUR_DST_LO .a 0) (Reg.DM_CUR_DST_HI .a 0), pulling.dmTotal .a 0 { moved := 144512, dstHost := true }] =
    [2, 31, 1, 512, 144512, 0x1125A270, 0x7C00223A0, 276480] := by decide +kernel

/-- "A third settle failure with a memory error on the same clock" (18, after R534). -/
def thirdFailure : State :=
  let s : State := { upR [(srcReg 19 0, 0x21000003), (srcReg 19 4, 10000)] with flt := { up.flt with hist := [(19, [0, 0])] } }
  let x := (s.classify 19).classify 15
  (x.firstFrom 19).mergeInto 15

theorem test_settle_failure :
    (thirdFailure.srcClass 19, thirdFailure.srcClass 15) = (3, 2) ∧ thirdFailure.fld Reg.FLT_FIRST 15 0 = 19 ∧ thirdFailure.fld Reg.FLT_FIRST 22 20 = 3 ∧
    thirdFailure.rnat Reg.FLT_FIRST_MERGE = 1 ∧ thirdFailure.rnat (Reg.FLT_FIRST_SRC 0) = 0x88000 ∧
    (((thirdFailure.classify 17).mergeInto 17).rnat (Reg.FLT_FIRST_SRC 0), ((thirdFailure.classify 17).mergeInto 17).rnat Reg.FLT_FIRST_MERGE) = (0xA8000, 2) := by
  decide +kernel

end Sys2Proof.Tests
end

section
/-! Registers and fields: what a field reads after it is written, what a write of locked bits does (R12), what a register reads after its block is reset,
and the row of the counters' registers. -/
namespace Sys2Proof.Machine

theorem and_ones (x : Word) : x &&& BitVec.ofNat 32 0xFFFFFFFF = x := BitVec.and_allOnes

/-- Where every bit is locked, a write changes a locked bit unless it carries the value that stands. -/
theorem xor_and_ones_eq_zero_iff (x y : Word) : (x ^^^ y) &&& BitVec.ofNat 32 0xFFFFFFFF = 0 ↔ x = y := by
  rw [and_ones]
  exact BitVec.xor_eq_zero_iff

theorem bit_or_true {y : Word} {i : Nat} (x : Word) (h : bit y i = true) : bit (x ||| y) i = true := by rw [bit_or, h, Bool.or_true]

theorem bit_or_false {x y : Word} {i : Nat} (hx : bit x i = false) (hy : bit y i = false) : bit (x ||| y) i = false := by
  rw [bit_or, hx, hy, Bool.or_self]

/-- A bit of a word after a field is put: the number's within the field, the word's outside. -/
theorem bit_putField {hi lo : Nat} (hl : lo ≤ hi) (hh : hi < 32) (w : Word) (v i : Nat) :
    bit (putField w hi lo v) i = if lo ≤ i ∧ i ≤ hi then v.testBit (i - lo) else bit w i := by
  unfold putField maskOf
  rw [bit_or, bit_andNot, bit_ofNat]
  simp only [Nat.testBit_mul_two_pow, Nat.testBit_two_pow_sub_one, Nat.testBit_mod_two_pow]
  by_cases h : lo ≤ i ∧ i ≤ hi
  · have hi32 : i < 32 := by omega
    have hin : i - lo < hi - lo + 1 := by omega
    simp [h, hi32, hin]
  · have hout : lo ≤ i → ¬ i - lo < hi - lo + 1 := by omega
    by_cases hlo : lo ≤ i
    · simp [h, hout hlo]
    · simp [hlo]

/-- A field reads the number put into it, cut to the field's width. -/
theorem field_putField {hi lo : Nat} (hl : lo ≤ hi) (hh : hi < 32) (w : Word) (v : Nat) :
    field (putField w hi lo v) hi lo = v % 2 ^ (hi - lo + 1) := by
  apply Nat.eq_of_testBit_eq
  intro j
  unfold field
  rw [Nat.testBit_mod_two_pow, Nat.testBit_mod_two_pow, Nat.testBit_shiftRight]
  by_cases hj : j < hi - lo + 1
  · have hbit : (putField w hi lo v).toNat.testBit (lo + j) = v.testBit j := by
      have h := bit_putField hl hh w v (lo + j)
      rw [if_pos (by omega), Nat.add_sub_cancel_left] at h
      exact h
    rw [hbit]
  · simp [hj]

/-! ### Rows of the register tables -/

/-- The offset from a row's base of its last register. -/
def lastOffset : List (Nat × Nat) → Nat
  | [] => 0
  | (s, c) :: r => (c - 1) * s + lastOffset r

/-- A row has no register past its last one. -/
theorem rowIndex_past {dims : List (Nat × Nat)} {d : Nat} (h : lastOffset dims < d) : rowIndex dims d = none := by
  induction dims generalizing d with
  | nil => simp only [lastOffset] at h; simp only [rowIndex, if_neg (Nat.ne_of_gt h)]
  | cons e r ih =>
    obtain ⟨s, c⟩ := e
    simp only [lastOffset] at h
    unfold rowIndex
    split
    · next hlt =>
      have hle : d / s * s ≤ (c - 1) * s := Nat.mul_le_mul_right s (by omega)
      have hmod : s * (d / s) + d % s = d := Nat.div_add_mod d s
      rw [Nat.mul_comm] at hmod
      rw [ih (by omega)]; rfl
    · rw [ih (by omega)]

/-- Rows whose registers all lie below an offset are passed over. -/
theorem findRow_append {l rs : List RegRow} {off : Nat} (h : ∀ r ∈ l, r.base + lastOffset r.dims < off) :
    findRow (l ++ rs) off = findRow rs off := by
  induction l with
  | nil => rfl
  | cons r l ih =>
    have hr := h r List.mem_cons_self
    rw [List.cons_append, findRow, if_neg (by omega), rowIndex_past (by omega)]
    exact ih fun x hx => h x (List.mem_cons_of_mem r hx)

/-- The unit of a key in a unit's own space. -/
theorem keyUnit_unitKey (u : Cu) {off : Nat} (h : off < 0x1000000) : keyUnit (unitKey u off) = some u := by
  unfold keyUnit unitKey
  cases u
  · rw [if_neg (by simp only [Cu.num]; omega), if_pos (by simp only [Cu.num]; omega)]
  · rw [if_neg (by simp only [Cu.num]; omega), if_neg (by simp only [Cu.num]; omega)]

/-- The row of a key in a unit's own space is found by its offset. -/
theorem keyRow_unitKey (u : Cu) {off : Nat} (h : off < 0x1000000) : keyRow (unitKey u off) = findRow unitRows off := by
  unfold keyRow
  rw [keyUnit_unitKey u h]
  simp only [unitKey, Nat.add_sub_cancel_left]

/-- The registers of a row with one index. -/
theorem rowIndex_single {s c n : Nat} (hs : 0 < s) (h : n < c) : rowIndex [(s, c)] (s * n) = some [n] := by
  simp [rowIndex, Nat.mul_div_cancel_left n hs, h]

/-- The first row that has a register at an offset is found. -/
theorem findRow_head {r : RegRow} {d : Nat} {ix : List Nat} (rs : List RegRow) (h : rowIndex r.dims d = some ix) :
    findRow (r :: rs) (r.base + d) = some (r, ix) := by
  simp only [findRow, if_neg (Nat.not_lt.mpr (Nat.le_add_right r.base d)), Nat.add_sub_cancel_left, h]

/-- The row of the counters PMC_CNT (R619). -/
def pmcCntRow : RegRow := ⟨"PMC_CNT", 0x10400, [(0x4, 256)], 0x0, 0xffffffff, 0x0, false, .kPmc, .num 0x0⟩

theorem keyRow_pmcCnt (u : Cu) {n : Nat} (hn : n < 256) : keyRow (Reg.PMC_CNT u n) = some (pmcCntRow, [n]) := by
  have hsplit : unitRows = (unitRows0 ++ unitRows1 ++ unitRows2.take 2) ++ pmcCntRow :: (unitRows2.drop 3 ++ unitRows3) := rfl
  have hbelow : ∀ r ∈ unitRows0 ++ unitRows1 ++ unitRows2.take 2, r.base + lastOffset r.dims < 0x10400 := by decide
  rw [keyRow_unitKey u (by omega), hsplit, findRow_append fun r hr => Nat.lt_of_lt_of_le (hbelow r hr) (by omega)]
  exact findRow_head (r := pmcCntRow) _ (rowIndex_single (by decide) hn)

/-- A counter is zero after a reset (R11, R619). -/
theorem regReset_pmcCnt (p : Part) (u : Cu) {n : Nat} (hn : n < 256) : regReset p (Reg.PMC_CNT u n) = 0 := by
  unfold regReset
  rw [keyRow_pmcCnt u hn]
  rfl

namespace Tab

/-- Entries left out by their keys: those keys are no longer listed, the others read as before. -/
theorem find_filter_key {α : Type} (p : Nat → Bool) (k : Nat) (l : List (Nat × α)) :
    find k (l.filter (fun e => p e.1)) = if p k then find k l else none := by
  induction l with
  | nil => simp [find]
  | cons e r ih =>
    obtain ⟨i, v⟩ := e
    by_cases hk : i = k
    · subst hk
      by_cases hp : p i = true
      · simp [hp, find]
      · simp [hp, ih]
    · by_cases hp : p i = true
      · simp [hp, find, hk, ih]
      · simp [hp, find, hk, ih]

end Tab

namespace State
variable (s : State)

theorem reg_resetRegs (p : Nat → Bool) (k : Nat) : (s.resetRegs p).reg k = if p k then regReset s.part k else s.reg k := by
  unfold reg resetRegs Tab.get
  rw [Tab.find_filter_key (fun k => !p k)]
  cases p k <;> rfl

theorem fld_setField {hi lo : Nat} (hl : lo ≤ hi) (hh : hi < 32) (k v : Nat) :
    (s.setField k hi lo v).fld k hi lo = v % 2 ^ (hi - lo + 1) := by
  unfold fld
  rw [reg_setField, field_putField hl hh]

@[simp] theorem rbit_maskWrite (k mask : Nat) (v : Word) (i : Nat) :
    (s.maskWrite k mask v).rbit k i = ((s.rbit k i && !mask.testBit i) || (bit v i && (decide (i < 32) && mask.testBit i))) := by
  unfold rbit
  rw [reg_maskWrite, bit_or, bit_andNot, bit_and, bit_ofNat]

/-- A write of every bit of a register replaces it. -/
theorem maskWrite_all (k : Nat) (v : Word) : s.maskWrite k 0xFFFFFFFF v = s.setReg k v := by
  have hnone : s.reg k &&& ~~~(BitVec.ofNat 32 0xFFFFFFFF) = 0#32 := BitVec.and_zero
  unfold maskWrite
  rw [hnone, and_ones, BitVec.zero_or]

/-! ### Writes of locked bits (R12) -/

section
variable (k rwMask rwlMask cfgKey cfgBit : Nat) (v : Word)

theorem rwlWrite_open : s.rwlWrite k rwMask rwlMask false cfgKey cfgBit v = s.maskWrite k (rwMask ||| rwlMask) v := rfl

theorem rwlWrite_locked_same (h : (s.reg k ^^^ v) &&& BitVec.ofNat 32 rwlMask = 0) :
    s.rwlWrite k rwMask rwlMask true cfgKey cfgBit v = s.maskWrite k rwMask v := by
  unfold rwlWrite
  rw [if_pos rfl]
  exact if_pos h

theorem rwlWrite_locked_change (h : (s.reg k ^^^ v) &&& BitVec.ofNat 32 rwlMask ≠ 0) :
    s.rwlWrite k rwMask rwlMask true cfgKey cfgBit v = (s.maskWrite k rwMask v).orReg cfgKey cfgBit := by
  unfold rwlWrite
  rw [if_pos rfl]
  exact if_neg h

end

end State
end Sys2Proof.Machine
end

section
/-! The counters' control, counter and event writes and the window unit (R613–R620). -/
namespace Sys2Proof.Machine
namespace State
variable (u : Cu) (s : State)

/-- The keys that CLR_ALL returns to their reset value (R619). -/
def pmcCleared (k : Nat) : Bool :=
  (decide (Reg.PMC_CNT u 0 ≤ k) && decide (k ≤ Reg.PMC_CNT u 255)) || (decide (Reg.PMC_OVF u 0 ≤ k) && decide (k ≤ Reg.PMC_OVF u 7))

theorem pmcCleared_cnt {n : Nat} (hn : n < 256) : pmcCleared u (Reg.PMC_CNT u n) = true := by
  have h0 : Reg.PMC_CNT u 0 ≤ Reg.PMC_CNT u n := Nat.add_le_add_left (by omega) _
  have h1 : Reg.PMC_CNT u n ≤ Reg.PMC_CNT u 255 := Nat.add_le_add_left (by omega) _
  simp only [pmcCleared, h0, h1, decide_true, Bool.and_self, Bool.true_or]

theorem pmcCleared_ctrl : pmcCleared u (Reg.PMC_CTRL u) = false := by
  have h0 : ¬ Reg.PMC_CNT u 0 ≤ Reg.PMC_CTRL u := Nat.not_le.mpr (Nat.add_lt_add_left (by decide) _)
  have h1 : ¬ Reg.PMC_OVF u 0 ≤ Reg.PMC_CTRL u := Nat.not_le.mpr (Nat.add_lt_add_left (by decide) _)
  simp only [pmcCleared, h0, h1, decide_false, Bool.false_and, Bool.or_self]

theorem pmcCtrl_clear {v : Word} (h : bit v 31 = true) :
    s.pmcCtrl u v = ((s.pmcSettle u).maskWrite (Reg.PMC_CTRL u) 3 v).resetRegs (pmcCleared u) := by
  unfold pmcCtrl
  exact if_pos h

theorem pmcCtrl_keep {v : Word} (h : bit v 31 = false) : s.pmcCtrl u v = (s.pmcSettle u).maskWrite (Reg.PMC_CTRL u) 3 v := by
  unfold pmcCtrl
  exact if_neg (by rw [h]; decide)

/-- EN and FREEZE after a write of PMC_CTRL are the value's, whether or not it clears the counters. -/
theorem pmcOn_pmcCtrl (v : Word) : (s.pmcCtrl u v).pmcOn u = (bit v 0 && !bit v 1) := by
  have hw : ((s.pmcSettle u).maskWrite (Reg.PMC_CTRL u) 3 v).pmcOn u = (bit v 0 && !bit v 1) := by
    have t0 : Nat.testBit 3 0 = true := rfl
    have t1 : Nat.testBit 3 1 = true := rfl
    simp [pmcOn, t0, t1]
  cases h : bit v 31
  · rw [pmcCtrl_keep u s h, hw]
  · rw [pmcCtrl_clear u s h, ← hw]
    simp only [pmcOn, rbit, reg_resetRegs, pmcCleared_ctrl, Bool.false_eq_true, if_false]

/-- CLR_ALL zeroes every counter (R619). -/
theorem rnat_pmcCnt_pmcCtrl_clear {v : Word} (h : bit v 31 = true) {n : Nat} (hn : n < 256) :
    (s.pmcCtrl u v).rnat (Reg.PMC_CNT u n) = 0 := by
  unfold rnat
  rw [pmcCtrl_clear u s h, reg_resetRegs, if_pos (pmcCleared_cnt u hn), regReset_pmcCnt _ u hn]
  rfl

/-! ### Writes of a counter and of an event register -/

/-- CHAIN as an event register takes it: on even counters of the WL5128 (R615). -/
def pmcChain (p : Part) (n : Nat) (v : Word) : Word := if n % 2 = 0 ∧ p = .wl5128 then v &&& 0x80000000 else 0

section
variable {n : Nat} (hn : n < 256) (v : Word)
include hn

theorem pmcCntWrite_eq : s.pmcCntWrite u n v =
    (s.pmcSettle u).rwlWrite (Reg.PMC_CNT u n) 0 0xFFFFFFFF (s.pmcOn u) (Reg.PMC_STATUS u) 1 v := if_pos hn

theorem pmcCntWrite_stopped (h : s.pmcOn u = false) : s.pmcCntWrite u n v = (s.pmcSettle u).setReg (Reg.PMC_CNT u n) v := by
  rw [pmcCntWrite_eq u s hn, h, rwlWrite_open]
  exact maskWrite_all _ _ v

theorem pmcCntWrite_running_same (h : s.pmcOn u = true) (hv : (s.pmcSettle u).reg (Reg.PMC_CNT u n) = v) :
    s.pmcCntWrite u n v = (s.pmcSettle u).maskWrite (Reg.PMC_CNT u n) 0 v := by
  rw [pmcCntWrite_eq u s hn, h, rwlWrite_locked_same _ _ _ _ _ _ _ ((xor_and_ones_eq_zero_iff _ v).mpr hv)]

theorem pmcCntWrite_running_change (h : s.pmcOn u = true) (hv : (s.pmcSettle u).reg (Reg.PMC_CNT u n) ≠ v) :
    s.pmcCntWrite u n v = ((s.pmcSettle u).maskWrite (Reg.PMC_CNT u n) 0 v).orReg (Reg.PMC_STATUS u) 1 := by
  rw [pmcCntWrite_eq u s hn, h, rwlWrite_locked_change _ _ _ _ _ _ _ (mt (xor_and_ones_eq_zero_iff _ v).mp hv)]

theorem pmcEvtWrite_eq : s.pmcEvtWrite u n v =
    if pmcEvtOk u v then (s.pmcSettle u).setReg (Reg.PMC_EVT u n) (pmcChain s.part n v ||| (v &&& 0xFFFF))
    else ((s.pmcSettle u).setReg (Reg.PMC_EVT u n) (pmcChain s.part n v)).orReg (Reg.PMC_STATUS u) 1 := by
  unfold pmcEvtWrite
  exact if_neg (Nat.not_le.mpr hn)

end
end State

open State

/-- A window ends on the update tick with G mod TICKS = 0, with EN set (R618). -/
def windowEnds (u : Cu) (s : State) : Prop :=
  s.rbit (Reg.PMC_WIN_CTRL u) 31 = true ∧ s.time.g % s.winTicks u = 0 ∧ s.clk = s.time.lastTick

theorem execPmcWindowEnd_idle {u : Cu} {s : State} (h : ¬ windowEnds u s) (bytes : List Nat) : execPmcWindowEnd u bytes s = .next s := by
  refine if_pos ?_
  by_cases hen : s.rbit (Reg.PMC_WIN_CTRL u) 31 = true
  · by_cases hg : s.time.g % s.winTicks u = 0
    · have hc : s.clk ≠ s.time.lastTick := fun hc => h ⟨hen, hg, hc⟩
      simp [hc]
    · simp [hg]
  · simp [hen]

theorem execPmcWindowEnd_ends {u : Cu} {s : State} (h : windowEnds u s) (bytes : List Nat) :
    execPmcWindowEnd u bytes s =
      let put (s : State) (i : Nat) : State := s.setReg64 (unitKey u (0x11100 + 8 * i)) (unitKey u (0x11104 + 8 * i)) (bytes.getD i 0)
      let x := (List.range 26).foldl put s
      let seq := (s.fld (Reg.PMC_WIN_SEQ u) 30 0 + 1) % 2 ^ 31
      let y := (x.setReg (Reg.PMC_WIN_SEQ u) (word (seq + 2 ^ 31 * b2n (s.unit u).winPartial))).setReg64 (Reg.PMC_WIN_G_LO u) (Reg.PMC_WIN_G_HI u) s.time.g
      .next (y.setUnit u { y.unit u with winPartial := false }) := by
  obtain ⟨hen, hg, hc⟩ := h
  refine if_neg ?_
  simp [hen, hg, hc]

/-! ### The commands -/

theorem exec_pmcClrAll (u : Cu) (v : Word) (s : State) : exec (.pmcClrAll u v) s = .next (s.pmcCtrl u (putBit v 31 true)) := rfl
theorem exec_pmcFreeze (u : Cu) (v : Word) (s : State) : exec (.pmcFreeze u v) s = .next (s.pmcCtrl u (putBit v 1 true)) := rfl
theorem exec_pmcUnfreeze (u : Cu) (v : Word) (s : State) : exec (.pmcUnfreeze u v) s = .next (s.pmcCtrl u (putBit v 1 false)) := rfl
theorem exec_pmcCntWrite (u : Cu) (n : Nat) (v : Word) (s : State) : exec (.pmcCntWrite u n v) s = .next (s.pmcCntWrite u n v) := rfl
theorem exec_pmcEvtWrite (u : Cu) (n : Nat) (v : Word) (s : State) : exec (.pmcEvtWrite u n v) s = .next (s.pmcEvtWrite u n v) := rfl
theorem exec_pmcCounterWrap (u : Cu) {n : Nat} (hn : n < 256) (s : State) : exec (.pmcCounterWrap u n) s = .next (s.pmcSettle u) := if_pos hn
theorem exec_pmcWindowEnd (u : Cu) (bytes : List Nat) (s : State) : exec (.pmcWindowEnd u bytes) s = execPmcWindowEnd u bytes s := rfl

/-- Settles O50. PMC_CTRL's three commands are one write whose value differs in one bit; a counter is a register locked while its block runs. -/
theorem counterCommands : Obligations.CounterCommands := by
  unfold Obligations.CounterCommands
  refine ⟨fun u v s => ⟨?_, fun hv => ⟨?_, ?_⟩, fun t => ⟨fun h => ?_, fun h => ?_, fun h n hn => ?_⟩⟩,
    fun u n v s hn => ⟨fun hoff => ?_, fun hon hne => ?_, fun hon heq => ?_, fun hok => ?_, fun hbad => ?_, exec_pmcCounterWrap u hn s⟩,
    fun u bytes s => ⟨fun hen hg hc => ?_, fun h => ?_⟩⟩
  · rw [exec_pmcClrAll, pmcCtrl_clear u s (by rw [bit_putBit _ _ _ _ (by decide)]; rfl)]
    rfl
  · rw [exec_pmcFreeze, pmcCtrl_keep u s (by rw [bit_putBit _ _ _ _ (by decide)]; exact hv)]
  · rw [exec_pmcUnfreeze, pmcCtrl_keep u s (by rw [bit_putBit _ _ _ _ (by decide)]; exact hv)]
  · obtain rfl := Host.Outcome.next.inj h
    simp [pmcOn_pmcCtrl, bit_putBit]
  · obtain rfl := Host.Outcome.next.inj h
    simp [pmcOn_pmcCtrl, bit_putBit]
  · obtain rfl := Host.Outcome.next.inj h
    exact rnat_pmcCnt_pmcCtrl_clear u s (by simp [bit_putBit]) hn
  · rw [exec_pmcCntWrite, pmcCntWrite_stopped u s hn v hoff]
  · rw [exec_pmcCntWrite, pmcCntWrite_running_change u s hn v hon hne]
  · rw [exec_pmcCntWrite, pmcCntWrite_running_same u s hn v hon heq]
  · rw [exec_pmcEvtWrite, pmcEvtWrite_eq u s hn, if_pos hok]
    rfl
  · rw [exec_pmcEvtWrite, pmcEvtWrite_eq u s hn, if_neg (by rw [hbad]; decide)]
    rfl
  · rw [exec_pmcWindowEnd, execPmcWindowEnd_ends ⟨hen, hg, hc⟩]
  · rw [exec_pmcWindowEnd, execPmcWindowEnd_idle]
    rintro ⟨hen, hg, hc⟩
    rcases h with h | h | h
    · rw [hen] at h; exact absurd h (by decide)
    · exact h hg
    · exact h hc

end Sys2Proof.Machine
end

section
/-! Host accesses (R15, R341, R342) and the reads that clear a largest value (R378, R500). -/
namespace Sys2Proof.Machine
namespace State

/-! ### Shapes -/

section
variable {a : Access} (s : State)

theorem hostRegWrite_bad (h : badShape a = true) (v : Nat) : s.hostRegWrite a v = s.orReg (Reg.HL_STATUS a.unit) 0x10 := if_pos h

theorem hostRegRead_bad (h : badShape a = true) : s.hostRegRead a = s.orReg (Reg.HL_STATUS a.unit) 0x10 := if_pos h

theorem hostRegWrite_narrow (h : badShape a = false) (hw : wholeRegs a = false) (v : Nat) :
    s.hostRegWrite a v = s.orReg (Reg.HL_STATUS a.unit) 0x8 := by
  unfold hostRegWrite
  rw [h, hw]
  rfl

theorem hostRegWrite_whole (h : badShape a = false) (hw : wholeRegs a = true) (v : Nat) :
    s.hostRegWrite a v =
      if a.len = 8 then (s.wordWrite a a.off (word v)).wordWrite a (a.off + 4) (word (v / 2 ^ 32)) else s.wordWrite a a.off (word v) := by
  unfold hostRegWrite
  rw [h, hw]
  rfl

/-- One aligned word is a shape R341 allows, and covers a whole register. -/
theorem shape_word (ho : a.off % 8 = 0 ∨ a.off % 8 = 4) (hl : a.len = 4) : badShape a = false ∧ wholeRegs a = true := by
  have h8 : ¬ 8 < a.off % 8 + 4 := by omega
  have h4 : a.off % 4 = 0 := by omega
  simp [badShape, wholeRegs, hl, h8, h4]

/-- Two aligned words are a shape R341 allows, and cover two whole registers. -/
theorem shape_pair (ho : a.off % 8 = 0) (hl : a.len = 8) : badShape a = false ∧ wholeRegs a = true := by
  have h4 : a.off % 4 = 0 := by omega
  simp [badShape, wholeRegs, hl, ho, h4]

/-! ### Words of BAR0 -/

theorem wordWrite_bar0 (hb : a.bar = 0) {off k : Nat} (hk : accessKey a off = some k) (v : Word) : s.wordWrite a off v = s.regWrite a.unit k v := by
  unfold wordWrite
  rw [if_neg (by omega), hk]

theorem hostRegWrite_word (hb : a.bar = 0) (ho : a.off % 8 = 0 ∨ a.off % 8 = 4) (hl : a.len = 4) {k : Nat} (hk : accessKey a a.off = some k) (v : Nat) :
    s.hostRegWrite a v = s.regWrite a.unit k (word v) := by
  obtain ⟨hs, hw⟩ := shape_word ho hl
  rw [hostRegWrite_whole s hs hw, if_neg (by omega), wordWrite_bar0 s hb hk]

theorem hostRegWrite_pair (hb : a.bar = 0) (ho : a.off % 8 = 0) (hl : a.len = 8) {k k' : Nat} (hk : accessKey a a.off = some k)
    (hk' : accessKey a (a.off + 4) = some k') (v : Nat) :
    s.hostRegWrite a v = (s.regWrite a.unit k (word v)).regWrite a.unit k' (word (v / 2 ^ 32)) := by
  obtain ⟨hs, hw⟩ := shape_pair ho hl
  rw [hostRegWrite_whole s hs hw, if_pos hl, wordWrite_bar0 s hb hk, wordWrite_bar0 _ hb hk']

theorem hostRegRead_word (ho : a.off % 8 = 0 ∨ a.off % 8 = 4) (hl : a.len = 4) {k : Nat} (hk : accessKey a a.off = some k) :
    s.hostRegRead a = s.readEffect k := by
  have hone : (a.off % 4 + a.len + 3) / 4 = 1 := by omega
  have hoff : a.off / 4 * 4 + 4 * 0 = a.off := by omega
  unfold hostRegRead
  rw [(shape_word ho hl).1, hone]
  simp only [Bool.false_eq_true, if_false, List.range_one, List.foldl_cons, List.foldl_nil, hoff, hk]

end

/-! ### Base registers -/

/-- A unit without the token writes no base register but the four both units may write (R342, R423). -/
theorem regWrite_base_other {u : Cu} {s : State} {k : Nat} {r : RegRow} {ix : List Nat} (ha : absentKey s.part k = false) (hr : keyRow k = some (r, ix))
    (hu : keyUnit k = none) (hh : s.holds u = false) (hk : k ∉ [Reg.TKN_CLAIM, Reg.TKN_RENEW, Reg.TKN_RELEASE, Reg.TKN_REH_REPORT]) (v : Word) :
    s.regWrite u k v = s.dropWrite u := by
  simp only [List.mem_cons, List.not_mem_nil, or_false, not_or] at hk
  obtain ⟨hclaim, hrenew, hrelease, hreport⟩ := hk
  have hbase : s.regWrite u k v = s.baseRegWrite u r ix k v := by
    unfold regWrite
    rw [ha, hr, hu]
    rfl
  rw [hbase, baseRegWrite, if_neg hclaim, if_neg hrenew, if_neg hrelease, if_neg hreport, baseWrite_other hh]

/-! ### Reads that clear -/

/-- A read of MX_OUTm clears its largest value, whatever else it does (R500). -/
theorem readEffect_mxOut (s : State) {m : Nat} (hm : m < 12) : ∃ t : State, s.readEffect (Reg.MX_OUT m) = t.setField (Reg.MX_OUT m) 24 16 0 := by
  have hrange : Reg.MX_OUT 0 ≤ Reg.MX_OUT m ∧ Reg.MX_OUT m ≤ Reg.MX_OUT 11 := ⟨by unfold Reg.MX_OUT; omega, by unfold Reg.MX_OUT; omega⟩
  exact ⟨_, if_pos hrange⟩

/-- A read of Q_RTT clears its largest value, whatever else it does (R378). -/
theorem readEffect_qRtt (s : State) (u : Cu) : ∃ t : State, s.readEffect (Reg.Q_RTT u) = t.setField (Reg.Q_RTT u) 31 16 0 := by
  have hrange : ¬ (Reg.MX_OUT 0 ≤ Reg.Q_RTT u ∧ Reg.Q_RTT u ≤ Reg.MX_OUT 11) := by cases u <;> decide
  unfold readEffect
  simp only [if_neg hrange, keyUnit_unitKey u (show 0x3008 < 0x1000000 by decide), if_pos]
  exact ⟨_, rfl⟩

end State

open State

theorem exec_registerWrite (a : Access) (v : Nat) (s : State) : exec (.registerWrite a v) s = .next (s.hostRegWrite a v) := rfl
theorem exec_badAccessRead (a : Access) (s : State) : exec (.badAccessRead a) s = .next (s.hostRegRead a) := rfl
theorem exec_latchingRead (a : Access) (s : State) : exec (.latchingRead a) s = .next (s.hostRegRead a) := rfl
theorem exec_clearOnRead (a : Access) (s : State) : exec (.clearOnRead a) s = .next (s.hostRegRead a) := rfl

/-- Settles O29. The shape of an access decides what it may do; one that passes is a run of word accesses, each to its register. -/
theorem registerAccesses : Obligations.RegisterAccesses := by
  unfold Obligations.RegisterAccesses
  refine fun a v s => ⟨fun hbad => ?_, fun hs hw => ?_, fun k hb ho hl hk => ?_, fun k k' hb ho hl hk hk' => ?_,
    fun u k x r ix ha hr hu hh hk => regWrite_base_other ha hr hu hh hk x, fun u => ?_, fun m hm => ?_⟩
  · rw [exec_registerWrite, exec_badAccessRead, exec_latchingRead, exec_clearOnRead, hostRegWrite_bad s hbad, hostRegRead_bad s hbad]
    exact ⟨rfl, rfl, rfl, rfl⟩
  · rw [exec_registerWrite, hostRegWrite_narrow s hs hw]
  · rw [exec_registerWrite, exec_latchingRead, exec_clearOnRead, hostRegWrite_word s hb ho hl hk, hostRegRead_word s ho hl hk]
    exact ⟨rfl, rfl, rfl⟩
  · rw [exec_registerWrite, hostRegWrite_pair s hb ho hl hk hk']
  · obtain ⟨t, ht⟩ := readEffect_qRtt s u
    rw [ht, fld_setField _ (by decide) (by decide), Nat.zero_mod]
  · obtain ⟨t, ht⟩ := readEffect_mxOut s hm
    rw [ht, fld_setField _ (by decide) (by decide), Nat.zero_mod]

end Sys2Proof.Machine
end

section
/-! Verification of a Gust (R199–R203), Lulls and their trajectories (R205, R206, R260, R263, R267), and the Gust and Draught commands (R208, R266, R268). -/
namespace Sys2Proof.Machine
namespace State

/-! ### Verification -/

/-- The verification once its ports are judged, due again at the next instant (R201, R203). -/
def afterJudging (v : Verify) (s : State) : State :=
  { (s.judge v).2 with gst := { (s.judge v).2.gst with verify := some { (s.judge v).1 with vAt := s.time.g + 1 } } }

/-- Nothing is left to judge again: no port stands failed, or no instant is left (R203). -/
def judgingEnds (v : Verify) (s : State) : Bool := ((s.afterJudging v).failing (s.judge v).1).isEmpty || decide ((s.judge v).1.left = 0)

/-! ### The end of a Lull -/

/-- What is left of a Lull that ends on its own once its drt is back at zero: the refinement, its flags and its event (R205, R206, R267). -/
def closeLull (l l1 : Lull) (s1 : State) : State :=
  let s2 : State := match l.played with | some t => s1.refine l1 t | none => s1
  let s3 := ({ s2 with gst := { s2.gst with lull := none } } : State).clrReg Reg.GST_STATUS 0x300000
  s3.event 4 0x43 (8 * b2n l.null) s3.now l.seq (if l.null then 0xFFFF else l.slot) l.len 0

/-- Outside a replay, what waited for the boundary follows (R320, R441). -/
theorem lullEnd_boundary {l l1 : Lull} {s : State} (hl1 : (s.drtFinish (fun _ => true)).gst.lull = some l1)
    (hr : (closeLull l l1 (s.drtFinish (fun _ => true))).inReplay = false) :
    s.lullEnd l = (((closeLull l l1 (s.drtFinish (fun _ => true))).calBoundary).spBoundary).handOver := by
  have hend : s.lullEnd l = if (closeLull l l1 (s.drtFinish (fun _ => true))).inReplay then closeLull l l1 (s.drtFinish (fun _ => true))
      else (((closeLull l l1 (s.drtFinish (fun _ => true))).calBoundary).spBoundary).handOver := by
    unfold lullEnd
    simp only [hl1]
    rfl
  rw [hend, hr]
  rfl

end State

open State

section
variable {v : Verify} {s : State} (hv : s.gst.verify = some v)
include hv

/-- At V: final at once without VERIFY or in a replay, else the ports are judged (R199, R201). -/
theorem exec_gustVerify_at (hj : v.judged = false) (ht : v.vAt ≤ s.time.g) :
    exec .gustVerify s = .next (if !bit v.ctrl 0 || s.inReplay then s.finishVerify
      else if s.judgingEnds v then (s.afterJudging v).finishVerify else s.afterJudging v) := by
  have hnow : decide (s.time.g < v.vAt) = false := decide_eq_false (by omega)
  show execGustVerify s = _
  unfold execGustVerify
  simp only [hv, hj, hnow, Bool.or_self, Bool.false_eq_true, if_false]
  split <;> rfl

/-- After V: one of the instants left is spent on the failing ports (R203). -/
theorem exec_gustReverify_at (hj : v.judged = true) (hl : v.left ≠ 0) (ht : v.vAt ≤ s.time.g) :
    exec .gustReverify s = .next (if s.judgingEnds { v with left := v.left - 1 } then (s.afterJudging { v with left := v.left - 1 }).finishVerify
      else s.afterJudging { v with left := v.left - 1 }) := by
  have hnow : decide (s.time.g < v.vAt) = false := decide_eq_false (by omega)
  show execGustReverify s = _
  unfold execGustReverify
  simp only [hv, hj, hl, hnow, Bool.not_true, decide_false, Bool.or_self, Bool.false_eq_true, if_false]
  rfl

end

/-! ### Lulls -/

section
variable {l : Lull} {s : State} (hl : s.gst.lull = some l)
include hl

theorem exec_lullEnd_due (h : l.endClk ≤ s.time.lastTick) : exec .lullEnd s = .next (s.lullEnd l) := by
  show execLullEnd s = _
  unfold execLullEnd
  simp only [hl, if_pos h]

/-- A point that is due: the next one is applied, or held where its row is poisoned (R205, R263). -/
theorem exec_draughtPoint_due {p : Traj} (hp : l.play = some p) (hn : l.point < 199) (ht : l.d + 2048 * (l.point + 1) ≤ s.clk) (poison : Bool) :
    exec (.draughtPoint poison) s =
      let l1 : Lull := { l with point := l.point + 1 }
      let w : State := { s with gst := { s.gst with lull := some l1 } }
      .next (if poison then ((w.orReg Reg.DRT_STATUS 8).bump Reg.DRT_CNT1 15 0 1).report1 15 (trajAddr p) else w.drtApply l1 (l.point + 1)) := by
  have hlast : decide (199 ≤ l.point) = false := decide_eq_false (by omega)
  have hdue : decide (s.clk < l.d + 2048 * (l.point + 1)) = false := decide_eq_false (by omega)
  show execDraughtPoint poison s = _
  unfold execDraughtPoint
  simp only [hl, hp, ge_iff_le, hlast, hdue, Option.isNone_some, Bool.or_self, Bool.false_eq_true, if_false, Option.getD_some]
  cases poison <;> rfl

theorem exec_draughtEnd_due (hp : l.play.isSome = true) (ht : l.d + 409600 ≤ s.clk) : exec .draughtEnd s = .next (s.drtFinish (fun _ => true)) := by
  show execDraughtEnd s = _
  unfold execDraughtEnd
  simp only [hl, hp, ht, decide_true, Bool.true_or, Bool.and_self, if_true]

end

/-! ### Commands of the holder -/

namespace State
variable (s : State)

/-- DRT_TAUk is open while no table is valid: its response is computed again (R250, R268). -/
theorem tauWrite_open (h : s.rbit Reg.DRT_STATUS 1 = false) (k : Nat) (v : Word) :
    s.tauWrite k v = (s.maskWrite (Reg.DRT_TAU0 + 4 * k) 0xFFFF v).drtFill k := by
  unfold tauWrite
  rw [h, rwlWrite_open, if_neg (by decide), Nat.zero_or]

/-- DRT_TAUk is locked while a table is valid: a change sets CFG_IGNORED (R12). -/
theorem tauWrite_locked_change (h : s.rbit Reg.DRT_STATUS 1 = true) {k : Nat} {v : Word} (hv : (s.reg (Reg.DRT_TAU0 + 4 * k) ^^^ v) &&& 0xFFFF ≠ 0) :
    s.tauWrite k v = (s.maskWrite (Reg.DRT_TAU0 + 4 * k) 0 v).orReg Reg.DRT_STATUS 1 := by
  unfold tauWrite
  rw [h, if_pos rfl, rwlWrite_locked_change _ _ _ _ _ _ _ hv]

/-- CNT_CLR alone (R268). -/
theorem drtCmd_clear {v : Word} (h0 : bit v 0 = true) (h1 : bit v 1 = false) (h2 : bit v 2 = false) :
    s.drtCmd v = (s.setReg Reg.DRT_CNT0 0).setReg Reg.DRT_CNT1 0 := by simp [drtCmd, h0, h1, h2]

/-- COMMIT alone (R266). -/
theorem drtCmd_commit {v : Word} (h0 : bit v 0 = false) (h1 : bit v 1 = true) (h2 : bit v 2 = false) :
    s.drtCmd v = (s.wrapInc Reg.DRT_TGEN).orReg Reg.DRT_STATUS 2 := by simp [drtCmd, h0, h1, h2]

/-- INVALIDATE alone (R266). -/
theorem drtCmd_invalidate {v : Word} (h0 : bit v 0 = false) (h1 : bit v 1 = false) (h2 : bit v 2 = true) :
    s.drtCmd v = s.clrReg Reg.DRT_STATUS 2 := by simp [drtCmd, h0, h1, h2]

end State

section
variable {u : Cu} {s : State} (hh : s.holds u = true) (v : Word)
include hh

theorem exec_gustCountClear_holder :
    exec (.gustCountClear u v) s = .next (((s.recWrite u Reg.GST_CMD (v ||| 1)).setReg Reg.GST_CNT0 0).setReg Reg.GST_CNT1 0) :=
  congrArg Host.Outcome.next (baseWrite_holder hh _ _ _)
theorem exec_drtTauWrite_holder {k : Nat} (hk : k < 3) :
    exec (.drtTauWrite u k v) s = .next ((s.recWrite u (Reg.DRT_TAU0 + 4 * k) v).tauWrite k v) :=
  (if_pos hk).trans (congrArg Host.Outcome.next (baseWrite_holder hh _ _ _))
theorem exec_drtCommit_holder : exec (.drtCommit u v) s = .next ((s.recWrite u Reg.DRT_CMD (v ||| 2)).drtCmd (v ||| 2)) :=
  congrArg Host.Outcome.next (baseWrite_holder hh _ _ _)
theorem exec_drtInvalidate_holder : exec (.drtInvalidate u v) s = .next ((s.recWrite u Reg.DRT_CMD (v ||| 4)).drtCmd (v ||| 4)) :=
  congrArg Host.Outcome.next (baseWrite_holder hh _ _ _)
theorem exec_drtCountClear_holder : exec (.drtCountClear u v) s = .next ((s.recWrite u Reg.DRT_CMD (v ||| 1)).drtCmd (v ||| 1)) :=
  congrArg Host.Outcome.next (baseWrite_holder hh _ _ _)

end

/-- Settles O19, in three parts: the verification, the Lull, and the holder's commands. -/
theorem gustVerification : Obligations.GustVerification := by
  unfold Obligations.GustVerification
  refine ⟨⟨fun v s hv hj ht hr => ⟨fun hoff => ?_, fun hon hnone => ?_, fun hon hsome hleft => ?_⟩, fun v s hv hj hl ht => ?_⟩,
    ⟨fun l l1 s hl ht _ => ?_, fun l p s hl hp hn ht => ⟨?_, ?_⟩, fun l s hl hp ht => exec_draughtEnd_due hl hp ht⟩,
    fun u v s hh => ⟨exec_gustCountClear_holder hh v, fun k hk => ⟨fun hopen => ?_, fun hlocked hne => ?_⟩, fun h0 h2 => ?_, fun h0 h1 => ?_, fun h1 h2 => ?_⟩⟩
  · rw [exec_gustVerify_at hv hj ht, hoff]
    rfl
  · have hend : s.judgingEnds v = true := Bool.or_eq_true_iff.mpr (Or.inl hnone)
    rw [exec_gustVerify_at hv hj ht, hon, hr, hend]
    rfl
  · have hgo : s.judgingEnds v = false := Bool.or_eq_false_iff.mpr ⟨hsome, decide_eq_false hleft⟩
    rw [exec_gustVerify_at hv hj ht, hon, hr, hgo]
    rfl
  · exact exec_gustReverify_at hv hj hl ht
  · intro s1 hl1 s2 s3 s4 hr
    rw [exec_lullEnd_due hl ht, lullEnd_boundary hl1 hr]
    rfl
  · exact exec_draughtPoint_due hl hp hn ht false
  · exact exec_draughtPoint_due hl hp hn ht true
  · have hstat : (s.recWrite u (Reg.DRT_TAU0 + 4 * k) v).rbit Reg.DRT_STATUS 1 = false := by rw [recWrite_rbit s (by decide), hopen]
    rw [exec_drtTauWrite_holder hh v hk, tauWrite_open _ hstat]
  · have hstat : (s.recWrite u (Reg.DRT_TAU0 + 4 * k) v).rbit Reg.DRT_STATUS 1 = true := by rw [recWrite_rbit s (by decide), hlocked]
    rw [exec_drtTauWrite_holder hh v hk, tauWrite_locked_change _ hstat hne]
  · rw [exec_drtCommit_holder hh, drtCmd_commit _ (bit_or_false h0 rfl) (bit_or_true v rfl) (bit_or_false h2 rfl)]
  · rw [exec_drtInvalidate_holder hh, drtCmd_invalidate _ (bit_or_false h0 rfl) (bit_or_false h1 rfl) (bit_or_true v rfl)]
  · rw [exec_drtCountClear_holder hh, drtCmd_clear _ (bit_or_true v rfl) (bit_or_false h1 rfl) (bit_or_false h2 rfl)]

end Sys2Proof.Machine
end

section
/-! The epoch and the flush of the route cache (R53, R54, R172, R173, R175). -/
namespace Sys2Proof.Machine
namespace State
variable (s : State)

/-! ### The flush -/

theorem rteGen_lt : s.rteGen < 2 ^ 16 := Nat.mod_lt _ (by decide)

theorem rteLive_eq_some_iff {s : State} {key : Nat} {e : RteEntry} :
    s.rteLive key = some e ↔ Tab.find key s.rte.table = some e ∧ e.flushGen = s.rteGen := by
  unfold rteLive
  cases Tab.find key s.rte.table with
  | none => simp
  | some x =>
    by_cases hx : x.flushGen = s.rteGen
    · simp only [if_pos hx, Option.some.injEq]
      exact ⟨fun h => ⟨h, h ▸ hx⟩, And.left⟩
    · simp only [if_neg hx, Option.some.injEq, reduceCtorEq, false_iff]
      rintro ⟨rfl, he⟩
      exact hx he

/-- A register other than the cache's status does not decide which entries are valid. -/
theorem rteLive_setReg_ne {k : Nat} (h : Reg.RTE_CACHE_STATUS ≠ k) (v : Word) (key : Nat) : (s.setReg k v).rteLive key = s.rteLive key := by
  unfold rteLive rteGen
  rw [fld_setReg_ne s h]
  rfl

theorem flushCache_next (h : (s.rteGen + 1) % 2 ^ 16 ≠ 0) :
    s.flushCache = s.setField Reg.RTE_CACHE_STATUS 31 16 ((s.rteGen + 1) % 2 ^ 16) := if_neg h

theorem flushCache_wrap (h : (s.rteGen + 1) % 2 ^ 16 = 0) : ∃ x : State,
    s.flushCache = (({ x with rte := { x.rte with table := [] } } : State).clrReg Reg.RTE_CACHE_STATUS 1).orReg Reg.RTE_CACHE_STATUS 4 := ⟨_, if_pos h⟩

theorem reg_flushCache_ne {k : Nat} (h : k ≠ Reg.RTE_CACHE_STATUS) : s.flushCache.reg k = s.reg k := by
  simp only [flushCache]
  split
  · rw [reg_orReg_ne _ h, reg_clrReg_ne _ h]
    exact reg_setField_ne s h _ _ _
  · exact reg_setField_ne s h _ _ _

/-- A flush leaves no entry of the cache valid: it moves the generation on, and where that wraps it empties the table (R173, R175). -/
theorem rteLive_flushCache {s : State} {key : Nat} (h : s.rteLive key ≠ none) : s.flushCache.rteLive key = none := by
  obtain ⟨e, he⟩ := Option.ne_none_iff_exists'.mp h
  obtain ⟨hfind, hgen⟩ := rteLive_eq_some_iff.mp he
  refine Option.eq_none_iff_forall_ne_some.mpr fun e' he' => ?_
  obtain ⟨hfind', hgen'⟩ := rteLive_eq_some_iff.mp he'
  by_cases hg : (s.rteGen + 1) % 2 ^ 16 = 0
  · obtain ⟨x, hx⟩ := s.flushCache_wrap hg
    rw [hx] at hfind'
    cases hfind'
  · rw [s.flushCache_next hg] at hfind' hgen'
    have hsame : e' = e := Option.some.inj (hfind'.symm.trans hfind)
    have hnew : (s.setField Reg.RTE_CACHE_STATUS 31 16 ((s.rteGen + 1) % 2 ^ 16)).rteGen = (s.rteGen + 1) % 2 ^ 16 :=
      (fld_setField s (by decide) (by decide) _ _).trans (Nat.mod_mod _ _)
    rw [hsame, hgen, hnew] at hgen'
    have hlt := s.rteGen_lt
    omega

/-! ### The epoch -/

theorem bumpEpoch_wrap (h : s.rnat Reg.FAB_EPOCH = 2 ^ 32 - 1) :
    s.bumpEpoch = ((s.setReg Reg.FAB_EPOCH 0).orReg Reg.FAB_STATUS 0x40).flushCache := if_pos h

theorem bumpEpoch_next (h : s.rnat Reg.FAB_EPOCH ≠ 2 ^ 32 - 1) : s.bumpEpoch = s.setReg Reg.FAB_EPOCH (word (s.rnat Reg.FAB_EPOCH + 1)) := if_neg h

theorem rnat_bumpEpoch_next (h : s.rnat Reg.FAB_EPOCH < 2 ^ 32 - 1) : s.bumpEpoch.rnat Reg.FAB_EPOCH = s.rnat Reg.FAB_EPOCH + 1 := by
  rw [s.bumpEpoch_next (Nat.ne_of_lt h), rnat, reg_setReg, word, BitVec.toNat_ofNat]
  exact Nat.mod_eq_of_lt (by omega)

theorem rnat_bumpEpoch_wrap (h : s.rnat Reg.FAB_EPOCH = 2 ^ 32 - 1) : s.bumpEpoch.rnat Reg.FAB_EPOCH = 0 := by
  rw [s.bumpEpoch_wrap h, rnat, reg_flushCache_ne _ (by decide), reg_orReg_ne _ (by decide), reg_setReg]
  rfl

/-- EPOCH_WRAP is set at the wrap (R54). -/
theorem rbit_bumpEpoch_wrap (h : s.rnat Reg.FAB_EPOCH = 2 ^ 32 - 1) : s.bumpEpoch.rbit Reg.FAB_STATUS 6 = true := by
  have hbit : Nat.testBit 0x40 6 = true := rfl
  rw [s.bumpEpoch_wrap h, rbit, reg_flushCache_ne _ (by decide), ← rbit, rbit_orReg, hbit]
  exact Bool.or_true _

/-- No entry is valid after the wrap (R54). -/
theorem rteLive_bumpEpoch_wrap (h : s.rnat Reg.FAB_EPOCH = 2 ^ 32 - 1) {key : Nat} (hk : s.rteLive key ≠ none) : s.bumpEpoch.rteLive key = none := by
  have hsame : ((s.setReg Reg.FAB_EPOCH 0).orReg Reg.FAB_STATUS 0x40).rteLive key = s.rteLive key := by
    rw [orReg, rteLive_setReg_ne _ (by decide), rteLive_setReg_ne _ (by decide)]
  rw [s.bumpEpoch_wrap h]
  exact rteLive_flushCache (hsame ▸ hk)

end State

/-- Settles O58: the wrap flushes the cache, and any other change writes FAB_EPOCH alone. -/
theorem epochWrapEmptiesCache : Obligations.EpochWrapEmptiesCache := by
  unfold Obligations.EpochWrapEmptiesCache
  refine fun s => ⟨fun h => ⟨s.rnat_bumpEpoch_wrap h, s.rbit_bumpEpoch_wrap h, fun _ hk => s.rteLive_bumpEpoch_wrap h hk⟩,
    fun h => ⟨s.rnat_bumpEpoch_next h, ?_, ?_⟩⟩
  · rw [s.bumpEpoch_next (Nat.ne_of_lt h), State.setReg_rte]
  · rw [s.bumpEpoch_next (Nat.ne_of_lt h), State.reg_setReg_ne s (by decide)]

end Sys2Proof.Machine
end

section
/-! The state after a cold reset: every register at its reset value (R11). -/
namespace Sys2Proof.Machine

theorem islandOnly_reset (u : Cu) : State.reset.islandOnly u = true := by cases u <;> rfl

theorem sound_reset : State.reset.Sound := ⟨⟨rfl, rfl⟩, fun _ h => absurd h List.not_mem_nil⟩

/-- The reset values of the memory's registers and of the first fault record in the register tables (R421, R499, R500, R541). -/
theorem reset_memory_faults :
    State.reset.reg Reg.MEM_CTRL = 5 ∧ State.reset.reg Reg.MEM_SCRUB = 0x18 ∧ State.reset.reg Reg.MEM_CE_THR = 0x00180204 ∧
      State.reset.reg Reg.MEM_ERR_SYM = 0x7F7F ∧ State.reset.reg (State.retMapReg .a) = 0xFFFFFFFF ∧ State.reset.reg (Reg.MEM_CE_CNT 0) = 0 ∧
      State.reset.reg Reg.FLT_FIRST = 0 := by decide +kernel

/-- The fabric and the token start cleared (R41, R42, R421). -/
theorem reset_fabric_token :
    State.reset.reg Reg.FAB_CTRL = 0 ∧ State.reset.reg Reg.FAB_STATUS = 0 ∧ State.reset.reg Reg.TKN_STATE = 0 := by decide +kernel

/-- Settles O2: nothing is listed after a cold reset, so each register reads what its row of the tables gives. -/
theorem resetState : Obligations.ResetState := by
  unfold Obligations.ResetState
  obtain ⟨hctrl, hscrub, hthr, hsym, hmap, hcnt, hfirst⟩ := reset_memory_faults
  obtain ⟨hfab, hstat, htkn⟩ := reset_fabric_token
  have hoff : State.reset.fabOn = false := by rw [State.fabOn, State.rbit, hfab]; rfl
  have hvalid : State.reset.fabValid = false := by rw [State.fabValid, State.rbit, hstat]; rfl
  have hfree : State.reset.holder = none := by rw [State.holder, State.tknState, State.fld, htkn]; rfl
  exact ⟨sound_reset, hctrl, hscrub, hthr, hsym, hmap, hcnt, hfirst, hoff, hvalid, hfree, islandOnly_reset, rfl, rfl⟩

end Sys2Proof.Machine
end

section
/-! The fabric record and the drive (R44–R48, R533). -/
namespace Sys2Proof.Machine
namespace State
variable {v : Word} (s : State)

/-! ### A write of FAB_CTRL (R41, R45) -/

/-- What a write of FAB_CTRL leaves of it before its commands are judged, EN being 0: SRC as written (R41). -/
def putSrc (v : Word) : State := s.setReg Reg.FAB_CTRL (putBit (s.reg Reg.FAB_CTRL) 2 (bit v 2))

theorem fabCtrl_enable (hoff : s.fabOn = false) (hen : bit v 0 = true) (hload : bit v 1 = false) : s.fabCtrl v = (s.putSrc v).fabEnable := by
  simp [fabCtrl, putSrc, hoff, hen, hload]

theorem fabCtrl_load (hoff : s.fabOn = false) (hen : bit v 0 = false) (hload : bit v 1 = true) : s.fabCtrl v = (s.putSrc v).fabLoad := by
  simp [fabCtrl, putSrc, hoff, hen, hload]

theorem fabCtrl_disable (hon : s.fabOn = true) (hen : bit v 0 = false) (hload : bit v 1 = false) (hsrc : bit v 2 = s.rbit Reg.FAB_CTRL 2) :
    s.fabCtrl v = s.fabDisable := by
  simp [fabCtrl, hon, hen, hload, hsrc]

/-- A holder's write of FAB_CTRL is recorded first; the record moves no bit of FAB_CTRL (R571). -/
theorem recWrite_putSrc (u : Cu) (x : Word) :
    (s.recWrite u Reg.FAB_CTRL x).putSrc v = (s.recWrite u Reg.FAB_CTRL x).setReg Reg.FAB_CTRL (putBit (s.reg Reg.FAB_CTRL) 2 (bit v 2)) := by
  rw [putSrc, recWrite_reg (by decide)]

/-! ### Its commands -/

/-- EN 0 and BUSY 0: the load starts (R44). -/
theorem fabLoad_starts (hoff : s.fabOn = false) (hbusy : s.rbit Reg.FAB_STATUS 1 = false) :
    s.fabLoad = ({ s with fab := { s.fab with load := some {
      stored := s.rbit Reg.FAB_CTRL 2, addr := s.rnat64 Reg.FAB_SRC_LO Reg.FAB_SRC_HI, len := s.rnat Reg.FAB_LEN, waitDown := s.fab.downAt.isSome,
      startClk := s.clk } } } : State).orReg Reg.FAB_STATUS 2 := by
  simp [fabLoad, hoff, hbusy]

/-- Without a record in force EN is refused (R46). -/
theorem fabEnable_invalid (hthm : s.fld (Reg.THM_DOMAIN 0) 31 30 ≠ 3) (hvalid : s.fabValid = false) : s.fabEnable = s.orReg Reg.FAB_STATUS 4 := by
  simp [fabEnable, hthm, hvalid]

/-- The drive powered up at the park image, with a site check ended, EN set and Breeze started (R37, R46, R84). -/
def powerUp : State :=
  let s1 := (s.abortSite 0).orReg Reg.FAB_CTRL 1
  ((({ s1 with fab := { s1.fab with powered := true, downAt := none, stagesDown := 0 } } : State).drivePark).startBreeze).showPark

/-- EN with a record in force, no load, no SHUTDOWN of the base domain, no safe state and no gap of the token (R46). -/
theorem fabEnable_goes (hthm : s.fld (Reg.THM_DOMAIN 0) 31 30 ≠ 3) (hvalid : s.fabValid = true) (hbusy : s.rbit Reg.FAB_STATUS 1 = false)
    (hsafe : s.safeState ≠ 3) (hgap : s.gap = false) :
    s.fabEnable = if (s.powerUp.drvKeys ++ s.powerUp.monKeys).isEmpty then s.powerUp else s.powerUp.requestBoundary := by
  simp [fabEnable, powerUp, hthm, hvalid, hbusy, hsafe, hgap]

/-! ### The end of a load -/

/-- The state a load's end works on: the load is over. -/
def endLoad : State := { s with fab := { s.fab with load := none } }

theorem loadEnd_failed {l : FabLoad} (hl : s.fab.load = some l) (hd : l.waitDown = false) (off : Nat) :
    s.loadEnd (.failed off) = s.endLoad.loadFail 0x0E off := by
  simp [loadEnd, endLoad, hl, hd]

theorem loadEnd_accepted {l : FabLoad} (hl : s.fab.load = some l) (hd : l.waitDown = false) (hs : l.stored = false) {b : List Byte} {f : Fdr}
    (hf : FdrRead.check s.part (fit l.len b) l.len = .ok f) : s.loadEnd (.bytes b) = s.endLoad.acceptFdr f (fit l.len b) := by
  simp [loadEnd, endLoad, hl, hd, hs, hf]

/-- An accepted record ends with BUSY cleared, DONE set and its EVENT record (R48, R574). -/
theorem acceptFdr_ends (f : Fdr) (b : List Byte) :
    ∃ (x : State) (p : List Byte), s.acceptFdr f b = ((x.clrReg Reg.FAB_STATUS 2).orReg Reg.FAB_STATUS 0x10).recEvent 16 p := ⟨_, _, rfl⟩

/-- BUSY reads 0 and DONE reads 1 once a record is accepted (R48). -/
theorem rbit_acceptFdr (f : Fdr) (b : List Byte) :
    (s.acceptFdr f b).rbit Reg.FAB_STATUS 1 = false ∧ (s.acceptFdr f b).rbit Reg.FAB_STATUS 4 = true := by
  obtain ⟨x, p, hx⟩ := s.acceptFdr_ends f b
  have hbusy : Nat.testBit 2 1 = true ∧ Nat.testBit 0x10 1 = false := by decide
  have hdone : Nat.testBit 0x10 4 = true := rfl
  rw [hx, recEvent_rbit _ (by decide), recEvent_rbit _ (by decide)]
  simp [hbusy, hdone]

end State

open State

theorem exec_fabLoadEnd (d : HostData) (s : State) : exec (.fabLoadEnd d) s = .next (s.loadEnd d) := rfl

/-- The read of a load that waited begins once the drive is down (R45). -/
theorem exec_fabLoadDeferredRead_down {l : FabLoad} {s : State} (hl : s.fab.load = some l) (hd : l.waitDown = true) (hp : s.fab.powered = false) :
    exec .fabLoadDeferredRead s = .next { s with fab := { s.fab with load := some { l with waitDown := false } } } := by
  show execFabLoadDeferredRead s = _
  simp [execFabLoadDeferredRead, hl, hd, hp]

section
variable {u : Cu} {s : State} (hh : s.holds u = true) (v : Word)
include hh

theorem exec_fabLoad_holder : exec (.fabLoad u v) s = .next ((s.recWrite u Reg.FAB_CTRL (v ||| 2)).fabCtrl (v ||| 2)) :=
  congrArg Host.Outcome.next (baseWrite_holder hh _ _ _)
theorem exec_fabEnable_holder : exec (.fabEnable u v) s = .next ((s.recWrite u Reg.FAB_CTRL (v ||| 1)).fabCtrl (v ||| 1)) :=
  congrArg Host.Outcome.next (baseWrite_holder hh _ _ _)
theorem exec_fabDisable_holder :
    exec (.fabDisable u v) s = .next ((s.recWrite u Reg.FAB_CTRL (v &&& 0xFFFFFFFE)).fabCtrl (v &&& 0xFFFFFFFE)) :=
  congrArg Host.Outcome.next (baseWrite_holder hh _ _ _)

variable {v}

/-- FAB_LOAD with EN 0 is the load's start on the state with SRC as written (R41, R44). -/
theorem exec_fabLoad_off (hen : bit v 0 = false) (hoff : s.fabOn = false) :
    exec (.fabLoad u v) s = .next ((s.recWrite u Reg.FAB_CTRL (v ||| 2)).setReg Reg.FAB_CTRL (putBit (s.reg Reg.FAB_CTRL) 2 (bit v 2))).fabLoad := by
  have hw := (recWrite_fabOn s u Reg.FAB_CTRL (v ||| 2)).trans hoff
  have hsrc : bit (v ||| 2) 2 = bit v 2 := by rw [bit_or, show bit 2 2 = false from rfl, Bool.or_false]
  rw [exec_fabLoad_holder hh, fabCtrl_load _ hw (bit_or_false hen rfl) (bit_or_true v rfl), recWrite_putSrc, hsrc]

/-- FAB_ENABLE with EN 0 is the enabling of the drive on the state with SRC as written (R41, R46). -/
theorem exec_fabEnable_off (hload : bit v 1 = false) (hoff : s.fabOn = false) :
    exec (.fabEnable u v) s = .next ((s.recWrite u Reg.FAB_CTRL (v ||| 1)).setReg Reg.FAB_CTRL (putBit (s.reg Reg.FAB_CTRL) 2 (bit v 2))).fabEnable := by
  have hw := (recWrite_fabOn s u Reg.FAB_CTRL (v ||| 1)).trans hoff
  have hsrc : bit (v ||| 1) 2 = bit v 2 := by rw [bit_or, show bit 1 2 = false from rfl, Bool.or_false]
  rw [exec_fabEnable_holder hh, fabCtrl_enable _ hw (bit_or_true v rfl) (bit_or_false hload rfl), recWrite_putSrc, hsrc]

/-- FAB_DISABLE with EN 1 and SRC as it stands is the disabling of the drive (R41, R46). -/
theorem exec_fabDisable_on (hload : bit v 1 = false) (hon : s.fabOn = true) (hsrc : bit v 2 = s.rbit Reg.FAB_CTRL 2) :
    exec (.fabDisable u v) s = .next (s.recWrite u Reg.FAB_CTRL (v &&& 0xFFFFFFFE)).fabDisable := by
  have hw := (recWrite_fabOn s u Reg.FAB_CTRL (v &&& 0xFFFFFFFE)).trans hon
  have hen : bit (v &&& 0xFFFFFFFE) 0 = false := by rw [bit_and, show bit 0xFFFFFFFE 0 = false from rfl, Bool.and_false]
  have hkeep (i : Nat) (hi : bit 0xFFFFFFFE i = true) : bit (v &&& 0xFFFFFFFE) i = bit v i := by rw [bit_and, hi, Bool.and_true]
  rw [exec_fabDisable_holder hh, fabCtrl_disable _ hw hen ((hkeep 1 rfl).trans hload)]
  rw [hkeep 2 rfl, hsrc, recWrite_rbit s (by decide)]

end

/-- Settles O5: the end of a load by what the read gave, and each command by what the write of FAB_CTRL hands on. -/
theorem fabricRecordAndDrive : Obligations.FabricRecordAndDrive := by
  unfold Obligations.FabricRecordAndDrive
  refine ⟨⟨fun u v s hh hen hoff hw hbusy => ?_, fun l s hl hd hp => exec_fabLoadDeferredRead_down hl hd hp, fun l off s hl hd => ?_,
    fun l b f s hl hd hs hf => ?_⟩, fun u v s hh hload hoff hthm hvalid hbusy hsafe hgap => ?_, fun u v s hh hoff hload hthm hvalid => ?_,
    fun u v s hh hload hon hsrc => ?_⟩
  · rw [exec_fabLoad_off hh hen hoff, fabLoad_starts _ hw hbusy]
  · rw [exec_fabLoadEnd, loadEnd_failed s hl hd]
    rfl
  · exact ⟨_, (exec_fabLoadEnd _ s).trans (congrArg Host.Outcome.next (loadEnd_accepted s hl hd hs hf)), rfl, rbit_acceptFdr _ f _⟩
  · rw [exec_fabEnable_off hh hload hoff, fabEnable_goes _ hthm hvalid hbusy hsafe hgap]
    rfl
  · rw [exec_fabEnable_off hh hload hoff, fabEnable_invalid _ hthm hvalid]
  · rw [exec_fabDisable_on hh hload hon hsrc]
    rfl

end Sys2Proof.Machine
end

section
/-! Host writes of health marks (R51–R53, R57). -/
namespace Sys2Proof.Machine
namespace State
variable (i : Nat) (v : Word) (s : State)

/-- A write names a reserved MARK in the nibble of a cell the fabric has (R51). -/
def reservedMark : Bool := (List.range 8).any (fun j => decide (8 * i + j < s.nCells) && decide (5 ≤ nibble v j % 8))

theorem healthWrite_reserved (h : s.reservedMark i v = true) : s.healthWrite i v = s.orReg Reg.FAB_STATUS 8 := if_pos h

theorem healthWrite_marks (h : s.reservedMark i v = false) : s.healthWrite i v = s.healthPut false i (s.healthWord i v) :=
  if_neg (Bool.eq_false_iff.mp h)

theorem healthPut_same (device : Bool) {new : Word} (h : s.reg (Reg.FAB_HEALTH i) = new) : s.healthPut device i new = s := if_pos h

/-- The word is set and the epoch moved on once, then each changed nibble has its event (R53, R57). -/
def healthSet (device : Bool) (new : Word) : State :=
  (List.range 8).foldl (fun (t : State) j =>
    if nibble (s.reg (Reg.FAB_HEALTH i)) j = nibble new j then t
    else t.healthEvent device (8 * i + j) (nibble (s.reg (Reg.FAB_HEALTH i)) j) (nibble new j)) ((s.setReg (Reg.FAB_HEALTH i) new).bumpEpoch)

/-- The HEALTH record of a change of register `i`, in the epoch that follows it (R574). -/
def healthRecord (device : Bool) (new : Word) : List Byte :=
  bytesOf 4 (Reg.FAB_HEALTH i) ++ bytesOf 4 (s.reg (Reg.FAB_HEALTH i)).toNat ++ bytesOf 4 new.toNat ++
    bytesOf 4 ((s.healthSet i device new).rnat Reg.FAB_EPOCH) ++ bytesOf 1 (b2n device)

/-- A change is followed by its record, a new park image and an event save (R37, R53, R431). -/
theorem healthPut_change (device : Bool) {new : Word} (h : s.reg (Reg.FAB_HEALTH i) ≠ new) :
    s.healthPut device i new =
      let t := ((s.healthSet i device new).recEvent 12 (s.healthRecord i device new)).rebuildPark
      { t with tkn := { t.tkn with eventSave := true } } := if_neg h

end State

open State

theorem exec_healthMarkWrite_holder {u : Cu} {s : State} (hh : s.holds u = true) {i : Nat} (hi : i < 608) (v : Word) :
    exec (.healthMarkWrite u i v) s = .next ((s.recWrite u (Reg.FAB_HEALTH i) v).healthWrite i v) :=
  (if_pos hi).trans (congrArg Host.Outcome.next (baseWrite_holder hh _ _ _))

/-- Settles O6: a reserved MARK, the word that stands, or a change. -/
theorem healthMarks : Obligations.HealthMarks := by
  unfold Obligations.HealthMarks
  refine fun u i v s hh hi => ⟨fun hbad => ?_, fun hok hsame => ?_, fun hok hne => ?_⟩
  · rw [exec_healthMarkWrite_holder hh hi, healthWrite_reserved i v _ hbad]
  · rw [exec_healthMarkWrite_holder hh hi, healthWrite_marks i v _ hok, healthPut_same i _ false hsame]
  · rw [exec_healthMarkWrite_holder hh hi, healthWrite_marks i v _ hok, healthPut_change i _ false hne]
    rfl

end Sys2Proof.Machine
end

section
/-! START of a site check (R12, R78, R79). -/
namespace Sys2Proof.Machine
namespace State

/-! ### What a write of locked bits leaves alone (R12) -/

section
variable {k cfgKey : Nat} (s : State) (rwMask rwlMask : Nat) (en : Bool) (cfgBit : Nat) (v : Word)

/-- Every register but the one written and the one that holds CFG_IGNORED reads as before. -/
theorem reg_rwlWrite_ne {j : Nat} (hk : j ≠ k) (hc : j ≠ cfgKey) : (s.rwlWrite k rwMask rwlMask en cfgKey cfgBit v).reg j = s.reg j := by
  cases en with
  | false => rw [rwlWrite_open, reg_maskWrite_ne s hk]
  | true =>
    by_cases h : (s.reg k ^^^ v) &&& BitVec.ofNat 32 rwlMask = 0
    · rw [rwlWrite_locked_same _ _ _ _ _ _ _ h, reg_maskWrite_ne s hk]
    · rw [rwlWrite_locked_change _ _ _ _ _ _ _ h, reg_orReg_ne _ hc, reg_maskWrite_ne s hk]

@[simp] theorem rwlWrite_site : (s.rwlWrite k rwMask rwlMask en cfgKey cfgBit v).site = s.site := by
  cases en with
  | false => rfl
  | true =>
    by_cases h : (s.reg k ^^^ v) &&& BitVec.ofNat 32 rwlMask = 0
    · rw [rwlWrite_locked_same _ _ _ _ _ _ _ h, maskWrite_site]
    · rw [rwlWrite_locked_change _ _ _ _ _ _ _ h, orReg_site, maskWrite_site]

end

/-! ### The scope (R78) -/

/-- A write of SITE_CHECK_CTRL with its scope taken, STOP and START not yet carried out. The scope is locked while the drive is on or a check runs. -/
def takeScope (v : Word) (s : State) : State :=
  s.rwlWrite Reg.SITE_CHECK_CTRL 0 0x3C (s.fabOn || s.site.check.isSome) Reg.SITE_STATUS 0x40 v

section
variable (s : State) (v : Word)

theorem reg_takeScope_ne {j : Nat} (hc : j ≠ Reg.SITE_CHECK_CTRL) (hs : j ≠ Reg.SITE_STATUS) : (s.takeScope v).reg j = s.reg j :=
  reg_rwlWrite_ne s _ _ _ _ v hc hs

@[simp] theorem takeScope_site : (s.takeScope v).site = s.site := rwlWrite_site s _ _ _ _ v

theorem takeScope_fabOn : (s.takeScope v).fabOn = s.fabOn := by
  unfold fabOn rbit
  rw [reg_takeScope_ne s v (by decide) (by decide)]

theorem takeScope_fabValid : (s.takeScope v).fabValid = s.fabValid := by
  unfold fabValid rbit
  rw [reg_takeScope_ne s v (by decide) (by decide)]

theorem takeScope_siteRes : (s.takeScope v).rnat64 Reg.SITE_RES_LO Reg.SITE_RES_HI = s.rnat64 Reg.SITE_RES_LO Reg.SITE_RES_HI := by
  unfold rnat64 rnat
  rw [reg_takeScope_ne s v (by decide) (by decide), reg_takeScope_ne s v (by decide) (by decide)]

/-- The record of the write unlocks or locks nothing: the scope is taken as the state before it says (R12, R571). -/
theorem recWrite_takeScope (u : Cu) (k : Nat) (x : Word) :
    (s.recWrite u k x).takeScope v =
      (s.recWrite u k x).rwlWrite Reg.SITE_CHECK_CTRL 0 0x3C (s.fabOn || s.site.check.isSome) Reg.SITE_STATUS 0x40 v := by
  rw [takeScope, recWrite_fabOn, recWrite_site]

end

/-! ### START -/

/-- START is refused in state `s`: the drive is on, a check runs, its roles come from a record and none is valid, or SITE_RES is zero (R79). -/
def StartRefused (s : State) : Prop :=
  s.fabOn = true ∨ s.site.check ≠ none ∨ (s.rbit Reg.SITE_CHECK_CTRL 2 = false ∧ s.fabValid = false) ∨ s.rnat64 Reg.SITE_RES_LO Reg.SITE_RES_HI = 0

/-- A refused START sets REFUSED and nothing else (R79). -/
theorem siteStart_refused {s : State} (h : s.StartRefused) : s.siteStart = s.orReg Reg.SITE_STATUS 0x20 := by
  unfold siteStart
  refine if_pos ?_
  rcases h with hon | hbusy | ⟨hmode, hvalid⟩ | hres
  · simp [hon]
  · simp [Option.isSome_iff_ne_none.mpr hbusy]
  · have hmode' : bit (s.reg Reg.SITE_CHECK_CTRL) 2 = false := hmode
    simp [hmode', hvalid]
  · simp [hres]

/-- START without STOP starts the check in the scope as written (R78, R79). -/
theorem siteCheckCtrl_start (s : State) {v : Word} (hstart : bit v 0 = true) (hstop : bit v 1 = false) :
    s.siteCheckCtrl v = (s.takeScope v).siteStart := by
  unfold siteCheckCtrl
  rw [hstart, hstop]
  rfl

end State

open State

theorem exec_siteCheckStart_holder {u : Cu} {s : State} (hh : s.holds u = true) (v : Word) :
    exec (.siteCheckStart u v) s = .next ((s.recWrite u Reg.SITE_CHECK_CTRL (v ||| 1)).siteCheckCtrl (v ||| 1)) :=
  congrArg Host.Outcome.next (baseWrite_holder hh _ _ _)

/-- Settles O56: neither the record of the write nor its scope moves what R79 looks at besides MODE, so START is refused on `w`. -/
theorem siteCheckRefused : Obligations.SiteCheckRefused := by
  unfold Obligations.SiteCheckRefused
  intro u v s hh hstop
  rw [← recWrite_takeScope]
  intro w hrefused
  have hsite : w.site = s.site := by rw [takeScope_site, recWrite_site]
  have hw : w.StartRefused := by
    unfold StartRefused
    rw [takeScope_fabOn, recWrite_fabOn, hsite, takeScope_fabValid, recWrite_fabValid, takeScope_siteRes, recWrite_rnat64 s (by decide) (by decide)]
    exact hrefused
  refine ⟨?_, ?_, hsite⟩
  · rw [exec_siteCheckStart_holder hh, siteCheckCtrl_start _ (bit_or_true v rfl) (bit_or_false hstop rfl), siteStart_refused hw]
  · rw [rbit_orReg]
    exact Bool.or_true _

end Sys2Proof.Machine
end

section
/-! The update tick outside a replay (R92, R93). -/
namespace Sys2Proof.Machine
namespace State

/-- The next tick is reached: the drive clocks that are left pass, then the grid index moves on by one (R92). -/
theorem tickOn_eq (s : State) :
    s.tickOn =
      let n := s.time.lastTick + s.time.interval
      let a := if s.clk < n then s.advance (n - s.clk) else s
      { a with time := { a.time with g := a.time.g + 1, lastTick := n, interval := 128 } } := rfl

end State

open State

/-- While the drive clock runs and no replay does, the command is one tick (R93). -/
theorem exec_updateTick_live {s : State} (hon : s.time.on = true) (hlive : s.inReplay = false) (fast : List (Nat × MonRaw)) (low parity : List Nat) :
    exec (.updateTick fast low parity) s = .next (s.tick fast low parity) := by
  show execUpdateTick fast low parity s = _
  simp [execUpdateTick, hon, hlive]

/-- Settles O8: the command is one tick, whose first effect is the move to it. -/
theorem updateTick : Obligations.UpdateTick := by
  unfold Obligations.UpdateTick
  intro fast low parity s hon hlive
  rw [exec_updateTick_live hon hlive, tick, tickOn_eq]

end Sys2Proof.Machine
end

section
/-! Writes of a drive channel's queue, slew and count registers, and the end of its pre-emphasis pulse (R94, R97, R98, R102, R114). -/
namespace Sys2Proof.Machine
namespace State
variable {ch : Nat} {s : State}

/-! ### DRV_QUEUE (R97, R98) -/

/-- A queue with room takes the code at its end (R97). -/
theorem enqueue_room (h : (s.chan ch).queue.length < 16) (code : Nat) :
    s.enqueue ch code = s.setChan ch { s.chan ch with queue := (s.chan ch).queue ++ [code] } := if_neg (Nat.not_le.mpr h)

/-- Where 16 codes wait, the code is dropped and counted (R97). -/
theorem enqueue_full (h : 16 ≤ (s.chan ch).queue.length) (code : Nat) :
    s.enqueue ch code =
      ((s.orReg (Reg.DRV_QSTAT (drvTile ch) (drvIdx ch)) 0x100).orReg (Reg.DRV_STATUS (drvTile ch)) 2).bump (Reg.DRV_TCNT (drvTile ch)) 31 16 1 :=
  if_pos h

theorem queueWrite_flush {v : Word} (h : bit v 31 = true) : s.queueWrite ch v = s.setChan ch { s.chan ch with queue := [] } := if_pos h

theorem queueWrite_code {v : Word} (h : bit v 31 = false) (hq : s.hostMayQueue ch = true) : s.queueWrite ch v = s.enqueue ch (field v 15 0) := by
  simp [queueWrite, h, hq]

theorem queueWrite_discarded {v : Word} (h : bit v 31 = false) (hq : s.hostMayQueue ch = false) :
    s.queueWrite ch v = s.orReg (Reg.DRV_STATUS (ch / 240)) 2 := by
  simp [queueWrite, h, hq]

/-! ### DRV_SLEW and DRV_TCTRL (R94, R114) -/

/-- The channel is not a relieved primary: the counter clears and the two fields are taken (R94, R110). -/
theorem slewWrite_taken (h : ¬(ch % 240 < 228 ∧ (s.chan ch).partner.isSome)) (v : Word) :
    s.slewWrite ch v = (s.setChan ch { s.chan ch with cnt := 0 }).maskWrite (Reg.DRV_SLEW (ch / 240) (ch % 240)) 0x0FFF00FF v := if_neg h

theorem tctrlWrite_clear {v : Word} (h : bit v 2 = true) (tile : Nat) :
    s.tctrlWrite tile v = (s.rwlWrite (Reg.DRV_TCTRL tile) 2 1 s.fabOn (Reg.DRV_STATUS tile) 1 v).setReg (Reg.DRV_TCNT tile) 0 := if_pos h

end State

open State

/-! ### The commands -/

section
variable {u : Cu} {s : State} (hh : s.holds u = true)
include hh

section
variable {ch : Nat} (hch : ch < 240 * s.part.tiles) (v : Word)
include hch

theorem exec_drvQueueWrite_holder : exec (.drvQueueWrite u ch v) s =
    .next ((s.recWrite u (Reg.DRV_QUEUE (ch / 240) (ch % 240)) (v &&& 0x7FFFFFFF)).queueWrite ch (v &&& 0x7FFFFFFF)) :=
  (if_pos hch).trans (congrArg Host.Outcome.next (baseWrite_holder hh _ _ _))

theorem exec_drvQueueFlush_holder : exec (.drvQueueFlush u ch v) s =
    .next ((s.recWrite u (Reg.DRV_QUEUE (ch / 240) (ch % 240)) (v ||| 0x80000000)).queueWrite ch (v ||| 0x80000000)) :=
  (if_pos hch).trans (congrArg Host.Outcome.next (baseWrite_holder hh _ _ _))

theorem exec_drvSlewWrite_holder : exec (.drvSlewWrite u ch v) s =
    .next ((s.recWrite u (Reg.DRV_SLEW (ch / 240) (ch % 240)) v).slewWrite ch v) :=
  (if_pos hch).trans (congrArg Host.Outcome.next (baseWrite_holder hh _ _ _))

end

theorem exec_drvCountClear_holder {tile : Nat} (ht : tile < s.part.tiles) (v : Word) : exec (.drvCountClear u tile v) s =
    .next ((s.recWrite u (Reg.DRV_TCTRL tile) (v ||| 4)).tctrlWrite tile (v ||| 4)) :=
  (if_pos ht).trans (congrArg Host.Outcome.next (baseWrite_holder hh _ _ _))

end

/-- A pulse that has lasted its WIDTH ends (R102). -/
theorem exec_preEmphasisEnd_due {ch : Nat} {p : Pulse} {s : State} (hp : (s.chan ch).pulse = some p) (hdue : 4 * p.startClk + p.width ≤ 4 * s.clk) :
    exec (.preEmphasisEnd ch) s = .next (s.setChan ch { s.chan ch with pulse := none }) := by
  show execPreEmphasisEnd ch s = _
  simp [execPreEmphasisEnd, hp, hdue]

/-- Settles O9: a write of DRV_QUEUE is a flush or a code as bit 31 says, and a code's fate is the queue's; the rest is one effect each. -/
theorem driveRegisterWrites : Obligations.DriveRegisterWrites := by
  unfold Obligations.DriveRegisterWrites
  refine ⟨fun u ch v s hh hch => ⟨?_, ?_⟩, fun u ch v s hh hch hserves => ?_, fun u tile v s hh ht => ?_,
    fun ch p s hp hdue => exec_preEmphasisEnd_due hp hdue⟩
  · have hflush : bit (v ||| 0x80000000) 31 = true := bit_or_true v rfl
    rw [exec_drvQueueFlush_holder hh hch, queueWrite_flush hflush]
  · have hcode : bit (v &&& 0x7FFFFFFF) 31 = false := by rw [bit_and, show bit 0x7FFFFFFF 31 = false from rfl, Bool.and_false]
    rw [exec_drvQueueWrite_holder hh hch]
    refine ⟨fun hq hroom => ?_, fun hq hfull => ?_, fun hq => ?_⟩
    · rw [queueWrite_code hcode hq, enqueue_room hroom]
    · rw [queueWrite_code hcode hq, enqueue_full hfull]
    · rw [queueWrite_discarded hcode hq]
  · rw [exec_drvSlewWrite_holder hh hch, slewWrite_taken hserves]
  · rw [exec_drvCountClear_holder hh ht, tctrlWrite_clear (bit_or_true v rfl)]

end Sys2Proof.Machine
end

section
/-! Spare substitution: requests and releases of an entry, and what makes it ready or ends its request (R108, R110, R112, R146). -/
namespace Sys2Proof.Machine
namespace State
variable {k : SpKey} {s : State} {p : Nat}

/-! ### A request or a release that no descriptor waits for (R108, R112) -/

/-- An idle entry takes a request for a usable primary: SUBST and EN are set and tracking begins (R108). -/
theorem spRequest_usable (hen : s.spEn k = false) (hforce : s.spForce k = false) (husable : s.spUsable k p = true) (cmd : Option Cmd) (late : Bool) :
    s.spRequest k p cmd late = ((s.setField (spReg k) 7 0 p).orReg (spReg k) (2 ^ 31)).spBegin k false cmd late := by
  simp [spRequest, hen, hforce, husable]

/-- An idle entry refuses a request for another primary (R112). -/
theorem spRequest_unusable (hen : s.spEn k = false) (hforce : s.spForce k = false) (husable : s.spUsable k p = false) (cmd : Option Cmd) (late : Bool) :
    s.spRequest k p cmd late = s.spRefuse k cmd := by
  simp [spRequest, hen, hforce, husable]

/-- An entry in force, with nothing pending, begins its release (R108). -/
theorem spRelease_inForce (hforce : s.spForce k = true) (hpend : s.spPend k = false) (cmd : Option Cmd) (late : Bool) :
    s.spRelease k p cmd late = (s.clrReg (spReg k) (2 ^ 31)).spBegin k true cmd late := by
  simp [spRelease, hforce, hpend]

/-- A request that is pending is cancelled (R112). -/
theorem spRelease_pending (hforce : s.spForce k = false) (hpend : s.spPend k = true) (cmd : Option Cmd) (late : Bool) :
    s.spRelease k p cmd late = ((s.spCancel k).clrReg (spReg k) (2 ^ 31)).spComplete cmd (if late then 1 else 0) 0 true := by
  simp [spRelease, hforce, hpend]

/-! ### The end of tracking (R108, R110, R146) -/

/-- What agrees makes the spare READY (R108, R146). -/
theorem spTracked_agree (k : SpKey) (s : State) : s.spTracked k true = s.orReg (spReg k) 0x200000 := rfl

/-- What does not agree ends a request: the entry is BAD and source 23 reported (R108, R112). -/
theorem spTracked_requestFails (hforce : s.spForce k = false) (hcmd : (s.spCmd k).1 = none) :
    s.spTracked k false = (((((s.clrReg (spReg k) 0x300000).spUntrack k).orReg (spStat k) (spFailBit k)).clrReg (spReg k) (2 ^ 31)).orReg
      (spReg k) 0x800000).report1 23 (spChan k) := by
  simp [spTracked, hforce, hcmd, completeOpt]

/-- The readiness check of a monitor entry is over (R146). -/
def monTrackReady (k : SpKey) (s : State) : State :=
  { s with mon := { s.mon with track := s.mon.track.map (fun e => if e.1 = spId k then (e.1, { e.2 with ready := true }) else e) } }

@[simp] theorem reg_monTrackReady (k : SpKey) (s : State) (i : Nat) : (s.monTrackReady k).reg i = s.reg i := rfl

end State

open State

/-! ### The commands -/

section
variable {mon : Bool} {u : Cu} {tile j : Nat} {s : State} (hh : s.holds u = true) (ht : tile < s.part.tiles) (hj : j < (if mon then 4 else 12)) (v : Word)
include hh ht hj

/-- A holder's request of an entry of either sort (R108, R146). -/
theorem exec_spareRequest_holder :
    exec (if mon then .monSpareRequest u tile j v else .drvSpareRequest u tile j v) s =
      .next ((s.recWrite u (spReg ⟨mon, tile, j⟩) (v ||| 0x80000000)).spRequest ⟨mon, tile, j⟩ (field v 7 0) none false) := by
  cases mon <;> exact (if_pos ⟨ht, hj⟩).trans (congrArg Host.Outcome.next (baseWrite_holder hh _ _ _))

/-- A holder's release of an entry of either sort (R108, R146). -/
theorem exec_spareRelease_holder :
    exec (if mon then .monSpareRelease u tile j v else .drvSpareRelease u tile j v) s =
      .next ((s.recWrite u (spReg ⟨mon, tile, j⟩) (v &&& 0x7FFFFFFF)).spRelease ⟨mon, tile, j⟩ (field v 7 0) none false) := by
  cases mon <;> exact (if_pos ⟨ht, hj⟩).trans (congrArg Host.Outcome.next (baseWrite_holder hh _ _ _))

end

/-- Tracking of a drive entry ends once 64 ticks have passed since it began (R108). -/
theorem exec_drvSpareTrackingDone_due {tile j g : Nat} {t : SpareTrack} {s : State} (htrack : Tab.find (spId ⟨false, tile, j⟩) s.drv.track = some t)
    (hstart : t.startG = some g) (hon : s.fabOn = true) (hpend : s.spPend ⟨false, tile, j⟩ = true) (hready : s.spReady ⟨false, tile, j⟩ = false)
    (hdue : g + 64 ≤ s.time.g) (ht : tile < s.part.tiles) (hj : j < 12) (agree : Bool) :
    exec (.drvSpareTrackingDone tile j agree) s = .next (s.spTracked ⟨false, tile, j⟩ agree) := by
  show execDrvSpareTrackingDone tile j agree s = _
  simp [execDrvSpareTrackingDone, htrack, hstart, hon, hpend, hready, hdue, ht, hj]

/-- A readiness check that agrees makes a monitor entry READY, unless a calibration has the DAC (R138, R146). -/
theorem exec_monSpareReadinessDone_agree {tile j : Nat} {s : State} (ht : tile < s.part.tiles) (hj : j < 4) (hpend : s.spPend ⟨true, tile, j⟩ = true)
    (hready : s.spReady ⟨true, tile, j⟩ = false) (hon : s.fabOn = true) (hdac : s.dacUser tile ≠ 1) :
    exec (.monSpareReadinessDone tile j true) s = .next ((s.spTracked ⟨true, tile, j⟩ true).monTrackReady ⟨true, tile, j⟩) := by
  show execMonSpareReadinessDone tile j true s = _
  simp [execMonSpareReadinessDone, ht, hj, hpend, hready, hon, hdac, monTrackReady]

/-- Settles O10: each command by the entry's state as the write's record leaves it, each end of tracking by whether it agrees. -/
theorem spareSubstitution : Obligations.SpareSubstitution := by
  unfold Obligations.SpareSubstitution
  refine ⟨fun mon u tile j v s hh ht hj => ⟨?_, ?_, ?_, ?_⟩, fun tile j g t s htrack hstart hon hpend hready hdue ht hj => ?_,
    fun tile j s ht hj hpend hready hon hdac => ?_, fun k s hforce hcmd => spTracked_requestFails hforce hcmd⟩
  · intro w hen hforce husable
    rw [exec_spareRequest_holder hh ht hj, spRequest_usable hen hforce husable]
  · intro w hen hforce husable
    rw [exec_spareRequest_holder hh ht hj, spRequest_unusable hen hforce husable]
    rfl
  · intro w hforce hpend
    rw [exec_spareRelease_holder hh ht hj, spRelease_inForce hforce hpend]
  · intro w hforce hpend
    rw [exec_spareRelease_holder hh ht hj, spRelease_pending hforce hpend]
    rfl
  · have hdone := exec_drvSpareTrackingDone_due htrack hstart hon hpend hready hdue ht hj
    exact ⟨hdone true, hdone false⟩
  · refine ⟨_, exec_monSpareReadinessDone_agree ht hj hpend hready hon hdac, ?_, rfl⟩
    rw [reg_monTrackReady, spTracked_agree]
    exact reg_orReg s _ _

end Sys2Proof.Machine
end

section
/-! The fine lane's instants, the alignment of its grid, manual injections and the monitors' diagnosis (R130, R132, R138–R141, R152, R157). -/
namespace Sys2Proof.Machine

/-- A bit that the mask leaves out reads 0. -/
theorem bit_and_false {y : Word} {i : Nat} (x : Word) (h : bit y i = false) : bit (x &&& y) i = false := by rw [bit_and, h, Bool.and_false]

namespace State

/-! ### ALIGN (R132) -/

/-- ALIGN stands pending while the drive is off and is refused while it is on (R132). -/
theorem alignRequest_eq (s : State) : s.alignRequest = s.orReg Reg.MON_GSTAT (if s.fabOn then 4 else 2) :=
  (apply_ite (fun m => s.orReg Reg.MON_GSTAT m) _ _ _).symm

/-- The grid is shifted: the next interval takes the shift, the request ends aligned, and ORIGIN moves by as much (R132). -/
def aligned (s : State) : State :=
  ((({ s with time := { s.time with interval := ((s.time.interval : Int) + s.alignShift).toNat } } : State).clrReg Reg.MON_GSTAT 2).orReg
    Reg.MON_GSTAT 1).setField Reg.MON_GSTAT 31 25 (low 7 ((s.fld Reg.MON_GSTAT 31 25 : Nat) + s.alignShift))

/-! ### Manual injections (R138, R139) -/

section
variable {tile : Nat} {v : Word} {s : State}

/-- With the tile's DAC free, EN is set and the injection waits for the next fine-lane instant (R138, R139). -/
theorem injWrite_free (hen : bit v 31 = true) (hfree : s.dacUser tile = 0) :
    s.injWrite tile v =
      let x := s.setReg (Reg.MON_INJ tile) (v &&& 0x807FFFFF)
      { x with mon := { x.mon with inj := Tab.set tile { index := field v 22 16, fromClk := x.nextFineClk + 4, untilClk := none } x.mon.inj } } := by
  unfold injWrite
  rw [if_pos hen, if_neg (not_not.mpr hfree)]
  rfl

/-- With the tile's DAC in use, the injection is refused (R138). -/
theorem injWrite_busy (hen : bit v 31 = true) (hbusy : s.dacUser tile ≠ 0) : s.injWrite tile v = s.orReg (Reg.MON_STATUS tile) 0x100 := by
  unfold injWrite
  rw [if_pos hen, if_pos hbusy]

/-- EN 0 ends the injection, and the other fields are taken (R139). -/
theorem injWrite_end (hen : bit v 31 = false) : s.injWrite tile v = (s.injEnd tile).setReg (Reg.MON_INJ tile) (v &&& 0x007FFFFF) :=
  if_neg (Bool.eq_false_iff.mp hen)

end

/-! ### Diagnosis (R140, R157) -/

section
variable {v : Word} {s : State}

theorem diagCtrl_start (hstart : bit v 0 = true) (hstop : bit v 1 = false) : s.diagCtrl v = s.diagStart v := by
  simp [diagCtrl, hstart, hstop]

theorem diagCtrl_stop (hstart : bit v 0 = false) (hstop : bit v 1 = true) : s.diagCtrl v = s.diagStop.maskWrite Reg.MON_DIAG_CTRL 4 v := by
  simp [diagCtrl, hstart, hstop]

/-- With no diagnosis running, and in MODE 0 the drive off, a diagnosis starts with no failures counted (R140). -/
theorem diagStart_goes (hidle : s.mon.diag = none) (hoff : field v 2 2 = 0 → s.fabOn = false) :
    s.diagStart v =
      let x := s.maskWrite Reg.MON_DIAG_CTRL 4 v
      (({ x with mon := { x.mon with diag := some (field v 2 2) } } : State).setField Reg.MON_DIAG_STATUS 31 16 0).orReg Reg.MON_DIAG_STATUS 1 := by
  unfold diagStart
  refine if_neg ?_
  simpa [hidle] using hoff

/-- A diagnosis that runs, or the drive in MODE 0, refuses START (R140). -/
theorem diagStart_refused (h : s.mon.diag.isSome = true ∨ field v 2 2 = 0 ∧ s.fabOn = true) :
    s.diagStart v = (s.maskWrite Reg.MON_DIAG_CTRL 4 v).orReg Reg.MON_DIAG_STATUS 8 := by
  unfold diagStart
  refine if_pos ?_
  simpa using h

/-- The diagnosis that runs ends ABORTED (R157). -/
theorem diagStop_running {m : Nat} (h : s.mon.diag = some m) :
    s.diagStop = (({ s with mon := { s.mon with diag := none } } : State).clrReg Reg.MON_DIAG_STATUS 1).orReg Reg.MON_DIAG_STATUS 4 := by
  simp [diagStop, h]

end

/-- A diagnosis is over once its results stand: none runs, BUSY is cleared and DONE set (R141). -/
def diagOver (s : State) : State :=
  (({ s with mon := { s.mon with diag := none } } : State).clrReg Reg.MON_DIAG_STATUS 1).orReg Reg.MON_DIAG_STATUS 2

theorem diagOver_diag (s : State) : s.diagOver.mon.diag = none := rfl

theorem rbit_diagOver (s : State) : s.diagOver.rbit Reg.MON_DIAG_STATUS 0 = false ∧ s.diagOver.rbit Reg.MON_DIAG_STATUS 1 = true := by
  have hbusy : Nat.testBit 1 0 = true ∧ Nat.testBit 2 0 = false := by decide
  have hdone : Nat.testBit 2 1 = true := rfl
  simp [diagOver, hbusy, hdone]

end State

open State

/-! ### The commands -/

/-- On a grid index that is a multiple of 32 and has not had its instant, the command is one fine-lane instant (R130). -/
theorem exec_fineLaneInstant_due {s : State} (hon : s.time.on = true) (hlive : s.inReplay = false) (hgrid : s.time.g % 32 = 0)
    (hnew : s.mon.fineAt ≠ some s.time.g) (raw : List (Nat × MonRaw)) : exec (.fineLaneInstant raw) s = .next (s.fineInstant raw) := by
  show execFineLaneInstant raw s = _
  simp [execFineLaneInstant, hon, hlive, hgrid, hnew]

/-- At the first clock of a second that PPS disciplines, a pending request is carried out (R132). -/
theorem exec_gridAlign_due {s : State} (hpend : s.rbit Reg.MON_GSTAT 1 = true) (hon : s.time.on = true)
    (hsecond : s.time.ns * 2 ^ 32 + s.time.frac < incOf s.freq (if s.time.phLeft = 0 then 0 else s.time.ph)) (hpps : s.fld Reg.TIM_STATUS 2 0 = 2) :
    exec .gridAlign s = .next s.aligned := by
  show execGridAlign s = _
  unfold execGridAlign
  rw [hpend, hon, decide_eq_true hsecond, decide_eq_true hpps]
  rfl

/-- A diagnosis that runs ends with its results noted (R141). -/
theorem exec_monDiagDone_running {m : Nat} {s : State} (h : s.mon.diag = some m) (r : List (Nat × List DiagRes)) :
    ∃ x : State, exec (.monDiagDone r) s = .next x.diagOver := by
  show ∃ x : State, execMonDiagDone r s = .next x.diagOver
  unfold execMonDiagDone
  rw [h]
  exact ⟨_, rfl⟩

section
variable {u : Cu} {s : State} (hh : s.holds u = true) (v : Word)
include hh

theorem exec_monGridAlignRequest_holder :
    exec (.monGridAlignRequest u v) s = .next (s.recWrite u Reg.MON_GCTRL (v ||| 1)).alignRequest :=
  congrArg Host.Outcome.next (baseWrite_holder hh _ _ _)

theorem exec_monDiagStart_holder :
    exec (.monDiagStart u v) s = .next ((s.recWrite u Reg.MON_DIAG_CTRL (v ||| 1)).diagCtrl (v ||| 1)) :=
  congrArg Host.Outcome.next (baseWrite_holder hh _ _ _)

theorem exec_monDiagStop_holder :
    exec (.monDiagStop u v) s = .next ((s.recWrite u Reg.MON_DIAG_CTRL (v ||| 2)).diagCtrl (v ||| 2)) :=
  congrArg Host.Outcome.next (baseWrite_holder hh _ _ _)

section
variable {tile : Nat} (ht : tile < s.part.tiles)
include ht

theorem exec_monInjectStart_holder : exec (.monInjectStart u tile v) s =
    .next ((s.recWrite u (Reg.MON_INJ tile) (v ||| 0x80000000)).injWrite tile (v ||| 0x80000000)) :=
  (if_pos ht).trans (congrArg Host.Outcome.next (baseWrite_holder hh _ _ _))

theorem exec_monInjectStop_holder : exec (.monInjectStop u tile v) s =
    .next ((s.recWrite u (Reg.MON_INJ tile) (v &&& 0x7FFFFFFF)).injWrite tile (v &&& 0x7FFFFFFF)) :=
  (if_pos ht).trans (congrArg Host.Outcome.next (baseWrite_holder hh _ _ _))

theorem exec_monCountClear_holder : exec (.monCountClear u tile v) s =
    .next ((s.recWrite u (Reg.MON_TCTRL tile) (v ||| 1)).setReg (Reg.MON_TCNT tile) 0) :=
  (if_pos ht).trans (congrArg Host.Outcome.next (baseWrite_holder hh _ _ _))

end

end

/-- Settles O11: the instant and the alignment are what they are due for; each write, once recorded, by the DAC's user or by the diagnosis that runs. -/
theorem monitorLanes : Obligations.MonitorLanes := by
  unfold Obligations.MonitorLanes
  refine ⟨fun raw s hon hlive hgrid hnew => ?_, ⟨fun u v s hh => ?_, fun s hpend hon hsecond hpps => exec_gridAlign_due hpend hon hsecond hpps⟩,
    fun u tile v s hh ht => ⟨⟨fun hfree => ?_, fun hbusy => ?_⟩, ?_, exec_monCountClear_holder hh v ht⟩,
    fun u v s hh hstop => ⟨fun hidle hoff => ?_, fun hrefuse => ?_⟩, fun u v m s hh hstart => ?_, fun r m s hrun => ?_⟩
  · rw [exec_fineLaneInstant_due hon hlive hgrid hnew, fineInstant]
  · rw [exec_monGridAlignRequest_holder hh, alignRequest_eq]
  · rw [exec_monInjectStart_holder hh v ht, injWrite_free (bit_or_true v rfl) hfree]
  · rw [exec_monInjectStart_holder hh v ht, injWrite_busy (bit_or_true v rfl) hbusy]
  · refine ⟨_, exec_monInjectStop_holder hh v ht, ?_⟩
    rw [injWrite_end (bit_and_false v rfl), reg_setReg]
  · rw [exec_monDiagStart_holder hh, diagCtrl_start (bit_or_true v rfl) (bit_or_false hstop rfl), diagStart_goes hidle hoff]
  · rw [exec_monDiagStart_holder hh, diagCtrl_start (bit_or_true v rfl) (bit_or_false hstop rfl), diagStart_refused hrefuse]
  · intro w hrun
    rw [exec_monDiagStop_holder hh, diagCtrl_stop (bit_or_false hstart rfl) (bit_or_true v rfl), diagStop_running hrun]
  · obtain ⟨x, hx⟩ := exec_monDiagDone_running hrun r
    exact ⟨_, hx, x.diagOver_diag, x.rbit_diagOver⟩

end Sys2Proof.Machine
end

section
/-! Writes of MON_CFG and of a port side's registers (R137, R155, R156). -/
namespace Sys2Proof.Machine
namespace State

/-- GAIN, FILT and AUTO as last asked for: those that wait for a fine-lane instant, else those in force (R137, R155). -/
def askedCfg (m : Mon) : Nat := m.req.getD (m.gain + 4 * b2n m.filt + 8 * b2n m.auto)

section
variable {ch : Nat} {v : Word} {s : State}

/-- GAIN, FILT and AUTO of a channel that is no TAP are asked for where AUTO leaves GAIN as it is, or is 0 (R137, R155). -/
theorem monCfgWrite_taken (hrole : (s.monCh ch).role ≠ 8) (h : bit v 11 = false ∨ field v 9 8 = askedCfg (s.monCh ch) % 4) :
    s.monCfgWrite ch v =
      s.setMon ch { s.monCh ch with req := some (field v 9 8 + 4 * field v 10 10 + 8 * b2n (bit v 11)) } := by
  unfold askedCfg at h
  rcases h with hauto | hgain
  · simp [monCfgWrite, hrole, hauto]
  · simp [monCfgWrite, hrole, hgain]

/-- With AUTO asked for, another GAIN is discarded: the GAIN asked for before stays (R155). -/
theorem monCfgWrite_gainDiscarded (hrole : (s.monCh ch).role ≠ 8) (hauto : bit v 11 = true) (hgain : field v 9 8 ≠ askedCfg (s.monCh ch) % 4) :
    s.monCfgWrite ch v =
      (s.setMon ch { s.monCh ch with req := some (askedCfg (s.monCh ch) % 4 + 4 * field v 10 10 + 8) }).orReg (Reg.MON_STATUS (ch / 96)) 0x10 := by
  unfold askedCfg at hgain ⊢
  simp [monCfgWrite, hrole, hauto, hgain, show b2n true = 1 from rfl]

/-- AUTO of a TAP is discarded, and its GAIN and FILT are asked for (R155, log entry 56). -/
theorem monCfgWrite_tapAuto (hrole : (s.monCh ch).role = 8) (hauto : bit v 11 = true) :
    s.monCfgWrite ch v =
      (s.setMon ch { s.monCh ch with req := some (field v 9 8 + 4 * field v 10 10) }).orReg (Reg.MON_STATUS (ch / 96)) 0x10 := by
  simp [monCfgWrite, hrole, hauto, show b2n false = 0 from rfl]

end

end State

open State

section
variable {u : Cu} {s : State} (hh : s.holds u = true) (v : Word)
include hh

theorem exec_monCfgWrite_holder {ch : Nat} (hch : ch < 96 * s.part.tiles) :
    exec (.monCfgWrite u ch v) s = .next ((s.recWrite u (Reg.MON_CFG (ch / 96) (ch % 96)) v).monCfgWrite ch v) :=
  (if_pos hch).trans (congrArg Host.Outcome.next (baseWrite_holder hh _ _ _))

theorem exec_monPortCfgWrite_holder {p : Nat} (hp : p < s.part.ports) (out dwell : Bool) :
    exec (.monPortCfgWrite u p out dwell v) s =
      .next ((s.recWrite u (if dwell then sideDwell p out else sideCfg p out) v).portWrite p out dwell v) :=
  (if_pos hp).trans (congrArg Host.Outcome.next (baseWrite_holder hh _ _ _))

end

/-- Settles O12: a write of MON_CFG by the channel's role and by AUTO, one of a port side by the register it names. -/
theorem monitorConfiguration : Obligations.MonitorConfiguration := by
  unfold Obligations.MonitorConfiguration
  refine ⟨fun u ch v s hh hch => ?_, fun u p out v s hh hp => ?_⟩
  · rw [exec_monCfgWrite_holder hh v hch]
    refine ⟨fun hrole htake => ?_, fun hrole hauto hgain => ?_, fun hrole hauto => ?_⟩
    · rw [monCfgWrite_taken hrole htake]
    · rw [monCfgWrite_gainDiscarded hrole hauto hgain]
      rfl
    · rw [monCfgWrite_tapAuto hrole hauto]
  · exact ⟨exec_monPortCfgWrite_holder hh v hp out true, exec_monPortCfgWrite_holder hh v hp out false⟩

end Sys2Proof.Machine
end

section
/-! Result queues: EN of MON_RQ_CTRL and the age rule (R142–R145, R156). -/
namespace Sys2Proof.Machine
namespace State
variable {q : Nat} {v : Word} {s : State}

/-- EN asked for takes the fields as they are locked, then judges EN (R12, R156). -/
theorem rqCtrl_enable (hen : bit v 31 = true) :
    s.rqCtrl q v =
      (s.rwlWrite (Reg.MON_RQ_CTRL q) 0 0x43FF0F07 (s.rbit (Reg.MON_RQ_CTRL q) 31) (Reg.MON_RQ_STATUS q) 0x80000 v).rqEnable q := if_pos hen

/-- Without EN, the fields are taken as they are locked, then the queue is disabled (R12, R156). -/
theorem rqCtrl_disable (hen : bit v 31 = false) :
    s.rqCtrl q v =
      (s.rwlWrite (Reg.MON_RQ_CTRL q) 0 0x43FF0F07 (s.rbit (Reg.MON_RQ_CTRL q) 31) (Reg.MON_RQ_STATUS q) 0x80000 v).rqDisable q :=
  if_neg (Bool.eq_false_iff.mp hen)

/-- A queue whose rate fits is enabled empty, with its drops cleared (R143, R156). -/
theorem rqEnable_fits (hoff : s.rbit (Reg.MON_RQ_CTRL q) 31 = false) (hfits : s.rqFits q = true) :
    s.rqEnable q = ((s.orReg (Reg.MON_RQ_CTRL q) 0x80000000).setReg (Reg.MON_RQ_DROPS q) 0).setRq q {} := by
  simp [rqEnable, hoff, hfits]

/-- A queue whose rate does not fit is refused (R143). -/
theorem rqEnable_tooFast (hoff : s.rbit (Reg.MON_RQ_CTRL q) 31 = false) (hfits : s.rqFits q = false) :
    s.rqEnable q = s.orReg (Reg.MON_RQ_STATUS q) 0x10000 := by
  simp [rqEnable, hoff, hfits]

/-- An enabled queue discards what it holds and ends with EN 0 (R145). -/
theorem rqDisable_enabled (hon : s.rbit (Reg.MON_RQ_CTRL q) 31 = true) :
    s.rqDisable q = (s.discardRq q).clrReg (Reg.MON_RQ_CTRL q) 0x80000000 := if_pos hon

end State

open State

section
variable {u : Cu} {s : State} (hh : s.holds u = true) {q : Nat} (hq : q < 16) (v : Word)
include hh hq

theorem exec_resultQueueEnable_holder : exec (.resultQueueEnable u q v) s =
    .next ((s.recWrite u (Reg.MON_RQ_CTRL q) (v ||| 0x80000000)).rqCtrl q (v ||| 0x80000000)) :=
  (if_pos hq).trans (congrArg Host.Outcome.next (baseWrite_holder hh _ _ _))

theorem exec_resultQueueDisable_holder : exec (.resultQueueDisable u q v) s =
    .next ((s.recWrite u (Reg.MON_RQ_CTRL q) (v &&& 0x7FFFFFFF)).rqCtrl q (v &&& 0x7FFFFFFF)) :=
  (if_pos hq).trans (congrArg Host.Outcome.next (baseWrite_holder hh _ _ _))

end

/-- The oldest result of a queue has waited AGE, and the queue has not asked yet: it asks (R144). -/
theorem exec_resultQueueAgeExpiry_due {q : Nat} {r : MonRes} {rest : List MonRes} {s : State} (hq : q < 16) (hstore : (s.rq q).store = r :: rest)
    (hage : s.fld (Reg.MON_RQ_WM q) 27 16 ≠ 0) (hdue : r.at_ + clksUs (s.fld (Reg.MON_RQ_WM q) 27 16) ≤ s.clk) (hasked : (s.rq q).asked = false) :
    exec (.resultQueueAgeExpiry q) s = .next (s.setRq q { s.rq q with asked := true }) := by
  show execResultQueueAgeExpiry q s = _
  simp [execResultQueueAgeExpiry, hstore, hq, hage, hdue, hasked]

/-- Settles O13: EN of a queue that is off by the rate limit, EN 0 of one that is on, and the age rule. -/
theorem resultQueues : Obligations.ResultQueues := by
  unfold Obligations.ResultQueues
  refine ⟨fun u q v s hh hq => ?_, fun u q v s hh hq => ?_,
    fun q r rest s hq hstore hage hdue hasked => exec_resultQueueAgeExpiry_due hq hstore hage hdue hasked⟩
  · intro w hunlocked hoff
    rw [exec_resultQueueEnable_holder hh hq, rqCtrl_enable (bit_or_true v rfl), hunlocked, rwlWrite_open]
    exact ⟨fun hfits => congrArg Host.Outcome.next (rqEnable_fits hoff hfits), fun hfits => congrArg Host.Outcome.next (rqEnable_tooFast hoff hfits)⟩
  · intro w hon
    rw [exec_resultQueueDisable_holder hh hq, rqCtrl_disable (bit_and_false v rfl), rqDisable_enabled hon]

end Sys2Proof.Machine
end

section
/-! The engines of the route cache: inserts, the aging sweep, the rehash and the header clear (R173–R177). -/
namespace Sys2Proof.Machine
namespace State
variable {s : State}

/-! ### One insert (R173, R177) -/

/-- The bucket where a route is to go under the present seed (R171, R173). -/
def insertBucket (s : State) (i : RteInsert) : Nat := s.rteHash false i.res.epoch s.nPorts i.map % 2 ^ 18

/-- The entry that an insert writes (R169, R173). -/
def insertEntry (s : State) (i : RteInsert) : RteEntry :=
  { hash := s.rteHash false i.res.epoch s.nPorts i.map, epoch := i.res.epoch, ports := s.nPorts, flushGen := s.rteGen, age := 0, sgen := s.rteSgen,
    detour := i.res.detour, repaired := decide (i.res.shift ≠ 0), shift := i.res.shift, cand := i.res.cand, steps := i.res.steps, map := i.map,
    vec := i.res.vec }

section
variable {i : RteInsert}

/-- An insert is dropped where the epoch has moved on or the cache is not usable. -/
theorem insertOne_dropped (h : s.rnat Reg.FAB_EPOCH ≠ i.res.epoch ∨ s.rteUsable = false) : s.insertOne i = s := by
  refine if_pos ?_
  rcases h with hepoch | husable
  · simp [hepoch]
  · simp [husable]

variable (hepoch : s.rnat Reg.FAB_EPOCH = i.res.epoch) (husable : s.rteUsable = true)
include hepoch husable

/-- A full bucket takes nothing: TABLE_FULL counts and event 0x31 tells the bucket and the epoch (R173). -/
theorem insertOne_full (hfull : s.rteFree (s.insertBucket i) = none) : s.insertOne i =
    ((s.bump Reg.RTE_TABLE_FULL 31 0 1).orReg Reg.RTE_CACHE_STATUS 0x10).event 3 0x31 0 s.now (s.insertBucket i) i.res.epoch 0 0 := by
  refine (if_neg (by simp [hepoch, husable])).trans ?_
  unfold insertBucket at hfull ⊢
  dsimp only
  rw [hfull]

/-- A bucket with room takes the entry in its free way (R173). -/
theorem insertOne_free {key : Nat} (hfree : s.rteFree (s.insertBucket i) = some key) :
    s.insertOne i = { s with rte := { s.rte with table := Tab.set key (s.insertEntry i) s.rte.table } } := by
  refine (if_neg (by simp [hepoch, husable])).trans ?_
  unfold insertBucket at hfree
  dsimp only
  rw [hfree]
  rfl

end

/-! ### The marks of a rehash's end and of a clear's end in RTE_CACHE_STATUS (R175, R176, R180) -/

theorem rteBusy_event (cls typ flags evt p0 p1 p2 p3 : Nat) : (s.event cls typ flags evt p0 p1 p2 p3).rteBusy = s.rteBusy := by
  unfold rteBusy rbit
  rw [event_reg (by decide)]

/-- The walk's end clears BUSY. -/
theorem rteBusy_rehashEnd (v : Word) :
    (((s.clrReg Reg.RTE_CACHE_STATUS 2).orReg Reg.RTE_CACHE_STATUS 0x40).setReg Reg.RTE_REHASH_POS v).rteBusy = false := by
  have hclr : Nat.testBit 2 1 = true := rfl
  have hset : Nat.testBit 0x40 1 = false := rfl
  rw [rteBusy, rbit_setReg_ne _ (by decide), rbit_orReg, rbit_clrReg, hclr, hset]
  simp

/-- The clear's end takes CLEARING away. -/
theorem rbit_clearEnd_clearing :
    ((s.clrReg Reg.RTE_CACHE_STATUS 4).orReg Reg.RTE_CACHE_STATUS 1).rbit Reg.RTE_CACHE_STATUS 2 = false := by
  have hclr : Nat.testBit 4 2 = true := rfl
  have hset : Nat.testBit 1 2 = false := rfl
  rw [rbit_orReg, rbit_clrReg, hclr, hset]
  simp

/-- The clear's end sets READY. -/
theorem rbit_clearEnd_ready :
    ((s.clrReg Reg.RTE_CACHE_STATUS 4).orReg Reg.RTE_CACHE_STATUS 1).rbit Reg.RTE_CACHE_STATUS 0 = true := by
  have hset : Nat.testBit 1 0 = true := rfl
  rw [rbit_orReg, hset]
  exact Bool.or_true _

end State

open State

/-! ### The four engines -/

section
variable {s : State}

/-- The oldest insert that waits in a unit is made. -/
theorem exec_cacheInsert_waiting {u : Cu} {i : RteInsert} {rest : List RteInsert} (hwait : s.inserts u = i :: rest) :
    exec (.cacheInsert u) s = .next ((s.setInserts u rest).insertOne i) := by
  show execCacheInsert u s = _
  simp [execCacheInsert, hwait]

/-- A sweep whose period is up ages every entry that the walk leaves, and the next period runs from its end (R174). -/
theorem exec_cacheAgeSweep_due (bad : List (Nat × Bool)) (hready : s.rbit Reg.RTE_CACHE_STATUS 0 = true)
    (hdue : s.rte.ageDue + clksS (max 4 (s.fld Reg.RTE_AGE_PERIOD 15 0)) ≤ s.clk) :
    let aged := ((s.walkBad bad).rte.table.map Prod.fst).foldl ageOne (s.walkBad bad)
    exec (.cacheAgeSweep bad) s = .next { aged with rte := { aged.rte with ageDue := aged.clk } } :=
  if_pos (by rw [hready, Bool.true_and]; exact decide_eq_true hdue)

/-- A rehash that runs moves every entry that the walk leaves, and its end shows in the registers and as event 0x32 (R176). -/
theorem exec_rehashDone_busy (bad : List (Nat × Bool)) (hbusy : s.rteBusy = true) :
    let moved := ((s.walkBad bad).rte.table.map Prod.fst).foldl rehashMove (s.walkBad bad)
    let done := ((moved.clrReg Reg.RTE_CACHE_STATUS 2).orReg Reg.RTE_CACHE_STATUS 0x40).setReg Reg.RTE_REHASH_POS 0x40000
    exec (.rehashDone bad) s = .next (done.event 3 0x32 0 done.now (done.rnat Reg.RTE_REHASH_DROPS) done.rteValid 0 0) :=
  if_neg (by simp [hbusy])

/-- A clear that runs ends with the table empty and ready (R175). -/
theorem exec_cacheClearDone_clearing (h : s.rbit Reg.RTE_CACHE_STATUS 2 = true) :
    exec .cacheClearDone s = .next ((({ s with rte := { s.rte with table := [], ageDue := s.clk } } : State).clrReg Reg.RTE_CACHE_STATUS 4).orReg
      Reg.RTE_CACHE_STATUS 1) := if_pos h

end

/-- Settles O15: an insert by its epoch and its bucket's room, and one row each for the sweep, the rehash and the clear. -/
theorem cacheEngines : Obligations.CacheEngines := by
  unfold Obligations.CacheEngines
  refine ⟨fun u i rest s hwait => ?_, fun bad s hready hdue => exec_cacheAgeSweep_due bad hready hdue, fun bad s hbusy => ?_, fun s hclearing => ?_⟩
  · rw [exec_cacheInsert_waiting hwait]
    refine ⟨fun hdrop => ?_, fun hepoch husable hfull => ?_, fun key hepoch husable hfree => ?_⟩
    · rw [insertOne_dropped hdrop]
    · exact congrArg Host.Outcome.next (insertOne_full hepoch husable hfull)
    · rw [insertOne_free hepoch husable hfree]
      exact ⟨_, _, rfl, Tab.find_set_self key _ _, rfl, rfl, rfl, rfl⟩
  · exact ⟨_, exec_rehashDone_busy bad hbusy, rfl, (rteBusy_event ..).trans (rteBusy_rehashEnd _), (event_reg (by decide) ..).trans (reg_setReg ..)⟩
  · exact ⟨_, exec_cacheClearDone_clearing hclearing, rfl, rbit_clearEnd_clearing, rbit_clearEnd_ready⟩

end Sys2Proof.Machine
end

section
/-! Bastes: their acceptance, what takes the front of a unit's list, and their completion (R187, R189, R395). -/
namespace Sys2Proof.Machine
namespace State

@[simp] theorem bastes_setBastes (u : Cu) (l : List Baste) (s : State) : (s.setBastes u l).bastes u = l := by cases u <;> rfl

@[simp] theorem slot_setSlot (i : Nat) (x : Slot) (s : State) : (s.setSlot i x).slot i = x := Tab.get_put_self ..

/-! ### The front of a unit's list (R189) -/

section
variable {u : Cu} {b : Baste} {rest : List Baste} {s : State} (hfront : s.bastes u = b :: rest)
include hfront

/-- A Baste taken up keeps the front of its unit. -/
theorem takeBaste_working (hwork : b.work.isSome = true) : ∀ n, s.takeBaste u n = s
  | 0 => rfl
  | n + 1 => by simp [takeBaste, hfront, hwork]

/-- One that R189 refuses leaves the list and completes; the next is taken up. -/
theorem takeBaste_refused {st : Nat} (hidle : b.work = none) (hrefused : s.basteRefusal b.cmd b.data = some st) (n : Nat) :
    s.takeBaste u (n + 1) = ((s.setBastes u rest).refuse b.cmd st).takeBaste u n := by
  simp [takeBaste, hfront, hidle, hrefused]

/-- In graph mode one that passes is built at once, and its slot shows BASTING (R187). -/
theorem takeBaste_graph {l : List Byte} (hidle : b.work = none) (hbytes : b.data = .bytes l) (hpasses : s.basteRefusal b.cmd b.data = none)
    (hgraph : s.graph = true) (n : Nat) :
    let w := s.basteBuild b.cmd l (leAll l % 2 ^ s.nCells) none
    s.takeBaste u (n + 1) = (w.2.setSlot (b.cmd.b 4) { s.slot (b.cmd.b 4) with st := 1 }).setBastes u ({ b with work := some w.1 } :: rest) := by
  rw [hbytes] at hpasses
  simp [takeBaste, hfront, hidle, hbytes, hpasses, hgraph]

end

/-! ### Acceptance (R395) -/

section
variable {c : Cmd} {d : HostData} {bad : List Nat} {s : State}

theorem basteTake_malformed (h : originOk (c.h 6) = false ∨ hostAddrOk (c.q 16) = false) : s.basteTake c d bad = s.refuse c 0x05 := by
  refine if_pos ?_
  rcases h with horigin | haddr
  · simp [horigin]
  · simp [haddr]

theorem basteTake_formed (horigin : originOk (c.h 6) = true) (haddr : hostAddrOk (c.q 16) = true) :
    s.basteTake c d bad = (s.setBastes c.unit (s.bastes c.unit ++ [{ cmd := c, data := d, badWays := bad, work := none }])).takeBaste c.unit
      ((s.bastes c.unit).length + 1) := if_neg (by simp [horigin, haddr])

end
end State

open State

/-! ### The commands -/

section
variable {s : State}

theorem exec_mapBaste_ready {c : Cmd} (h : Ready c 2 s) (d : HostData) (bad : List Nat) :
    exec (.mapBaste c d bad) s = .next (((s.startFlight c).recReads c d).basteTake c d bad) := congrArg Host.Outcome.next (runDesc_ready h _)

theorem exec_basteComplete_free {u : Cu} {b : Baste} {w : BasteWork} {rest : List Baste} (hfront : s.bastes u = b :: rest) (hwork : b.work = some w)
    (hfree : s.halfBusy w = false) : exec (.basteComplete u) s = .next (s.basteDone u b w rest) := by
  show execBasteComplete u s = _
  simp [execBasteComplete, hfront, hwork, hfree]

end

/-- Settles O16: acceptance by the form of the descriptor, the take-up by what stands at the front of the unit's list, and the completion is one row. -/
theorem bastes : Obligations.Bastes := by
  unfold Obligations.Bastes
  refine ⟨fun c l bad s hready => ?_, fun u b w rest s hfront hwork hfree =>
    ⟨exec_basteComplete_free hfront hwork hfree, slot_setSlot ..⟩⟩
  rw [exec_mapBaste_ready hready]
  refine ⟨fun hform => ?_, fun b0 rest horigin haddr hlist hwork => ?_, fun st horigin haddr hlist hrefused => ?_,
    fun horigin haddr hlist hpasses hgraph => ?_⟩
  · rw [basteTake_malformed hform]
  · rw [basteTake_formed horigin haddr, hlist, List.cons_append, takeBaste_working (bastes_setBastes ..) hwork]
  · rw [basteTake_formed horigin haddr, hlist, List.nil_append, takeBaste_refused (bastes_setBastes ..) rfl hrefused]
    rfl
  · rw [basteTake_formed horigin haddr, hlist, List.nil_append, takeBaste_graph (bastes_setBastes ..) rfl rfl hpasses hgraph]

end Sys2Proof.Machine
end

section
/-! Descriptor Gusts that wait, the users of the preload path, and arming (R192–R196, R396). -/
namespace Sys2Proof.Machine
namespace State

/-! ### Who takes the preload path (R193, R194) -/

section
variable {s : State} {r : GustReq}

/-- A pin Gust takes the path from all but another pin. -/
theorem preloadNext_pin {rest : List GustReq} (hpath : 0 < s.takeLatched.pathRank) (hpins : s.takeLatched.gst.pins = r :: rest) :
    s.preloadNext = ({ s.takeLatched with gst := { s.takeLatched.gst with pins := rest } } : State).startPre r := by
  simp [preloadNext, hpins, hpath]

variable (hpins : s.takeLatched.gst.pins = [])
include hpins

/-- With no pin waiting, the schedule takes it from a descriptor. -/
theorem preloadNext_sched (hpath : 1 < s.takeLatched.pathRank) (hsched : s.takeLatched.schedReq = some r) :
    s.preloadNext = s.takeLatched.startPre r := by
  simp [preloadNext, hpins, hpath, hsched]

/-- With neither, a descriptor takes it from a slot kept armed. -/
theorem preloadNext_desc (hpath : 2 < s.takeLatched.pathRank) (hsched : s.takeLatched.schedReq = none) (hdesc : s.takeLatched.descReq = some r) :
    s.preloadNext = s.takeLatched.startDesc r := by
  simp [preloadNext, hpins, hpath, hsched, hdesc]

end

/-! ### Arming (R192, R193) -/

/-- A preload as it stands once its slot has been judged STALE, CAL_OLD and NO_DRAUGHT (R192). -/
def judged (s : State) (p : Preload) : Preload :=
  let x := s.slot p.req.slot
  { p with stale := decide (x.epoch ≠ s.rnat Reg.FAB_EPOCH), calOld := decide (x.calset ≠ s.rnat Reg.CAL_GEN),
           noDraught := x.traj.isNone || decide (s.rnat Reg.GST_ACTIVE ≠ 2 ^ 16 * x.originBgen + x.originSlot) }

/-- A preload arms its slot, unless a descriptor asked for it and the slot is no longer BASTED or is STALE and to be refused. -/
theorem arm_fit {p : Preload} {s : State} (hfit : ∀ c, p.req.src = .desc c →
      (s.slot p.req.slot).st = 2 ∧ ((s.slot p.req.slot).epoch = s.rnat Reg.FAB_EPOCH ∨ s.rbit Reg.GST_CTRL 1 = false)) :
    s.arm p = ((({ s.unpre with gst := { s.unpre.gst with armed := some (s.judged p) } } : State).loadNext (s.slot p.req.slot).img).setReg Reg.GST_STATUS
      ((s.unpre.reg Reg.GST_STATUS &&& 0x7FFFFF) ||| word (2 ^ 24 * (p.req.slot % 256) + 2 ^ 23))) := by
  unfold arm
  cases hsrc : p.req.src with
  | desc c =>
    obtain ⟨hbasted, hepoch | hkeeps⟩ := hfit c hsrc
    · simp [hbasted, hepoch, judged]
    · simp [hbasted, hkeeps, judged]
  | sched => rfl
  | pin i => rfl
  | keep i => rfl

end State

open State

/-! ### The commands -/

section
variable {s : State}

section
variable {c : Cmd} (hready : Ready c 3 s)
include hready

/-- GUST is INVALID with the drive off or the slot EMPTY (R396). -/
theorem exec_gust_invalid (h : (s.startFlight c).fabOn = false ∨ ((s.startFlight c).slot (c.b 4)).st = 0) :
    exec (.gust c) s = .next ((s.startFlight c).refuse c 0x05) := by
  refine congrArg Host.Outcome.next ((runDesc_ready hready _).trans (if_pos ?_))
  rcases h with hoff | hempty
  · simp [hoff]
  · simp [hempty]

/-- It is BUSY while the slot is BASTING (R396). -/
theorem exec_gust_basting (hon : (s.startFlight c).fabOn = true) (hbasting : ((s.startFlight c).slot (c.b 4)).st = 1) :
    exec (.gust c) s = .next ((s.startFlight c).refuse c 0x11) := by
  refine congrArg Host.Outcome.next ((runDesc_ready hready _).trans ?_)
  simp [hon, hbasting]

/-- It waits with the others where there is room: 64 of those with an action time (R195). -/
theorem exec_gust_waits (hon : (s.startFlight c).fabOn = true) (hfilled : ((s.startFlight c).slot (c.b 4)).st ≠ 0)
    (hidle : ((s.startFlight c).slot (c.b 4)).st ≠ 1)
    (hroom : c.isNow = true ∨ ((s.startFlight c).gst.reqs.filter (fun r => r.due.isSome)).length < 64) :
    let x := s.startFlight c
    let r : GustReq := { src := .desc c, slot := c.b 4, partl := (c.b 5).testBit 0,
                         due := if c.isNow then none else some (x.fullTime (c.w 8) (c.w 12)), late := false }
    exec (.gust c) s = .next { x with gst := { x.gst with reqs := x.gst.reqs ++ [r] } } := by
  refine congrArg Host.Outcome.next ((runDesc_ready hready _).trans ((if_neg ?_).trans (if_neg ?_)))
  · simp [hon, hfilled]
  · rcases hroom with hnow | hless
    · simp [hidle, hnow]
    · simpa [hidle] using fun _ => hless

end

theorem exec_gustPreloadStart_live (hlive : s.inReplay = false) : exec .gustPreloadStart s = .next s.preloadNext :=
  congrArg Host.Outcome.next (if_neg (by simp [hlive]))

theorem exec_gustArmed_loading {p : Preload} (hpre : s.gst.pre = some p) : exec .gustArmed s = .next (s.arm p) := by
  show execGustArmed s = _
  simp [execGustArmed, hpre]

end

/-- Settles O17: a Gust by its slot and the room, the path by the sources in their order, and arming by what a descriptor's slot must still be. -/
theorem gustWaitsAndPreloads : Obligations.GustWaitsAndPreloads := by
  unfold Obligations.GustWaitsAndPreloads
  refine ⟨fun c s hready => ⟨exec_gust_invalid hready, exec_gust_basting hready, exec_gust_waits hready⟩, fun s hlive => ?_, fun p s hpre => ?_⟩
  · rw [exec_gustPreloadStart_live hlive]
    refine ⟨fun r rest hfree hpins => ?_, fun r hfree hpins hsched => ?_, fun r hfree hpins hsched hdesc => ?_⟩
    · rw [preloadNext_pin (by omega) hpins]
    · rw [preloadNext_sched hpins (by omega) hsched]
    · rw [preloadNext_desc hpins (by omega) hsched hdesc]
  · intro x p' hfit
    rw [exec_gustArmed_loading hpre, arm_fit hfit]
    rfl

end Sys2Proof.Machine
end

section
/-! The loop law's limits, loop instants and the application of their outputs (R218–R220, R225). -/
namespace Sys2Proof.Machine

theorem clampI_mem {lo hi : Int} (h : lo ≤ hi) (v : Int) : lo ≤ clampI v lo hi ∧ clampI v lo hi ≤ hi := by
  unfold clampI
  split_ifs <;> omega

/-- Between limits in order it does not matter which of them is tried first: R225 tries the upper one. -/
theorem clampI_upper_first {lo hi : Int} (h : lo ≤ hi) (v : Int) :
    (if decide (v > hi) then hi else if !decide (v > hi) && decide (v < lo) then lo else v) = clampI v lo hi := by
  unfold clampI
  by_cases habove : hi < v
  · simp [habove, not_lt.mpr (h.trans habove.le)]
  · simp [habove]

namespace State

/-! ### The control law (R225) -/

/-- A control value in whole codes: 16 fraction bits, rounded to the nearest (R225). -/
def codeOf (out : Int) : Nat := (asr (out + 0x8000) 16).toNat % 65536

/-- Rounding does not leave limits that are whole codes. -/
theorem codeOf_mem {lo hi : Nat} {out : Int} (hlo : (lo : Int) * 65536 ≤ out) (hhi : out ≤ (hi : Int) * 65536) (hmax : hi ≤ 65535) :
    lo ≤ codeOf out ∧ codeOf out ≤ hi := by
  have hasr : asr (out + 0x8000) 16 = (out + 0x8000) / 65536 := Int.fdiv_eq_ediv_of_nonneg _ (by decide)
  unfold codeOf
  rw [hasr]
  omega

section
variable (v : ClsVals) (st : CellSt) (e : Int) (fresh inLull : Bool) (codeMin codeMax : Nat)

/-- The control value before its limits: the integrator with this instant's step, the proportional and the filtered derivative term (R225). -/
def lawValue : Int :=
  let sc (k : Int) : Int := if inLull then asr k v.lullSh else k
  let ep := if fresh then e else st.ePrev
  st.i + asr (sc v.ki * e) v.sh + asr (sc v.kp * e) v.sh + (st.dfilt + asr (asr (sc v.kd * (e - ep)) v.sh - st.dfilt) v.dfSh)

/-- The lower limit of the control value and of the integrator: CODE_MIN with room for the dither (R225). -/
def lawLo : Int := ((codeMin + v.amp : Nat) : Int) * 65536

/-- The upper limit of both: CODE_MAX with room for the dither (R225). -/
def lawHi : Int := ((codeMax : Int) - (v.amp : Int)) * 65536

/-- Limits that leave the dither its room are in order. -/
theorem lawLo_le_lawHi (h : codeMin + v.amp + v.amp ≤ codeMax) : lawLo v codeMin ≤ lawHi v codeMax := by
  unfold lawLo lawHi
  omega

theorem lawHi_eq (h : v.amp ≤ codeMax) : lawHi v codeMax = ((codeMax - v.amp : Nat) : Int) * 65536 := by
  rw [lawHi, Nat.cast_sub h]

/-- The law's code is its control value, limited and rounded. -/
theorem loopLaw_code (h : lawLo v codeMin ≤ lawHi v codeMax) :
    (loopLaw v st e fresh inLull codeMin codeMax).2.1 = codeOf (clampI (lawValue v st e fresh inLull) (lawLo v codeMin) (lawHi v codeMax)) :=
  congrArg codeOf (clampI_upper_first h _)

/-- The law leaves an integrator that its limits clamp, whether or not this instant's step is taken. -/
theorem loopLaw_int : ∃ i, (loopLaw v st e fresh inLull codeMin codeMax).1.i = clampI i (lawLo v codeMin) (lawHi v codeMax) := ⟨_, rfl⟩

end

/-! ### A loop instant (R218, R219) -/

/-- A loop instant up to where the loops compute: it is marked as done, what waits takes effect, and the drive is recorded (R218, R227–R232, R571). -/
def instantBegun (s : State) : State :=
  ((({ s with loop := { s.loop with instAt := some s.time.g } } : State).throttleInstant).instantChanges).recDrive

/-- The instant is counted, and the outputs of the one before give way to this one's, which are due 40 ticks later (R218). -/
def instantCounted (s : State) : State :=
  let s1 := s.wrapInc Reg.LOOP_INST
  let s2 : State := match s1.holder with | some u => s1.pmcEvent u 0x05 0 1 | none => s1
  { s2 with loop := { s2.loop with outs := [], outAt := s2.time.g + 40 } }

/-- The cells whose loop is AUTO (R225, R227). -/
def autoCells (s : State) : List Nat := (s.loop.cells.filter (fun e => e.2.hasLoop && decide (e.2.st.mode = 2))).map Prod.fst

section
variable {s : State}

theorem loopInstant_idle (h : s.instantBegun.loopsRun = false) : s.loopInstant = s.instantBegun := if_pos (congrArg not h)

/-- Where the loops run: the AUTO cells, the relays, then the marks and the reports of saturation (R225, R235, R239, R240). -/
theorem loopInstant_running (h : s.instantBegun.loopsRun = true) :
    let t := s.instantBegun.instantCounted
    s.loopInstant = (((t.autoCells.foldl autoCell t).squallInstant).markCells).satReports :=
  if_neg (ne_of_eq_of_ne (congrArg not h) Bool.false_ne_true)

/-! ### The outputs of the last instant (R218, R220) -/

/-- One output enters the queue of the channel that serves its arm, where one does (R218). -/
def queueOutput (s : State) (o : LoopOut) : State :=
  match s.drvOf o.arm o.cell with
  | some ch => s.enqueue ch o.code
  | none => s

/-- Outputs are dropped in a safe state and with the drive off (R220). -/
theorem applyOutputs_dropped (h : s.heldNow = true ∨ s.drv.held = true ∨ s.fabOn = false) :
    s.applyOutputs = { s with loop := { s.loop with outs := [] } } := by
  refine if_pos ?_
  rcases h with hsafe | hheld | hoff
  · simp [hsafe]
  · simp [hheld]
  · simp [hoff]

theorem applyOutputs_queued (hsafe : s.heldNow = false) (hheld : s.drv.held = false) (hon : s.fabOn = true) :
    s.applyOutputs = s.loop.outs.foldl queueOutput { s with loop := { s.loop with outs := [] } } :=
  if_neg (by simp [hsafe, hheld, hon])

end

end State

open State

/-! ### The commands -/

section
variable {s : State}

section
variable (hon : s.time.on = true) (hgrid : s.time.g % s.loopPeriod = 0) (honce : s.loop.instAt ≠ some s.time.g)
include hon hgrid honce

/-- Updates that end in time are the instant (R218). -/
theorem exec_loopInstant_inTime : exec (.loopInstant false) s = .next s.loopInstant := by
  show execLoopInstant false s = _
  simp [execLoopInstant, hon, hgrid, honce]

/-- Updates that do not leave it out (R219). -/
theorem exec_loopInstant_late (hrun : s.loopsRun = true) (hlive : s.inReplay = false) : exec (.loopInstant true) s = .next s.loopOverrun := by
  show execLoopInstant true s = _
  simp [execLoopInstant, hon, hgrid, honce, hrun, hlive]

end

/-- Outputs that are due on the next tick are applied (R218). -/
theorem exec_loopOutputApply_due (houts : s.loop.outs.isEmpty = false) (hdue : s.loop.outAt ≤ s.time.g + 1) :
    exec .loopOutputApply s = .next s.applyOutputs :=
  congrArg Host.Outcome.next (if_pos (by simp [houts, hdue]))

end

/-- Settles O21: the code is a value clamped to the limits and rounded, the integrator a value clamped to them. -/
theorem loopLawStaysInLimits : Obligations.LoopLawStaysInLimits := by
  unfold Obligations.LoopLawStaysInLimits
  intro v st e fresh lull lo hi hroom hmax
  have hle : lawLo v lo ≤ lawHi v hi := lawLo_le_lawHi v lo hi hroom
  have hhi : lawHi v hi = ((hi - v.amp : Nat) : Int) * 65536 := lawHi_eq v hi (by omega)
  have hcode := loopLaw_code v st e fresh lull lo hi hle
  obtain ⟨i, hint⟩ := loopLaw_int v st e fresh lull lo hi
  obtain ⟨hvlo, hvhi⟩ := clampI_mem hle (lawValue v st e fresh lull)
  obtain ⟨hilo, hihi⟩ := clampI_mem hle i
  obtain ⟨hclo, hchi⟩ := codeOf_mem hvlo (hvhi.trans_eq hhi) (by omega)
  dsimp only
  rw [hcode, hint, ← hhi]
  exact ⟨hclo, by omega, hilo, hihi⟩

/-- Settles O20: an instant by whether the loops run and end in time, its outputs by whether a safe state or the drive's being off drops them. -/
theorem loopInstants : Obligations.LoopInstants := by
  unfold Obligations.LoopInstants
  refine ⟨fun s hon hgrid honce => ⟨fun hidle => ?_, fun hrun => ?_, fun hrun hlive => ?_⟩,
    fun s houts hdue => ⟨fun hdropped => ?_, fun hsafe hheld hfab => ?_⟩⟩
  · rw [exec_loopInstant_inTime hon hgrid honce, loopInstant_idle hidle]
    rfl
  · rw [exec_loopInstant_inTime hon hgrid honce, loopInstant_running hrun]
    rfl
  · rw [exec_loopInstant_late hon hgrid honce hrun hlive]
    rfl
  · rw [exec_loopOutputApply_due houts hdue, applyOutputs_dropped hdropped]
  · rw [exec_loopOutputApply_due houts hdue, applyOutputs_queued hsafe hheld hfab]
    rfl

end Sys2Proof.Machine
end

section
/-! The active list's start and edges, and the timing outputs: TIME_PULSE, EN set by register, and a pulse's two ends (R291–R294, R297, R298, R410). -/
namespace Sys2Proof.Machine
namespace State

/-! ### An edge of the active list (R292–R294) -/

section
variable {l : SchList} {s : State}

/-- Within the cycle an edge is its entry's, whatever the list is to do at the boundary (R292). -/
theorem schEdge_within (hpos : l.pos ≠ 0) (e : SchEnt) : s.schEdge l e = s.schFire l e := if_neg hpos

/-- At a cycle boundary the list stops where it was told to, or has run its CYCLES (R294). -/
theorem schEdge_stops (hpos : l.pos = 0) (hends : s.sch.stopAtEnd = true ∨ (l.cycles ≠ 0 ∧ l.cycles ≤ l.cyc)) (e : SchEnt) :
    s.schEdge l e = (s.flushSkips).schedStop 2 := by
  refine (if_pos hpos).trans (if_pos ?_)
  rcases hends with htold | ⟨hbounded, hrun⟩
  · simp [htold]
  · simp [hbounded, hrun]

/-- At any other boundary the cycle is counted, the mode 2 outputs pulse and entry 0 has its edge (R292, R297). -/
theorem schEdge_counts (hpos : l.pos = 0) (hgoes : s.sch.stopAtEnd = false) (hleft : l.cycles = 0 ∨ l.cyc < l.cycles) (e : SchEnt) :
    s.schEdge l e =
      (((s.flushSkips).setReg Reg.SCH_CYCLE_CNT (word (l.cyc + 1))).toutFire 2 l.edge).schFire { l with cyc := l.cyc + 1 } e := by
  refine (if_pos hpos).trans (if_neg ?_)
  rcases hleft with hforever | hmore
  · simp [hgoes, hforever]
  · simp [hgoes, Nat.not_le.mpr hmore]

end

/-! ### EN set in TIM_TOUT_CFG (R12, R298) -/

/-- A write of TIM_TOUT_CFG with EN clear takes every writable bit (R12). -/
def toutConfigured (i : Nat) (v : Word) (s : State) : State := s.maskWrite (Reg.TIM_TOUT_CFG i) (0x80000000 ||| 0x63000000) v

theorem rwlWrite_toutCfg (i : Nat) (v : Word) (s : State) :
    s.rwlWrite (Reg.TIM_TOUT_CFG i) 0x80000000 0x63000000 false Reg.TIM_STATUS 0x800 v = s.toutConfigured i v := rwlWrite_open ..

theorem toutCfg_notMem_recKeys : ∀ i < 4, Reg.TIM_TOUT_CFG i ∉ recKeys := by decide

/-- The record of a write moves no bit of TIM_TOUT_CFG (R571). -/
theorem recWrite_toutEn {i : Nat} (hi : i < 4) (u : Cu) (k : Nat) (v : Word) (s : State) :
    (s.recWrite u k v).rbit (Reg.TIM_TOUT_CFG i) 31 = s.rbit (Reg.TIM_TOUT_CFG i) 31 :=
  recWrite_rbit s (toutCfg_notMem_recKeys i hi) u k v 31

section
variable {i : Nat} {v : Word} {s : State} (hoff : s.rbit (Reg.TIM_TOUT_CFG i) 31 = false) (hen : bit v 31 = true)
include hoff hen

/-- A mode 0 train with no start time starts 64 clocks on (R284, R285, R298). -/
theorem toutCfgWrite_train (hmode : (s.toutConfigured i v).toutMode i = 0) (hsec : (s.toutConfigured i v).rnat (Reg.TIM_TOUT_SEC i) = 0)
    (hns : (s.toutConfigured i v).rnat (Reg.TIM_TOUT_NS i) = 0) :
    s.toutCfgWrite i v = (s.toutConfigured i v).toutGo i ((s.toutConfigured i v).now + nsOfClks 64) (bit v 30) none := by
  simp [toutCfgWrite, hoff, hen, rwlWrite_toutCfg, hmode, hsec, hns]

/-- An output of another mode waits for what it follows (R297). -/
theorem toutCfgWrite_follower (hmode : (s.toutConfigured i v).toutMode i ≠ 0) :
    s.toutCfgWrite i v =
      (s.toutConfigured i v).setTout i { (s.toutConfigured i v).tout i with running := true, nextAt := 0 } := by
  simp [toutCfgWrite, hoff, hen, rwlWrite_toutCfg, hmode]

end
end State

open State

/-! ### The commands -/

section
variable {s : State}

section
variable {l : SchList}

/-- The pending list takes over once S has come (R291). -/
theorem exec_schedStart_due (hpend : s.sch.pend = some l) (hdue : l.s ≤ s.now) (hlive : s.inReplay = false) :
    exec .schedStart s = .next (s.schBegin l) := by
  show execSchedStart s = _
  simp [execSchedStart, hpend, hdue, hlive]

/-- The active list's entry has its edge once it has come (R292). -/
theorem exec_scheduleEdge_due {e : SchEnt} (hactive : s.sch.active = some l) (hentry : l.ents[l.pos]? = some e) (hdue : l.edge ≤ s.now)
    (hlive : s.inReplay = false) : exec .scheduleEdge s = .next (s.schEdge l e) := by
  show execScheduleEdge s = _
  simp [execScheduleEdge, hactive, hentry, hdue, hlive]

end

/-- TIME_PULSE with operands in their ranges is BUSY on an output that is on, and else programs it (R410). -/
theorem exec_timePulse_inRange {c : Cmd} (hready : Ready c 0x10 s) (hout : c.b 4 ≤ 3) (hwidth : 20 ≤ c.w 20)
    (hperiod : c.w 16 = 0 ∨ (40 ≤ c.w 16 ∧ c.w 20 + 20 ≤ c.w 16)) (hadv : c.w 24 ≤ 1000000) :
    exec (.timePulse c) s = .next (if (s.startFlight c).rbit (Reg.TIM_TOUT_CFG (c.b 4)) 31 then (s.startFlight c).refuse c 0x11
      else (s.startFlight c).timePulseAct c) :=
  congrArg Host.Outcome.next ((runDesc_ready hready _).trans (if_neg (by omega)))

/-- A holder's write that sets EN (R298, R571). -/
theorem exec_toutEnable_holder {u : Cu} {i : Nat} (hi : i < 4) (hh : s.holds u = true) (v : Word) : exec (.toutEnable u i v) s =
    .next ((s.recWrite u (Reg.TIM_TOUT_CFG i) (v ||| 0x80000000)).toutCfgWrite i (v ||| 0x80000000)) :=
  (if_pos hi).trans (congrArg Host.Outcome.next (baseWrite_holder hh _ _ _))

section
variable {i : Nat}

/-- A mode 0 train pulses at its instant, and runs on where it has a period (R297). -/
theorem exec_toutPulse_train (hrun : (s.tout i).running = true) (hen : s.rbit (Reg.TIM_TOUT_CFG i) 31 = true) (hmode : s.toutMode i = 0)
    (hdue : s.toutDue i (s.tout i).nextAt = true) : exec (.toutPulse i) s = .next
      ((s.setTout i { s.tout i with running := decide (s.toutPer i ≠ 0), nextAt := (s.tout i).nextAt + s.toutPer i }).toutStart i) := by
  show execToutPulse i s = _
  simp [execToutPulse, hrun, hen, hmode, hdue]

/-- A pulse that has lasted its WIDTH ends (R297). -/
theorem exec_toutPulseEnd_due (hhigh : (s.tout i).high = true) (hdue : (s.tout i).endClk ≤ s.clk) :
    exec (.toutPulseEnd i) s = .next (s.setTout i { s.tout i with high := false }) :=
  congrArg Host.Outcome.next (if_pos (by simp [hhigh, hdue]))

end
end

/-- Settles O25: an edge by whether it is a boundary and the list ends there, TIME_PULSE and EN by what the output's configuration says. -/
theorem scheduleRuns : Obligations.ScheduleRuns := by
  unfold Obligations.ScheduleRuns
  refine ⟨⟨fun l s hpend hdue hlive => ?_, fun l e s hactive hentry hdue hlive => ?_⟩, fun c s hready hout hwidth hperiod hadv => ?_,
    fun u i v s hi hh hoff => ?_, fun i s hrun hen hmode hdue => exec_toutPulse_train hrun hen hmode hdue,
    fun i s hhigh hdue => exec_toutPulseEnd_due hhigh hdue⟩
  · rw [exec_schedStart_due hpend hdue hlive]
    rfl
  · rw [exec_scheduleEdge_due hactive hentry hdue hlive]
    refine ⟨fun hpos => ?_, fun hpos hends => ?_, fun hpos hgoes hleft => ?_⟩
    · rw [schEdge_within hpos]
    · rw [schEdge_stops hpos hends]
    · rw [schEdge_counts hpos hgoes hleft]
  · rw [exec_timePulse_inRange hready hout hwidth hperiod hadv]
    exact ⟨fun hon => congrArg Host.Outcome.next (if_pos hon), fun hoff => congrArg Host.Outcome.next (if_neg (ne_true_of_eq_false hoff))⟩
  · have hen : bit (v ||| 0x80000000) 31 = true := bit_or_true v rfl
    have hlate : bit (v ||| 0x80000000) 30 = bit v 30 := by rw [bit_or, show bit 0x80000000 30 = false from rfl, Bool.or_false]
    have hoff' := (recWrite_toutEn hi u (Reg.TIM_TOUT_CFG i) (v ||| 0x80000000) s).trans hoff
    rw [exec_toutEnable_holder hi hh]
    refine ⟨fun hmode hsec hns => ?_, fun hmode => ?_⟩
    · rw [toutCfgWrite_train hoff' hen hmode hsec hns, hlate]
      rfl
    · rw [toutCfgWrite_follower hoff' hen hmode]
      rfl

end Sys2Proof.Machine
end

section
/-! The housekeeping round: a slot's conversion, the injected conversion, the round's end and the clears of suspect diodes (R546–R554, R564). -/
namespace Sys2Proof.Machine

section
variable {i : Nat} {b : Bool}

theorem bit_putBit_same (w : Word) (h : i < 32) : bit (putBit w i b) i = b := (bit_putBit w i i b h).trans (if_pos rfl)

theorem bit_putBit_other {j : Nat} (w : Word) (h : i < 32) (hj : j ≠ i) : bit (putBit w i b) j = bit w j :=
  (bit_putBit w i j b h).trans (if_neg hj)

end

namespace State

/-! ### A slot's conversion (R550–R552) -/

/-- The list gives slot `k` to a device diode or to a supply of the part: what such a slot reads does not change with the round (R550). -/
def slotFixed (s : State) (k : Nat) : Prop := k < 144 ∨ (160 ≤ k ∧ k < 176 ∧ (k ≠ 165 ∨ s.part = .wl5128))

/-- The state once the round has moved on to its next slot. -/
def slotTaken (s : State) : State := { s with thm := { s.thm with slot := s.thm.slot + 1 } }

section
variable {k : Nat} {s : State}

theorem slotFree_of_fixed (h : s.slotFixed k) : s.slotFree k = false := by
  rcases h with hdiode | ⟨hlo, hhi, hlisted⟩
  · have hpast : ¬ 176 ≤ k := by omega
    have hsense : ¬ 144 ≤ k := by omega
    have hsupply : k ≠ 165 := by omega
    simp [slotFree, hpast, hsense, hsupply]
  · have hpast : ¬ 176 ≤ k := by omega
    have hsense : ¬ k < 160 := by omega
    rcases hlisted with hsupply | hpart
    · simp [slotFree, hpast, hsense, hsupply]
    · simp [slotFree, hpast, hsense, hpart]

theorem slotFree_past (h : 176 ≤ k) : s.slotFree k = true := by simp [slotFree, h]

/-- A reading of a fixed channel leaves SUSPECT and NO_CHECK as they were (R550, R564). -/
theorem slotListed_fixed_some (h : s.slotFixed k) (n : Int) : s.slotListed k (some n) =
    s.setReg (Reg.HK_VALUE k) (word (s.rnat (Reg.HK_VALUE k) / 2 ^ 29 % 4 * 2 ^ 29 + (2 ^ 31 + low 20 n))) :=
  if_pos (h.imp_right And.left)

theorem slotListed_fixed_none (h : s.slotFixed k) : s.slotListed k none =
    s.setReg (Reg.HK_VALUE k) (word (s.rnat (Reg.HK_VALUE k) / 2 ^ 29 % 4 * 2 ^ 29)) := by
  simp [slotListed, h.imp_right And.left]

/-- A reading of a PIC diode shows the pad's own SUSPECT mark and is kept for the pad (R550, R564). -/
theorem slotListed_sense_some (hlo : 144 ≤ k) (hhi : k < 160) (n : Int) : s.slotListed k (some n) =
    let pad := s.slotPad k
    let w := s.setReg (Reg.HK_VALUE k) (word (2 ^ 30 * b2n (s.rbit (Reg.THM_PSUSPECT (pad / 32)) (pad % 32)) + (2 ^ 31 + low 20 n)))
    { w with thm := { w.thm with pic := Tab.set pad n w.thm.pic } } :=
  if_neg (by omega)

end

section
variable {tgt : Nat} {waits : Bool} {s : State}

theorem slotInject_none (h : s.thm.inj = none) (v : Option Int) : s.slotInject v = s := by
  unfold slotInject
  rw [h]

/-- While the run that an injected conversion met goes on, the conversion waits (R311). -/
theorem slotInject_waits (h : s.thm.inj = some (tgt, true)) (hbusy : s.rbit Reg.CAL_STATUS 0 = true) (v : Option Int) : s.slotInject v = s := by
  unfold slotInject
  rw [h]
  exact if_pos hbusy

/-- Otherwise its result stands with its grid index, and is recorded (R552). -/
theorem slotInject_serves (h : s.thm.inj = some (tgt, waits)) (hgoes : waits = false ∨ s.rbit Reg.CAL_STATUS 0 = false) (n : Int) :
    s.slotInject (some n) =
      let w : State := { s with thm := { s.thm with inj := none } }
      ((w.setReg Reg.HK_INJ_RES (word (2 ^ 31 + low 20 n))).setReg64 Reg.HK_INJ_G_LO Reg.HK_INJ_G_HI s.time.g).recEvent 14
        (bytesOf 4 tgt ++ bytesOf 4 (2 ^ 31 + low 20 n)) := by
  unfold slotInject
  rw [h]
  exact if_neg (by rcases hgoes with h | h <;> simp [h])

end

section
variable {s : State}

/-- Before boot, and once the round's 192 slots are over, nothing converts (R550). -/
theorem hkSlot_idle (h : s.rbit Reg.PWR_BOOT 0 = false ∨ 192 ≤ s.thm.slot) (v : Option Int) : s.hkSlot v = s := if_pos (by simpa using h)

section
variable (hboot : s.rbit Reg.PWR_BOOT 0 = true) (hslot : s.thm.slot < 192)
include hboot hslot

theorem hkSlot_listed (hfree : s.slotFree s.thm.slot = false) (v : Option Int) : s.hkSlot v = s.slotTaken.slotListed s.thm.slot v := by
  refine (if_neg ?_).trans (if_neg (Bool.eq_false_iff.mp hfree))
  simpa [hboot] using hslot

theorem hkSlot_past (hpast : 176 ≤ s.thm.slot) (v : Option Int) : s.hkSlot v = s.slotTaken.slotInject v := by
  have hsense : ¬ (144 ≤ s.thm.slot ∧ s.thm.slot < 160) := by omega
  refine (if_neg ?_).trans ((if_pos (slotFree_past hpast)).trans (congrArg (slotInject v) (if_neg hsense)))
  simpa [hboot] using hslot

end
end

/-! ### The injected conversion asked for (R552) -/

section
variable {v : Word} {s : State} (hstart : bit v 31 = true)
include hstart

theorem hkInj_pending (hinj : s.thm.inj ≠ none) : s.hkInj v = (s.maskWrite Reg.HK_INJ 0xFFFF v).orReg Reg.HK_STATUS 4 := by
  simp [hkInj, hstart, Option.isSome_iff_ne_none.mpr hinj]

/-- The conversion asked for keeps whether a run is BUSY, for whose end it then waits (R311). -/
theorem hkInj_starts (hinj : s.thm.inj = none) : s.hkInj v =
    let w := s.maskWrite Reg.HK_INJ 0xFFFF v
    ({ w with thm := { w.thm with inj := some (field v 15 0, s.rbit Reg.CAL_STATUS 0) } } : State).setReg Reg.HK_INJ_RES 0x40000000 := by
  have hbusy : (s.maskWrite Reg.HK_INJ 0xFFFF v).rbit Reg.CAL_STATUS 0 = s.rbit Reg.CAL_STATUS 0 :=
    congrArg (bit · 0) (reg_maskWrite_ne s (by decide) _ v)
  simp [hkInj, hstart, hinj, hbusy]

end

/-! ### The clears of suspect diodes (R547, R564) -/

/-- The state in which diode `d`, a PIC diode counted from 144, has no rounds off its median. -/
def forgetOff (d : Nat) (s : State) : State := { s with thm := { s.thm with off := Tab.erase d s.thm.off } }

/-- The state in which the PIC diode of pad `p` is not marked SUSPECT. -/
def padUnmarked (p : Nat) (s : State) : State := s.clrReg (Reg.THM_PSUSPECT (p / 32)) (2 ^ (p % 32))

section
variable {v : Word} {s : State}

theorem thmCmd_suspect (hset : bit v 31 = true) (hpic : bit v 30 = false) (hd : field v 7 0 < 144) : s.thmCmd v =
    ((s.clrReg (Reg.THM_SUSPECT (field v 7 0 / 32)) (2 ^ (field v 7 0 % 32))).clrReg (Reg.HK_VALUE (field v 7 0)) 0x40000000).forgetOff
      (field v 7 0) := by
  simp [thmCmd, hset, hpic, hd, forgetOff]

/-- CLR_SUSPECT of no device diode clears nothing (R564). -/
theorem thmCmd_noDiode (hpic : bit v 30 = false) (hd : 144 ≤ field v 7 0) : s.thmCmd v = s := by
  simp [thmCmd, hpic, Nat.not_lt.mpr hd]

section
variable (hset : bit v 31 = false) (hpic : bit v 30 = true)
include hset hpic

/-- A PIC diode that this round does not read shows no SUSPECT mark to clear (R564). -/
theorem thmCmd_pic_unread (hreg : (s.padUnmarked (field v 6 0)).diodeReg (144 + field v 6 0) = none) :
    s.thmCmd v = (s.padUnmarked (field v 6 0)).forgetOff (144 + field v 6 0) := by
  unfold padUnmarked at *
  simp [thmCmd, hset, hpic, hreg, forgetOff]

theorem thmCmd_pic_read {k : Nat} (hreg : (s.padUnmarked (field v 6 0)).diodeReg (144 + field v 6 0) = some k) :
    s.thmCmd v = ((s.padUnmarked (field v 6 0)).clrReg k 0x40000000).forgetOff (144 + field v 6 0) := by
  unfold padUnmarked at *
  simp [thmCmd, hset, hpic, hreg, forgetOff]

end
end
end State

open State

/-! ### The commands -/

section
variable {s : State}

theorem exec_hkSlot_live (hlive : s.inReplay = false) (v : Option Int) : exec (.hkSlot v) s = .next (s.hkSlot v) :=
  congrArg Host.Outcome.next (if_neg (Bool.eq_false_iff.mp hlive))

/-- While a replay runs, before boot or past slot 191 nothing converts (R550, R583). -/
theorem exec_hkSlot_idle (h : s.inReplay = true ∨ s.rbit Reg.PWR_BOOT 0 = false ∨ 192 ≤ s.thm.slot) (v : Option Int) :
    exec (.hkSlot v) s = .next s := by
  refine congrArg Host.Outcome.next ?_
  rcases h with hreplay | hidle
  · exact if_pos hreplay
  · rw [hkSlot_idle hidle, ite_self]

theorem exec_hkRoundEnd_live (hboot : s.rbit Reg.PWR_BOOT 0 = true) (hlive : s.inReplay = false) (legs : List (Nat × Nat × Nat)) :
    exec (.hkRoundEnd legs) s = .next (s.roundEnd legs) :=
  congrArg Host.Outcome.next (if_pos (by rw [hboot, hlive]; rfl))

theorem exec_hkRoundEnd_idle (h : s.rbit Reg.PWR_BOOT 0 = false ∨ s.inReplay = true) (legs : List (Nat × Nat × Nat)) :
    exec (.hkRoundEnd legs) s = .next s :=
  congrArg Host.Outcome.next (if_neg (by rcases h with h | h <;> simp [h]))

section
variable {u : Cu} (hh : s.holds u = true) (v : Word)
include hh

theorem exec_hkInjStart_holder : exec (.hkInjStart u v) s = .next ((s.recWrite u Reg.HK_INJ (putBit v 31 true)).hkInj (putBit v 31 true)) :=
  congrArg Host.Outcome.next (baseWrite_holder hh _ _ _)

theorem exec_thmClrSuspect_holder : exec (.thmClrSuspect u v) s =
    .next ((s.recWrite u Reg.THM_CMD (putBit v 31 true)).thmCmd (putBit v 31 true)) :=
  congrArg Host.Outcome.next (baseWrite_holder hh _ _ _)

theorem exec_thmClrPic_holder : exec (.thmClrPic u v) s =
    .next ((s.recWrite u Reg.THM_CMD (putBit v 30 true)).thmCmd (putBit v 30 true)) :=
  congrArg Host.Outcome.next (baseWrite_holder hh _ _ _)

end

section
variable (hlive : s.inReplay = false) (hboot : s.rbit Reg.PWR_BOOT 0 = true)
include hlive hboot

theorem exec_hkSlot_fixed (hfixed : s.slotFixed s.thm.slot) (v : Option Int) :
    exec (.hkSlot v) s = .next (s.slotTaken.slotListed s.thm.slot v) := by
  have hslot : s.thm.slot < 192 := by unfold slotFixed at hfixed; omega
  rw [exec_hkSlot_live hlive, hkSlot_listed hboot hslot (slotFree_of_fixed hfixed)]

theorem exec_hkSlot_past (hslot : s.thm.slot < 192) (hpast : 176 ≤ s.thm.slot) (v : Option Int) :
    exec (.hkSlot v) s = .next (s.slotTaken.slotInject v) := by
  rw [exec_hkSlot_live hlive, hkSlot_past hboot hslot hpast]

end
end

/-- Settles O46: a slot by whom the list gives it to and by the injected conversion; HK_INJ by whether one is pending; the round's end as it is computed;
THM_CMD by the diode it names. -/
theorem housekeeping : Obligations.Housekeeping := by
  unfold Obligations.Housekeeping
  refine ⟨⟨fun v s hidle => exec_hkSlot_idle hidle v, fun v s hlive hboot hslot => ?slot, fun u v s hh => ?inject⟩,
    fun legs s => ⟨fun hboot hlive => exec_hkRoundEnd_live hboot hlive legs, fun hidle => exec_hkRoundEnd_idle hidle legs⟩,
    fun u v s hh => ?clears⟩
  case slot =>
    refine ⟨?_, ?_, ?_, fun hpast hinj => ?_, fun hpast tgt hinj hbusy => ?_, ?_⟩
    · rintro n rfl hfixed
      exact (exec_hkSlot_fixed hlive hboot hfixed _).trans (congrArg Host.Outcome.next (slotListed_fixed_some (s := s.slotTaken) hfixed n))
    · rintro rfl hfixed
      exact (exec_hkSlot_fixed hlive hboot hfixed _).trans (congrArg Host.Outcome.next (slotListed_fixed_none (s := s.slotTaken) hfixed))
    · rintro n hlo hhi hlisted rfl
      rw [exec_hkSlot_live hlive, hkSlot_listed hboot hslot hlisted]
      exact congrArg Host.Outcome.next (slotListed_sense_some (s := s.slotTaken) hlo hhi n)
    · rw [exec_hkSlot_past hlive hboot hslot hpast]
      exact congrArg Host.Outcome.next (slotInject_none (s := s.slotTaken) hinj v)
    · rw [exec_hkSlot_past hlive hboot hslot hpast]
      exact congrArg Host.Outcome.next (slotInject_waits (s := s.slotTaken) hinj hbusy v)
    · rintro hpast tgt n waits hinj hgoes rfl
      rw [exec_hkSlot_past hlive hboot hslot hpast]
      exact congrArg Host.Outcome.next (slotInject_serves (s := s.slotTaken) hinj hgoes n)
  case inject =>
    have hstart : bit (putBit v 31 true) 31 = true := bit_putBit_same v (by decide)
    have htarget : field (putBit v 31 true) 15 0 = field v 15 0 := field_putBit v 31 15 0 true (by decide) (by decide) (by decide)
    have hbusy : (s.recWrite u Reg.HK_INJ (putBit v 31 true)).rbit Reg.CAL_STATUS 0 = s.rbit Reg.CAL_STATUS 0 := recWrite_rbit s (by decide) ..
    refine ⟨fun hinj => ?_, fun hinj => ?_⟩
    · rw [exec_hkInjStart_holder hh, hkInj_pending hstart (by simpa using hinj)]
    · rw [exec_hkInjStart_holder hh, hkInj_starts hstart (by simpa using hinj), htarget, hbusy]
  case clears =>
    have hdiode : field (putBit v 31 true) 7 0 = field v 7 0 := field_putBit v 31 7 0 true (by decide) (by decide) (by decide)
    have hpad : field (putBit v 30 true) 6 0 = field v 6 0 := field_putBit v 30 6 0 true (by decide) (by decide) (by decide)
    have hset : bit (putBit v 31 true) 31 = true := bit_putBit_same v (by decide)
    have hpic : bit (putBit v 30 true) 30 = true := bit_putBit_same v (by decide)
    have hnoPic : bit (putBit v 31 true) 30 = bit v 30 := bit_putBit_other v (by decide) (by decide)
    have hnoSet : bit (putBit v 30 true) 31 = bit v 31 := bit_putBit_other v (by decide) (by decide)
    rw [← hdiode, ← hpad, ← hnoPic, ← hnoSet, exec_thmClrSuspect_holder hh, exec_thmClrPic_holder hh]
    exact ⟨fun hoff hd => congrArg Host.Outcome.next (thmCmd_suspect hset hoff hd),
      fun hoff hd => congrArg Host.Outcome.next (thmCmd_noDiode hoff hd),
      fun hoff => ⟨fun hreg => congrArg Host.Outcome.next (thmCmd_pic_unread hoff hpic hreg),
        fun k hreg => congrArg Host.Outcome.next (thmCmd_pic_read hoff hpic hreg)⟩⟩

end Sys2Proof.Machine
end

section
/-! What the base does with a write of a unit that does not hold the token (R342, R423). -/
namespace Sys2Proof.Machine

theorem satAdd_eq_min (v n max : Nat) : satAdd v n max = min (v + n) max := by
  unfold satAdd
  split <;> omega

/-- A whole register is one field. -/
theorem field_whole (w : Word) : field w 31 0 = w.toNat := Nat.mod_eq_of_lt w.isLt

namespace State

/-! ### What a saturating counter reads after it counts, and what a write leaves alone -/

section
variable (s : State)

theorem fld_bump {hi lo : Nat} (hl : lo ≤ hi) (hh : hi < 32) (k n : Nat) :
    (s.bump k hi lo n).fld k hi lo = min (s.fld k hi lo + n) (2 ^ (hi - lo + 1) - 1) := by
  have hfits : min (s.fld k hi lo + n) (2 ^ (hi - lo + 1) - 1) < 2 ^ (hi - lo + 1) :=
    Nat.lt_of_le_of_lt (Nat.min_le_right ..) (Nat.sub_lt (Nat.two_pow_pos _) Nat.one_pos)
  unfold bump
  rw [fld_setField s hl hh, satAdd_eq_min, Nat.mod_eq_of_lt hfits]

theorem rnat_eq_fld (k : Nat) : s.rnat k = s.fld k 31 0 := (field_whole _).symm

theorem fld_bump_ne {j k : Nat} (h : j ≠ k) (hi lo n hi' lo' : Nat) : (s.bump k hi lo n).fld j hi' lo' = s.fld j hi' lo' := by
  unfold fld
  rw [reg_bump_ne s h]

/-- A write of a register touches the register file only. -/
theorem regs_setReg (k : Nat) (w : Word) (r : List (Nat × Word)) : { s.setReg k w with regs := r } = { s with regs := r } := rfl

end

/-! ### The three places that note a dropped write -/

section
variable (u : Cu) (s : State)

theorem hlStatus_ne_hlRefused : Reg.HL_STATUS u ≠ Reg.HL_REFUSED u := by cases u <;> decide
theorem hlStatus_ne_tknCnt1 : Reg.HL_STATUS u ≠ Reg.TKN_CNT1 := by cases u <;> decide
theorem hlRefused_ne_tknCnt1 : Reg.HL_REFUSED u ≠ Reg.TKN_CNT1 := by cases u <;> decide

/-- NOT_HOLDER_WR is set (R342, R354). -/
theorem dropWrite_notHolder : (s.dropWrite u).rbit (Reg.HL_STATUS u) 5 = true := by
  have hset : (s.orReg (Reg.HL_STATUS u) 0x20).rbit (Reg.HL_STATUS u) 5 = true := (rbit_orReg s _ _ 5).trans (Bool.or_true _)
  unfold dropWrite rbit
  rwa [reg_bump_ne _ (hlStatus_ne_tknCnt1 u), reg_bump_ne _ (hlStatus_ne_hlRefused u)]

theorem dropWrite_hlRefused : (s.dropWrite u).rnat (Reg.HL_REFUSED u) = min (s.rnat (Reg.HL_REFUSED u) + 1) 0xFFFFFFFF := by
  unfold dropWrite
  rw [rnat_eq_fld, fld_bump_ne _ (hlRefused_ne_tknCnt1 u), fld_bump _ (by decide) (by decide), fld_orReg_ne _ (hlStatus_ne_hlRefused u).symm,
    ← rnat_eq_fld]
  rfl

theorem dropWrite_tknCnt1 : (s.dropWrite u).fld Reg.TKN_CNT1 15 0 = min (s.fld Reg.TKN_CNT1 15 0 + 1) 0xFFFF := by
  unfold dropWrite
  rw [fld_bump _ (by decide) (by decide), fld_bump_ne _ (hlRefused_ne_tknCnt1 u).symm, fld_orReg_ne _ (hlStatus_ne_tknCnt1 u).symm]
  rfl

theorem reg_dropWrite_ne {k : Nat} (hstatus : k ≠ Reg.HL_STATUS u) (hrefused : k ≠ Reg.HL_REFUSED u) (hcnt : k ≠ Reg.TKN_CNT1) :
    (s.dropWrite u).reg k = s.reg k := by
  unfold dropWrite
  rw [reg_bump_ne _ hcnt, reg_bump_ne _ hrefused, reg_orReg_ne _ hstatus]

/-- Registers apart, a dropped write leaves the state as it was. -/
theorem dropWrite_regs : { s.dropWrite u with regs := s.regs } = s := by
  unfold dropWrite bump setField orReg
  simp only [regs_setReg]

end
end State

open State

/-! ### The commands -/

/-- In this state the command is one write of a base register by the unit. -/
def writesBase (u : Cu) (s : State) (c : Instr) : Prop := ∃ k v f, exec c s = .next (s.baseWrite u k v f)

/-- Whatever register it names, a base write of another unit than the holder is dropped (R342, R423). -/
theorem exec_writesBase_other {u : Cu} {s : State} {c : Instr} (hh : s.holds u = false) (hc : writesBase u s c) : exec c s = .next (s.dropWrite u) := by
  obtain ⟨k, v, f, he⟩ := hc
  rw [he, baseWrite_other hh]

/-- Settles O52: each row is one base write, in range where it has an index, and a base write of another unit is dropped. -/
theorem nonHolderWritesDropped : Obligations.NonHolderWritesDropped := by
  unfold Obligations.NonHolderWritesDropped
  intro u v s hh
  have drops {c : Instr} (hc : writesBase u s c) : exec c s = .next (s.dropWrite u) := exec_writesBase_other hh hc
  refine ⟨?plain, fun i hi => drops ⟨_, _, _, if_pos hi⟩,
    fun ch hch => ⟨drops ⟨_, _, _, if_pos hch⟩, drops ⟨_, _, _, if_pos hch⟩, drops ⟨_, _, _, if_pos hch⟩⟩,
    fun ch hch => drops ⟨_, _, _, if_pos hch⟩, fun t ht => ?tile,
    fun t j ht hj => ⟨drops ⟨_, _, _, if_pos ⟨ht, hj⟩⟩, drops ⟨_, _, _, if_pos ⟨ht, hj⟩⟩⟩,
    fun t j ht hj => ⟨drops ⟨_, _, _, if_pos ⟨ht, hj⟩⟩, drops ⟨_, _, _, if_pos ⟨ht, hj⟩⟩⟩,
    fun q hq => ⟨drops ⟨_, _, _, if_pos hq⟩, drops ⟨_, _, _, if_pos hq⟩⟩, fun i hi => drops ⟨_, _, _, if_pos hi⟩,
    fun k hk => drops ⟨_, _, _, if_pos hk⟩, fun src hsrc => drops ⟨_, _, _, if_pos hsrc⟩,
    dropWrite_notHolder u s, dropWrite_hlRefused u s, dropWrite_tknCnt1 u s, fun k => reg_dropWrite_ne u s, dropWrite_regs u s⟩
  case plain =>
    simp only [List.forall_mem_cons, List.not_mem_nil, false_imp_iff, implies_true, and_true]
    and_intros <;> exact drops ⟨_, _, _, rfl⟩
  case tile =>
    simp only [List.forall_mem_cons, List.not_mem_nil, false_imp_iff, implies_true, and_true]
    and_intros <;> exact drops ⟨_, _, _, if_pos ht⟩

end Sys2Proof.Machine
end

section
/-! Resets and states of a unit's link (R336, R345, R347–R350, R353–R355). -/
namespace Sys2Proof.Machine
namespace State

/-! ### Training and loss -/

/-- A link in L0 shows its rate and width; below 128 GT/s ×16 it is DEGRADED and says so (R336, R418). -/
theorem linkAt_eq (u : Cu) (rate width : Nat) (rev l0p flit : Bool) (s : State) :
    s.linkAt u rate width rev l0p flit =
      let w := s.setReg (Reg.HL_LINK u) (word (hlLink rate width rev l0p flit))
      if rate < 7 ∨ width < 16 then (w.orReg (Reg.HL_STATUS u) 0x1000).eventTo u 11 0xB0 0 w.now (hlLink rate width rev l0p flit) 0 0 0 else w := by
  by_cases h : rate < 7 ∨ width < 16
  · exact (if_pos (by simpa [degraded] using h)).trans (if_pos h).symm
  · exact (if_neg (by simpa [degraded] using h)).trans (if_neg h).symm

theorem linkLost_up {u : Cu} {s : State} (hup : (s.unit u).linkUp = true) :
    s.linkLost u =
      let w := (((s.dropLink u).orReg (Reg.HL_STATUS u) 0x40).bump (Reg.HL_RETRAIN u) 31 16 1).resetFns u
      if s.rbit (Reg.HL_CTRL u) 0 then w.report1 (localSrc u 5) 0 else w := if_pos hup

/-- CNT_CLR writes the flags it stands with, and clears the four counters (R353). -/
theorem hlCtrl_clear (u : Cu) {v : Word} (hclr : bit v 31 = true) (s : State) :
    s.hlCtrl u v = ((((s.maskWrite (Reg.HL_CTRL u) 3 v).setReg (Reg.HL_REFUSED u) 0).setReg (Reg.HL_CERR_CNT u) 0).setReg
      (Reg.HL_UERR_CNT u) 0).setReg (Reg.HL_LOST u) 0 := if_pos hclr

end State

open State

/-! ### The commands -/

section
variable (u : Cu) (s : State)

/-- PERST_N takes a link that is up down: PERST and LINK_DOWN are flagged, the loss counted and, with LINK_FLT, reported (R345, R350, R353). -/
theorem exec_perstAssert_up (hup : (s.unit u).linkUp = true) : exec (.perstAssert u) s =
    let w := (((((s.dropLink u).setUnit u { (s.dropLink u).unit u with perst := true }).orReg (Reg.HL_STATUS u) 0xC0).bump
      (Reg.HL_RETRAIN u) 31 16 1)).resetFns u
    .next (if s.rbit (Reg.HL_CTRL u) 0 then w.report1 (localSrc u 5) 0 else w) := by
  show execPerstAssert u s = _
  simp [execPerstAssert, hup, b2n]

theorem exec_perstRelease : exec (.perstRelease u) s = .next (s.setUnit u { s.unit u with perst := false }) := rfl

theorem exec_hotReset : exec (.hotReset u) s = .next (((s.dropLink u).orReg (Reg.HL_STATUS u) 0x80).resetFns u) := rfl

theorem exec_linkDown : exec (.linkDown u) s = .next (s.linkLost u) := rfl

theorem exec_flrPf : exec (.flrPf u) s = .next ((s.resetFns u).orReg (Reg.HL_STATUS u) 0x100) := rfl

theorem exec_flrVf {f : Nat} (hlo : 1 ≤ f) (hhi : f ≤ 15) : exec (.flrVf u f) s = .next ((resetFn u s f).orReg (Reg.HL_STATUS u) 0x100) :=
  congrArg Host.Outcome.next (if_pos ⟨hlo, hhi⟩)

section
variable {rate width : Nat} (hok : linkOk rate width = true) (rev l0p flit : Bool)
include hok

/-- A link that is down and not held in reset comes up in L0 (R354, R355). -/
theorem exec_linkUp_down (hperst : (s.unit u).perst = false) (hdown : (s.unit u).linkUp = false) : exec (.linkUp u rate width rev l0p flit) s =
    .next (((s.setUnit u { s.unit u with linkUp := true }).orReg (Reg.HL_STATUS u) 1).linkAt u rate width rev l0p flit) :=
  if_neg (by simp [hperst, hdown, hok])

theorem exec_linkRetrain_up (hup : (s.unit u).linkUp = true) : exec (.linkRetrain u rate width rev l0p flit) s =
    .next ((s.bump (Reg.HL_RETRAIN u) 15 0 1).linkAt u rate width rev l0p flit) := if_neg (by simp [hup, hok])

end

section
variable {f : Nat} (hf : f < 16)
include hf

theorem exec_d3hotEntry_fn : exec (.d3hotEntry u f) s = .next ((s.setFn u f { s.fn u f with d3 := true }).clrReg (Reg.Q_STATUS u f) 1) :=
  congrArg Host.Outcome.next (if_pos hf)

/-- Back in D0 a function is polled again where it is on, and what waited is written: completions, events, then vectors (R347). -/
theorem exec_d3hotExit_fn : exec (.d3hotExit u f) s =
    let w := s.setFn u f { s.fn u f with d3 := false }
    let w2 : State := if w.rbit (Reg.Q_CTRL u f) 0 && !(w.fn u f).halted then w.orReg (Reg.Q_STATUS u f) 1 else w
    .next (((((w2.fn u f).cqs.map Prod.fst).foldl (fun (s : State) c => s.drainCq u f c) w2).drainEq u f).drainMsix u f) := if_pos hf

end

theorem exec_linkError_corrected : exec (.linkError u false) s = .next ((s.bump (Reg.HL_CERR_CNT u) 31 0 1).orReg (Reg.HL_STATUS u) 0x400) := rfl

theorem exec_linkError_uncorrectable : exec (.linkError u true) s =
    let w := (s.bump (Reg.HL_UERR_CNT u) 31 0 1).orReg (Reg.HL_STATUS u) 0x200
    .next (if s.rbit (Reg.HL_CTRL u) 1 then w.report1 (localSrc u 4) 0 else w) := rfl

theorem exec_hlCountClear (v : Word) : exec (.hlCountClear u v) s = .next (s.hlCtrl u (putBit v 31 true)) := rfl

end

/-- Settles O28: each event by whether the link is up, and the two ends of training by the rate and width they give. -/
theorem linkEvents : Obligations.LinkEvents := by
  unfold Obligations.LinkEvents
  refine fun u s => ⟨fun hup => exec_perstAssert_up u s hup, exec_perstRelease u s, exec_hotReset u s, fun hup => ?down, exec_flrPf u s,
    fun f hlo hhi => exec_flrVf u s hlo hhi, fun rate width rev l0p flit hok hperst hdown => ?trained,
    fun rate width rev l0p flit hok hup => exec_linkRetrain_up u s hok rev l0p flit hup, fun f hf => exec_d3hotEntry_fn u s hf,
    fun f hf => exec_d3hotExit_fn u s hf, exec_linkError_corrected u s, exec_linkError_uncorrectable u s, fun v hclr => ?cleared⟩
  case down => rw [exec_linkDown, linkLost_up hup]
  case trained => rw [exec_linkUp_down u s hok rev l0p flit hperst hdown, linkAt_eq]
  case cleared => rw [exec_hlCountClear, putBit_of_bit v 31 true (by decide) hclr, hlCtrl_clear u hclr]

end Sys2Proof.Machine
end

section
/-! The queue engine: what polls, fetches, posts and failed reads do, and the writes that enable and disable a function and its queues (R346, R359–R365,
R377–R384). -/
namespace Sys2Proof.Machine
namespace State

section
variable (s : State) (u : Cu) (f : Nat)

@[simp] theorem fn_setFn (x : Fn) : (s.setFn u f x).fn u f = x := by
  unfold fn setFn
  rw [unit_setUnit, Tab.get_put_self]

@[simp] theorem fn_setReg (k : Nat) (v : Word) : (s.setReg k v).fn u f = s.fn u f := rfl
@[simp] theorem fn_clrReg (k m : Nat) : (s.clrReg k m).fn u f = s.fn u f := rfl

end

/-! ### The host's head of a completion queue (R360, R365) -/

section
variable {u : Cu} {f c : Nat} {s : State} (hc : c < 64) (hen : s.rbit (Reg.Q_CQ_CFG u f c) 31 = true)
include hc hen

theorem takeSlot_cq (h : Nat) : s.takeSlot u f (64 + c) h =
    if dist32 h (s.cq u f c).head ≤ dist32 (s.cq u f c).tail (s.cq u f c).head then (s.setCq u f c { s.cq u f c with head := h }).drainCq u f c
    else s.dbErr u f := by
  have hpast : ¬ 64 + c < 64 := by omega
  have hcq : 64 + c < 128 := by omega
  simp only [takeSlot, if_neg hpast, if_pos hcq, Nat.add_sub_cancel_left, hen, Bool.not_true, Bool.false_eq_true, if_false]

end

/-! ### A function's control (R362, R377, R379) -/

section
variable {u : Cu} {f : Nat} {v : Word} {s : State}

/-- EN set ends a halt, and a function in D0 is polled (R362, R377). -/
theorem qCtrl_enable (hen : bit v 0 = true) (hkeep : bit v 31 = false) (hoff : s.rbit (Reg.Q_CTRL u f) 0 = false) (hd0 : (s.fn u f).d3 = false) :
    s.qCtrl u f v =
      let w := s.setReg (Reg.Q_CTRL u f) (v &&& 1)
      ((w.setFn u f { w.fn u f with halted := false, pollFails := 0 }).clrReg (Reg.Q_STATUS u f) 0x100).orReg (Reg.Q_STATUS u f) 1 := by
  simp [qCtrl, hen, hkeep, hoff, hd0]

section
variable (hen : bit v 0 = false)
include hen

theorem qCtrl_disable (hkeep : bit v 31 = false) :
    s.qCtrl u f v = (s.setReg (Reg.Q_CTRL u f) (v &&& 1)).clrReg (Reg.Q_STATUS u f) 1 := by
  simp [qCtrl, hen, hkeep]

theorem qCtrl_disable_clear (hclr : bit v 31 = true) :
    s.qCtrl u f v = ((s.setReg (Reg.Q_CTRL u f) (v &&& 1)).clrReg (Reg.Q_STATUS u f) 1).clearFnCounts u f := by
  simp [qCtrl, hen, hclr]

end

/-! ### A queue's configuration (R12, R379, R380, R382, R384) -/

section
variable {q : Nat}

/-- A write of Q_SQ_CFG with EN clear takes every writable bit but EN (R12, R380). -/
def sqConfigured (u : Cu) (f q : Nat) (v : Word) (s : State) : State := s.maskWrite (Reg.Q_SQ_CFG u f q) (0x00FF0000 ||| 0x3F00001F) v

theorem rwlWrite_sqCfg (u : Cu) (f q : Nat) (v : Word) (s : State) :
    s.rwlWrite (Reg.Q_SQ_CFG u f q) 0x00FF0000 0x3F00001F false (Reg.Q_STATUS u f) 4 v = s.sqConfigured u f q v := rwlWrite_open ..

section
variable (hen : bit v 31 = true) (hoff : s.rbit (Reg.Q_SQ_CFG u f q) 31 = false)
include hen hoff

theorem sqCfgWrite_noCq (hcq : s.rbit (Reg.Q_CQ_CFG u f ((s.sqConfigured u f q v).cqOf u f q)) 31 = false) (slot : Nat) :
    s.sqCfgWrite u f q v slot = ((s.sqConfigured u f q v).orReg (Reg.Q_STATUS u f) 4).refreshAll u := by
  simp [sqCfgWrite, hen, hoff, rwlWrite_sqCfg, hcq]

/-- An SQ whose CQ is on starts where its slot stands, with full buckets (R375, R380). -/
theorem sqCfgWrite_start (hcq : s.rbit (Reg.Q_CQ_CFG u f ((s.sqConfigured u f q v).cqOf u f q)) 31 = true) (slot : Nat) :
    s.sqCfgWrite u f q v slot =
      let b := s.reg (Reg.Q_SQ_BURST u f q)
      ((((s.sqConfigured u f q v).orReg (Reg.Q_SQ_CFG u f q) 0x80000000).clrReg (Reg.Q_SQ_STATUS u f q) 0x10).setSq u f q
        { head := slot % 2 ^ 32, tail := slot % 2 ^ 32, cBucket := fullBucket (field b 31 16), gBucket := fullBucket (field b 15 0) }).refreshAll u := by
  simp [sqCfgWrite, hen, hoff, rwlWrite_sqCfg, hcq]

end

/-- EN cleared drops the descriptors fetched and not yet accepted (R384, log entry 81). -/
theorem sqCfgWrite_disable (hdis : bit v 31 = false) (slot : Nat) :
    s.sqCfgWrite u f q v slot =
      let w := s.rwlWrite (Reg.Q_SQ_CFG u f q) 0x00FF0000 0x3F00001F (s.rbit (Reg.Q_SQ_CFG u f q) 31) (Reg.Q_STATUS u f) 4 v
      ((w.clrReg (Reg.Q_SQ_CFG u f q) 0x80000000).setSq u f q { w.sq u f q with fetched := [] }).refreshAll u := by
  simp [sqCfgWrite, hdis]

end

section
variable {c : Nat}

theorem cqCfgWrite_start (hen : bit v 31 = true) (hoff : s.rbit (Reg.Q_CQ_CFG u f c) 31 = false) :
    s.cqCfgWrite u f c v = (s.maskWrite (Reg.Q_CQ_CFG u f c) (0xA0000000 ||| 0x40003F1F) v).setCq u f c {} := by
  simp [cqCfgWrite, hen, hoff, rwlWrite_open]

section
variable (hdis : bit v 31 = false) (hon : s.rbit (Reg.Q_CQ_CFG u f c) 31 = true)
include hdis hon

/-- A completion queue in use stays on (R382). -/
theorem cqCfgWrite_inUse (huse : s.cqInUse u f c = true) :
    s.cqCfgWrite u f c v =
      (s.rwlWrite (Reg.Q_CQ_CFG u f c) 0x20000000 0x40003F1F true (Reg.Q_STATUS u f) 4 v).orReg (Reg.Q_STATUS u f) 4 := by
  simp [cqCfgWrite, hdis, hon, huse]

theorem cqCfgWrite_disable (hfree : s.cqInUse u f c = false) :
    s.cqCfgWrite u f c v = s.rwlWrite (Reg.Q_CQ_CFG u f c) 0xA0000000 0x40003F1F true (Reg.Q_STATUS u f) 4 v := by
  simp [cqCfgWrite, hdis, hon, hfree]

end
end

section
variable (hen : bit v 31 = true)
include hen

theorem eqCfgWrite_start (hoff : s.rbit (Reg.Q_EQ_CFG u f) 31 = false) :
    s.eqCfgWrite u f v =
      let w := s.maskWrite (Reg.Q_EQ_CFG u f) (0x80000000 ||| 0x3F0F) v
      w.setFn u f { w.fn u f with eq := {} } := by
  simp [eqCfgWrite, hen, hoff, rwlWrite_open]

theorem trCfgWrite_start {r : Nat} (hoff : s.rbit (Reg.Q_TR_CFG u f r) 31 = false) :
    s.trCfgWrite u f r v =
      ((s.maskWrite (Reg.Q_TR_CFG u f r) (0x80000000 ||| 0x3F1F) v).setTr u f r {}).setReg (Reg.Q_TR_STATUS u f r) 0 := by
  simp [trCfgWrite, hen, hoff, rwlWrite_open]

end
end
end State

open State

/-! ### The commands that read host memory -/

section
variable (u : Cu) (f : Nat) (s : State)

theorem exec_queuePoll (p : List (Nat × PollData)) (rtt : Nat) :
    exec (.queuePoll u p rtt) s = .next ((p.foldl (pollFn u) (s.noteRtt u rtt)).refreshAll u) := rfl

/-- A fetch that takes descriptors moves the head by as many, and writes the head word (R359, R363). -/
theorem exec_descriptorFetch_some {q : Nat} {ds : List (List Byte)} (hgot : (ds.take (s.fetchable u f q)).isEmpty = false) (rtt : Nat) :
    exec (.descriptorFetch u f q ds rtt) s =
      let got := ds.take (s.fetchable u f q)
      let hd := ((s.sq u f q).head + got.length) % 2 ^ 32
      let w := (s.noteRtt u rtt).setSq u f q { s.sq u f q with head := hd, fetched := (s.sq u f q).fetched ++ got.map (fit 64), fetchFails := 0 }
      .next ((w.hostWrite u (s.rnat64 (Reg.Q_DB_LO u f) (Reg.Q_DB_HI u f) + 0x3200 + 4 * q) (bytesOf 4 hd)).refreshAll u) :=
  if_neg (ne_true_of_eq_false hgot)

theorem exec_completionPost (c h : Nat) : exec (.completionPost u f c h) s = .next ((s.takeSlot u f (64 + c) h).refreshAll u) := rfl

theorem exec_hostReadFail_poll_counted (h : (s.fn u f).pollFails < 7) :
    exec (.hostReadFail u (.poll f)) s = .next (s.setFn u f { s.fn u f with pollFails := (s.fn u f).pollFails + 1 }) := if_neg (by omega)

/-- The eighth poll to fail on end halts the function (R377). -/
theorem exec_hostReadFail_poll_halts (h : 7 ≤ (s.fn u f).pollFails) : exec (.hostReadFail u (.poll f)) s =
    .next ((((s.setFn u f { s.fn u f with pollFails := 0, halted := true }).clrReg (Reg.Q_STATUS u f) 1).qSticky u f (Reg.Q_STATUS u f) 0x120).report1
      (localSrc u 10) f) := if_pos (by omega)

/-- A descriptor read that fails is tried once more (R346). -/
theorem exec_hostReadFail_descriptor_retried {q : Nat} (h : (s.sq u f q).fetchFails = 0) :
    exec (.hostReadFail u (.descriptor f q)) s = .next (s.setSq u f q { s.sq u f q with fetchFails := 1 }) := by
  show execHostReadFail u (.descriptor f q) s = _
  simp [execHostReadFail, h]

theorem exec_hostReadFail_descriptor_stops {q : Nat} (h : 1 ≤ (s.sq u f q).fetchFails) : exec (.hostReadFail u (.descriptor f q)) s =
    .next ((((s.setSq u f q { s.sq u f q with fetchFails := 0 }).orReg (Reg.Q_SQ_STATUS u f q) 0x30).qSticky u f (Reg.Q_STATUS u f) 2).report1
      (localSrc u 10) (f * 64 + q)) := if_pos h

end

/-! ### The commands that enable and disable: each is the register write with its bit so -/

section
variable (u : Cu) (f : Nat) (v : Word) (s : State)

theorem exec_functionEnable : exec (.functionEnable u f v) s = .next (s.qCtrl u f (putBit v 0 true)) := rfl
theorem exec_functionDisable : exec (.functionDisable u f v) s = .next (s.qCtrl u f (putBit v 0 false)) := rfl
theorem exec_qCountClear : exec (.qCountClear u f v) s = .next (s.qCtrl u f (putBit v 31 true)) := rfl
theorem exec_sqEnable (q slot : Nat) : exec (.sqEnable u f q v slot) s = .next (s.sqCfgWrite u f q (putBit v 31 true) slot) := rfl
theorem exec_sqDisable (q : Nat) : exec (.sqDisable u f q v) s = .next (s.sqCfgWrite u f q (putBit v 31 false) 0) := rfl
theorem exec_cqEnable (c : Nat) : exec (.cqEnable u f c v) s = .next (s.cqCfgWrite u f c (putBit v 31 true)) := rfl
theorem exec_cqDisable (c : Nat) : exec (.cqDisable u f c v) s = .next (s.cqCfgWrite u f c (putBit v 31 false)) := rfl
theorem exec_eqEnable : exec (.eqEnable u f v) s = .next (s.eqCfgWrite u f (putBit v 31 true)) := rfl
theorem exec_trEnable (r : Nat) : exec (.trEnable u f r v) s = .next (s.trCfgWrite u f r (putBit v 31 true)) := rfl

end

/-- Settles O30: the reads by what they find, and each enable or disable by what the register it writes held. -/
theorem queueReadsAndEnables : Obligations.QueueReadsAndEnables := by
  unfold Obligations.QueueReadsAndEnables
  refine ⟨fun u f s => ⟨exec_queuePoll u s, fun q ds rtt hgot => exec_descriptorFetch_some u f s hgot rtt, fun c h hc hen hle => ?posted,
      fun c h hc hen hlt => ?refused, exec_hostReadFail_poll_counted u f s, exec_hostReadFail_poll_halts u f s,
      fun q => exec_hostReadFail_descriptor_retried u f s, fun q => exec_hostReadFail_descriptor_stops u f s⟩,
    fun u f v s => ⟨fun hen hkeep hoff hd0 => ?enable, fun hdis hkeep => ?disable, fun hdis hclr => ?clear, fun q slot hen hoff => ⟨fun hcq => ?noCq,
      fun hcq => ?start⟩, fun q hdis => ?stop, fun c hen hoff => ?cqOn, fun c hdis hon => ⟨fun huse => ?cqUsed, fun hfree => ?cqOff⟩,
      fun hen hoff => ?eqOn, fun r hen hoff => ?trOn⟩⟩
  case posted => rw [exec_completionPost, takeSlot_cq hc hen, if_pos hle]
  case refused =>
    rw [exec_completionPost, takeSlot_cq hc hen, if_neg (Nat.not_le.mpr hlt)]
    rfl
  case enable => rw [exec_functionEnable, putBit_of_bit v 0 true (by decide) hen, qCtrl_enable hen hkeep hoff hd0]
  case disable => rw [exec_functionDisable, putBit_of_bit v 0 false (by decide) hdis, qCtrl_disable hdis hkeep]
  case clear => rw [exec_qCountClear, putBit_of_bit v 31 true (by decide) hclr, qCtrl_disable_clear hdis hclr]
  case noCq =>
    rw [exec_sqEnable, putBit_of_bit v 31 true (by decide) hen, sqCfgWrite_noCq hen hoff hcq]
    rfl
  case start =>
    rw [exec_sqEnable, putBit_of_bit v 31 true (by decide) hen, sqCfgWrite_start hen hoff hcq]
    rfl
  case stop => rw [exec_sqDisable, putBit_of_bit v 31 false (by decide) hdis, sqCfgWrite_disable hdis]
  case cqOn => rw [exec_cqEnable, putBit_of_bit v 31 true (by decide) hen, cqCfgWrite_start hen hoff]
  case cqUsed => rw [exec_cqDisable, putBit_of_bit v 31 false (by decide) hdis, cqCfgWrite_inUse hdis hon huse]
  case cqOff => rw [exec_cqDisable, putBit_of_bit v 31 false (by decide) hdis, cqCfgWrite_disable hdis hon hfree]
  case eqOn => rw [exec_eqEnable, putBit_of_bit v 31 true (by decide) hen, eqCfgWrite_start hen hoff]
  case trOn => rw [exec_trEnable, putBit_of_bit v 31 true (by decide) hen, trCfgWrite_start hen hoff]

end Sys2Proof.Machine
end

section
/-! The step and the invariant: a command keeps the queue, the part and the canonical form, so a step takes the front command off a sound queue. -/
namespace Sys2Proof.Machine
open State

theorem idle_kept {q : List Instr} {p : Part} {s : State} (h : Kept q p s) : Kept q p s.idle := by
  unfold idle
  exact kept_ite (advance_kept h) h

/-- What every command leaves of a state whose register file and DRAM are canonical. -/
theorem kept_of_exec {c : Instr} {s t : State} (h : Tables s.part s.regs s.mem.dram s.mem.userFree) (ht : exec c s = .next t) :
    Kept s.pending s.part t := exec_kept (q := s.pending) (p := s.part) ⟨rfl, rfl, h⟩ t ht

theorem Kept.sound {q : List Instr} {p : Part} {s : State} (h : Kept q p s) (hq : ∀ c ∈ q, c.wf = true) : s.Sound := by
  obtain ⟨rfl, rfl, htables⟩ := h
  exact ⟨htables, hq⟩

/-- Settles O1: a step reads the front of the queue. -/
theorem stepRunsFront : Obligations.StepRunsFront := ⟨fun _ _ _ h => step_front h, fun _ h => step_empty h⟩

/-- Settles O4: every command completes, and what it answers is `Kept`. -/
theorem commandsLeaveTheQueue : Obligations.CommandsLeaveTheQueue := by
  unfold Obligations.CommandsLeaveTheQueue
  intro c s h
  obtain ⟨t, ht⟩ := exec_next c s
  obtain ⟨hpending, hpart, htables⟩ := kept_of_exec h ht
  exact ⟨t, ht, hpending, hpart, hpart ▸ htables⟩

/-- Settles O3: an idle clock leaves the queue empty, a command its rest, whose commands were well formed before. -/
theorem stepKeepsSound : Obligations.StepKeepsSound := by
  unfold Obligations.StepKeepsSound
  rintro s t ⟨htables, hwf⟩ hstep
  cases hq : s.pending with
  | nil =>
    rw [step_empty hq] at hstep
    obtain rfl := Host.Outcome.next.inj hstep
    exact (idle_kept ⟨rfl, rfl, htables⟩ : Kept s.pending s.part s.idle).sound hwf
  | cons c rest =>
    rw [step_front hq] at hstep
    have hrest : ∀ i ∈ rest, i.wf = true := fun i hi => hwf i (hq ▸ List.mem_cons_of_mem c hi)
    exact (kept_of_exec (s := { s with pending := rest }) htables hstep).sound hrest

end Sys2Proof.Machine
end

section
/-! Descriptors: one that a check of R387 stops completes at once with that check's status; FAULT_CTRL (R412, R535, R536) and FW_STAGE DISCARD (R598). -/
namespace Sys2Proof.Machine

/-- The command is the row of a descriptor: it accepts `c` where no grant has, judges checks 3 to 5, and has its own effect only then. -/
def RunsDesc (c : Cmd) (i : Instr) : Prop := ∃ (op : Nat) (body : State → State), ∀ s : State, exec i s = .next (s.runDesc c op body)

/-- Every row that carries a descriptor, with the descriptor `c`. -/
def descRows (c : Cmd) (d : HostData) (l : List Nat) : List Instr :=
  [.routeLookup c d l, .routePreload c d l, .routeSolve c d, .routeInvalidate c d, .routeFlush c, .routeRehash c, .mapBaste c d l, .gust c,
   .loopModeManual c, .loopModeAuto c, .loopSet c, .squallStart (.desc c), .schedLoad c d, .schedCommit (.desc c), .schedStop (.desc c),
   .schedStopAtEnd (.desc c), .schedCancel (.desc c), .timePulse c, .calRun c, .calSetLoad c d, .charTable c, .charCoupling c d, .charTrimSweep c d,
   .charThrowSweep c d, .nop c, .mapQuery c, .move c, .telemCtrl c d, .elementDirectCodes c, .elementDirectRead c, .spareMapSubstitute c,
   .spareMapRelease c, .faultCtrlRead c, .faultCtrlClear c, .faultCtrlConfig c, .stateSave c, .attest c, .fwStageStage c d, .fwStageActivate c,
   .fwStageDiscard c, .recCtrlStatus c, .recFreeze (.desc c), .recRelease (.desc c), .recSizeSet c, .recModeSet c, .recTriggersSet c]

theorem runsDesc_of_mem_descRows (c : Cmd) (d : HostData) (l : List Nat) : ∀ i ∈ descRows c d l, RunsDesc c i := by
  unfold descRows
  repeat refine List.forall_mem_cons.mpr ⟨⟨_, _, fun _ => rfl⟩, ?_⟩
  exact List.forall_mem_nil _

namespace State
variable {c : Cmd} {s : State}

/-- A descriptor that a check stops runs no body (R387, R392). -/
theorem runDesc_stopped {st fl : Nat} (hw : s.waiting c = true) (hstop : (s.startFlight c).descCheck c = some (st, fl)) (op : Nat)
    (body : State → State) : s.runDesc c op body = (s.startFlight c).complete c st fl 0 0 0 0 := by
  unfold runDesc
  simp only [hw, if_true, hstop]

/-- The holder is what TKN_STATE shows (R421). -/
theorem holder_congr {t : State} (h : t.reg Reg.TKN_STATE = s.reg Reg.TKN_STATE) : t.holder = s.holder := by
  unfold holder tknState tknUnit fld rbit
  rw [h]

@[simp] theorem startFlight_holds (u : Cu) : (s.startFlight c).holds u = s.holds u := by
  unfold holds
  rw [holder_congr (startFlight_reg (by decide) c s)]

@[simp] theorem startFlight_islandOnly : (s.startFlight c).islandOnly c.unit = s.islandOnly c.unit := by
  simp only [startFlight, islandOnly, unit_setUnit]

/-- Check 5 (R387, R389). -/
theorem descCheck_notHolder (h3 : check3 c.desc = true) (hon : s.islandOnly c.unit = false) (hneeds : needsToken c.desc = true)
    (hother : s.holds c.unit = false) : s.descCheck c = some (4, 0) := by
  simp [descCheck, h3, hon, hneeds, hother]

end State

open State

/-- Settles O53: every such row is a `runDesc`, which a failed check ends before the row's own effect. -/
theorem refusedDescriptors : Obligations.RefusedDescriptors := by
  unfold Obligations.RefusedDescriptors
  refine fun c d l st fl s hw hstop => ⟨fun i hi => ?_, (startFlight_unit s c).trans (complete_unit _ c st fl 0 0 0 0), fun h3 hon hneeds hother => ?_⟩
  · obtain ⟨op, body, hrun⟩ := runsDesc_of_mem_descRows c d l i hi
    rw [hrun, runDesc_stopped hw hstop]
  · rw [descCheck_notHolder h3 (startFlight_islandOnly.trans hon) hneeds ((startFlight_holds c.unit).trans hother)] at hstop
    obtain ⟨rfl, rfl⟩ := Prod.mk.inj (Option.some.inj hstop)
    exact ⟨rfl, rfl⟩

/-! ### FAULT_CTRL -/

section
variable {c : Cmd} {s : State} (hready : Ready c 0x13 s)
include hready

theorem exec_faultCtrlRead_ready (hop : c.b 4 = 0) : exec (.faultCtrlRead c) s =
    .next (if faultReach c = true ∧ c.h 16 ≠ 0xFFFE then (s.startFlight c).faultDone c else (s.startFlight c).refuse c 0x05) := by
  refine congrArg Host.Outcome.next ((runDesc_ready hready _).trans ?_)
  by_cases hreach : faultReach c = true <;> by_cases hall : c.h 16 = 0xFFFE <;> simp [hop, hreach, hall]

theorem exec_faultCtrlClear_ready (hop : c.b 4 = 1) : exec (.faultCtrlClear c) s = .next ((s.startFlight c).faultClear c) :=
  congrArg Host.Outcome.next ((runDesc_ready hready _).trans (if_neg (not_not.mpr hop)))

theorem exec_faultCtrlConfig_ready (hop : c.b 4 = 2) : exec (.faultCtrlConfig c) s = .next ((s.startFlight c).faultConfig c) :=
  congrArg Host.Outcome.next ((runDesc_ready hready _).trans (if_neg (not_not.mpr hop)))

end

namespace State
variable {c : Cmd} {s : State} (hreach : faultReach c = true)
include hreach

theorem faultClear_notHolder (htok : s.faultToken c = false) : s.faultClear c = s.refuse c 0x04 := by
  simp [faultClear, hreach, htok]

section
variable (htok : s.faultToken c = true)
include htok

theorem faultClear_first (hsrc : c.h 16 = 0xFFFF) : s.faultClear c = s.clearFirst.faultDone c := by
  simp [faultClear, hreach, htok, hsrc]

theorem faultClear_all (hsrc : c.h 16 = 0xFFFE) : s.faultClear c = (s.clearAll c.unit).faultDone c := by
  simp [faultClear, hreach, htok, hsrc]

/-- CLEAR of one source, refused while its level stands (R535). -/
theorem faultClear_source (hsrc : c.h 16 < 0xFFFE) :
    s.faultClear c = if s.levelOn (c.h 16) then s.refuse c 0x11 else (s.clearSource (c.h 16)).faultDone c := by
  have hfirst : c.h 16 ≠ 0xFFFF := by omega
  have hall : c.h 16 ≠ 0xFFFE := by omega
  simp [faultClear, hreach, htok, hfirst, hall]

theorem faultConfig_inRange (hsrc : c.h 16 < 0xFFFE) (hn : c.h 18 ≤ 255) (hclass : c.b 24 ≤ 2) (hreact : c.b 25 ≤ 3 ∨ c.h 16 = 10) :
    s.faultConfig c =
      let w := ((s.setField (srcReg (c.h 16) 0) 7 0 (c.h 18)).setField (srcReg (c.h 16) 0) 25 24 (c.b 24)).setReg (srcReg (c.h 16) 4) (word (c.w 20))
      (if c.h 16 = 10 then w else w.setField (srcReg (c.h 16) 0) 29 28 (c.b 25)).faultDone c := by
  have hrange : ¬ (0xFFFE ≤ c.h 16 ∨ 255 < c.h 18 ∨ 2 < c.b 24 ∨ (3 < c.b 25 ∧ c.h 16 ≠ 10)) := by omega
  simp only [faultConfig, hreach, htok, Bool.not_true, Bool.false_eq_true, if_false, hrange]

end
end State

/-- Settles O33: READ by the source's reach, CLEAR and CONFIG by the token, the source named and its level. -/
theorem faultCommands : Obligations.FaultCommands := by
  unfold Obligations.FaultCommands
  refine fun c s hready => ⟨fun hop hreach hsrc => ?_, fun hop hreach => ?_, fun hop hreach htok => ?_, fun hop hreach htok hsrc => ?_,
    fun hop hreach htok hsrc => ?_, fun hop hreach htok hsrc hlevel => ?_, fun hop hreach htok hsrc hlevel => ?_,
    fun hop hreach htok hsrc hn hclass hreact => ?_⟩
  · rw [exec_faultCtrlRead_ready hready hop, if_pos ⟨hreach, hsrc⟩]
  · rw [exec_faultCtrlRead_ready hready hop, if_neg (by simp [hreach])]
  · rw [exec_faultCtrlClear_ready hready hop, faultClear_notHolder hreach htok]
  · rw [exec_faultCtrlClear_ready hready hop, faultClear_first hreach htok hsrc]
  · rw [exec_faultCtrlClear_ready hready hop, faultClear_all hreach htok hsrc]
  · rw [exec_faultCtrlClear_ready hready hop, faultClear_source hreach htok hsrc, if_pos hlevel]
  · rw [exec_faultCtrlClear_ready hready hop, faultClear_source hreach htok hsrc, if_neg (by simp [hlevel])]
  · rw [exec_faultCtrlConfig_ready hready hop, faultConfig_inRange hreach htok hsrc hn hclass hreact]

/-! ### FW_STAGE DISCARD -/

theorem exec_fwStageDiscard_ready {c : Cmd} {s : State} (hready : Ready c 0x16 s) (hop : c.b 4 = 2) : exec (.fwStageDiscard c) s =
    let x := s.startFlight c
    .next (({ x with sec := { x.sec with staged := none } } : State).complete c 0 0 0 0 0 0) :=
  congrArg Host.Outcome.next ((runDesc_ready hready _).trans (if_pos hop))

/-- Settles O57: the completion and the descriptor's start leave the security state alone. -/
theorem stagedImageDiscarded : Obligations.StagedImageDiscarded := by
  unfold Obligations.StagedImageDiscarded
  refine fun c s hready hop => ⟨exec_fwStageDiscard_ready hready hop, ?_, ?_, ?_⟩
  · rw [complete_sec]
  · rw [complete_sec, startFlight_sec]
  · rw [complete_sec, startFlight_sec]

end Sys2Proof.Machine
end

section
/-! How a counter counts: its own register, its overflow bit, and the chained pair (R615). -/
namespace Sys2Proof.Machine

theorem toNat_word (n : Nat) : (word n).toNat = n % 2 ^ 32 := BitVec.toNat_ofNat n 32

namespace State

theorem rnat_setReg (s : State) (k : Nat) (v : Word) : (s.setReg k v).rnat k = v.toNat := by unfold rnat; rw [reg_setReg]

theorem rnat_orReg_ne (s : State) {j k : Nat} (h : j ≠ k) (m : Nat) : (s.orReg k m).rnat j = s.rnat j := rnat_setReg_ne s h _

section
variable (u : Cu)

/-! The counters lie apart from each other and from the overflow bits. -/

theorem pmcCnt_ne_next (n : Nat) : Reg.PMC_CNT u n ≠ Reg.PMC_CNT u (n + 1) := by unfold Reg.PMC_CNT unitKey; omega

theorem pmcCnt_ne_ovf {i : Nat} (n : Nat) (hi : i < 9) : Reg.PMC_CNT u n ≠ Reg.PMC_OVF u i := by unfold Reg.PMC_CNT Reg.PMC_OVF unitKey; omega

variable (s : State) {n k : Nat}

/-- A count that fits. -/
theorem pmcAdd_fits (h : s.rnat (Reg.PMC_CNT u n) + k < 2 ^ 32) :
    s.pmcAdd u n k = s.setReg (Reg.PMC_CNT u n) (word (s.rnat (Reg.PMC_CNT u n) + k)) := by
  have hcarry : (s.rnat (Reg.PMC_CNT u n) + k) / 2 ^ 32 = 0 := Nat.div_eq_of_lt h
  unfold pmcAdd
  simp only [hcarry, if_true]

section
variable (hwrap : 2 ^ 32 ≤ s.rnat (Reg.PMC_CNT u n) + k)
include hwrap

/-- An unchained counter that wraps. -/
theorem pmcAdd_wraps (hchain : bit (s.reg (Reg.PMC_EVT u n)) 31 = false) : s.pmcAdd u n k =
    (s.setReg (Reg.PMC_CNT u n) (word (s.rnat (Reg.PMC_CNT u n) + k))).orReg (Reg.PMC_OVF u (n / 32)) (2 ^ (n % 32)) := by
  have hcarry : (s.rnat (Reg.PMC_CNT u n) + k) / 2 ^ 32 ≠ 0 := by omega
  unfold pmcAdd
  simp only [hcarry, hchain, if_false, Bool.false_eq_true]

/-- A chained counter that wraps carries into its partner, whose own wrap sets its overflow bit. -/
theorem pmcAdd_carries (hchain : bit (s.reg (Reg.PMC_EVT u n)) 31 = true) :
    let hi := s.rnat (Reg.PMC_CNT u (n + 1)) + (s.rnat (Reg.PMC_CNT u n) + k) / 2 ^ 32
    let t := (s.setReg (Reg.PMC_CNT u n) (word (s.rnat (Reg.PMC_CNT u n) + k))).setReg (Reg.PMC_CNT u (n + 1)) (word hi)
    s.pmcAdd u n k = if hi / 2 ^ 32 = 0 then t else t.orReg (Reg.PMC_OVF u ((n + 1) / 32)) (2 ^ ((n + 1) % 32)) := by
  have hcarry : (s.rnat (Reg.PMC_CNT u n) + k) / 2 ^ 32 ≠ 0 := by omega
  unfold pmcAdd
  simp only [hcarry, hchain, if_false, if_true]

end

variable (hn : n < 256)
include hn

/-- A counter adds modulo 2³², chained or not. -/
theorem rnat_pmcAdd : (s.pmcAdd u n k).rnat (Reg.PMC_CNT u n) = (s.rnat (Reg.PMC_CNT u n) + k) % 2 ^ 32 := by
  have hself : (s.setReg (Reg.PMC_CNT u n) (word (s.rnat (Reg.PMC_CNT u n) + k))).rnat (Reg.PMC_CNT u n) = (s.rnat (Reg.PMC_CNT u n) + k) % 2 ^ 32 := by
    rw [rnat_setReg, toNat_word]
  by_cases hfit : s.rnat (Reg.PMC_CNT u n) + k < 2 ^ 32
  · rw [pmcAdd_fits u s hfit, hself]
  · have hwrap := Nat.le_of_not_lt hfit
    cases hchain : bit (s.reg (Reg.PMC_EVT u n)) 31
    · rw [pmcAdd_wraps u s hwrap hchain, rnat_orReg_ne _ (pmcCnt_ne_ovf u n (by omega)), hself]
    · rw [pmcAdd_carries u s hwrap hchain]
      split
      · rw [rnat_setReg_ne _ (pmcCnt_ne_next u n), hself]
      · rw [rnat_orReg_ne _ (pmcCnt_ne_ovf u n (by omega)), rnat_setReg_ne _ (pmcCnt_ne_next u n), hself]

/-- The partner of a chained counter adds its carry modulo 2³². -/
theorem rnat_pmcAdd_next (hchain : bit (s.reg (Reg.PMC_EVT u n)) 31 = true) : (s.pmcAdd u n k).rnat (Reg.PMC_CNT u (n + 1)) =
    (s.rnat (Reg.PMC_CNT u (n + 1)) + (s.rnat (Reg.PMC_CNT u n) + k) / 2 ^ 32) % 2 ^ 32 := by
  by_cases hfit : s.rnat (Reg.PMC_CNT u n) + k < 2 ^ 32
  · rw [pmcAdd_fits u s hfit, rnat_setReg_ne _ (pmcCnt_ne_next u n).symm, Nat.div_eq_of_lt hfit, Nat.add_zero]
    exact (Nat.mod_eq_of_lt (BitVec.isLt _)).symm
  · rw [pmcAdd_carries u s (Nat.le_of_not_lt hfit) hchain]
    split
    · rw [rnat_setReg, toNat_word]
    · rw [rnat_orReg_ne _ (pmcCnt_ne_ovf u (n + 1) (by omega)), rnat_setReg, toNat_word]

end
end State

open State

/-- Settles O51: the count is two words with a carry between them, which a chained pair takes and an unchained counter shows in its overflow bit. -/
theorem counterCarries : Obligations.CounterCarries := by
  unfold Obligations.CounterCarries
  refine fun u n k s hn => ⟨rnat_pmcAdd u s hn, pmcAdd_fits u s, fun hwrap hchain => ?_, fun _ hchain _ => ?_⟩
  · have hbit : decide (n % 32 < 32) = true := decide_eq_true (Nat.mod_lt _ (by decide))
    rw [pmcAdd_wraps u s hwrap hchain, rbit_orReg, hbit, Nat.testBit_two_pow_self, Bool.and_self, Bool.or_true]
  · unfold rnat64
    rw [rnat_pmcAdd u s hn, rnat_pmcAdd_next u s hn hchain]
    omega

end Sys2Proof.Machine
end

section
/-! The fault collector: what a report makes of its source (R524, R525), which report makes the first record (R527, R528), and the clears (R534–R536). -/
namespace Sys2Proof.Machine

/-- A field is the bits it spans. -/
theorem field_congr {a b : Word} {hi lo : Nat} (h : ∀ i, lo ≤ i → i ≤ hi → bit a i = bit b i) (hl : lo ≤ hi) :
    field a hi lo = field b hi lo := by
  apply Nat.eq_of_testBit_eq
  intro j
  unfold field
  rw [Nat.testBit_mod_two_pow, Nat.testBit_mod_two_pow, Nat.testBit_shiftRight, Nat.testBit_shiftRight]
  by_cases hj : j < hi - lo + 1
  · have hbit : a.toNat.testBit (lo + j) = b.toNat.testBit (lo + j) := h (lo + j) (by omega) (by omega)
    rw [hbit]
  · simp [hj]

/-- Two fields that do not overlap are written apart. -/
theorem field_putField_apart {hi lo hi' lo' : Nat} (hl : lo ≤ hi) (hl' : lo' ≤ hi') (hh' : hi' < 32) (hapart : hi < lo' ∨ hi' < lo) (w : Word)
    (v : Nat) : field (putField w hi' lo' v) hi lo = field w hi lo := by
  refine field_congr (fun i hlo hhi => ?_) hl
  rw [bit_putField hl' hh', if_neg (by omega)]

/-- A field does not see a bit outside it set. -/
theorem field_orBit {hi lo i : Nat} (hl : lo ≤ hi) (hout : hi < i ∨ i < lo) (w : Word) :
    field (w ||| BitVec.ofNat 32 (2 ^ i)) hi lo = field w hi lo := by
  refine field_congr (fun j hlo hhi => ?_) hl
  rw [bit_or, bit_ofNat, Nat.testBit_two_pow_of_ne (by omega), Bool.and_false, Bool.or_false]

theorem bit_orBit (w : Word) {i : Nat} (h : i < 32) : bit (w ||| BitVec.ofNat 32 (2 ^ i)) i = true := by
  rw [bit_or, bit_ofNat, Nat.testBit_two_pow_self, decide_eq_true h, Bool.and_self, Bool.or_true]

theorem bit_or_left {x : Word} {i : Nat} (y : Word) (h : bit x i = true) : bit (x ||| y) i = true := by rw [bit_or, h, Bool.true_or]

theorem field_lt (w : Word) (hi lo : Nat) : field w hi lo < 2 ^ (hi - lo + 1) := Nat.mod_lt _ (Nat.two_pow_pos _)

namespace State

/-! ### The registers of a source -/

/-- Two registers of one source differ where their offsets do. -/
theorem srcReg_ne {off off' : Nat} (h : off ≠ off') (src : Nat) : srcReg src off ≠ srcReg src off' := by
  unfold srcReg
  split
  · omega
  · unfold unitKey; omega

/-- The sources' registers lie above the collector's own (R541). -/
theorem srcReg_ge (src off : Nat) : 0x11E400 ≤ srcReg src off := by
  unfold srcReg
  split
  · omega
  · exact Nat.le_trans (by decide) (unitKey_ge _ _)

theorem lt_of_srcExists {src : Nat} (h : srcExists src = true) : src < 128 := by
  unfold srcExists at h
  split at h
  · omega
  · simp only [Bool.and_eq_true, decide_eq_true_eq] at h
    exact h.1

/-- A source has one register for each offset, and none of them is a FLT_OPEN. -/
theorem srcReg_ne_open {src : Nat} (h : srcExists src = true) (off : Nat) : srcReg src off ≠ Reg.FLT_OPEN (src / 32) := by
  have hlt := lt_of_srcExists h
  have hge := srcReg_ge src off
  unfold Reg.FLT_OPEN
  omega

/-! ### One report of a source (R524, R525) -/

section
variable (src : Nat) (s : State)

/-- The reports of the source that count, this one with them. -/
def reportTimes : List Nat := (s.now :: Tab.get [] src s.flt.hist).take 255

/-- WIN, this report counted. -/
def reportWin : Nat := s.srcWin src (s.reportTimes src)

/-- The class the source has after this report. -/
def reportClass : Nat := if s.srcClass src = 3 ∨ s.srcN src ≤ s.reportWin src then 3 else s.fld (srcReg src 0) 25 24

/-- SRC_STATE after this report: class, WIN, the open record and the level. -/
def reportState : Word :=
  let w := putField (putField (s.reg (srcReg src 8)) 18 16 (s.reportClass src)) 7 0 (min (s.reportWin src) 255)
  let x := if 2 ≤ s.reportClass src then w ||| BitVec.ofNat 32 (2 ^ 31) else w
  if s.rbit (srcReg src 0) 30 then x ||| BitVec.ofNat 32 (2 ^ 30) else x

theorem reportClass_le : s.reportClass src ≤ 3 := by
  have hbase := field_lt (s.reg (srcReg src 0)) 25 24
  unfold reportClass
  split
  · exact Nat.le_refl 3
  · exact Nat.le_of_lt_succ hbase

/-- The four places a report writes: SRC_STATE, TOTAL, the open record, and the times kept. -/
theorem classify_eq : s.classify src =
    let s1 : State := { s with flt := { s.flt with hist := Tab.set src (s.reportTimes src) s.flt.hist } }
    let s2 := (s1.setField (srcReg src 8) 18 16 (s.reportClass src)).setField (srcReg src 8) 7 0 (min (s.reportWin src) 255)
    let s3 := if 2 ≤ s.reportClass src then (s2.orReg (srcReg src 8) (2 ^ 31)).orReg (Reg.FLT_OPEN (src / 32)) (2 ^ (src % 32)) else s2
    let s4 := if s.rbit (srcReg src 0) 30 then s3.orReg (srcReg src 8) (2 ^ 30) else s3
    s4.bump (srcReg src 0xC) 31 0 1 := rfl

theorem reg_classify_ne {k : Nat} (hstate : k ≠ srcReg src 8) (htotal : k ≠ srcReg src 0xC) (hopen : k ≠ Reg.FLT_OPEN (src / 32)) :
    (s.classify src).reg k = s.reg k := by
  rw [classify_eq]
  dsimp only
  rw [reg_bump_ne _ htotal]
  split <;> split <;> simp only [reg_orReg_ne _ hstate, reg_orReg_ne _ hopen, reg_setField_ne _ hstate] <;> rfl

/-- No report moves the first record before all are classified (R527). -/
theorem reg_classify_first : (s.classify src).reg Reg.FLT_FIRST = s.reg Reg.FLT_FIRST := by
  have hsrc (off : Nat) : Reg.FLT_FIRST ≠ srcReg src off := Nat.ne_of_lt (Nat.lt_of_lt_of_le (by decide) (srcReg_ge src off))
  exact reg_classify_ne src s (hsrc _) (hsrc _) (by unfold Reg.FLT_OPEN Reg.FLT_FIRST; omega)

variable {src} (hsrc : srcExists src = true)
include hsrc

theorem reg_classify_state : (s.classify src).reg (srcReg src 8) = s.reportState src := by
  have hopen := srcReg_ne_open hsrc 8
  rw [classify_eq]
  dsimp only
  rw [reg_bump_ne _ (srcReg_ne (by decide) src)]
  unfold reportState
  split <;> split <;> simp only [reg_orReg, reg_orReg_ne _ hopen, reg_setField] <;> rfl

theorem reg_classify_conf : (s.classify src).reg (srcReg src 0) = s.reg (srcReg src 0) :=
  reg_classify_ne src s (srcReg_ne (by decide) src) (srcReg_ne (by decide) src) (srcReg_ne_open hsrc 0)

/-- Below the level and the open record SRC_STATE holds the class and WIN. -/
theorem fld_classify_state {hi lo : Nat} (hl : lo ≤ hi) (hh : hi < 30) : (s.classify src).fld (srcReg src 8) hi lo =
    field (putField (putField (s.reg (srcReg src 8)) 18 16 (s.reportClass src)) 7 0 (min (s.reportWin src) 255)) hi lo := by
  unfold fld
  rw [reg_classify_state s hsrc]
  unfold reportState
  split <;> split <;> simp only [field_orBit hl (Or.inl (show hi < 31 by omega)), field_orBit hl (Or.inl hh)]

theorem srcClass_classify : (s.classify src).srcClass src = s.reportClass src := by
  have hle := reportClass_le src s
  unfold srcClass
  rw [fld_classify_state s hsrc (by decide) (by decide), field_putField_apart (by decide) (by decide) (by decide) (by decide),
    field_putField (by decide) (by decide)]
  omega

theorem win_classify : (s.classify src).fld (srcReg src 8) 7 0 = min (s.reportWin src) 255 := by
  rw [fld_classify_state s hsrc (by decide) (by decide), field_putField (by decide) (by decide)]
  omega

/-- TOTAL counts the report. -/
theorem total_classify : (s.classify src).rnat (srcReg src 0xC) = min (s.rnat (srcReg src 0xC) + 1) 0xFFFFFFFF := by
  have hstate : srcReg src 0xC ≠ srcReg src 8 := srcReg_ne (by decide) src
  have hopen := srcReg_ne_open hsrc 0xC
  rw [rnat_eq_fld, rnat_eq_fld, classify_eq]
  dsimp only
  rw [fld_bump _ (by decide) (by decide)]
  unfold fld
  split <;> split <;> simp only [reg_orReg_ne _ hstate, reg_orReg_ne _ hopen, reg_setField_ne _ hstate] <;> rfl

/-- At ERROR or SEVERE the source's record is open (R525). -/
theorem open_classify (hhot : 2 ≤ s.reportClass src) :
    (s.classify src).rbit (srcReg src 8) 31 = true ∧ (s.classify src).rbit (Reg.FLT_OPEN (src / 32)) (src % 32) = true := by
  have hstate : Reg.FLT_OPEN (src / 32) ≠ srcReg src 8 := (srcReg_ne_open hsrc 8).symm
  have htotal : Reg.FLT_OPEN (src / 32) ≠ srcReg src 0xC := (srcReg_ne_open hsrc 0xC).symm
  constructor
  · unfold rbit
    rw [reg_classify_state s hsrc]
    unfold reportState
    simp only [if_pos hhot]
    split
    · exact bit_or_left _ (bit_orBit _ (by decide))
    · exact bit_orBit _ (by decide)
  · have hopen (t : State) : (t.orReg (Reg.FLT_OPEN (src / 32)) (2 ^ (src % 32))).rbit (Reg.FLT_OPEN (src / 32)) (src % 32) = true := by
      rw [rbit, reg_orReg, bit_orBit _ (Nat.mod_lt _ (by decide))]
    rw [classify_eq]
    simp only [if_pos hhot]
    refine (rbit_setField_ne _ htotal 31 0 _ _).trans ?_
    split
    · rw [rbit_orReg_ne _ hstate, hopen]
    · exact hopen _

end

/-! ### A clear (R535) -/

theorem clearSource_merges (src : Nat) (s : State) : (s.clearSource src).reg (srcReg src 0x10) = 0 := by
  unfold clearSource
  dsimp only
  rw [reg_setReg_ne _ (srcReg_ne (by decide) src), reg_setReg]

section
variable {src : Nat} (s : State) (hsrc : srcExists src = true)
include hsrc

theorem reg_clearSource_state : (s.clearSource src).reg (srcReg src 8) =
    putField (putField (s.reg (srcReg src 8) &&& ~~~(BitVec.ofNat 32 (2 ^ 31))) 18 16 (s.fld (srcReg src 0) 25 24)) 7 0 0 := by
  have hopen := srcReg_ne_open hsrc 8
  unfold clearSource
  dsimp only
  rw [reg_setReg_ne _ (srcReg_ne (by decide) src), reg_setReg_ne _ (srcReg_ne (by decide) src), reg_setField, reg_setField,
    reg_clrReg_ne _ hopen, reg_clrReg]
  rfl

theorem clearSource_class : (s.clearSource src).srcClass src = s.fld (srcReg src 0) 25 24 := by
  have hbase := field_lt (s.reg (srcReg src 0)) 25 24
  unfold srcClass
  rw [fld, reg_clearSource_state s hsrc, field_putField_apart (by decide) (by decide) (by decide) (by decide), field_putField (by decide) (by decide)]
  exact Nat.mod_eq_of_lt (Nat.lt_of_lt_of_le hbase (by decide))

theorem clearSource_win : (s.clearSource src).fld (srcReg src 8) 7 0 = 0 := by
  rw [fld, reg_clearSource_state s hsrc, field_putField (by decide) (by decide), Nat.zero_mod]

/-- A clear closes the record in both places that show it. -/
theorem clearSource_closed :
    (s.clearSource src).rbit (srcReg src 8) 31 = false ∧ (s.clearSource src).rbit (Reg.FLT_OPEN (src / 32)) (src % 32) = false := by
  have hne (off : Nat) : Reg.FLT_OPEN (src / 32) ≠ srcReg src off := (srcReg_ne_open hsrc off).symm
  constructor
  · rw [rbit, reg_clearSource_state s hsrc, bit_putField (by decide) (by decide), bit_putField (by decide) (by decide), bit_andNot,
      Nat.testBit_two_pow_self]
    simp
  · unfold clearSource
    dsimp only
    rw [rbit_setReg_ne _ (hne _), rbit_setReg_ne _ (hne _), rbit_setField_ne _ (hne _), rbit_setField_ne _ (hne _), rbit_clrReg,
      Nat.testBit_two_pow_self, Bool.not_true, Bool.and_false]

theorem clearSource_total : (s.clearSource src).reg (srcReg src 0xC) = s.reg (srcReg src 0xC) := by
  have hstate : srcReg src 0xC ≠ srcReg src 8 := srcReg_ne (by decide) src
  unfold clearSource
  dsimp only
  rw [reg_setReg_ne _ (srcReg_ne (by decide) src), reg_setReg_ne _ (srcReg_ne (by decide) src), reg_setField_ne _ hstate, reg_setField_ne _ hstate,
    reg_clrReg_ne _ (srcReg_ne_open hsrc 0xC), reg_clrReg_ne _ hstate]
  rfl

end

theorem clearSource_flt (src : Nat) (s : State) : (s.clearSource src).flt =
    { s.flt with hist := Tab.erase src s.flt.hist, callers := s.flt.callers.filter (· ≠ src) } := rfl

end State

open State

/-- Settles O44: SRC_STATE after a report and after a clear, field by field. -/
theorem faultClasses : Obligations.FaultClasses := by
  unfold Obligations.FaultClasses
  refine ⟨fun src s hsrc => ⟨srcClass_classify s hsrc, win_classify s hsrc, total_classify s hsrc, fun hhot => ?_, reg_classify_first src s, ?_⟩,
    fun src s hsrc => ?_⟩
  · exact open_classify s hsrc (srcClass_classify s hsrc ▸ hhot)
  · exact congrArg (field · 31 0) (reg_classify_conf s hsrc)
  · obtain ⟨hstate, hopen⟩ := clearSource_closed s hsrc
    refine ⟨clearSource_class s hsrc, clearSource_win s hsrc, hstate, hopen, clearSource_merges src s, clearSource_total s hsrc, ?_, ?_⟩
    · rw [clearSource_flt]
      exact Tab.find_erase_self src _
    · rw [clearSource_flt]
      simp

end Sys2Proof.Machine
end

section
/-! The reports of one drive clock and the first record (R527, R528), the commit of the log (R540, R542), and the clears (R534–R536). -/
namespace Sys2Proof.Machine
namespace State

/-! ### Which source makes the first record (R527) -/

/-- Source `a` makes the first record rather than `b`: it is more severe, or as severe and no higher in number. -/
def GoesFirst (s : State) (a b : Nat) : Prop := s.srcClass b < s.srcClass a ∨ (s.srcClass b = s.srcClass a ∧ a ≤ b)

theorem mem_of_worst_eq_some {s : State} {l : List Nat} {b : Nat} (h : s.worst l = some b) : b ∈ l := by
  induction l with
  | nil => cases h
  | cons a r ih =>
    unfold worst at h
    split at h
    · exact Option.some.inj h ▸ List.mem_cons_self
    · next c hc =>
      split at h
      · exact List.mem_cons_of_mem a (ih (hc.trans h))
      · exact Option.some.inj h ▸ List.mem_cons_self

theorem worst_eq_some {s : State} {l : List Nat} {w : Nat} (hw : w ∈ l) (hfirst : ∀ a ∈ l, s.GoesFirst w a) : s.worst l = some w := by
  induction l with
  | nil => exact absurd hw List.not_mem_nil
  | cons a r ih =>
    have ha := hfirst a List.mem_cons_self
    have hr : ∀ b ∈ r, s.GoesFirst w b := fun b hb => hfirst b (List.mem_cons_of_mem a hb)
    unfold GoesFirst at ha hr
    unfold worst
    by_cases hwr : w ∈ r
    · rw [ih hwr hr]
      dsimp only
      split
      · rfl
      · exact congrArg some (by omega)
    · obtain rfl : w = a := (List.mem_cons.mp hw).resolve_right hwr
      split
      · rfl
      · next b hb =>
        have hwb := hr b (mem_of_worst_eq_some hb)
        exact if_neg (by omega)

section
variable (s : State)

/-- The sources whose report leaves them at ERROR or SEVERE. -/
def hotOf (srcs : List Nat) : List Nat := srcs.filter (fun a => decide (2 ≤ s.srcClass a))

/-- The reports of one clock are merged one after the other (R528). -/
def mergeAll (srcs : List Nat) : State := srcs.foldl (fun (t : State) a => t.mergeInto a) s

theorem firstRecord_valid (h : s.rbit Reg.FLT_FIRST 31 = true) (srcs : List Nat) : s.firstRecord srcs = s.mergeAll (s.hotOf srcs) := if_pos h

theorem firstRecord_made (h : s.rbit Reg.FLT_FIRST 31 = false) {srcs : List Nat} {w : Nat} (hw : w ∈ s.hotOf srcs)
    (hfirst : ∀ a ∈ s.hotOf srcs, s.GoesFirst w a) : s.firstRecord srcs = (s.firstFrom w).mergeAll ((s.hotOf srcs).erase w) := by
  have hworst : s.worst (srcs.filter (fun a => decide (2 ≤ s.srcClass a))) = some w := worst_eq_some hw hfirst
  unfold firstRecord
  rw [if_neg (by rw [h]; decide), hworst]
  rfl

theorem firstRecord_cold {srcs : List Nat} (hcold : s.hotOf srcs = []) : s.firstRecord srcs = s := by
  cases hvalid : s.rbit Reg.FLT_FIRST 31
  · have hworst : s.worst (srcs.filter (fun a => decide (2 ≤ s.srcClass a))) = none := congrArg s.worst hcold
    unfold firstRecord
    rw [if_neg (by rw [hvalid]; decide), hworst]
  · rw [firstRecord_valid s hvalid, hcold]
    rfl

/-- One source makes the first record or is merged into the valid one. -/
theorem firstRecord_one (a : Nat) :
    s.firstRecord [a] = if s.srcClass a < 2 then s else if s.rbit Reg.FLT_FIRST 31 then s.mergeInto a else s.firstFrom a := by
  by_cases hcold : s.srcClass a < 2
  · rw [if_pos hcold, firstRecord_cold]
    simp [hotOf, hcold]
  · have hhot : s.hotOf [a] = [a] := by simp [hotOf, Nat.le_of_not_lt hcold]
    rw [if_neg hcold]
    cases hvalid : s.rbit Reg.FLT_FIRST 31
    · rw [firstRecord_made s hvalid (w := a) (by simp [hhot]) (by simp [hhot, GoesFirst]), hhot, List.erase_cons_head]
      rfl
    · rw [firstRecord_valid s hvalid, hhot]
      rfl

/-! ### What FLT_FIRST shows -/

theorem reg_firstFrom_first (a : Nat) : (s.firstFrom a).reg Reg.FLT_FIRST = word (2 ^ 31 + 2 ^ 20 * s.srcClass a + 2 ^ 16 * s.srcClass a + a) := by
  have hsrc : Reg.FLT_FIRST ≠ Reg.FLT_FIRST_SRC (a / 32) := by unfold Reg.FLT_FIRST Reg.FLT_FIRST_SRC; omega
  unfold firstFrom
  dsimp only
  rw [reg_orReg_ne _ hsrc, reg_setReg_ne _ (by decide), reg_setReg_ne _ (by decide), reg_setReg]

theorem firstFrom_first {a : Nat} (ha : a < 2 ^ 16) : (s.firstFrom a).fld Reg.FLT_FIRST 15 0 = a ∧ (s.firstFrom a).rbit Reg.FLT_FIRST 31 = true := by
  have hclass : s.srcClass a < 2 ^ (18 - 16 + 1) := field_lt _ 18 16
  unfold fld rbit
  rw [reg_firstFrom_first]
  constructor
  · unfold field
    rw [toNat_word, Nat.shiftRight_zero]
    omega
  · have htop : (2 ^ 31 + 2 ^ 20 * s.srcClass a + 2 ^ 16 * s.srcClass a + a) / 2 ^ 31 = 1 := Nat.div_eq_of_lt_le (by omega) (by omega)
    rw [bit_word, Nat.testBit_eq_decide_div_mod_eq, htop]
    decide

/-- A merge raises WORST alone in FLT_FIRST. -/
theorem reg_mergeInto_first (a : Nat) : (s.mergeInto a).reg Reg.FLT_FIRST =
    putField (s.reg Reg.FLT_FIRST) 22 20 (max (s.fld Reg.FLT_FIRST 22 20) (s.srcClass a)) := by
  have hsrc : Reg.FLT_FIRST ≠ Reg.FLT_FIRST_SRC (a / 32) := by unfold Reg.FLT_FIRST Reg.FLT_FIRST_SRC; omega
  have hlow (off : Nat) : Reg.FLT_FIRST ≠ srcReg a off := Nat.ne_of_lt (Nat.lt_of_lt_of_le (by decide) (srcReg_ge a off))
  unfold mergeInto
  dsimp only
  rw [reg_setReg_ne _ (hlow _), reg_bump_ne _ (hlow _), reg_setField, reg_setReg_ne _ (by decide), reg_setReg_ne _ (by decide),
    reg_bump_ne _ (by decide), reg_orReg_ne _ hsrc]

theorem mergeInto_first (a : Nat) :
    (s.mergeInto a).fld Reg.FLT_FIRST 15 0 = s.fld Reg.FLT_FIRST 15 0 ∧ (s.mergeInto a).rbit Reg.FLT_FIRST 31 = s.rbit Reg.FLT_FIRST 31 := by
  unfold fld rbit
  rw [reg_mergeInto_first]
  constructor
  · rw [field_putField_apart (by omega) (by omega) (by omega) (by omega)]
  · rw [bit_putField (by omega) (by omega), if_neg (by omega)]

/-- The merges leave the source named and the record valid. -/
theorem mergeAll_first (srcs : List Nat) :
    (s.mergeAll srcs).fld Reg.FLT_FIRST 15 0 = s.fld Reg.FLT_FIRST 15 0 ∧ (s.mergeAll srcs).rbit Reg.FLT_FIRST 31 = s.rbit Reg.FLT_FIRST 31 := by
  unfold mergeAll
  induction srcs generalizing s with
  | nil => exact ⟨rfl, rfl⟩
  | cons a r ih =>
    obtain ⟨hname, hvalid⟩ := ih (s.mergeInto a)
    obtain ⟨hname', hvalid'⟩ := mergeInto_first s a
    rw [List.foldl_cons]
    exact ⟨hname.trans hname', hvalid.trans hvalid'⟩

/-! ### The reports of one drive clock -/

/-- All are classified before the first record is made. -/
def classifyAll (rs : List FaultRep) : State := rs.foldl (fun (t : State) r => t.classify r.src) s

/-- Each report has its class's effect. -/
def reactAll (was : List (Nat × FaultRep)) : State := was.foldl (fun (t : State) e => t.react e.1 e.2) s

theorem rbit_classifyAll_first (rs : List FaultRep) : (s.classifyAll rs).rbit Reg.FLT_FIRST 31 = s.rbit Reg.FLT_FIRST 31 := by
  unfold classifyAll
  induction rs generalizing s with
  | nil => rfl
  | cons r rest ih => exact (ih (s.classify r.src)).trans (congrArg (bit · 31) (reg_classify_first r.src s))

theorem report_live {rs : List FaultRep} (hlive : ∀ r ∈ rs, srcExists r.src = true) :
    let z := ((s.classifyAll rs).firstRecord (rs.map FaultRep.src).eraseDups).reactAll (rs.map (fun r => (s.srcClass r.src, r)))
    s.report rs = if rs.any (fun r => s.ofPreferred r.src) then z.wtrStop else z := by
  unfold report
  rw [List.filter_eq_self.mpr hlive]
  rfl

/-- Sources that are reserved report nothing (R523). -/
theorem report_reserved {rs : List FaultRep} (h : ∀ r ∈ rs, srcExists r.src = false) : s.report rs = s := by
  have hnone : rs.filter (fun r => srcExists r.src) = [] := List.filter_eq_nil_iff.mpr fun r hr => by simp [h r hr]
  have hcold : s.firstRecord [] = s := firstRecord_cold s rfl
  unfold report
  rw [hnone]
  exact hcold

/-- The worst of the clock's reports makes the first record where none is valid. -/
theorem report_made {rs : List FaultRep} (hlive : ∀ r ∈ rs, srcExists r.src = true) (hfirst : s.rbit Reg.FLT_FIRST 31 = false) {w : Nat}
    (hw : w ∈ (s.classifyAll rs).hotOf (rs.map FaultRep.src).eraseDups)
    (hworst : ∀ a ∈ (s.classifyAll rs).hotOf (rs.map FaultRep.src).eraseDups, (s.classifyAll rs).GoesFirst w a) :
    let y := ((s.classifyAll rs).firstFrom w).mergeAll (((s.classifyAll rs).hotOf (rs.map FaultRep.src).eraseDups).erase w)
    let z := y.reactAll (rs.map (fun r => (s.srcClass r.src, r)))
    s.report rs = if rs.any (fun r => s.ofPreferred r.src) then z.wtrStop else z := by
  rw [report_live s hlive, firstRecord_made _ ((rbit_classifyAll_first s rs).trans hfirst) hw hworst]

end

/-- A base source is no unit's. -/
theorem ofPreferred_base (s : State) {src : Nat} (h : src < 64) : s.ofPreferred src = false := by
  simp [ofPreferred, Nat.not_le.mpr h]

/-! ### The log (R540, R542) -/

theorem commitLog_front {r : LogRec} {rest : List LogRec} {s : State} (h : s.flt.buf = r :: rest) (ok : Bool) :
    let slot := r.seq % 256
    let wear := Tab.set slot (Tab.get 0 slot s.flt.wear + 1) s.flt.wear
    let up (x : LogRec) : LogRec := { x with seq := (x.seq + 1) % 2 ^ 32 }
    let n := (s.flt.seq + 1) % 2 ^ 32
    let a : State := { s with flt := { s.flt with log := Tab.set slot r s.flt.log, buf := rest, wear := wear } }
    let b : State := { s with flt := { s.flt with log := Tab.erase slot s.flt.log, buf := (r :: rest).map up, seq := n, wear := wear } }
    s.commitLog ok = (if ok then a else (b.setReg Reg.FLT_LOG_SEQ (word n)).orReg Reg.FLT_STATUS 0x10).setReg Reg.FLT_LOG_WEAR
      (word ((wear.map Prod.snd).foldl max 0)) := by
  unfold commitLog
  rw [h]

end State

open State

theorem exec_faultReport (rs : List FaultRep) (s : State) : exec (.faultReport rs) s = .next (s.report rs) := rfl

theorem exec_logCommit (ok : Bool) (s : State) : exec (.logCommit ok) s = .next (s.commitLog ok) := rfl

/-- Settles O59: no report moves FLT_FIRST before all are classified, the worst then makes it, and the merges leave its source and its validity. -/
theorem firstRecordIsTheWorst : Obligations.FirstRecordIsTheWorst := by
  unfold Obligations.FirstRecordIsTheWorst
  intro rs w s hlive hfirst x hot hw hworst y z
  have hlt : w < 2 ^ 16 := by
    have hmem : w ∈ rs.map FaultRep.src := List.mem_eraseDups.mp (List.mem_of_mem_filter hw)
    obtain ⟨r, hr, rfl⟩ := List.mem_map.mp hmem
    exact Nat.lt_of_lt_of_le (lt_of_srcExists (hlive r hr)) (by decide)
  obtain ⟨hname, hvalid⟩ := firstFrom_first x hlt
  obtain ⟨hname', hvalid'⟩ := mergeAll_first (x.firstFrom w) (hot.erase w)
  refine ⟨(rbit_classifyAll_first s rs).trans hfirst, hname'.trans hname, hvalid'.trans hvalid, ?_⟩
  exact (exec_faultReport rs s).trans (congrArg Host.Outcome.next (report_made s hlive hfirst hw hworst))

/-- A report alone. -/
theorem report_one {r : FaultRep} (s : State) (h : srcExists r.src = true) :
    let x := s.classify r.src
    let y := if x.srcClass r.src < 2 then x else if x.rbit Reg.FLT_FIRST 31 then x.mergeInto r.src else x.firstFrom r.src
    let z := y.react (s.srcClass r.src) r
    s.report [r] = if s.ofPreferred r.src then z.wtrStop else z := by
  have hall : [r].map FaultRep.src = [r.src] := rfl
  have hone : [r.src].eraseDups = [r.src] := by simp [List.eraseDups_cons]
  rw [report_live s (by simpa using h), hall, hone, firstRecord_one]
  simp only [List.any_cons, List.any_nil, Bool.or_false]
  rfl

/-- Settles O43: a report alone by what its class makes of FLT_FIRST, two by which of them is the worse, and the commit by its read-back. -/
theorem faultReports : Obligations.FaultReports := by
  unfold Obligations.FaultReports
  refine ⟨⟨fun r s => ⟨fun hnot => ?reserved, fun hlive hbase => ?other, fun hlive hpref => ?preferred⟩,
    fun a b s ha hb hab => fun hhota hhotb hfirst hworse ha64 hb64 => ?pair⟩, fun r rest s hbuf => ⟨?good, ?bad⟩⟩
  case reserved => rw [exec_faultReport, report_reserved s (by simpa using hnot)]
  case other => rw [exec_faultReport, report_one s hlive, if_neg (by simp [hbase])]
  case preferred => rw [exec_faultReport, report_one s hlive, if_pos hpref]
  case pair =>
    have hdups : ([a, b].map FaultRep.src).eraseDups = [a.src, b.src] := by simp [List.eraseDups_cons, Ne.symm hab]
    have hhot : (s.classifyAll [a, b]).hotOf ([a, b].map FaultRep.src).eraseDups = [a.src, b.src] := by
      rw [hdups]
      exact List.filter_eq_self.mpr (by simpa using ⟨hhota, hhotb⟩)
    have hbase : ¬ ([a, b].any fun r => s.ofPreferred r.src) = true := by simp [ofPreferred_base s ha64, ofPreferred_base s hb64]
    have hgoes : ∀ c ∈ [a.src, b.src], (s.classifyAll [a, b]).GoesFirst a.src c := by
      rintro c (_ | ⟨_, _ | ⟨_, ⟨⟩⟩⟩)
      · exact Or.inr ⟨rfl, Nat.le_refl _⟩
      · exact hworse.imp_right fun ⟨hsame, hlt⟩ => ⟨hsame.symm, Nat.le_of_lt hlt⟩
    rw [exec_faultReport, report_made s (by simp [ha, hb]) ((rbit_classifyAll_first s [a, b]).symm.trans hfirst) (w := a.src)
      (hhot ▸ List.mem_cons_self) (hhot ▸ hgoes), if_neg hbase, hhot, List.erase_cons_head]
    rfl
  case good => rw [exec_logCommit, commitLog_front hbuf]; rfl
  case bad => rw [exec_logCommit, commitLog_front hbuf]; rfl

end Sys2Proof.Machine
end

section
/-! The clears of the collector's registers (R534–R536, R544). -/
namespace Sys2Proof.Machine

theorem bit_or_right {y : Word} {i : Nat} (x : Word) (h : bit y i = false) : bit (x ||| y) i = bit x i := by rw [bit_or, h, Bool.or_false]

namespace State

/-! ### FLT_CMD -/

section
variable (u : Cu) (s : State)

/-- The clears that a write of FLT_CMD carries, before RELEASE is judged. -/
def fltCleared (v : Word) : State :=
  if bit v 1 then (if bit v 2 then s.clearAll u else s).clearFirst else if bit v 2 then s.clearAll u else s

theorem fltCmd_release {v : Word} (h : bit v 0 = true) : s.fltCmd u v = (s.fltCleared u v).thimbleRelease := if_pos h

theorem fltCmd_clears {v : Word} (h : bit v 0 = false) : s.fltCmd u v = s.fltCleared u v := if_neg (by rw [h]; decide)

/-- The clears do not look at RELEASE. -/
theorem fltCleared_congr {v w : Word} (h1 : bit v 1 = bit w 1) (h2 : bit v 2 = bit w 2) : s.fltCleared u v = s.fltCleared u w := by
  unfold fltCleared
  rw [h1, h2]

theorem fltCleared_all {v : Word} (h1 : bit v 1 = false) (h2 : bit v 2 = true) : s.fltCleared u v = s.clearAll u := by
  simp [fltCleared, h1, h2]

theorem fltCleared_first {v : Word} (h1 : bit v 1 = true) (h2 : bit v 2 = false) : s.fltCleared u v = s.clearFirst := by
  simp [fltCleared, h1, h2]

/-! ### RELEASE -/

theorem thimbleRelease_none (h : s.safeState = 0) : s.thimbleRelease = s := if_pos h

theorem thimbleRelease_refused (hsafe : s.safeState ≠ 0) (h : s.safeState = 3 ∨ ∃ q ∈ s.flt.callers, s.rbit (srcReg q 8) 31 = true) :
    s.thimbleRelease = s.orReg Reg.FLT_STATUS 4 :=
  (if_neg hsafe).trans (if_pos (by simpa [List.any_eq_true] using h))

theorem thimbleRelease_due (hsafe : s.safeState ≠ 0) (hup : s.safeState ≠ 3) (h : ∀ q ∈ s.flt.callers, s.rbit (srcReg q 8) 31 = false) :
    s.thimbleRelease = { s with drv := { s.drv with relThimble := true } } :=
  (if_neg hsafe).trans (if_neg (by simpa [hup] using h))

end

/-! ### FLT_SRC_CLR -/

section
variable {src : Nat} {s : State} (hsrc : srcExists src = true)
include hsrc

theorem srcClear_closes (h : s.levelOn src = false) : s.srcClear src = s.clearSource src := by
  simp [srcClear, hsrc, h]

theorem srcClear_level_base (h : s.levelOn src = true) (hbase : src < 64) : s.srcClear src = s.orReg Reg.FLT_STATUS 8 := by
  simp [srcClear, hsrc, h, hbase]

theorem srcClear_level_unit (h : s.levelOn src = true) (hunit : 64 ≤ src) :
    s.srcClear src = s.orReg (Reg.FLT_U_STATUS (if src < 96 then .a else .b)) 4 := by
  simp [srcClear, hsrc, h, Nat.not_lt.mpr hunit]

end
end State

open State

section
variable {u : Cu} {s : State} (hh : s.holds u = true) (v : Word)
include hh

theorem exec_fltRelease_holder : exec (.fltRelease u v) s = .next ((s.recWrite u Reg.FLT_CMD (v ||| 1)).fltCleared u v).thimbleRelease := by
  refine congrArg Host.Outcome.next ((baseWrite_holder hh _ _ _).trans ?_)
  rw [fltCmd_release _ _ (bit_or_true v (by decide)), fltCleared_congr u _ (bit_or_right v (by decide)) (bit_or_right v (by decide))]

theorem exec_fltClrAll_holder : exec (.fltClrAll u v) s = .next ((s.recWrite u Reg.FLT_CMD (v ||| 4)).fltCmd u (v ||| 4)) :=
  congrArg Host.Outcome.next (baseWrite_holder hh _ _ _)

theorem exec_fltClrFirst_holder : exec (.fltClrFirst u v) s = .next ((s.recWrite u Reg.FLT_CMD (v ||| 2)).fltCmd u (v ||| 2)) :=
  congrArg Host.Outcome.next (baseWrite_holder hh _ _ _)

theorem exec_fltSrcClr_base {src : Nat} (hbase : src < 64) (hset : bit v 0 = true) :
    exec (.fltSrcClr u src v) s = .next ((s.recWrite u (Reg.FLT_SRC_CLR src) v).srcClear src) :=
  (if_pos hbase).trans (congrArg Host.Outcome.next ((baseWrite_holder hh _ _ _).trans (if_pos hset)))

end

/-- A unit's own source needs no token (R544). -/
theorem exec_fltSrcClr_own {u : Cu} {src : Nat} (s : State) {v : Word} (hsrc : srcExists src = true) (hlocal : 64 ≤ src)
    (hown : (if src < 96 then Cu.a else Cu.b) = u) (hset : bit v 0 = true) : exec (.fltSrcClr u src v) s = .next (s.srcClear src) :=
  (if_neg (Nat.not_lt.mpr hlocal)).trans ((if_pos ⟨lt_of_srcExists hsrc, hown⟩).trans (congrArg Host.Outcome.next (if_pos hset)))

/-- Settles O45: FLT_CMD by its bits, RELEASE by what the clears leave, FLT_SRC_CLR by the source's level. -/
theorem faultClears : Obligations.FaultClears := by
  unfold Obligations.FaultClears
  refine ⟨fun u v s hh => ⟨fun hsafe => ?none, fun hsafe hopen => ?refused, fun hsafe hup hclosed => ?due, fun h0 h1 => ?all, fun h0 h2 => ?first⟩,
    fun u src v s hsrc hset => ⟨fun hbase hh => ⟨fun hlevel => ?baseLevel, fun hlevel => ?baseClear⟩,
      fun hlocal hown => ⟨fun hlevel => ?ownLevel, fun hlevel => ?ownClear⟩⟩⟩
  case none => exact (exec_fltRelease_holder hh v).trans (congrArg Host.Outcome.next (thimbleRelease_none _ hsafe))
  case refused => exact (exec_fltRelease_holder hh v).trans (congrArg Host.Outcome.next (thimbleRelease_refused _ hsafe hopen))
  case due => exact (exec_fltRelease_holder hh v).trans (congrArg Host.Outcome.next (thimbleRelease_due _ hsafe hup hclosed))
  case all =>
    rw [exec_fltClrAll_holder hh, fltCmd_clears u _ (bit_or_false h0 (by decide)),
      fltCleared_all u _ (bit_or_false h1 (by decide)) (bit_or_true v (by decide))]
  case first =>
    rw [exec_fltClrFirst_holder hh, fltCmd_clears u _ (bit_or_false h0 (by decide)),
      fltCleared_first u _ (bit_or_true v (by decide)) (bit_or_false h2 (by decide))]
  case baseLevel => rw [exec_fltSrcClr_base hh v hbase hset, srcClear_level_base hsrc hlevel hbase]
  case baseClear => rw [exec_fltSrcClr_base hh v hbase hset, srcClear_closes hsrc hlevel]
  case ownLevel => rw [exec_fltSrcClr_own s hsrc hlocal hown hset, srcClear_level_unit hsrc hlevel hlocal, hown]
  case ownClear => rw [exec_fltSrcClr_own s hsrc hlocal hown hset, srcClear_closes hsrc hlevel]

end Sys2Proof.Machine
end

section
/-! The patrol scrub (R481–R486). -/
namespace Sys2Proof.Machine
namespace State

/-! ### What an error adds to its row or its bank (R485, R486) -/

section
variable (row bank : Nat) (t : State)

/-- The corrected errors of a row within the window, the present one with them. -/
def rowTimes : List Nat := t.within (Tab.get [] row t.mem.rowCe)

/-- A corrected error counts toward its row, which is spared at the threshold. -/
def judgeRow : State :=
  if t.rbit Reg.MEM_CTRL 0 && decide (t.rowThr ≤ (t.rowTimes row).length) then
    ({ t with mem := { t.mem with rowCe := Tab.erase row t.mem.rowCe } } : State).spareRow row
  else { t with mem := { t.mem with rowCe := Tab.set row (t.rowTimes row) t.mem.rowCe } }

/-- The uncorrectable errors of a bank within the window, the present one with them. -/
def bankTimes : List Nat := t.within (Tab.get [] bank t.mem.bankUe)

/-- An uncorrectable error counts toward its bank, which is spared at the threshold. -/
def judgeBank : State :=
  if t.bankThr ≤ (t.bankTimes bank).length then (t.setBankUe (Tab.erase bank t.mem.bankUe)).spareBank bank
  else t.setBankUe (Tab.set bank (t.bankTimes bank) t.mem.bankUe)

theorem judgeRow_spares (hen : t.rbit Reg.MEM_CTRL 0 = true) (hthr : t.rowThr ≤ (t.rowTimes row).length) :
    t.judgeRow row = ({ t with mem := { t.mem with rowCe := Tab.erase row t.mem.rowCe } } : State).spareRow row :=
  if_pos (by rw [hen, decide_eq_true hthr]; rfl)

theorem judgeRow_counts (h : t.rbit Reg.MEM_CTRL 0 = false ∨ (t.rowTimes row).length < t.rowThr) :
    t.judgeRow row = { t with mem := { t.mem with rowCe := Tab.set row (t.rowTimes row) t.mem.rowCe } } := by
  refine if_neg ?_
  rcases h with hoff | hfew
  · simp [hoff]
  · simp [Nat.not_le.mpr hfew]

theorem judgeBank_spares (h : t.bankThr ≤ (t.bankTimes bank).length) :
    t.judgeBank bank = (t.setBankUe (Tab.erase bank t.mem.bankUe)).spareBank bank := if_pos h

theorem judgeBank_counts (h : (t.bankTimes bank).length < t.bankThr) : t.judgeBank bank = t.setBankUe (Tab.set bank (t.bankTimes bank) t.mem.bankUe) :=
  if_neg (Nat.not_le.mpr h)

end

/-! ### A scrubbed line -/

section
variable (k line : Nat) (s : State)

/-- A corrected codeword is counted, recorded and reported (R484). -/
def noteCe (syms : List Nat) : State :=
  (((s.bump (Reg.MEM_CE_CNT k) 31 0 1).orReg Reg.MEM_STATUS 2).memErr (lineAddr k line) (2 ^ 28 * syms.length)
    (syms.getD 0 0x7F % 128 + 256 * (syms.getD 1 0x7F % 128))).report1 14 k

/-- An uncorrectable codeword is stored POISON, counted, recorded and reported (R482, R484). -/
def noteUe : State :=
  let l := k * 2 ^ 30 + line
  let m := s.metaOf l
  ((((m.2.setMeta l (m.1 + 2 ^ 24)).bump (Reg.MEM_UE_CNT k) 31 0 1).orReg Reg.MEM_STATUS 4).memErr (lineAddr k line) 0x80000000 0x7F7F).report1 15 k

theorem memCe_eq (syms : List Nat) : s.memCe k line syms = (s.noteCe k line syms).judgeRow (rowOf k line) := rfl

theorem memUe_poisoned (h : s.isPoison (k * 2 ^ 30 + line) = true) : s.memUe k line = s := if_pos h

theorem memUe_new (h : s.isPoison (k * 2 ^ 30 + line) = false) : s.memUe k line = (s.noteUe k line).judgeBank (bankOf k line) :=
  if_neg (by rw [h]; decide)

/-- As many symbols as the ECC mode corrects (R481). -/
theorem scrubLine_corrected {syms : List Nat} (h1 : 1 ≤ syms.length) (h2 : syms.length ≤ (if s.rbit Reg.MEM_CTRL 1 then 1 else 2)) :
    s.scrubLine k line (.corrected syms) = s.memCe k line syms := by
  have hsome : ¬ syms.length = 0 := by omega
  have hfew : ¬ (syms.length > 2 ∨ (s.rbit Reg.MEM_CTRL 1 = true ∧ syms.length > 1)) := by
    rintro (hmany | ⟨hecc, hmany⟩)
    · split at h2 <;> omega
    · rw [if_pos hecc] at h2
      omega
  unfold scrubLine
  simp only [if_neg hsome, if_neg hfew]

/-- The position moves past the line that was read (R481). -/
def pastLine : State :=
  (s.setReg (Reg.MEM_SCRUB_POS k) (word ((line + 1) % 2 ^ 30))).orReg Reg.MEM_STATUS 0x200

end
end State

open State

section
variable (k : Nat) (s : State)

theorem exec_dramScrub_idle (h : s.stackUp k = false ∨ (s.fld (Reg.MEM_SCRUB_POS k) 29 0 = 0 ∧ s.fld Reg.MEM_SCRUB 15 0 = 0)) (e : ScrubRes) :
    exec (.dramScrub k e) s = .next (s.clrReg Reg.MEM_STATUS 0x200) := by
  refine if_pos ?_
  rcases h with hdown | ⟨hpos, hperiod⟩
  · simp [hdown]
  · simp [hpos, hperiod]

theorem exec_dramScrub_reads (hup : s.stackUp k = true) (h : s.fld (Reg.MEM_SCRUB_POS k) 29 0 ≠ 0 ∨ s.fld Reg.MEM_SCRUB 15 0 ≠ 0) (e : ScrubRes) :
    let pos := s.fld (Reg.MEM_SCRUB_POS k) 29 0
    exec (.dramScrub k e) s = .next ((s.scrubLine k pos e).pastLine k pos) := by
  refine if_neg ?_
  rcases h with hpos | hperiod
  · simp [hup, hpos]
  · simp [hup, hperiod]

end

/-- Settles O39: a scrub that reads goes by what the line gives, and an error by whether its row or its bank has reached the threshold. -/
theorem memoryScrub : Obligations.MemoryScrub := by
  unfold Obligations.MemoryScrub
  intro k s pos line past
  refine ⟨fun e h => exec_dramScrub_idle k s h e, fun hup hreads => ?_⟩
  have hexec (e : ScrubRes) : exec (.dramScrub k e) s = .next (past (s.scrubLine k pos e)) := exec_dramScrub_reads k s hup hreads e
  refine ⟨hexec .clean, fun syms h1 h2 => ⟨fun hen hthr => ?rowSpared, fun hfew => ?rowCounted⟩, fun hpoison => ?poisoned,
    fun hclean => ⟨fun hthr => ?bankSpared, fun hfew => ?bankCounted⟩⟩
  case rowSpared =>
    rw [hexec, scrubLine_corrected k pos s h1 h2, memCe_eq]
    exact congrArg (Host.Outcome.next ∘ past) (judgeRow_spares _ (s.noteCe k pos syms) hen hthr)
  case rowCounted =>
    rw [hexec, scrubLine_corrected k pos s h1 h2, memCe_eq]
    exact congrArg (Host.Outcome.next ∘ past) (judgeRow_counts _ (s.noteCe k pos syms) hfew)
  case poisoned => rw [hexec, scrubLine, memUe_poisoned k pos s hpoison]
  case bankSpared =>
    rw [hexec, scrubLine, memUe_new k pos s hclean]
    exact congrArg (Host.Outcome.next ∘ past) (judgeBank_spares _ (s.noteUe k pos) hthr)
  case bankCounted =>
    rw [hexec, scrubLine, memUe_new k pos s hclean]
    exact congrArg (Host.Outcome.next ∘ past) (judgeBank_counts _ (s.noteUe k pos) hfew)

end Sys2Proof.Machine
end

section
/-! Row and bank sparing, the repair fuses, the metadata probe and the counts' clear (R479, R485–R487, R500). -/
namespace Sys2Proof.Machine
namespace State

section
variable (s : State)

/-- A field that a masked write covers reads what was written. -/
theorem fld_maskWrite {hi lo mask : Nat} (hl : lo ≤ hi) (hh : hi < 32) (hmask : ∀ i ≤ hi, lo ≤ i → mask.testBit i = true) (k : Nat) (v : Word) :
    (s.maskWrite k mask v).fld k hi lo = field v hi lo := by
  unfold fld
  refine field_congr (fun i hlo hhi => ?_) hl
  rw [reg_maskWrite, bit_or, bit_andNot, bit_and, bit_ofNat, hmask i hhi hlo, decide_eq_true (show i < 32 by omega)]
  simp

/-! ### Remaps (R485–R487) -/

theorem remapped_eq (r : Remap) (k detail st : Nat) :
    let t := (((s.applyRemap r).orReg Reg.MEM_STATUS st).report1 16 k).logPut 8 0 0 0xFFFF 0 detail
    s.remapped r k detail st = if s.rbit Reg.MEM_CTRL 2 then { t with mem := { t.mem with fuses := t.mem.fuses ++ [r] } } else t := rfl

/-! ### MEM_CMD (R486) -/

theorem memCmd_down {v : Word} (h : s.stackUp (field v 16 16) = false) : s.memCmd v = s :=
  if_neg (by simp [h])

theorem memCmd_spares {v : Word} (hset : bit v 31 = true) (h : s.stackUp (field v 16 16) = true) :
    s.memCmd v = s.spareBank (32 * (16 * field v 16 16 + field v 11 8) + field v 4 0) := by
  have hbank : (field v 16 16 * 16 + field v 11 8) * 32 + field v 4 0 = 32 * (16 * field v 16 16 + field v 11 8) + field v 4 0 := by omega
  rw [← hbank]
  exact if_pos (by rw [hset, h]; rfl)

/-- The command's fields lie below SPARE_BANK. -/
theorem memCmd_field (v : Word) {hi lo : Nat} (hl : lo ≤ hi) (hh : hi < 31) : field (putBit v 31 true) hi lo = field v hi lo :=
  field_putBit v 31 hi lo true (by decide) hh hl

theorem recWrite_stackUp (u : Cu) (j : Nat) (v : Word) (k : Nat) : (s.recWrite u j v).stackUp k = s.stackUp k := by simp [stackUp]

section
variable {bank chan : Nat} (hchan : bank / 32 = chan) (hidle : bank ∉ s.mem.bankCopy)
include hchan hidle

theorem spareBank_exhausted (h : Tab.find chan s.mem.spareBanks ≠ none) :
    s.spareBank bank = (s.orReg Reg.MEM_STATUS 0x40).report1 16 (bank / 512) := by
  subst hchan
  have hused : (Tab.find (bank / 32) s.mem.spareBanks).isSome = true := Option.isSome_iff_ne_none.mpr h
  simp [spareBank, hidle, hused]

theorem spareBank_copies (hspare : Tab.find chan s.mem.spareBanks = none) (hcopy : ∀ b ∈ s.mem.bankCopy, b / 32 ≠ chan) :
    s.spareBank bank = ({ s with mem := { s.mem with bankCopy := s.mem.bankCopy ++ [bank] } } : State).showBankCopy := by
  subst hchan
  have hother : s.mem.bankCopy.any (fun b => decide (b / 32 = bank / 32)) = false := by simpa using hcopy
  simp [spareBank, hidle, hspare, hother]

end

/-! ### The probe (R479) -/

theorem metaOf_listed {line m : Nat} (h : Tab.find line s.mem.meta_ = some m) : s.metaOf line = (m, s) := by
  unfold metaOf
  rw [h]

theorem memProbe_eq (v : Word) : s.memProbe v =
    let w := s.maskWrite Reg.MEM_PROBE_HI 0xFFFF v
    let m := w.metaOf ((s.rnat Reg.MEM_PROBE_LO + 2 ^ 32 * field v 15 0) / 64)
    m.2.setReg Reg.MEM_PROBE_META (word m.1) := by
  have hlo : (s.maskWrite Reg.MEM_PROBE_HI 0xFFFF v).rnat Reg.MEM_PROBE_LO = s.rnat Reg.MEM_PROBE_LO := rnat_setReg_ne s (by decide) _
  have hhi : (s.maskWrite Reg.MEM_PROBE_HI 0xFFFF v).fld Reg.MEM_PROBE_HI 15 0 = field v 15 0 := fld_maskWrite s (by decide) (by decide) (by decide) _ v
  unfold memProbe
  simp only [hlo, hhi]

theorem memCtrl_clear {v : Word} (h : bit v 31 = true) : s.memCtrl v =
    ((((s.maskWrite Reg.MEM_CTRL 7 v).setReg (Reg.MEM_CE_CNT 0) 0).setReg (Reg.MEM_CE_CNT 1) 0).setReg (Reg.MEM_UE_CNT 0) 0).setReg (Reg.MEM_UE_CNT 1) 0 :=
  if_pos h

end
end State

open State

theorem exec_rowCopyDone_front {r : Nat} {rest : List Nat} {s : State} (h : s.mem.rowCopy = r :: rest) :
    let spare := ((s.mem.spareRows.filter (fun e => decide (e.1 / 65536 = r / 65536))).map (fun e => e.2 + 1)).foldl max 0
    let t : State := { s with mem := { s.mem with rowCopy := rest } }
    exec .rowCopyDone s = .next ((t.bump (Reg.MEM_SPARED (r / 2 ^ 25)) 15 0 1).remapped (.row r spare) (r / 2 ^ 25)
      (r / 2 ^ 25 + 256 * (r / 2 ^ 21 % 16) + 2 ^ 16 * (r / 65536 % 32) + 2 ^ 32 * (r % 65536)) 0x10) := by
  show execRowCopyDone s = _
  unfold execRowCopyDone
  rw [h]

theorem exec_bankCopyDone_front {b : Nat} {rest : List Nat} {s : State} (h : s.mem.bankCopy = b :: rest) :
    let t : State := ({ s with mem := { s.mem with bankCopy := rest } } : State).showBankCopy
    exec .bankCopyDone s = .next ((t.bump (Reg.MEM_SPARED (b / 512)) 23 16 1).remapped (.bank b) (b / 512)
      (b / 512 + 256 * (b / 32 % 16) + 2 ^ 16 * (b % 32)) 0x20) := by
  show execBankCopyDone s = _
  unfold execBankCopyDone
  rw [h]

theorem exec_fuseCommitDone_front {r : Remap} {rest : List Remap} {s : State} (h : s.mem.fuses = r :: rest) (ok : Bool) :
    exec (.fuseCommitDone ok) s = .next (if ok then { s with mem := { s.mem with fuses := rest, fused := s.mem.fused ++ [r] } }
      else ({ s with mem := { s.mem with fuses := rest } } : State).orReg Reg.MEM_STATUS 0x80) := by
  show execFuseCommitDone ok s = _
  unfold execFuseCommitDone
  rw [h]

/-- The channel of the bank that MEM_CMD names. -/
theorem bank_div (v : Word) : (32 * (16 * field v 16 16 + field v 11 8) + field v 4 0) / 32 = 16 * field v 16 16 + field v 11 8 := by
  have hbank := field_lt v 4 0
  omega

section
variable {u : Cu} {s : State} (hh : s.holds u = true) (v : Word)
include hh

theorem exec_memSpareBank_holder : exec (.memSpareBank u v) s = .next ((s.recWrite u Reg.MEM_CMD (putBit v 31 true)).memCmd (putBit v 31 true)) :=
  congrArg Host.Outcome.next (baseWrite_holder hh _ _ _)

theorem exec_memProbe_holder : exec (.memProbe u v) s = .next ((s.recWrite u Reg.MEM_PROBE_HI v).memProbe v) :=
  congrArg Host.Outcome.next (baseWrite_holder hh _ _ _)

theorem exec_memCountClear_holder : exec (.memCountClear u v) s = .next ((s.recWrite u Reg.MEM_CTRL (putBit v 31 true)).memCtrl (putBit v 31 true)) :=
  congrArg Host.Outcome.next (baseWrite_holder hh _ _ _)

theorem exec_memSpareBank_down (h : s.stackUp (field v 16 16) = false) :
    exec (.memSpareBank u v) s = .next (s.recWrite u Reg.MEM_CMD (putBit v 31 true)) := by
  rw [exec_memSpareBank_holder hh, memCmd_down]
  rw [memCmd_field v (by decide) (by decide), recWrite_stackUp, h]

theorem exec_memSpareBank_up (h : s.stackUp (field v 16 16) = true) : exec (.memSpareBank u v) s =
    .next ((s.recWrite u Reg.MEM_CMD (putBit v 31 true)).spareBank (32 * (16 * field v 16 16 + field v 11 8) + field v 4 0)) := by
  have hstack := memCmd_field v (show 16 ≤ 16 by decide) (show 16 < 31 by decide)
  have hchan := memCmd_field v (show 8 ≤ 11 by decide) (show 11 < 31 by decide)
  have hbank := memCmd_field v (show 0 ≤ 4 by decide) (show 4 < 31 by decide)
  rw [exec_memSpareBank_holder hh, memCmd_spares _ (bit_putBit_same v (by decide)) (by rw [hstack, recWrite_stackUp, h]), hstack, hchan, hbank]

/-- The probe reads the line that LO and HI name once HI is written. -/
theorem exec_memProbe_meta :
    let w := (s.recWrite u Reg.MEM_PROBE_HI v).maskWrite Reg.MEM_PROBE_HI 0xFFFF v
    let m := w.metaOf ((s.rnat Reg.MEM_PROBE_LO + 2 ^ 32 * field v 15 0) / 64)
    exec (.memProbe u v) s = .next (m.2.setReg Reg.MEM_PROBE_META (word m.1)) := by
  rw [exec_memProbe_holder hh, memProbe_eq, recWrite_rnat _ (by decide)]

end

/-- Settles O40: each end of a copy and of a commit is one row; MEM_CMD by the stack and the channel's spare bank; the probe by the line's listing. -/
theorem memorySparing : Obligations.MemorySparing := by
  unfold Obligations.MemorySparing
  refine ⟨⟨fun r rest s => exec_rowCopyDone_front, fun b rest s => exec_bankCopyDone_front,
    fun r k detail st s => ⟨fun hhard => ?hard, fun hsoft => ?soft⟩, fun r rest s hfuses => ⟨?good, ?bad⟩,
    fun u v s hh => ⟨fun hdown => ?down, fun hup hidle => ⟨fun hused => ?exhausted, fun hspare hcopy => ?copies⟩⟩⟩,
    fun u v m s hh hlisted => ?listed, fun u v s hh => exec_memProbe_meta hh v, fun u v s hh => ?counts⟩
  case hard => rw [remapped_eq, if_pos hhard]
  case soft => rw [remapped_eq, if_neg (by simp [hsoft])]
  case good => rw [exec_fuseCommitDone_front hfuses]; rfl
  case bad => rw [exec_fuseCommitDone_front hfuses]; rfl
  case down => exact exec_memSpareBank_down hh v hdown
  case exhausted =>
    have hmem := recWrite_mem u Reg.MEM_CMD (putBit v 31 true) s
    rw [exec_memSpareBank_up hh v hup, spareBank_exhausted _ (bank_div v) (hmem ▸ hidle) (hmem ▸ hused)]
  case copies =>
    have hmem := recWrite_mem u Reg.MEM_CMD (putBit v 31 true) s
    rw [exec_memSpareBank_up hh v hup, spareBank_copies _ (bank_div v) (hmem ▸ hidle) (by rw [hmem]; exact hspare) (by rw [hmem]; exact hcopy)]
  case listed =>
    have hmeta : ((s.recWrite u Reg.MEM_PROBE_HI v).maskWrite Reg.MEM_PROBE_HI 0xFFFF v).mem = s.mem := by rw [maskWrite_mem, recWrite_mem]
    rw [exec_memProbe_meta hh, metaOf_listed _ (hmeta ▸ hlisted)]
  case counts => rw [exec_memCountClear_holder hh, memCtrl_clear _ (bit_putBit_same v (by decide))]

end Sys2Proof.Machine
end

section
/-! Scratchpad banks: power, ownership and retirement (R495–R499, R503). -/
namespace Sys2Proof.Machine
namespace State

section
variable (u : Cu) {b : Nat} (s : State)

/-- A write of SP_BANKb takes OWNER and OWNER1 (R495). -/
def spOwned (b : Nat) (v : Word) : State := s.maskWrite (Reg.SP_BANK u b) (if b < 4 then 0xF0F else 0xF) v

section
variable (hb : b < 32) (hon : s.islandOnly u = false) (v : Word)
include hb hon

theorem spBankWrite_eq : s.spBankWrite u b v =
    if field v 31 30 = 3 then (s.spOwned u b v).orReg (Reg.SP_STATUS u) 1 else (s.spOwned u b v).spChange u b (field v 31 30) :=
  if_neg (by simp [hon, Nat.not_le.mpr hb])

theorem spBankWrite_reserved (h : field v 31 30 = 3) : s.spBankWrite u b v = (s.spOwned u b v).orReg (Reg.SP_STATUS u) 1 := by
  rw [spBankWrite_eq u s hb hon, if_pos h]

theorem spBankWrite_pstate (h : field v 31 30 ≠ 3) : s.spBankWrite u b v = (s.spOwned u b v).spChange u b (field v 31 30) := by
  rw [spBankWrite_eq u s hb hon, if_neg h]

end

theorem spChange_same {p : Nat} (h : p = s.spState u b) : s.spChange u b p = s := if_pos h

theorem spChange_starts {p : Nat} (h : p ≠ s.spState u b) :
    let x := (s.setField (Reg.SP_BANK u b) 31 30 p).orReg (Reg.SP_BANK u b) 0x20000000
    let sp := (x.unit u).sp
    let y := x.setUnit u { x.unit u with sp := { sp with change := if sp.change.contains b then sp.change else sp.change ++ [b] } }
    s.spChange u b p = if p = 0 then y.spErase u b else y := if_neg h

/-! ### Retirement (R498) -/

section
variable (hfresh : ∀ r ∈ (s.unit u).sp.retiring, r.1 ≠ b)
include hfresh

theorem not_retiring : ¬ (s.unit u).sp.retiring.any (fun r => decide (r.1 = b)) = true := by
  intro h
  obtain ⟨r, hr, hbank⟩ := List.any_eq_true.mp h
  exact hfresh r hr (of_decide_eq_true hbank)

theorem spRetire_poolUsed (hpool : s.freePool u = none) : s.spRetire u b = (s.orReg (Reg.SP_STATUS u) 0x80).report1 (localSrc u 7) b := by
  have hnew := not_retiring u s hfresh
  unfold spRetire
  simp only [if_neg hnew, hpool]

section
variable {k : Nat} (hpool : s.freePool u = some k)
include hpool

theorem spRetire_starts (hserves : s.spServes u b = true) : s.spRetire u b = (s.setUnit u { s.unit u with sp :=
    { (s.unit u).sp with retiring := (s.unit u).sp.retiring ++ [(b, k)], retireWait := (s.unit u).sp.retireWait.filter (· ≠ b) } }).showRetiring u := by
  have hnew := not_retiring u s hfresh
  unfold spRetire
  simp only [if_neg hnew, hpool, if_pos hserves]

theorem spRetire_waits (hserves : s.spServes u b = false) (hwait : b ∉ (s.unit u).sp.retireWait) : s.spRetire u b =
    s.setUnit u { s.unit u with sp := { (s.unit u).sp with retireWait := (s.unit u).sp.retireWait ++ [b] } } := by
  have hnew := not_retiring u s hfresh
  have hnot : ¬ (s.unit u).sp.retireWait.contains b = true := by simpa using hwait
  unfold spRetire
  simp only [if_neg hnew, hpool, hserves, Bool.false_eq_true, if_false, if_neg hnot]

end
end
end
end State

open State

section
variable (u : Cu) {b : Nat} (s : State)

theorem exec_spPstateWrite (v : Word) : exec (.spPstateWrite u b v) s = .next (s.spBankWrite u b v) := rfl

theorem exec_spOwnerWrite (v : Word) : exec (.spOwnerWrite u b v) s = .next (s.spBankWrite u b v) := rfl

/-- A change ends with no retirement waiting for the bank. -/
theorem exec_spPstateDone_free (hchange : b ∈ (s.unit u).sp.change) (hwait : b ∉ (s.unit u).sp.retireWait) : exec (.spPstateDone u b) s =
    let sp := (s.unit u).sp
    .next ((s.setUnit u { s.unit u with sp := { sp with change := sp.change.filter (· ≠ b) } }).clrReg (Reg.SP_BANK u b) 0x20000000) := by
  refine (if_pos (List.contains_iff_mem.mpr hchange)).trans (congrArg Host.Outcome.next (if_neg ?_))
  rintro ⟨-, hin⟩
  exact hwait (List.contains_iff_mem.mp hin)

theorem exec_spRetireCmd_on (hon : s.islandOnly u = false) {v : Word} (hv : field v 4 0 = b) : exec (.spRetireCmd u v) s = .next (s.spRetire u b) := by
  have hset : bit (putBit v 8 true) 8 = true := bit_putBit_same v (by decide)
  have hbank : field (putBit v 8 true) 4 0 = b := (field_putBit v 8 4 0 true (by decide) (by decide) (by decide)).trans hv
  show Host.Outcome.next (s.spCmdWrite u (putBit v 8 true)) = _
  unfold spCmdWrite
  rw [hset, hbank, hon]
  rfl

/-- The copy of a retired bank ends: the words it could not read are zero, and the map names the pool bank (R498, R499). -/
theorem exec_spRetireDone_copied {k : Nat} (hcopy : (s.unit u).sp.retiring.find? (fun r => decide (r.1 = b)) = some (b, k)) (zeros : List Nat) :
    let sp := (s.unit u).sp
    let lost (e : Host.Cell) : Bool := decide (e.1 / 0x40000 = b) && zeros.contains (e.1 % 0x40000 / 8)
    let x := (s.setUnit u { s.unit u with sp :=
      { sp with bytes := sp.bytes.filter (fun e => !lost e), retiring := sp.retiring.filter (fun r => decide (r.1 ≠ b)) } }).showRetiring u
    let y := (((x.orReg (Reg.SP_STATUS u) 0x40).orReg (Reg.SP_BANK u b) 0x10000000).setField (retMapReg u) (8 * k + 7) (8 * k) b).logPut 9 0 0 0xFFFF 0
      (retDetail u b k)
    exec (.spRetireDone u b zeros) s = .next (if zeros.isEmpty then y else (y.orReg (Reg.SP_STATUS u) 0x20).report1 (localSrc u 6) b) := by
  show execSpRetireDone u b zeros s = _
  unfold execSpRetireDone
  rw [hcopy]

end

/-- Settles O41: a write of SP_BANK by its PSTATE, a retirement by the pool and the bank's state, the copy's end by the words it lost. -/
theorem scratchpads : Obligations.Scratchpads := by
  unfold Obligations.Scratchpads
  refine fun u b s hb => ⟨fun v hon => ⟨rfl, fun hres => ?reserved, ?present, fun hlt hne => ?starts⟩,
    fun hchange hwait => exec_spPstateDone_free u s hchange hwait,
    fun v hon hv hfresh => ⟨fun hpool => ?poolUsed, fun k hpool hserves => ?copyStarts, fun k hpool hserves hwait => ?waits⟩,
    fun k zeros hcopy => ⟨fun hz => ?whole, fun hz => ?zeros⟩⟩
  case reserved => rw [exec_spPstateWrite, spBankWrite_reserved u s hb hon v hres]; rfl
  case present =>
    intro hsame
    by_cases hres : field v 31 30 = 3
    · exact Or.inr hres
    · rw [exec_spOwnerWrite, spBankWrite_pstate u s hb hon v hres]
      exact Or.inl (congrArg Host.Outcome.next (spChange_same u (s.spOwned u b v) hsame))
  case starts =>
    rw [exec_spPstateWrite, spBankWrite_pstate u s hb hon v (by omega)]
    exact congrArg Host.Outcome.next (spChange_starts u (s.spOwned u b v) hne)
  case poolUsed => rw [exec_spRetireCmd_on u s hon hv, spRetire_poolUsed u s hfresh hpool]
  case copyStarts => rw [exec_spRetireCmd_on u s hon hv, spRetire_starts u s hfresh hpool hserves]
  case waits => rw [exec_spRetireCmd_on u s hon hv, spRetire_waits u s hfresh hpool hserves hwait]
  case whole =>
    subst hz
    exact exec_spRetireDone_copied u s hcopy []
  case zeros => exact (exec_spRetireDone_copied u s hcopy zeros).trans (congrArg Host.Outcome.next (if_neg (by simpa using hz)))

end Sys2Proof.Machine
end

section
/-! Token timers, unit boots, rehearsals and successors, and wait-to-restore (R421, R424–R428, R431, R435–R443, R594, R595). -/
namespace Sys2Proof.Machine
namespace State

/-- The state in which grace has ended: FREE since the end of grace (R421). -/
def graceOver (s : State) : State := ({ s with tkn := { s.tkn with freeAt := s.tkn.graceEnd } } : State).setField Reg.TKN_STATE 31 29 3

theorem graceOver_state (s : State) : s.graceOver.tknState = 3 := fld_setField _ (by decide) (by decide) _ 3

theorem graceOver_fields (s : State) : s.graceOver.fld Reg.TKN_STATE 28 0 = s.fld Reg.TKN_STATE 28 0 := by
  unfold graceOver fld
  rw [reg_setField, field_putField_apart (by decide) (by decide) (by decide) (by decide)]
  rfl

/-! ### Rehearsals -/

/-- A start or a call that R435 and R440 do not refuse begins. -/
theorem rehTry_eq (succ auto : Bool) (u : Cu) (s : State) : s.rehTry succ auto u =
    if s.rehRefused || (succ && s.succReady) then s.orReg Reg.TKN_REH_STATUS 4 else s.startRehearsal u succ auto := rfl

/-- RETRY and PERIOD of TKN_REH_CTRL are taken (R445). -/
def rehTimes (v : Word) (s : State) : State := s.maskWrite Reg.TKN_REH_CTRL 0xFFFFFF00 v

theorem rehCtrlWrite_dismiss {v : Word} (s : State) (h0 : bit v 0 = false) (h1 : bit v 1 = false) (h2 : bit v 2 = true) :
    s.rehCtrlWrite v = (s.rehTimes v).dismiss := by
  unfold rehCtrlWrite
  simp only [h0, h1, h2, if_true, if_false, Bool.false_eq_true]
  rfl

section
variable {u : Cu} {s : State} (hholder : s.holder = some u) {v : Word}
include hholder

theorem rehTimes_holder (v : Word) : (s.rehTimes v).holder = some u := (holder_congr (reg_setReg_ne s (by decide) _)).trans hholder

theorem rehCtrlWrite_start (h0 : bit v 0 = true) (h1 : bit v 1 = false) (h2 : bit v 2 = false) :
    s.rehCtrlWrite v = (s.rehTimes v).rehTry false false u.peer := by
  have hw : (s.maskWrite Reg.TKN_REH_CTRL 0xFFFFFF00 v).holder = some u := rehTimes_holder hholder v
  unfold rehCtrlWrite
  simp only [h0, h1, h2, hw, if_true, if_false, Bool.false_eq_true]
  rfl

theorem rehCtrlWrite_call (h0 : bit v 0 = false) (h1 : bit v 1 = true) (h2 : bit v 2 = false) :
    s.rehCtrlWrite v = (s.rehTimes v).rehTry true false u.peer := by
  have hw : (s.maskWrite Reg.TKN_REH_CTRL 0xFFFFFF00 v).holder = some u := rehTimes_holder hholder v
  unfold rehCtrlWrite
  simp only [h0, h1, h2, hw, if_true, if_false, Bool.false_eq_true]
  rfl

theorem dismiss_ready (hready : s.succReady = true) : s.dismiss = s.dropSuccessor.powerDown u.peer := by
  unfold dismiss
  simp only [hholder, hready, if_true]

end

theorem rehReport_ready {r : Rehearsal} {v : Word} {s : State} (h : s.tkn.rehearsal = some r) (h0 : bit v 0 = true) (hsucc : r.succ = true) :
    s.rehReport r.unit v = s.succIsReady r := by
  simp [rehReport, h, h0, hsucc]

theorem rehReport_result {r : Rehearsal} {v : Word} {s : State} (h : s.tkn.rehearsal = some r) (h0 : bit v 0 = false) (hresult : field v 31 28 ≠ 0) :
    s.rehReport r.unit v = s.endRehearsal (field v 31 28) (field v 23 16) := by
  simp [rehReport, h, h0, hresult]

end State

open State

/-! ### Leases, grace and saves -/

section
variable {u : Cu} {s : State} (hholder : s.holder = some u)
include hholder

theorem exec_leaseExpiry_runOut (h : s.tkn.leaseEnd ≤ s.clk) : exec (.leaseExpiry 0) s = .next (s.lapse 0) := by
  show execLeaseExpiry 0 s = _
  simp [execLeaseExpiry, hholder, h]

theorem exec_leaseExpiry_stops {cause : Nat} (h : cause = 1 ∨ cause = 2) : exec (.leaseExpiry cause) s = .next (s.stopCore u cause) := by
  show execLeaseExpiry cause s = _
  simp [execLeaseExpiry, hholder, h]

theorem exec_imageSavePeriodic_due (h : s.tkn.lastSave + clksMs s.imgPeriod ≤ s.clk) : exec .imageSavePeriodic s = .next (s.saveImage 0) :=
  congrArg Host.Outcome.next (if_pos ⟨Option.isSome_of_eq_some hholder, h⟩)

theorem exec_imageSaveEvent_due (hevent : s.tkn.eventSave = true) (h : s.tkn.lastSave + clksMs 10 ≤ s.clk) :
    exec .imageSaveEvent s = .next (s.saveImage 1) :=
  congrArg Host.Outcome.next (if_pos ⟨Option.isSome_of_eq_some hholder, hevent, h⟩)

theorem exec_rehearsalAutoDue_due (hauto : s.rbit Reg.TKN_CFG 9 = true) (hperiod : s.rehPeriod ≠ 0)
    (h : s.tkn.rehDue.getD s.tkn.resetAt + s.rehPeriod ≤ s.clk) : exec .rehearsalAutoDue s =
      .next (({ s with tkn := { s.tkn with rehDue := some s.clk } } : State).rehTry false false u.peer) := by
  show execRehearsalAutoDue s = _
  unfold execRehearsalAutoDue
  rw [hholder]
  exact congrArg Host.Outcome.next (if_pos ⟨hauto, hperiod, h⟩)

end

section
variable {s : State}

theorem exec_graceEnd_due (hlapsed : s.tknState = 2) (h : s.tkn.graceEnd ≤ s.clk) : exec .graceEnd s = .next s.graceOver :=
  congrArg Host.Outcome.next (if_pos ⟨hlapsed, h⟩)

theorem exec_claimDeadline_due (hfree : s.tknState = 3) (h : s.tkn.freeAt + clksS 1 ≤ s.clk) (hok : s.peerFail s.lapsedUnit.peer = false) :
    exec .claimDeadline s = .next (s.failCall s.lapsedUnit.peer) :=
  congrArg Host.Outcome.next (if_pos ⟨hfree, h, by simp [hok]⟩)

theorem exec_reservationExpiry_due (hres : s.tknState = 4) (h : s.tkn.resvEnd ≤ s.clk) (hunit : s.tknUnit ≠ s.tkn.releaser) :
    let w := (s.setReg Reg.TKN_STATE (putBit (s.reg Reg.TKN_STATE) 16 (decide (s.tkn.releaser = .b)))).orReg Reg.TKN_STATUS 0x100
    exec .reservationExpiry s = .next ((if s.rbit Reg.TKN_CFG 8 && decide (s.tkn.releaser ≠ s.preferred) then w.wtrStart else w).report1 13 0) :=
  if_pos ⟨hres, h, hunit⟩

end

/-! ### Boots of a unit -/

section
variable {u : Cu} {t0 : Nat} {s : State} (hboot : (s.unit u).core = .booting t0)
include hboot

theorem exec_firmwareVerified_bank (b fail : Nat) (hdr : List Byte) :
    exec (.firmwareVerified u (some b) fail hdr) s = .next (s.bootImage u (b % 2) (fail % 16) hdr) := by
  show execFirmwareVerified u (some b) fail hdr s = _
  unfold execFirmwareVerified
  rw [hboot]

theorem exec_firmwareVerified_none (fail : Nat) (hdr : List Byte) : exec (.firmwareVerified u none fail hdr) s =
    .next ((s.setReg (Reg.SEC_BOOT u) (word (2 ^ 12 * s.primary u + 2 ^ 8 * (fail % 16)))).bootFailed u 3) := by
  show execFirmwareVerified u none fail hdr s = _
  unfold execFirmwareVerified
  rw [hboot]

theorem exec_unitBootFail_silent (h : t0 + clksMs 150 ≤ s.clk) : exec (.unitBootFail u 0) s = .next (s.bootFailed u 2) := by
  show execUnitBootFail u 0 s = _
  simp [execUnitBootFail, hboot, h]

end

theorem exec_unitBootFail_stops {cause : Nat} (h : cause = 1 ∨ cause = 2) (u : Cu) (s : State) :
    exec (.unitBootFail u cause) s = .next (s.stopCore u cause) := if_pos h

/-! ### The holder's commands, and what comes at its time -/

section
variable {u : Cu} {s : State} (hholder : s.holder = some u) (hh : s.holds u = true) {v : Word}
include hholder hh

/-- A write of TKN_REH_CTRL by the holder. -/
theorem exec_tknRehStart_holder (h1 : bit v 1 = false) (h2 : bit v 2 = false) : exec (.tknRehStart u v) s =
    .next (((s.recWrite u Reg.TKN_REH_CTRL (v ||| 1)).rehTimes (v ||| 1)).rehTry false false u.peer) := by
  refine congrArg Host.Outcome.next ((baseWrite_holder hh _ _ _).trans ?_)
  exact rehCtrlWrite_start ((recWrite_holder s u _ _).trans hholder) (bit_or_true v (by decide)) (bit_or_false h1 (by decide))
    (bit_or_false h2 (by decide))

theorem exec_tknRehCall_holder (h0 : bit v 0 = false) (h2 : bit v 2 = false) : exec (.tknRehCall u v) s =
    .next (((s.recWrite u Reg.TKN_REH_CTRL (v ||| 2)).rehTimes (v ||| 2)).rehTry true false u.peer) := by
  refine congrArg Host.Outcome.next ((baseWrite_holder hh _ _ _).trans ?_)
  exact rehCtrlWrite_call ((recWrite_holder s u _ _).trans hholder) (bit_or_false h0 (by decide)) (bit_or_true v (by decide))
    (bit_or_false h2 (by decide))

theorem exec_tknRehDismiss_ready (h0 : bit v 0 = false) (h1 : bit v 1 = false) (hready : s.succReady = true) : exec (.tknRehDismiss u v) s =
    .next (((s.recWrite u Reg.TKN_REH_CTRL (v ||| 4)).rehTimes (v ||| 4)).dropSuccessor.powerDown u.peer) := by
  have hrec : (s.recWrite u Reg.TKN_REH_CTRL (v ||| 4)).holder = some u := (recWrite_holder s u _ _).trans hholder
  have hsucc : ((s.recWrite u Reg.TKN_REH_CTRL (v ||| 4)).rehTimes (v ||| 4)).succReady = true := by
    refine (rbit_setReg_ne _ (by decide) _ 23).trans ?_
    rw [recWrite_rbit s (by decide)]
    exact hready
  refine congrArg Host.Outcome.next ((baseWrite_holder hh _ _ _).trans ?_)
  rw [rehCtrlWrite_dismiss _ (bit_or_false h0 (by decide)) (bit_or_false h1 (by decide)) (bit_or_true v (by decide)),
    dismiss_ready (rehTimes_holder hrec _) hsucc]

end

section
variable {r : Rehearsal} {s : State} (hreh : s.tkn.rehearsal = some r) (hdue : r.start + clksS 1 ≤ s.clk)
include hreh hdue

theorem exec_rehearsalTimeout_due (hsucc : r.succ = false) : exec .rehearsalTimeout s = .next (s.endRehearsal 8 0) := by
  show execRehearsalTimeout s = _
  simp [execRehearsalTimeout, hreh, hsucc, hdue]

theorem exec_successorReadyTimeout_due (hsucc : r.succ = true) : exec .successorReadyTimeout s = .next (s.endRehearsal 8 0) := by
  show execSuccessorReadyTimeout s = _
  simp [execSuccessorReadyTimeout, hreh, hsucc, hdue]

end

theorem exec_tknRehReport (u : Cu) (v : Word) (s : State) : exec (.tknRehReport u v) s = .next (s.rehReport u v) := rfl

section
variable {t0 : Nat} {s : State} (hdue : t0 ≤ s.clk) (hrev : s.reverting = true)
include hdue hrev

theorem exec_revertRehearsalDue_due (h : s.tkn.revertDue = some t0) : exec .revertRehearsalDue s =
    .next (({ s with tkn := { s.tkn with revertDue := some (s.clk + s.retryClks) } } : State).rehTry false false s.preferred) := by
  show execRevertRehearsalDue s = _
  unfold execRevertRehearsalDue
  rw [h]
  exact congrArg Host.Outcome.next (if_pos ⟨hdue, hrev⟩)

theorem exec_wtrExpiry_due (h : s.tkn.wtrEnd = some t0) : exec .wtrExpiry s =
    if s.rehRefused || s.succReady then .next ((s.orReg Reg.TKN_REH_STATUS 4).wtrStop)
    else .next ((({ s with tkn := { s.tkn with wtrEnd := none } } : State).clrReg Reg.TKN_STATE 0x00400000).startRehearsal s.preferred true true) := by
  show execWtrExpiry s = _
  unfold execWtrExpiry
  rw [h]
  exact if_pos ⟨hdue, hrev⟩

end

/-- Settles O36: each timer by what it is due for, a boot by the bank found, a write of TKN_REH_CTRL by its bit, a report by what rehearses. -/
theorem tokenTimersAndRehearsals : Obligations.TokenTimersAndRehearsals := by
  unfold Obligations.TokenTimersAndRehearsals
  refine ⟨⟨fun u cause s hholder => ⟨fun hc hend => ?lapse, exec_leaseExpiry_stops hholder, exec_imageSavePeriodic_due hholder,
      exec_imageSaveEvent_due hholder⟩,
    fun s hlapsed hdue => ⟨s.graceOver, exec_graceEnd_due hlapsed hdue, graceOver_state s, rfl, graceOver_fields s⟩,
    fun s => exec_claimDeadline_due, fun s => exec_reservationExpiry_due⟩,
    ⟨fun u t0 fail b hdr s hboot => ⟨exec_firmwareVerified_bank hboot b fail hdr, exec_firmwareVerified_none hboot fail hdr,
      exec_unitBootFail_silent hboot⟩, fun u cause s h => exec_unitBootFail_stops h u s⟩,
    fun u v s hholder hh => ⟨fun h1 h2 => ?start, fun h0 h2 => ?call, fun h0 h1 => ?dismiss⟩,
    fun r v s hreh => ⟨fun h0 hsucc => ?ready, fun h0 hresult => ?result, exec_rehearsalTimeout_due hreh, exec_successorReadyTimeout_due hreh⟩,
    fun h s hholder => exec_rehearsalAutoDue_due hholder, fun t0 s hrevert hdue hrev => exec_revertRehearsalDue_due hdue hrev hrevert,
    fun t0 s hwtr hdue hrev => ⟨fun hrefused => ?wtrRefused, fun hfree hnone => ?wtrCalls⟩⟩
  case lapse =>
    subst hc
    exact exec_leaseExpiry_runOut hholder hend
  case start =>
    rw [exec_tknRehStart_holder hholder hh h1 h2, rehTry_eq, Bool.false_and, Bool.or_false]
    rfl
  case call =>
    rw [exec_tknRehCall_holder hholder hh h0 h2, rehTry_eq, Bool.true_and]
    rfl
  case dismiss => exact exec_tknRehDismiss_ready hholder hh h0 h1
  case ready => rw [exec_tknRehReport, rehReport_ready hreh h0 hsucc]
  case result => rw [exec_tknRehReport, rehReport_result hreh h0 hresult]
  case wtrRefused => rw [exec_wtrExpiry_due hdue hrev hwtr, if_pos (by simpa using hrefused)]
  case wtrCalls => rw [exec_wtrExpiry_due hdue hrev hwtr, if_neg (by simp [hfree, hnone])]

end Sys2Proof.Machine
end
